-- ==== Sys2Proof/Word.lean ====
section
/-! DEFINITION. The word types of the AEL7144 and the plainest operations on lists of bytes.
A register is 32 bits wide (R3); the manual counts bits from 0 at the least significant end. -/

namespace Sys2Proof

/-- A register, 32 bits (R3). -/
abbrev Word := BitVec 32

/-- One byte. -/
abbrev Byte := BitVec 8

/-- A 64-bit quantity: a global address (R13), a row of block memory, a stream word pair. -/
abbrev DWord := BitVec 64

/-- The reference clocks the clock chapter names (R135, R497). -/
inductive RefClk where
  | a | b | pcie
  deriving DecidableEq, Repr

end Sys2Proof
end

