-- ==== Sys2Proof/Syntax.lean ====
section
/-! DEFINITION. The commands of the AEL7144: one constructor of `Instr` for each row of the table of operations and
events, with the operand types they take. A command comes from outside the block: a register access, a packet or
flit that arrives, an event of a clock, a pin, a sensor or a timer, an instruction that a tenant core runs. -/

namespace Sys2Proof

/-! ### Who accesses, and what -/

/-- Who issues an access to the management space (R19, R24, R39). -/
inductive Requester where
  /-- Host software through PF0 BAR0. -/
  | pf0
  /-- Tenant core `c`. -/
  | core (c : Fin 2)
  /-- A management-class packet. -/
  | mesh
  /-- The debug port. -/
  | debugPort
  /-- The PF0 debug window. -/
  | debugWindow
  /-- PF1 (`0`) or VF `v - 1`, through the channel pages of its BAR2 (R381, R398). -/
  | bar2 (owner : Fin 33)
  deriving DecidableEq, Repr

/-- The pages of the management space (R23). -/
inductive PageRef where
  | sill | clk | pwr | repair | cfg | scrub | keys | porter
  | tcore (c : Fin 2)
  | dbg | pcie | hdma | mesh | tally | jamb
  | pbay (n : Fin 112)
  | bay (n : Fin 104)
  | txl (n : Fin 144)
  | cur (n : Fin 156)
  | portr (n : Fin 48)
  | warden (n : Fin 4)
  deriving DecidableEq, Repr

/-- A bay named by its logical or its physical page (R2). -/
inductive BayPage where
  | bay (n : Fin 104)
  | pbay (n : Fin 112)
  deriving DecidableEq, Repr

/-- The PCI Express functions (R376). -/
inductive PcieFn where
  | pf0 | pf1
  | vf (v : Fin 32)
  deriving DecidableEq, Repr

/-- The pop ports (R37). -/
inductive PopPort where
  | peepTx (c : Fin 2)
  | traceHi | golden | err
  | mbx (n : Fin 4)
  deriving DecidableEq, Repr

/-- The logs whose VALID bit a write of 1 frees. -/
inductive LogRef where
  /-- MEM_ERR_LOG0 of a bay (R100). -/
  | mem (b : BayPage)
  /-- CLK.LAST_FAIL. -/
  | lastFail
  /-- MESH.LOG_STATUS (R175). -/
  | header
  /-- MESH.DETOUR_LOG. -/
  | detour
  /-- CUR[n].FAIL_LOG0. -/
  | cur (n : Fin 156)
  /-- SCRUB.ERR_LOG0. -/
  | scrub
  /-- PCIE.WIN_LOG0. -/
  | window
  /-- SILL.FAULT. -/
  | fault
  deriving DecidableEq, Repr

/-- The two debug ports (R437). -/
inductive DbgPort where
  | port | window
  deriving DecidableEq, Repr

/-! ### Block memory and slices -/

/-- The two ports of a block memory (R87). -/
inductive BramPort where
  | a | b
  deriving DecidableEq, Repr

/-- One access of a block-memory port at an edge: address, byte enables (none set: a read), data, and the port's synchronous output
reset (R87, R89). -/
structure BramAccess where
  addr : BitVec 15
  we : BitVec 8
  data : BitVec 72
  rst : Bool
  deriving DecidableEq, Repr

/-- An access of the other port whose edge falls within 1.0 ns of this one (R91), and whether its command has run already. -/
structure OtherPort where
  acc : BramAccess
  done : Bool
  deriving DecidableEq, Repr

/-- The fabric inputs of a slice at one COL_CLK edge (R105, R106, R108, R117). -/
structure SliceIn where
  ce : Bool
  clrOvf : Bool
  /-- The slice below has already made the edge that this is: its accumulator is taken as it was before it (R107). -/
  belowDone : Bool
  a : BitVec 16
  b : BitVec 16
  d : BitVec 16
  preSub : Bool
  rpt : Bool
  expIn : BitVec 6
  deriving DecidableEq, Repr

/-! ### Packets -/

/-- The four nodes of the device (R150). -/
inductive NodeKind where
  | fabric | mgmt | core | host
  deriving DecidableEq, Repr

/-- A Tchiornix packet: the header fields of R154, its payload, and the number of flits its framing carried (R161). -/
structure Packet where
  dst : BitVec 10
  src : BitVec 10
  cls : BitVec 2
  op : BitVec 6
  len : BitVec 8
  tag : BitVec 12
  laddr : BitVec 54
  ord : Bool
  prio : BitVec 2
  ch : Bool
  v : Bool
  lock : Bool
  rsv : BitVec 4
  hcrc : BitVec 16
  payload : List Byte
  flits : Nat
  deriving DecidableEq, Repr

/-- A training flit as it is received: the descrambled lane bits of D0 to D3 and DS (R209, R210). -/
structure TrainFlit where
  d0 : BitVec 132
  d1 : BitVec 132
  d2 : BitVec 132
  d3 : BitVec 132
  ds : BitVec 132
  deriving DecidableEq, Repr

/-- What a receiver finds when its DLL has locked (R216, R217): the clock lane it locked to, whether CS was seen in training,
the data lanes D0 to D3 and DS (bits 0 to 4) that aligned, those found crossed, and the offsets SKEW_FOUND and CENTRE_FOUND
report. -/
structure AlignOutcome where
  onSpare : Bool
  spareSeen : Bool
  aligned : BitVec 5
  crossed : BitVec 5
  skew : BitVec 15
  centre : BitVec 30
  deriving DecidableEq, Repr

/-- How a PCI Express request of this device ended (R167, R311). -/
inductive CplStatus where
  | ok
  /-- Unsupported Request, Completer Abort, and a completion that is poisoned. -/
  | unsupported | abort | poisoned
  deriving DecidableEq, Repr

/-- What the flash gives when it is read (R312). -/
inductive FlashAnswer where
  | data (bytes : List Byte)
  /-- It does not answer. -/
  | silent
  /-- The byte address has passed its end. -/
  | pastEnd
  deriving DecidableEq, Repr

/-- A register of a function's configuration space, by name: where the capabilities lie in it the manual does not say. -/
inductive CfgReg where
  /-- Vendor ID and Device ID. -/
  | ids
  | command
  /-- Revision ID and class code. -/
  | classRev
  | subsystem
  | bar (i : Fin 6)
  | deviceControl
  | deviceControl2
  | msixControl
  /-- SR-IOV Control, with VF Enable in bit 0. -/
  | sriovControl
  | numVfs
  | pmcsr
  /-- Word `w` of the doorway DVSEC (R380). -/
  | dvsec (w : Fin 8)
  deriving DecidableEq, Repr

/-- A PCI Express Configuration Request. -/
inductive CfgRequest where
  | read (r : CfgReg)
  | write (r : CfgReg) (w : Word)
  deriving DecidableEq, Repr

/-- A router of the mesh: plane, column and row (R177). -/
structure RouterAt where
  plane : Fin 2
  x : Fin 16
  y : Fin 10
  deriving DecidableEq, Repr

/-- The domains that have a shutter (R198). -/
inductive ShutterRef where
  | bay (b : BayPage)
  | txl (l : Fin 144)
  | cur (n : Fin 156)
  | hdma
  deriving DecidableEq, Repr

/-! ### Cores, debug, sensors -/

/-- A memory of the core node: a tightly coupled memory of core `c` (0 instructions, 1 data), or porter RAM (R404, R420). -/
inductive TcmRef where
  | tcm (c m : Fin 2)
  | porter
  deriving DecidableEq, Repr

/-- A task number (R420). -/
abbrev Task := BitVec 10

/-- An access that a comparator judges (R444): the local address of an instruction about to execute, or of the first byte of a
data access with its size, its kind, and the value as it appears in its register; none: an atomic or MSG. -/
structure CompAccess where
  addr : Word
  size : Nat
  read : Bool
  write : Bool
  value : Option Word
  deriving DecidableEq, Repr

/-- One pass of the boundary-scan or wrapper register through the test access port: the levels that Capture-DR finds at the
cells, and the values that are shifted in and take effect at Update-DR (R433, R434). -/
structure ScanIn where
  captured : List Bool
  shifted : List Bool
  deriving DecidableEq, Repr

/-- What WRAP reaches (R434). -/
inductive WrapAccess where
  /-- The die wrapper register. -/
  | dwr (s : ScanIn)
  /-- WIR of wrapper `w`: PCI Express controller 0, link PHY groups 1 to 4, curtain engines 5, configuration engines 6. -/
  | wir (w : Fin 7) (code : Byte) (keyed : Bool)
  /-- WBY and WBR of the wrapper chosen. -/
  | wby (w : Fin 7) (bit : Bool)
  | wbr (w : Fin 7) (s : ScanIn)
  deriving DecidableEq, Repr

/-- One sensor's reading in its own code (R485). -/
abbrev Temp := BitVec 12

/-! ### The commands -/

/-- The commands, one constructor for each row of the table of operations and events. -/
inductive Instr where
  /-- REGISTER_WRITE (R22). -/
  | registerWrite (rq : Requester) (off : BitVec 26) (size : Nat) (w : Word)
  /-- COMMIT (R30). -/
  | commit (rq : Requester) (pg : PageRef) (tag : Byte) (en : Bool)
  /-- STAGED_SET_APPLY (R30). -/
  | stagedSetApply (pg : PageRef)
  /-- ENABLE (R32). -/
  | enable (rq : Requester) (pg : PageRef) (tag : Byte) (en : Bool)
  /-- ABORT_REQUEST (R48). -/
  | abortRequest (rq : Requester) (pg : PageRef) (tag : Byte)
  /-- ABORT_DONE (R48). -/
  | abortDone (pg : PageRef)
  /-- ABORT_CLEAR (R49). -/
  | abortClear (rq : Requester) (pg : PageRef) (tag : Byte)
  /-- PAGE_CAUSE_CLEAR (R40). -/
  | pageCauseClear (rq : Requester) (pg : PageRef) (w : Word)
  /-- PAGE_CAUSE_SET (R29). -/
  | pageCauseSet (rq : Requester) (pg : PageRef) (w : Word)
  /-- ALERT_REARM (R42). -/
  | alertRearm (rq : Requester) (w : Word)
  /-- ALERT_MSIX_SEND (R43). -/
  | alertMsixSend
  /-- MSIX_UNMASK (R42). -/
  | msixUnmask (fn : PcieFn) (vec : Fin 64) (mask : Bool)
  /-- PEEP_TX (R449). -/
  | peepTx (rq : Requester) (c : Fin 2)
  /-- TRACE_POP_HI (R429). -/
  | tracePopHi (rq : Requester)
  /-- GOLDEN_POP (R345). -/
  | goldenPop (rq : Requester)
  /-- ERR_POP (R393). -/
  | errPop (rq : Requester)
  /-- MBX_RESP (R369). -/
  | mbxResp (rq : Requester) (n : Fin 4)
  /-- DEBUG_PEEK (R39). -/
  | debugPeek (port : PopPort)
  /-- TALLY_CLEAR (R47). -/
  | tallyClear (rq : Requester) (w : Word)
  /-- TALLY_ECC_ERROR (R46). -/
  | tallyEccError (idx : BitVec 13) (double : Bool)
  /-- TALLY_RECOMPUTE (R46). -/
  | tallyRecompute (idx : BitVec 13)
  /-- LOG_FREE (R175). -/
  | logFree (rq : Requester) (log : LogRef)
  /-- CAPTURE (R74). -/
  | capture (rq : Requester) (b : BayPage)
  /-- CAPTURE_ALL (R75). -/
  | captureAll (rq : Requester) (b : BayPage)
  /-- CAPTURE_COMPLETE (R74). -/
  | captureComplete (pb : Fin 112)
  /-- HINGE_WORD_SEND (R66): 64 data bits and 6 tag bits; `tag`: the slice whose TAG_OUT the fabric puts in the tag bits (R125): the word, and the slice whose TAG_OUT gives its tag bits, where the frames name one. -/
  | hingeWordSend (bay : Fin 104) (ch : Fin 8) (word : BitVec 70 × Option (Fin 128))
  /-- HINGE_WORD_ARRIVE (R66). -/
  | hingeWordArrive (bay : Fin 104) (ch : Fin 8)
  /-- HINGE_CREDIT_RETURN (R66). -/
  | hingeCreditReturn (bay : Fin 104) (ch : Fin 8)
  /-- STILE_WORD_SEND (R69): the word, and the slice whose TAG_OUT gives its tag bits, where the frames name one. -/
  | stileWordSend (bay : Fin 104) (ch : Fin 4) (word : BitVec 70 × Option (Fin 128))
  /-- STILE_WORD_ARRIVE (R69). -/
  | stileWordArrive (bay : Fin 104) (ch : Fin 4)
  /-- SIDEBAND_CHANGE (R67). -/
  | sidebandChange (bay : Fin 104) (k : Fin 32) (v : Bool)
  /-- JAMB_INPUT (R478). -/
  | jambInput (j : Fin 48) (v : Bool)
  /-- BRAM_READ (R88): the address, and whether the synchronous output reset (R87) is asserted. -/
  | bramRead (pb : Fin 112) (m : Fin 128) (port : BramPort) (acc : BitVec 15 × Bool) (other : Option OtherPort)
  /-- BRAM_WRITE (R88). -/
  | bramWrite (pb : Fin 112) (m : Fin 128) (port : BramPort) (acc : BramAccess) (other : Option OtherPort)
  /-- BRAM_WRITEBACK (R99). -/
  | bramWriteback (pb : Fin 112) (m : Fin 128)
  /-- BRAM_UPSET (R102). -/
  | bramUpset (pb : Fin 112) (m : Fin 128) (row : Fin 512) (bit : Fin 72)
  /-- OPMODE_HOLD (R112). -/
  | opmodeHold (pb : Fin 112) (sl : Fin 128) (x : SliceIn)
  /-- OPMODE_LOAD (R112). -/
  | opmodeLoad (pb : Fin 112) (sl : Fin 128) (x : SliceIn)
  /-- OPMODE_ADD (R112). -/
  | opmodeAdd (pb : Fin 112) (sl : Fin 128) (x : SliceIn)
  /-- OPMODE_SUB (R112). -/
  | opmodeSub (pb : Fin 112) (sl : Fin 128) (x : SliceIn)
  /-- OPMODE_CASC_ADD (R112). -/
  | opmodeCascAdd (pb : Fin 112) (sl : Fin 128) (x : SliceIn)
  /-- OPMODE_CASC_SUB (R112). -/
  | opmodeCascSub (pb : Fin 112) (sl : Fin 128) (x : SliceIn)
  /-- OPMODE_CLEAR (R112). -/
  | opmodeClear (pb : Fin 112) (sl : Fin 128) (x : SliceIn)
  /-- OPMODE_CASC_LOAD (R112). -/
  | opmodeCascLoad (pb : Fin 112) (sl : Fin 128) (x : SliceIn)
  /-- CLR_OVF (R117). -/
  | clrOvf (pb : Fin 112) (sl : Fin 128)
  /-- AG_LOAD (R118). -/
  | agLoad (pb : Fin 112) (sl : Fin 128) (k : Fin 2) (v : BitVec 15)
  /-- AG_STEP (R118). -/
  | agStep (pb : Fin 112) (sl : Fin 128) (k : Fin 2)
  /-- BLOCK_START (R123). -/
  | blockStart (pb : Fin 112) (c : Fin 4) (alsoEnd : Bool) (clr : Bool)
  /-- BLOCK_END (R123). -/
  | blockEnd (pb : Fin 112) (c : Fin 4) (clr : Bool)
  /-- ECUM_CLR (R124). -/
  | ecumClr (pb : Fin 112) (c : Fin 4)
  /-- REFCLK_FAIL (R135). -/
  | refclkFail (r : RefClk)
  /-- REF_SWITCH_DONE (R135). -/
  | refSwitchDone
  /-- REFCLK_RECOVER (R135). -/
  | refclkRecover (r : RefClk)
  /-- PREFER (R135). -/
  | prefer (rq : Requester) (w : Word)
  /-- SRC_SEL (R136). -/
  | srcSel (rq : Requester) (w : Word)
  /-- TRIM_GO (R136). -/
  | trimGo (rq : Requester)
  /-- TRIM_PERIODIC (R136). -/
  | trimPeriodic
  /-- TRIM_DONE (R136). -/
  | trimDone (code : Byte)
  /-- SILL_CLK_FAIL (R137). -/
  | sillClkFail
  /-- SRC_RUN_START (R149). -/
  | srcRunStart (rq : Requester) (src : Fin 11)
  /-- SRC_RUN_STOP (R142). -/
  | srcRunStop (rq : Requester) (src : Fin 11)
  /-- PLL_LOCK (R138). -/
  | pllLock (src : Fin 11)
  /-- TWIN_SWITCH (R140). -/
  | twinSwitch (src : Fin 11)
  /-- TWIN_PAIR_FAIL (R148). -/
  | twinPairFail (src : Fin 11)
  /-- LINK_PLL_FAIL (R148). -/
  | linkPllFail (e : Fin 4)
  /-- PCIE_PLL_FAIL (R148). -/
  | pciePllFail
  /-- CORE_PLL_FAIL (R148). -/
  | corePllFail
  /-- DROWSY_GATE (R146). -/
  | drowsyGate (bay : Fin 104)
  /-- DROWSY_WAKE (R147). -/
  | drowsyWake (bay : Fin 104)
  /-- RD (R159). -/
  | rd (k : Nat)
  /-- WR_NP (R159). -/
  | wrNp (k : Nat)
  /-- FADD64 (R162). -/
  | fadd64 (k : Nat)
  /-- SWAP64 (R162). -/
  | swap64 (k : Nat)
  /-- CAS64 (R162). -/
  | cas64 (k : Nat)
  /-- FADD128 (R162). -/
  | fadd128 (k : Nat)
  /-- SWAP128 (R162). -/
  | swap128 (k : Nat)
  /-- CAS128 (R162). -/
  | cas128 (k : Nat)
  /-- WR_P (R169). -/
  | wrP (k : Nat)
  /-- MSG (R159). -/
  | msg (k : Nat)
  /-- MRD (R153). -/
  | mrd (k : Nat)
  /-- MWR (R153). -/
  | mwr (k : Nat)
  /-- RSP (R167). -/
  | rsp (k : Nat)
  /-- RSP_DATA (R167). -/
  | rspData (k : Nat)
  /-- VERIFY_OK (R170). -/
  | verifyOk (k : Nat)
  /-- VERIFY_FAIL (R170). -/
  | verifyFail (k : Nat)
  /-- INITIATOR_TIMEOUT (R195). -/
  | initiatorTimeout (n : NodeKind) (tag : BitVec 12)
  /-- TAG_QUARANTINE_END (R164). -/
  | tagQuarantineEnd (n : NodeKind) (tag : BitVec 12)
  /-- BAY_PORT_SEND (R180). -/
  | bayPortSend (bay : Fin 104) (p : Packet)
  /-- BAY_PORT_ISSUE (R180). -/
  | bayPortIssue (bay : Fin 104) (cls : Fin 4)
  /-- SEGMENT_FAIL (R190). -/
  | segmentFail (at_ : RouterAt) (out : Fin 5)
  /-- ROUTER_FAIL (R190). -/
  | routerFail (at_ : RouterAt)
  /-- SEGMENT_BIT_ERROR (R188). -/
  | segmentBitError (at_ : RouterAt) (out : Fin 5)
  /-- SHUTTER_CLOSE (R198). -/
  | shutterClose (rq : Requester) (sh : ShutterRef)
  /-- SHUTTER_CLOSED (R198). -/
  | shutterClosed (sh : ShutterRef)
  /-- SHUTTER_DRAIN_EXPIRE (R198). -/
  | shutterDrainExpire (sh : ShutterRef)
  /-- SHUTTER_OPEN (R199). -/
  | shutterOpen (rq : Requester) (sh : ShutterRef)
  /-- TRAIN (R210). -/
  | train (l : Fin 144) (f : TrainFlit)
  /-- TRAIN_END (R210): the link, and the training flit as its lanes received it. -/
  | trainEnd (flit : Fin 144 × TrainFlit)
  /-- DLL_LOCK (R216). -/
  | dllLock (l : Fin 144) (o : AlignOutcome)
  /-- TRAIN_RESTART (R216). -/
  | trainRestart (l : Fin 144)
  /-- DATA_LANE_FAIL (R221). -/
  | dataLaneFail (l : Fin 144) (lane : Fin 5)
  /-- MARGIN_WINDOW (R221). -/
  | marginWindow (l : Fin 144) (lane : Fin 5) (count : Nat)
  /-- SPARE_LANE_FAIL (R220). -/
  | spareLaneFail (l : Fin 144) (wrong : Nat)
  /-- CLOCK_LANE_FAIL (R224). -/
  | clockLaneFail (l : Fin 144)
  /-- DSWAP_MARKER (R223): the link, and what DS received. -/
  | dswapMarker (flit : Fin 144 × BitVec 132)
  /-- DATA_GO (R227). -/
  | dataGo (rq : Requester) (l : Fin 144) (lane : Fin 4)
  /-- CLK_GO (R227). -/
  | clkGo (rq : Requester) (l : Fin 144)
  /-- SOLE (R231). -/
  | sole (l : Fin 144) (body : BitVec 512)
  /-- HEAD (R231). -/
  | head (l : Fin 144) (body : BitVec 512)
  /-- MID (R231). -/
  | mid (l : Fin 144) (body : BitVec 512)
  /-- TAIL (R231). -/
  | tail (l : Fin 144) (body : BitVec 512)
  /-- BAD_FLIT (R236). -/
  | badFlit (l : Fin 144)
  /-- LINK_FLIT (R236). -/
  | linkFlit (l : Fin 144) (body : BitVec 512)
  /-- NAK (R237). -/
  | nak (l : Fin 144) (body : BitVec 512)
  /-- REPLAY (R236). -/
  | replay (l : Fin 144) (body : BitVec 512)
  /-- ENTER_IDLE (R246). -/
  | enterIdle (l : Fin 144) (body : BitVec 512)
  /-- SLEEP_REQ (R247). -/
  | sleepReq (l : Fin 144) (body : BitVec 512)
  /-- SLEEP_ACK (R247). -/
  | sleepAck (l : Fin 144) (body : BitVec 512)
  /-- SLEEP_NAK (R247). -/
  | sleepNak (l : Fin 144) (body : BitVec 512)
  /-- DSWAP_REQ (R250). -/
  | dswapReq (l : Fin 144) (body : BitVec 512)
  /-- CSWAP_REQ (R224). -/
  | cswapReq (l : Fin 144) (body : BitVec 512)
  /-- RETRAIN_REQ (R238). -/
  | retrainReq (l : Fin 144) (body : BitVec 512)
  /-- FAULT (R249). -/
  | fault (l : Fin 144) (body : BitVec 512)
  /-- HELLO (R242). -/
  | hello (l : Fin 144) (body : BitVec 512)
  /-- TAG (R274). -/
  | tagFlit (l : Fin 144) (body : BitVec 512)
  /-- REPLAY_TIMEOUT (R237). -/
  | replayTimeout (l : Fin 144)
  /-- NAK_REPEAT (R236). -/
  | nakRepeat (l : Fin 144)
  /-- RX_SILENCE (R238). -/
  | rxSilence (l : Fin 144)
  /-- DSWAP_TIMEOUT (R250). -/
  | dswapTimeout (l : Fin 144)
  /-- BRINGUP_LATE (R244). -/
  | bringupLate (l : Fin 144)
  /-- BRINGUP_LIMIT (R244). -/
  | bringupLimit (l : Fin 144)
  /-- IDLE_ENTER (R246). -/
  | idleEnter (l : Fin 144)
  /-- IDLE_RESUME (R246). -/
  | idleResume (l : Fin 144)
  /-- SLEEP_RETRY (R247). -/
  | sleepRetry (l : Fin 144)
  /-- LINK_WAKE_DETECT (R248). -/
  | linkWakeDetect (l : Fin 144)
  /-- CREDIT_STALL (R241). -/
  | creditStall (l : Fin 144) (cls : Fin 4)
  /-- LINK_ENABLE (R245). -/
  | linkEnable (rq : Requester) (l : Fin 144) (tag : Byte)
  /-- LINK_DISABLE (R245). -/
  | linkDisable (rq : Requester) (l : Fin 144) (tag : Byte)
  /-- PM_CTRL_SLEEP (R247). -/
  | pmCtrlSleep (rq : Requester) (l : Fin 144)
  /-- PM_CTRL_WAKE (R248). -/
  | pmCtrlWake (rq : Requester) (l : Fin 144)
  /-- PM_CTRL_RETRAIN (R238). -/
  | pmCtrlRetrain (rq : Requester) (l : Fin 144)
  /-- INIT (R260). -/
  | init (rq : Requester) (n : Fin 144) (win : Fin 4)
  /-- INIT_DONE (R260). -/
  | initDone (n : Fin 144)
  /-- CACHE_FETCH_DONE (R263). -/
  | cacheFetchDone (n : Fin 144)
  /-- TAG_CHECK_DONE (R263). -/
  | tagCheckDone (n : Fin 144)
  /-- REENCRYPT_DONE (R265): the link, and the page whose re-encryption is done. -/
  | reencryptDone (n : Fin 144) (page : Nat)
  /-- PARTIAL_WRITE_DONE (R266). -/
  | partialWriteDone (n : Fin 144)
  /-- QUAR_RELEASE (R267). -/
  | quarRelease (rq : Requester) (n : Fin 144) (idx : Fin 32) (poison : Bool)
  /-- ROLL (R277). -/
  | roll (rq : Requester) (n : Fin 144)
  /-- ROLL_DONE (R277). -/
  | rollDone (n : Fin 144)
  /-- AES_PARITY_FAIL (R281). -/
  | aesParityFail (n : Fin 144)
  /-- TAKEOVER_DONE (R281). -/
  | takeoverDone (n : Fin 144)
  /-- SPARE_SELF_TEST (R282). -/
  | spareSelfTest (g : Fin 12) (pass : Bool)
  /-- LOAD_GO (R313). -/
  | loadGo (rq : Requester)
  /-- STARTUP_GO (R322). -/
  | startupGo (rq : Requester)
  /-- SYNC (R290). -/
  | sync
  /-- HEADER (R291). -/
  | header
  /-- BROADCAST (R299). -/
  | broadcast
  /-- KEY_WRAP (R294). -/
  | keyWrap
  /-- SEGMENT_VERIFY (R293). -/
  | segmentVerify
  /-- WINDOW (R330). -/
  | window
  /-- SUBSTRATE_TABLE (R302). -/
  | substrateTable
  /-- FRAME_ADDR (R300). -/
  | frameAddr
  /-- FRAME_DATA (R300). -/
  | frameData
  /-- FRAME_REPEAT (R301). -/
  | frameRepeat
  /-- KEY_ROLL (R295). -/
  | keyRoll
  /-- CRC_CHECK (R304). -/
  | crcCheck
  /-- START_SEQ (R303). -/
  | startSeq
  /-- READBACK (R305). -/
  | readback
  /-- PAD (R288). -/
  | pad
  /-- SKIPPABLE_RECORD (R288). -/
  | skippableRecord
  /-- END (R304). -/
  | endRecord
  /-- PUSH_WRITE (R310). -/
  | pushWrite (off : BitVec 24) (bytes : List Byte)
  /-- PUSH_TAIL (R310). -/
  | pushTail (rq : Requester) (w : Word)
  /-- PULL_COMPLETION (R311). -/
  | pullCompletion (st : CplStatus) (bytes : List Byte)
  /-- FWD_DATA (R317). -/
  | fwdData (w : Word)
  /-- LOAD_LATE (R319). -/
  | loadLate
  /-- LOAD_LIMIT (R319). -/
  | loadLimit
  /-- LOCK (R323). -/
  | lock
  /-- LOCK_FAIL (R323). -/
  | lockFail
  /-- RELEASE_GSR (R323). -/
  | releaseGsr
  /-- ENABLE_WRITES (R323). -/
  | enableWrites
  /-- RELEASE_OUTPUTS (R323). -/
  | releaseOutputs
  /-- LATCH (R326). -/
  | latch
  /-- LATCH_N_HIGH (R326). -/
  | latchNHigh
  /-- LATCH_TIMEOUT (R326). -/
  | latchTimeout
  /-- SCRUB_FRAME (R342). -/
  | scrubFrame
  /-- PASS_START (R339). -/
  | passStart
  /-- VOTE_FIX (R347). -/
  | voteFix (copy : Fin 3)
  /-- VOTE_LOST (R347). -/
  | voteLost
  /-- INJECT (R349). -/
  | inject (rq : Requester) (w : Word)
  /-- CONFIG_UPSET (R367). -/
  | configUpset (pb : Fin 112) (addr : Word) (col : Fin 66) (bit : Fin 73)
  /-- SUBMIT (R369). -/
  | submit (rq : Requester) (n : Fin 4)
  /-- MIGRATE (R358): the mailbox, and the bay that its request names. -/
  | migrate (n : Fin 4) (bay : Fin 128)
  /-- RETIRE (R370). -/
  | retire (n : Fin 4)
  /-- SELF_TEST (R354). -/
  | selfTest (n : Fin 4)
  /-- LOAD_KEY (R276). -/
  | loadKey (n : Fin 4)
  /-- LOAD_SUBSTRATE (R370): the service begins its reads, or it ends. -/
  | loadSubstrate (n : Fin 4) (ends : Bool)
  /-- GOLDEN (R346): the service begins its reads, or it ends. -/
  | golden (n : Fin 4) (ends : Bool)
  /-- RESTORE (R370). -/
  | restore (n : Fin 4) (pass : Bool)
  /-- RECORD_EXPORT (R352): the service begins its writes, or it ends. -/
  | recordExport (n : Fin 4) (ends : Bool)
  /-- RECORD_IMPORT (R352). -/
  | recordImport (n : Fin 4) (bytes : Option (List Byte))
  /-- CLONE_DONE (R359): the rows that stay dirty, and whether the image is checked. -/
  | cloneDone (row : Fin 8) (copied : List Nat × Bool)
  /-- MIRROR_PASS_END (R360). -/
  | mirrorPassEnd (row : Fin 8) (left : List Nat) (image : Bool)
  /-- SELF_TEST_DONE (R354). -/
  | selfTestDone (pb : Fin 112) (pass : Bool) (lf : List Nat) (mf : List Nat)
  /-- SELF_TEST_DUE (R354). -/
  | selfTestDue (pb : Fin 112)
  /-- HEALTH_UPDATE (R355). -/
  | healthUpdate (pb : Fin 112) (drift : List Byte)
  /-- MIGRATE_RETRY (R357). -/
  | migrateRetry (row : Fin 8)
  /-- WARDEN_RESYNC (R356). -/
  | wardenResync (core : Fin 3)
  /-- WARDEN_LOST (R356). -/
  | wardenLost
  /-- PERST_N_ASSERT (R453). -/
  | perstNAssert
  /-- PERST_N_DEASSERT (R453). -/
  | perstNDeassert
  /-- PCIE_CONFIG_REQUEST (R377). -/
  | pcieConfigRequest (fn : PcieFn) (q : CfgRequest)
  /-- HOT_RESET (R378). -/
  | hotReset (down : Bool)
  /-- FLR_PF0 (R378). -/
  | flrPf0
  /-- FLR_PF1 (R378). -/
  | flrPf1
  /-- FLR_VF (R378). -/
  | flrVf (v : Fin 32)
  /-- WINDOW_READ (R384). -/
  | windowRead (fn : PcieFn) (off : BitVec 64) (len : Nat) (ht : Nat)
  /-- WINDOW_WRITE (R384). -/
  | windowWrite (fn : PcieFn) (off : BitVec 64) (bytes : List Byte) (be : List Bool)
  /-- DOORBELL (R387). -/
  | doorbell (fn : PcieFn) (d : Fin 64) (off : BitVec 12) (size : Nat) (w : Word)
  /-- HOST_COMPLETION (R389). -/
  | hostCompletion (ht : Nat) (st : CplStatus) (bytes : List Byte)
  /-- DMA_TAIL (R392). -/
  | dmaTail (rq : Requester) (ch : Fin 64) (w : Word)
  /-- CH_START (R394). -/
  | chStart (rq : Requester) (ch : Fin 64)
  /-- CH_STOP (R394). -/
  | chStop (rq : Requester) (ch : Fin 64)
  /-- CH_ABORT (R394). -/
  | chAbort (rq : Requester) (ch : Fin 64)
  /-- DESCRIPTOR_DONE (R392). -/
  | descriptorDone (ch : Fin 64)
  /-- ADD (R401). -/
  | insnAdd (c : Fin 2) (rd : BitVec 4) (ra : BitVec 4) (rb : BitVec 4)
  /-- SUB (R401). -/
  | insnSub (c : Fin 2) (rd : BitVec 4) (ra : BitVec 4) (rb : BitVec 4)
  /-- AND (R401). -/
  | insnAnd (c : Fin 2) (rd : BitVec 4) (ra : BitVec 4) (rb : BitVec 4)
  /-- OR (R401). -/
  | insnOr (c : Fin 2) (rd : BitVec 4) (ra : BitVec 4) (rb : BitVec 4)
  /-- XOR (R401). -/
  | insnXor (c : Fin 2) (rd : BitVec 4) (ra : BitVec 4) (rb : BitVec 4)
  /-- SLL (R401). -/
  | insnSll (c : Fin 2) (rd : BitVec 4) (ra : BitVec 4) (rb : BitVec 4)
  /-- SRL (R401). -/
  | insnSrl (c : Fin 2) (rd : BitVec 4) (ra : BitVec 4) (rb : BitVec 4)
  /-- SRA (R401). -/
  | insnSra (c : Fin 2) (rd : BitVec 4) (ra : BitVec 4) (rb : BitVec 4)
  /-- SLT (R401). -/
  | insnSlt (c : Fin 2) (rd : BitVec 4) (ra : BitVec 4) (rb : BitVec 4)
  /-- SLTU (R401). -/
  | insnSltu (c : Fin 2) (rd : BitVec 4) (ra : BitVec 4) (rb : BitVec 4)
  /-- MUL (R401). -/
  | insnMul (c : Fin 2) (rd : BitVec 4) (ra : BitVec 4) (rb : BitVec 4)
  /-- MULH (R401). -/
  | insnMulh (c : Fin 2) (rd : BitVec 4) (ra : BitVec 4) (rb : BitVec 4)
  /-- MULHU (R401). -/
  | insnMulhu (c : Fin 2) (rd : BitVec 4) (ra : BitVec 4) (rb : BitVec 4)
  /-- DIV (R401). -/
  | insnDiv (c : Fin 2) (rd : BitVec 4) (ra : BitVec 4) (rb : BitVec 4)
  /-- DIVU (R401). -/
  | insnDivu (c : Fin 2) (rd : BitVec 4) (ra : BitVec 4) (rb : BitVec 4)
  /-- ADDI (R401). -/
  | insnAddi (c : Fin 2) (rd : BitVec 4) (ra : BitVec 4) (imm : BitVec 18)
  /-- ANDI (R401). -/
  | insnAndi (c : Fin 2) (rd : BitVec 4) (ra : BitVec 4) (imm : BitVec 18)
  /-- ORI (R401). -/
  | insnOri (c : Fin 2) (rd : BitVec 4) (ra : BitVec 4) (imm : BitVec 18)
  /-- XORI (R401). -/
  | insnXori (c : Fin 2) (rd : BitVec 4) (ra : BitVec 4) (imm : BitVec 18)
  /-- SLLI (R401). -/
  | insnSlli (c : Fin 2) (rd : BitVec 4) (ra : BitVec 4) (imm : BitVec 18)
  /-- SRLI (R401). -/
  | insnSrli (c : Fin 2) (rd : BitVec 4) (ra : BitVec 4) (imm : BitVec 18)
  /-- SRAI (R401). -/
  | insnSrai (c : Fin 2) (rd : BitVec 4) (ra : BitVec 4) (imm : BitVec 18)
  /-- SLTI (R401). -/
  | insnSlti (c : Fin 2) (rd : BitVec 4) (ra : BitVec 4) (imm : BitVec 18)
  /-- SLTIU (R401). -/
  | insnSltiu (c : Fin 2) (rd : BitVec 4) (ra : BitVec 4) (imm : BitVec 18)
  /-- LUI (R401). -/
  | insnLui (c : Fin 2) (rd : BitVec 4) (imm : BitVec 22)
  /-- LB (R401). -/
  | insnLb (c : Fin 2) (rd : BitVec 4) (ra : BitVec 4) (imm : BitVec 18)
  /-- LBU (R401). -/
  | insnLbu (c : Fin 2) (rd : BitVec 4) (ra : BitVec 4) (imm : BitVec 18)
  /-- LH (R401). -/
  | insnLh (c : Fin 2) (rd : BitVec 4) (ra : BitVec 4) (imm : BitVec 18)
  /-- LHU (R401). -/
  | insnLhu (c : Fin 2) (rd : BitVec 4) (ra : BitVec 4) (imm : BitVec 18)
  /-- LW (R401). -/
  | insnLw (c : Fin 2) (rd : BitVec 4) (ra : BitVec 4) (imm : BitVec 18)
  /-- SB (R401). -/
  | insnSb (c : Fin 2) (rd : BitVec 4) (ra : BitVec 4) (imm : BitVec 18)
  /-- SH (R401). -/
  | insnSh (c : Fin 2) (rd : BitVec 4) (ra : BitVec 4) (imm : BitVec 18)
  /-- SW (R401). -/
  | insnSw (c : Fin 2) (rd : BitVec 4) (ra : BitVec 4) (imm : BitVec 18)
  /-- BEQ (R401). -/
  | insnBeq (c : Fin 2) (ra : BitVec 4) (rb : BitVec 4) (off : BitVec 18)
  /-- BNE (R401). -/
  | insnBne (c : Fin 2) (ra : BitVec 4) (rb : BitVec 4) (off : BitVec 18)
  /-- BLT (R401). -/
  | insnBlt (c : Fin 2) (ra : BitVec 4) (rb : BitVec 4) (off : BitVec 18)
  /-- BGE (R401). -/
  | insnBge (c : Fin 2) (ra : BitVec 4) (rb : BitVec 4) (off : BitVec 18)
  /-- BLTU (R401). -/
  | insnBltu (c : Fin 2) (ra : BitVec 4) (rb : BitVec 4) (off : BitVec 18)
  /-- BGEU (R401). -/
  | insnBgeu (c : Fin 2) (ra : BitVec 4) (rb : BitVec 4) (off : BitVec 18)
  /-- JAL (R401). -/
  | insnJal (c : Fin 2) (off : BitVec 26)
  /-- JALR (R401). -/
  | insnJalr (c : Fin 2) (rd : BitVec 4) (ra : BitVec 4) (imm : BitVec 18)
  /-- LDX (R407). -/
  | insnLdx (c : Fin 2) (rd : BitVec 4) (ra : BitVec 4)
  /-- STX (R407). -/
  | insnStx (c : Fin 2) (rd : BitVec 4) (ra : BitVec 4) (rb : BitVec 4)
  /-- MFADD (R405). -/
  | insnMfadd (c : Fin 2) (rd : BitVec 4) (ra : BitVec 4) (rb : BitVec 4)
  /-- MSWAP (R405). -/
  | insnMswap (c : Fin 2) (rd : BitVec 4) (ra : BitVec 4) (rb : BitVec 4)
  /-- MCAS (R405). -/
  | insnMcas (c : Fin 2) (rd : BitVec 4) (ra : BitVec 4) (rb : BitVec 4)
  /-- MSG_INSN (R405). -/
  | insnMsg (c : Fin 2) (rd : BitVec 4) (ra : BitVec 4) (rb : BitVec 4)
  /-- MFENCE (R406). -/
  | insnMfence (c : Fin 2)
  /-- MFC (R401). -/
  | insnMfc (c : Fin 2) (r : BitVec 4) (cr : BitVec 6)
  /-- MTC (R401). -/
  | insnMtc (c : Fin 2) (r : BitVec 4) (cr : BitVec 6)
  /-- TRAP (R408). -/
  | insnTrap (c : Fin 2) (code : BitVec 8)
  /-- RFE (R409). -/
  | insnRfe (c : Fin 2)
  /-- WFI (R401). -/
  | insnWfi (c : Fin 2)
  /-- TAKE (R424). -/
  | insnTake (c : Fin 2) (rd : BitVec 4)
  /-- YIELD (R424). -/
  | insnYield (c : Fin 2)
  /-- SLEEP (R424). -/
  | insnSleep (c : Fin 2) (ra : BitVec 4)
  /-- INTERRUPT (R411). -/
  | interrupt (c : Fin 2)
  /-- TIMER_MATCH (R399). -/
  | timerMatch (c : Fin 2)
  /-- WD_EXPIRE (R412). -/
  | wdExpire (c : Fin 2)
  /-- HOLD (R414). -/
  | hold (rq : Requester) (c : Fin 2)
  /-- HOLD_RELEASE (R414). -/
  | holdRelease (rq : Requester) (c : Fin 2)
  /-- TCM_SWEEP (R404). -/
  | tcmSweep (mem : TcmRef) (word : BitVec 14)
  /-- ACTIVATE (R423). -/
  | activate (rq : Requester) (t : Task)
  /-- POST (R423). -/
  | post (rq : Requester) (t : Task)
  /-- TASK_RETIRE (R423). -/
  | taskRetire (rq : Requester) (t : Task)
  /-- SET_PRIO (R423). -/
  | setPrio (rq : Requester) (t : Task) (prio : BitVec 5)
  /-- PORTER_TICK (R427). -/
  | porterTick
  /-- DELAY_EXPIRY (R427). -/
  | delayExpiry
  /-- DESC_BAD (R422). -/
  | descBad (t : Task)
  /-- TRACE_FLUSH (R429). -/
  | traceFlush (rq : Requester) (w : Word)
  /-- EXTEST (R433). -/
  | extest (bits : ScanIn)
  /-- SAMPLE_PRELOAD (R433). -/
  | samplePreload (bits : ScanIn)
  /-- IDCODE (R435). -/
  | idcode
  /-- CLAMP (R433). -/
  | clamp
  /-- HIGHZ (R433). -/
  | highz
  /-- DBGACC (R436). -/
  | dbgacc (dr : BitVec 44)
  /-- WRAP_ACCESS (R434). -/
  | wrapAccess (a : WrapAccess)
  /-- BYPASS (R433). -/
  | bypass (bit : Bool)
  /-- TAP_RESET (R439). -/
  | tapReset
  /-- CLAIM (R437). -/
  | claim (p : DbgPort)
  /-- RELEASE (R437). -/
  | release (p : DbgPort)
  /-- MAP_GO (R438). -/
  | mapGo (p : DbgPort) (write : Bool)
  /-- MEM_GO (R438). -/
  | memGo (p : DbgPort) (write : Bool) (size : BitVec 2)
  /-- HALT_REQ (R440). -/
  | haltReq (p : DbgPort) (c : Fin 2)
  /-- RESUME (R443). -/
  | resume (p : DbgPort) (c : Fin 2)
  /-- STEP (R443). -/
  | step (p : DbgPort) (c : Fin 2)
  /-- REG_DATA (R442). -/
  | regData (p : DbgPort) (c : Fin 2) (w : Word)
  /-- FEED (R442). -/
  | feed (p : DbgPort) (c : Fin 2) (w : Word)
  /-- PEEP_ACK (R449). -/
  | peepAck (p : DbgPort) (c : Fin 2)
  /-- PEEP_RX (R449). -/
  | peepRx (rq : Requester) (c : Fin 2) (w : Word)
  /-- TRACE_ENABLE (R447). -/
  | traceEnable (p : DbgPort) (c : Fin 2) (w : Word)
  /-- COMP_MATCH (R445). -/
  | compMatch (c : Fin 2) (k : Fin 8) (acc : CompAccess)
  /-- MODE_REQ_DORMANT (R456). -/
  | modeReqDormant (rq : Requester)
  /-- MODE_REQ_DOORWAY (R453). -/
  | modeReqDoorway (rq : Requester)
  /-- MODE_REQ_SERVICE (R453). -/
  | modeReqService (rq : Requester)
  /-- MODE_REQ_DROWSE (R458). -/
  | modeReqDrowse (rq : Requester)
  /-- MODE_REQ_QUIESCED (R459). -/
  | modeReqQuiesced (rq : Requester)
  /-- MODE_REQ_LOAD (R461). -/
  | modeReqLoad (rq : Requester)
  /-- QUIESCE_LIMIT (R459). -/
  | quiesceLimit
  /-- PCIE_L12_ENTRY (R456). -/
  | pcieL12Entry (down : Bool)
  /-- PCIE_L12_EXIT (R455). -/
  | pcieL12Exit
  /-- WAKE_N (R455). -/
  | wakeN
  /-- SILL_TIMER (R455). -/
  | sillTimer
  /-- THERM_READ (R485). -/
  | thermRead (temps : List Temp)
  /-- TEMP_MAX_CLEAR (R486). -/
  | tempMaxClear (rq : Requester)
  /-- SILL_POWER_ON (R471). -/
  | sillPowerOn
  /-- VBAT_LOW (R473). -/
  | vbatLow
  /-- SUPPLY_LOSS (R368). -/
  | supplyLoss
  /-- FLASH_RESPONSE (R312). -/
  | flashResponse (a : FlashAnswer)
  /-- PCIE_COMPLETION_TIMEOUT (R311). -/
  | pcieCompletionTimeout (ht : Nat)
  /-- PCIE_LINK_UP (R397). -/
  | pcieLinkUp (rate : BitVec 3) (width : BitVec 5) (flit : Bool)
  /-- STILE_CREDIT_RETURN (R69). -/
  | stileCreditReturn (bay : Fin 104) (ch : Fin 4)
  /-- REFERENCE_JUDGED_GOOD (R497). -/
  | referenceJudgedGood (r : RefClk)
  /-- TCM_UPSET (R404). -/
  | tcmUpset (mem : TcmRef) (word : BitVec 14) (bit : Fin 72)
  /-- FLIT_SLOT (R234). -/
  | flitSlot (l : Fin 144)
  /-- RESUME_TRAIN_TIMEOUT (R246). -/
  | resumeTrainTimeout (l : Fin 144)
  /-- ENGINE_SELF_TEST_DONE (R281). -/
  | engineSelfTestDone (n : Fin 156) (pass : Bool)
  deriving DecidableEq, Repr

end Sys2Proof
end

