-- ==== Sys2Proof/Decode.lean ====
section
/-! DEFINITION. Commands from words. The table of operations and events gives none of its rows bits: a command reaches the device
as an access, a packet, a flit or an event, not as a word. (The words of the tenant cores' instructions, which the cores fetch from
their own memories, are read in Machine/TenantDecode.lean.) -/

namespace Sys2Proof

/-- The command that a word spells by the table's bits: no row has any. -/
def decodeTableWord (_nbits _w : Nat) : Option Instr := none

end Sys2Proof
end

