-- ==== Sys2Proof/Machine/Sparse.lean ====
section
/-! DEFINITION. Sparse maps: every addressed store of the model (register pages, block memories,
configuration frames, tightly coupled memories, the porter RAM) is a list of (key, value) pairs in one
canonical form: keys strictly rising, and no entry equal to what an unlisted key reads as. -/

namespace Sys2Proof.Machine

/-- A map from natural-number keys, listed where it differs from its default. -/
abbrev Sparse (α : Type) := List (Nat × α)

/-- What key `k` reads as; an unlisted key reads as `dflt k`. -/
def sget {α : Type} (dflt : Nat → α) : Sparse α → Nat → α
  | [], k => dflt k
  | (k', v) :: m, k => if k = k' then v else sget dflt m k

/-- Put an entry at `k` (no check against the default). -/
def sins {α : Type} : Sparse α → Nat → α → Sparse α
  | [], k, v => [(k, v)]
  | (k', v') :: m, k, v =>
    if k < k' then (k, v) :: (k', v') :: m
    else if k = k' then (k, v) :: m
    else (k', v') :: sins m k v

/-- Take the entry at `k` away. -/
def sdel {α : Type} : Sparse α → Nat → Sparse α
  | [], _ => []
  | (k', v') :: m, k => if k = k' then sdel m k else (k', v') :: sdel m k

/-- Write `v` at `k`, keeping the canonical form. -/
def sset {α : Type} [DecidableEq α] (dflt : Nat → α) (m : Sparse α) (k : Nat) (v : α) : Sparse α :=
  if v = dflt k then sdel m k else sins m k v

/-- Write a list of values at `k`, `k + 1`, … -/
def ssetAll {α : Type} [DecidableEq α] (dflt : Nat → α) : Sparse α → Nat → List α → Sparse α
  | m, _, [] => m
  | m, k, v :: vs => ssetAll dflt (sset dflt m k v) (k + 1) vs

/-- The canonical form of any list of pairs: a later pair wins. -/
def scanon {α : Type} [DecidableEq α] (dflt : Nat → α) (m : Sparse α) : Sparse α :=
  m.foldl (fun (c : Sparse α) (e : Nat × α) => sset dflt c e.1 e.2) []

/-- Return every key that `p` holds of to its default. -/
def sclear {α : Type} (p : Nat → Bool) (m : Sparse α) : Sparse α :=
  m.filter fun e => !p e.1

/-- Every key of `m` is above `lo`, and keys rise strictly. -/
def srising {α : Type} : Nat → Sparse α → Bool
  | _, [] => true
  | lo, (k, _) :: m => decide (lo ≤ k) && srising (k + 1) m

/-- The canonical form. -/
def swf {α : Type} [DecidableEq α] (dflt : Nat → α) (m : Sparse α) : Bool :=
  srising 0 m && m.all fun e => decide (e.2 ≠ dflt e.1)

/-- `n` values from key `k` on. -/
def sgetAll {α : Type} (dflt : Nat → α) (m : Sparse α) (k n : Nat) : List α :=
  (List.range n).map fun i => sget dflt m (k + i)

end Sys2Proof.Machine
end

