-- ==== Sys2Proof/Machine/State.lean ====
section
/-! DEFINITION. The state of the AEL7144 as plain data: the registers of every page, and everything behind them
that the manual gives the device. Registers that only show other state (a count of a queue, a pending group) are
computed when read (Machine/Operands.lean, Machine/Pages.lean) and have no second home here. -/

namespace Sys2Proof.Machine

open Sys2Proof

/-! ### Fabric: bay settings, hinges, stiles, sidebands -/

/-- A claim of a jamb bump by a bay: its output value and output enable come from two outbound sidebands, its input
goes to an inbound one (R70). -/
structure JambClaim where
  bump : Nat
  outSb : Nat
  oeSb : Nat
  inSb : Nat
  deriving DecidableEq, Repr

/-- The functions of a cell's LUT: one of the six inputs, by its table; or W and N of L0 to L4 (R50). -/
inductive Lut where
  | six (w : BitVec 64)
  | two (w n : BitVec 32)
  deriving DecidableEq, Repr

/-- What a cell is configured as; RAM and shift register, with their initial contents, only in an M pane (R53, R54). -/
inductive CellMode where
  | logic
  | ram (init : BitVec 64)
  | shift (init : BitVec 32)
  deriving DecidableEq, Repr

/-- D input of flip-flop FB (R50). -/
inductive FbSource where
  | n | sum | pass
  deriving DecidableEq, Repr

/-- Where a cell's CI comes from: the cell below, or, for a chain's first cell, a configured constant or routing (R50, R52). -/
inductive CarrySource where
  | below
  | const (b : Bool)
  | routing
  deriving DecidableEq, Repr

/-- The settings of one logic cell (R50). -/
structure CellCfg where
  mode : CellMode
  lut : Lut
  /-- FA takes the cell pass input PA, not W. -/
  passA : Bool
  fb : FbSource
  /-- The value that set/reset gives FA and FB. -/
  srA : Bool
  srB : Bool
  initA : Bool
  initB : Bool
  /-- The cell uses the second of its pane's two clocks. -/
  second : Bool
  carry : CarrySource
  deriving DecidableEq, Repr

/-- A cell whose frames set nothing. -/
def CellCfg.empty : CellCfg :=
  { mode := .logic, lut := .two 0 0, passA := false, fb := .n, srA := false, srB := false, initA := false, initB := false
    second := false, carry := .below }

/-- The settings a physical bay's frames put in force: selected clocks, cells, hinge, stile and sideband connections, jamb
claims, shutter values (R50 to R54, R60, R65, R67, R69, R70, R71, R141, R146). -/
structure BayCfg where
  /-- The global clocks that the clock frames select; a bay has room for 24 (R60). -/
  selected : List Nat
  portClk : Nat
  hingeClk : Nat
  /-- The cells that are set, by (logical column times 96 plus pane) times 32 plus cell: each above the last in its column. -/
  cells : Sparse CellCfg
  /-- The two global clocks that a pane selects, by logical column times 96 plus pane. -/
  panes : Sparse (Nat × Nat)
  /-- The capture map that comes with the design (R73). -/
  map : Nat
  /-- Destination (logical bay, channel) of each outbound hinge channel. -/
  hingeOut : List (Option (Nat × Nat))
  /-- Source of each inbound hinge channel. -/
  hingeIn : List (Option (Nat × Nat))
  stileOut : List (Option (Nat × Nat))
  stileIn : List (Option (Nat × Nat))
  /-- The inbound sidebands (logical bay, sideband) that each outbound sideband feeds (R67). -/
  sbTo : List (List (Nat × Nat))
  /-- Shutter value of each outbound sideband, and of an inbound one without a source (R67, R77). -/
  sbShutterOut : BitVec 32
  sbShutterIn : BitVec 32
  jambs : List JambClaim
  /-- Driven shutter states of claimed bumps: bump and value (R71). -/
  jambShutter : List (Nat × Bool)
  drowsyCapable : Bool
  deriving DecidableEq, Repr, Inhabited

/-- A bay whose frames set nothing. -/
def BayCfg.empty : BayCfg :=
  { selected := [], portClk := 0, hingeClk := 0, cells := [], panes := [], map := 0, hingeOut := [], hingeIn := [], stileOut := []
    stileIn := [], sbTo := [], sbShutterOut := 0, sbShutterIn := 0, jambs := [], jambShutter := [], drowsyCapable := false }

/-- Bit g: global clock g is one of the at most 24 that the bay selects (R60). -/
def BayCfg.clocks (c : BayCfg) : BitVec 32 :=
  (c.selected.take 24).foldl (fun (m : BitVec 32) (g : Nat) => m ||| BitVec.ofNat 32 (2 ^ (g % 32))) 0

/-- The cells that are set: RAM and shift register only in the M panes of odd logical columns (R53). -/
def BayCfg.cellList (c : BayCfg) : Sparse CellCfg :=
  (c.cells.filter fun e => decide (e.1 < 196608)).map fun e =>
    if e.1 / 3072 % 2 = 0 then (e.1, { e.2 with mode := .logic }) else e

/-- The M panes, by logical column times 96 plus pane, with a cell in RAM or shift-register mode (R73). -/
def BayCfg.ramPanes (c : BayCfg) : List Nat :=
  ((c.cellList.filter fun e => e.2.mode != .logic).map fun e => e.1 / 32).eraseDups

/-- The inbound end of a hinge or stile channel: words buffered, and words in the transom or stile (R66, R69). -/
structure Channel where
  buf : List (BitVec 70)
  flight : List (BitVec 70)
  deriving DecidableEq, Repr

def Channel.empty : Channel := { buf := [], flight := [] }

/-! ### Block memory -/

/-- The shapes of a port (R83). -/
inductive Shape where
  | w1 | w2 | w4 | w9 | w18 | w36 | w72
  deriving DecidableEq, Repr, Inhabited

/-- R88. -/
inductive WriteMode where
  | prior | through | keep
  deriving DecidableEq, Repr, Inhabited

/-- Settings of one port (R87). -/
structure PortCfg where
  shape : Shape
  clk : Nat
  mode : WriteMode
  outReg : Bool
  outReset : BitVec 72
  agBind : Bool
  deriving DecidableEq, Repr, Inhabited

/-- Settings of one block memory (R87). -/
structure BramCfg where
  a : PortCfg
  b : PortCfg
  parityEn : Bool
  eccEn : Bool
  writeAllowed : Bool
  /-- Position in a cascade, the bottom member being 0 (R92). -/
  cascade : Option Nat
  deriving DecidableEq, Repr, Inhabited

def PortCfg.empty : PortCfg :=
  { shape := .w1, clk := 0, mode := .prior, outReg := false, outReset := 0, agBind := false }

def BramCfg.empty : BramCfg :=
  { a := PortCfg.empty, b := PortCfg.empty, parityEn := false, eccEn := false, writeAllowed := false, cascade := none }

/-- A word at a port with its error flags (R98). -/
structure PortWord where
  word : BitVec 72
  fix : Bool
  bad : Bool
  deriving DecidableEq, Repr

def PortWord.zero : PortWord := { word := 0, fix := false, bad := false }

/-- Output latch and output register of a port, and the two further stages that a cascade puts behind them (R90). -/
structure PortOut where
  latch : PortWord
  reg : PortWord
  casc1 : PortWord
  casc2 : PortWord
  deriving DecidableEq, Repr

def PortOut.zero : PortOut := { latch := PortWord.zero, reg := PortWord.zero, casc1 := PortWord.zero, casc2 := PortWord.zero }

/-! ### Arithmetic slices -/

/-- Source of an operand (R108). -/
inductive OpSrc where
  | fabric | memA | memB
  deriving DecidableEq, Repr, Inhabited

inductive PreMode where
  | bypass | sat | half
  deriving DecidableEq, Repr, Inhabited

inductive NormMode where
  | off | self | fabric | bexp
  deriving DecidableEq, Repr, Inhabited

inductive RndMode where
  | trunc | halfUp | convergent
  deriving DecidableEq, Repr, Inhabited

inductive SatMode where
  | off | s32 | s40
  deriving DecidableEq, Repr, Inhabited

inductive ReportMode where
  | off | fabric | always
  deriving DecidableEq, Repr, Inhabited

inductive TagSel where
  | bexp | expOut | ecum | shift
  deriving DecidableEq, Repr, Inhabited

inductive AgMode where
  | linear | circular | bitrev
  deriving DecidableEq, Repr, Inhabited

/-- Settings of an address generator (R118, R119). -/
structure AgCfg where
  mode : AgMode
  base : Nat
  length : Nat
  step : Int
  initIndex : Nat
  deriving DecidableEq, Repr, Inhabited

def AgCfg.empty : AgCfg := { mode := .linear, base := 0, length := 1, step := 0, initIndex := 0 }

/-- Settings of a slice, and of its column where it is the slice at position 0 (R126). -/
structure SliceCfg where
  colClk : Nat
  headroom : Nat
  /-- The slice whose AG0 WRAP gives the event; none: the column's fabric input (R121). -/
  startSrc : Option Nat
  endSrc : Option Nat
  srcA : OpSrc
  srcB : OpSrc
  srcD : OpSrc
  halfA : Bool
  halfB : Bool
  halfD : Bool
  aSigned : Bool
  bSigned : Bool
  shiftA : Bool
  shiftB : Bool
  shiftD : Bool
  /-- IN_RND = HALF_UP. -/
  inRndUp : Bool
  preMode : PreMode
  /-- A constant, or none for the fabric input. -/
  preSub : Option Bool
  frac : Bool
  /-- A constant code of R112, or none for the fabric input. -/
  opmode : Option (Fin 8)
  accSat : Bool
  norm : NormMode
  rnd : RndMode
  rndPos : Nat
  sat : SatMode
  oshift : Nat
  /-- 16, 32 or 40. -/
  outW : Nat
  memWr : Bool
  report : ReportMode
  tagSel : TagSel
  ag0 : AgCfg
  ag1 : AgCfg
  deriving DecidableEq, Repr, Inhabited

def SliceCfg.empty : SliceCfg :=
  { colClk := 0, headroom := 0, startSrc := none, endSrc := none, srcA := .fabric, srcB := .fabric, srcD := .fabric
    halfA := false, halfB := false, halfD := false, aSigned := false, bSigned := false, shiftA := false
    shiftB := false, shiftD := false, inRndUp := false, preMode := .bypass, preSub := some false, frac := false
    opmode := none, accSat := false, norm := .off, rnd := .trunc, rndPos := 0, sat := .off, oshift := 0, outW := 40
    memWr := false, report := .off, tagSel := .bexp, ag0 := AgCfg.empty, ag1 := AgCfg.empty }

/-- The registers of a slice (R131). OVF is in SLICE_OVF, BEXP, OPEN, MIN and ECUM in COL_STATE. -/
structure SliceSt where
  /-- The block exponent the slice has loaded: COL_STATE.BEXP reaches it at its next edge (R107, R124). -/
  bexp : Nat
  a : BitVec 16
  b : BitVec 16
  d : BitVec 16
  ad : BitVec 16
  preB : BitVec 16
  prod : BitVec 32
  acc : BitVec 40
  /-- What the accumulator held before the slice's last edge: CIN of the slice above while it has still to make that edge (R107). -/
  accWas : BitVec 40
  p : BitVec 40
  expOut : Nat
  /-- A report made at the last edge and not yet taken into the column's minimum. -/
  report : Bool
  idx0 : Nat
  idx1 : Nat
  wrap0 : Bool
  wrap1 : Bool
  deriving DecidableEq, Repr

def SliceSt.zero : SliceSt :=
  { bexp := 0, a := 0, b := 0, d := 0, ad := 0, preB := 0, prod := 0, acc := 0, accWas := 0, p := 0, expOut := 0, report := false, idx0 := 0
    idx1 := 0, wrap0 := false, wrap1 := false }

/-! ### Capture -/

/-- What the shadow latches of a bay hold (R72): a copy of its state at the capture edge. -/
structure Shadow where
  /-- The capture map of the design then in the bay (R73). -/
  map : Nat
  /-- The capture's own number: free values of it stand for bits that the map does not name. -/
  stamp : Nat
  /-- User flip-flops, slices, port outputs and M-pane cells, by their numbers in the bay. -/
  ffs : Sparse Bool
  slices : Sparse SliceSt
  /-- SLICE_OVF and COL_STATE of the four columns. -/
  ovf : List Word
  cols : List Word
  bramOut : Sparse PortOut
  /-- Inbound buffers and outbound registers of the channels. -/
  hinges : List (List (BitVec 70))
  hingeOut : List (BitVec 70)
  stiles : List (List (BitVec 70))
  stileOut : List (BitVec 70)
  sbIn : Word
  sbOut : Word
  mram : Sparse (BitVec 64)
  deriving DecidableEq, Repr

/-- An element of the capture image, by what it is and its number (R72): what a capture map names. -/
inductive CaptureBit where
  | ff (i : Nat)
  /-- Bit `b` of the 256 of slice `s`, in the order of R131, input register A lowest. -/
  | slice (s b : Nat)
  /-- Bit `b` of the output latch of port `p` (0 A, 1 B) of memory `m`. -/
  | latch (m p b : Nat)
  | hingeBuf (ch word b : Nat)
  | hingeOut (ch b : Nat)
  | stileBuf (ch word b : Nat)
  | stileOut (ch b : Nat)
  | sbIn (i : Nat)
  | sbOut (i : Nat)
  /-- Bit `b` of the contents of an M-pane cell. -/
  | cell (c b : Nat)
  deriving DecidableEq, Repr

/-! ### Packets in flight -/

/-- An edge of the mesh (R182, R184). -/
inductive Edge where
  | bay (n : Nat)
  | link (l : Nat)
  | mgmt | core | host
  deriving DecidableEq, Repr

/-- A packet on its way from the edge where it entered to the edge it was routed to (R182). -/
structure Flight where
  /-- What tells it from every other packet in the mesh. -/
  id : Nat
  src : Edge
  /-- The initiator or target behind the edge, which makes flows of its own (R171). -/
  ini : Nat
  dst : Edge
  /-- The plane it is on: the one the flow hash chose, or the other after its one crossing (R184, R189). -/
  plane : Bool
  crossed : Bool
  /-- Column, row and input of the router whose buffer holds it, and of the stage behind, which keeps a copy (R187, R188); none: it
  waits at its edge. Inputs are 0 east, 1 west, 2 south, 3 north, 4 the bay or node port, 5 the crossing, 6 to 8 the links. -/
  here : Option (Nat × Nat × Nat)
  behind : Option (Nat × Nat × Nat)
  /-- The router of the destination edge, as the steering table named it when the packet entered (R182, R200). -/
  goal : Nat × Nat
  /-- When its head came to stand where it is, in moves of the mesh (R193). -/
  since : Nat
  rank : Nat
  /-- Its flits still stand in the receive buffer of the link it came over (R240). -/
  buffered : Bool
  pkt : Packet
  deriving DecidableEq, Repr

/-- An arbiter (R193): the requester that holds the grant, the packets this grant has carried, the requester served last, and the
grants given. -/
structure Arb where
  holder : Option Nat
  burst : Nat
  last : Nat
  grants : Nat
  deriving DecidableEq, Repr, Inhabited

/-- An arbiter that has granted nothing yet. -/
def Arb.fresh : Arb := { holder := none, burst := 0, last := 0, grants := 0 }

/-! ### Links -/

/-- The kinds of flits (R229). -/
inductive FlitKind where
  | sole | head | mid | tail | ctrl
  deriving DecidableEq, Repr

/-- A sequenced flit held for acknowledgement (R237). -/
structure Held where
  seq : BitVec 64
  kind : FlitKind
  body : BitVec 512
  deriving DecidableEq, Repr

/-- A packet waiting at a link egress: its arrival stamp, the rank it is arbitrated with and the input of the port router that holds
it, 10 times the plane plus the router's input, or 9 for the engine's own (R176, R187, R193). -/
structure Queued where
  stamp : Nat
  rank : Nat
  input : Nat
  pkt : Packet
  deriving DecidableEq, Repr

/-- A packet delivered before its tag was checked: what a VERIFY marker names it by (R274, R275). -/
structure Spec where
  src : BitVec 10
  dst : BitVec 10
  tag : BitVec 12
  /-- Its RSP_DATA arrived with V = 1, so the engine owes it a marker. -/
  owed : Bool
  /-- The edge it was delivered to (R275). -/
  edge : Edge
  deriving DecidableEq, Repr

/-- A posted write into a window that the partner has not acknowledged yet (R262): its lines, the packet, and, once it has been sent,
the number of its last flit. -/
structure Posted where
  window : Nat
  line : Nat
  lines : Nat
  pkt : Packet
  seq : Option (BitVec 64)
  deriving DecidableEq, Repr

/-- One link behind its registers (R206 to R253, R272 to R275). -/
structure LinkSt where
  /-- Packets waiting for egress, oldest first, and the stamp of the next. -/
  txq : List Queued
  stamp : Nat
  /-- Flits of the packet under way that are still to be sent. -/
  cur : List (FlitKind × BitVec 512)
  /-- The arbiter of the egress (R193). -/
  arb : Arb
  txSeq : BitVec 64
  retry : List Held
  /-- The next entry of the retry buffer to send again (R237). -/
  replayAt : Option Nat
  replayRow : Nat
  retrainRow : Nat
  expect : BitVec 64
  count : BitVec 64
  wait : Bool
  /-- Per class: credits held, credits freed since bring-up, those of them that a LINK flit has given, the partner's last CRD, flits
  in the receive buffer. -/
  credits : List Nat
  freed : List Nat
  given : List Nat
  prevCrd : List Nat
  rxUsed : List Nat
  rxOpen : Option (List (BitVec 512))
  /-- Flits are discarded up to the next HEAD or SOLE; the class of the packet they belong to (R232). -/
  rxSkip : Option Nat
  /-- Flit slots since the last LINK flit (R234). -/
  sinceLink : Nat
  oweNak : Bool
  oweReplay : Bool
  /-- A PM code to send, 0 none; SLEEP_REQ goes with every LINK flit until it is answered, and `pmSent` says that it has gone out
  (R233, R247). -/
  owePm : Nat
  pmSent : Bool
  oweDone : Nat
  oweRetrain : Nat
  oweCswap : Bool
  /-- The lane this side's receiver asks the partner to move to DS (R250). -/
  swapReq : Option Nat
  /-- The lane whose marker this side's transmitter must send (R223). -/
  marker : Option Nat
  /-- The first good HELLO of the partner, and HELLOs sent with PEER_SEEN (R242). -/
  peer : Option (BitVec 512)
  seenSent : Nat
  /-- The training under way ends without HELLO (R238, R248). -/
  noHello : Bool
  trainSent : Nat
  /-- The HELLO this side sends, but for CHOSEN, PEER_SEEN and NEXT_SEQ, as it stood when HELLO began (R242, R253, R256). -/
  ownHello : BitVec 512
  /-- The partner's accepted receiver report, and the values that two aligned lanes carried in the last training flit (R209). -/
  report : BitVec 12
  reportsSeen : List (BitVec 12)
  /-- Lanes that aligned at the last DLL lock (R217). -/
  alignedLanes : BitVec 5
  /-- A clock swap of the transmitter, of the receiver, is under way (R224). -/
  clkSwapTx : Bool
  clkSwapRx : Bool
  /-- UIs sent, modulo 4: where the forwarded clock stands (R211). -/
  ui : Nat
  /-- This side's receiver cannot train (R217). -/
  cannot : Bool
  sleepWanted : Bool
  sleepSent : Bool
  /-- A SLEEP_REQ was answered SLEEP_NAK and is repeated (R247). -/
  sleepRepeat : Bool
  sleepAfterAbort : Bool
  /-- The partner's HELLO allows ACTIVE (R242). -/
  peerReady : Bool
  /-- Scrambler and precoder state of the transmit lanes D0 to D3 and DS (R207, R208). -/
  scramble : List (BitVec 23)
  precode : List Nat
  /-- Requests that went out and await a response, and requests taken in and not answered (R198): SRC and TAG. -/
  outReqs : List (BitVec 10 × BitVec 12)
  inReqs : List (BitVec 10 × BitVec 12)
  /-- LINK mode: flits covered by the next TAG flit (sequence number, body), slots since the first (R273). -/
  txCover : List (BitVec 64 × BitVec 512)
  txCoverAge : Nat
  rxCover : List (BitVec 64 × BitVec 512)
  /-- Packets held for their TAG flit, and packets delivered before it (R274). -/
  rxHeld : List Packet
  specs : List Spec
  /-- Posted writes of curtained lines that the partner has not acknowledged (R262). -/
  posts : List Posted
  /-- Sequenced flits accepted while the engine stands still (R281). -/
  stalled : List (FlitKind × BitVec 64 × BitVec 512)
  deriving DecidableEq, Repr

/-- A link after device reset. -/
def LinkSt.fresh : LinkSt :=
  { txq := [], stamp := 0, cur := [], arb := Arb.fresh, txSeq := 0, retry := []
    replayAt := none, replayRow := 0, retrainRow := 0, expect := 0, count := 0, wait := false, credits := [0, 0, 0, 0]
    freed := [0, 0, 0, 0], given := [0, 0, 0, 0], prevCrd := [0, 0, 0, 0], rxUsed := [0, 0, 0, 0], rxOpen := none
    rxSkip := none, sinceLink := 0, oweNak := false, oweReplay := false, owePm := 0, pmSent := false, oweDone := 0
    oweRetrain := 0, oweCswap := false, swapReq := none, marker := none, peer := none, seenSent := 0, noHello := false
    trainSent := 0, ownHello := 0, report := 0, reportsSeen := [], alignedLanes := 0, clkSwapTx := false, clkSwapRx := false
    ui := 0, cannot := false, sleepWanted := false, sleepSent := false, sleepRepeat := false
    sleepAfterAbort := false, peerReady := false
    scramble := [0, 0, 0, 0, 0], precode := [0, 0, 0, 0, 0], outReqs := [], inReqs := [], txCover := [], txCoverAge := 0
    rxCover := [], rxHeld := [], specs := [], posts := [], stalled := [] }

/-! ### The curtain -/

/-- A cached counter block (R258, R271). -/
structure CtrBlock where
  major : BitVec 64
  minors : List (BitVec 7)
  dirty : Bool
  /-- Its write-back is under way; it leaves the cache with it. -/
  saving : Bool
  leaving : Bool
  deriving DecidableEq, Repr

/-- A cached line of eight tags. -/
structure TagLine where
  bytes : List Nat
  dirty : Bool
  saving : Bool
  leaving : Bool
  deriving DecidableEq, Repr

/-- A request at an engine: where it entered, behind which initiator, its rank, the input of the port router it came by, the
packet. -/
structure Entering where
  edge : Edge
  ini : Nat
  rank : Nat
  input : Nat
  pkt : Packet
  deriving DecidableEq, Repr

/-- A window read under way at the partner (R263). -/
structure WinRead where
  src : BitVec 10
  tag : BitVec 12
  window : Nat
  /-- First line (local address div 64) and number of lines. -/
  line : Nat
  lines : Nat
  deriving DecidableEq, Repr

/-- A tag check under way: the marker's names, and each line (window, line number) with its result. -/
structure TagCheck where
  src : BitVec 10
  dst : BitVec 10
  tag : BitVec 12
  edge : Edge
  results : List (Nat × Nat × Bool)
  deriving DecidableEq, Repr

/-- What an engine's own request is for (R262). -/
inductive CurJob where
  /-- Counter block of a window's page, or tag line. -/
  | counter (w page : Nat)
  | tags (w line : Nat)
  /-- The write-back of a counter block, of a tag line, by its key in the cache (R271). -/
  | saveCtr (key : Nat)
  | saveTag (key : Nat)
  | rmwRead (line : Nat)
  | rmwWrite
  /-- A line of the page under re-encryption read, or written back (R265). -/
  | reencRead (line : Nat)
  | reencWrite (line : Nat)
  deriving DecidableEq, Repr

/-- A partial write under way (R266). -/
structure Rmw where
  req : Entering
  window : Nat
  line : Nat
  lines : Nat
  /-- Lines read so far, with their bytes. -/
  got : List (Nat × List Nat)
  /-- Responses still awaited, and the first status other than OK. -/
  left : Nat
  status : Nat
  /-- The merged lines have been sent. -/
  writing : Bool
  deriving DecidableEq, Repr

/-- A page re-encryption under way (R265, R277). -/
structure Reenc where
  window : Nat
  page : Nat
  /-- The write that started it, and whether the engine itself performs it (R266, R283); none: a sweep did. -/
  trigger : Option (Entering × Bool)
  /-- Lines read so far, with their bytes; none: the read ended in an error. -/
  got : List (Nat × Option (List Nat))
  /-- Lines of which the answer is still awaited. -/
  left : List Nat
  /-- The lines are under the new counter; those that the partner has not acknowledged yet. -/
  writing : Bool
  writes : List (Nat × List Nat)
  deriving DecidableEq, Repr

/-- What the curtain keeps for one link (R254 to R284). -/
structure CurSt where
  key0 : Option (BitVec 256)
  key1 : Option (BitVec 256)
  /-- Counter blocks by window times 2^28 plus page; tag lines by window times 2^31 plus tag line. -/
  ctrs : Sparse (Option CtrBlock)
  tags : Sparse (Option TagLine)
  /-- Quarantined lines by table index: window and line number. -/
  quar : Sparse (Option (Nat × Nat))
  /-- Requests that wait, oldest first. -/
  waiting : List Entering
  reads : List WinRead
  /-- Fetched blocks that have arrived: what for, and the bytes (none: an error or a TIMEOUT). -/
  fetched : List (CurJob × Option (List Nat))
  /-- Fetches under way. -/
  fetching : List CurJob
  /-- Requests of the engine itself that wait for a tag. -/
  issueq : List (CurJob × Packet)
  /-- Lines to poison once their counter block is in the cache. -/
  poisonq : List (Nat × Nat)
  /-- Responses that wait for a counter block or tags. -/
  arrived : List Packet
  checks : List TagCheck
  reenc : Option Reenc
  rmw : Option Rmw
  /-- Window under initialisation (R260). -/
  init : Option Nat
  /-- The engine has stopped and its spare is not attached yet (R281). -/
  stopped : Bool
  /-- The sweep has passed the last page (R277). -/
  swept : Bool
  deriving DecidableEq, Repr

def CurSt.fresh : CurSt :=
  { key0 := none, key1 := none, ctrs := [], tags := [], quar := [], waiting := [], reads := [], fetched := []
    fetching := [], issueq := [], poisonq := [], arrived := [], checks := [], reenc := none, rmw := none, init := none
    stopped := false, swept := false }

/-! ### Requests outstanding (R164) -/

/-- Who waits for a response, and what it does with it. -/
inductive Cont where
  /-- A design: the response is handed to it. -/
  | design (bay : Nat)
  /-- A curtain engine's own traffic. -/
  | curtain (n : Nat) (job : CurJob)
  /-- A configuration engine's write for a readback, or a forwarded word to peer `i` (R305, R316). -/
  | readback
  | forward (i : Nat)
  /-- The activity it was for has ended. -/
  | stale
  /-- Packet `i` of a window access; a packet of a channel's descriptor (R384, R390). -/
  | window (id i : Nat)
  | channel (c idx off : Nat)
  /-- A request of the warden cores for the service of mailbox `n`, at byte `off` of what it reads or writes (R369). -/
  | warden (n off : Nat)
  /-- A core's load or atomic, its WR_NP store through an aperture; an access of the debugger's MEM port (R405, R438). -/
  | core (c : Nat)
  | coreStore (c ap : Nat) (addr : Word)
  | debugMem
  deriving DecidableEq, Repr

/-- R164, R170: outstanding; holding unverified data until its marker; kept out of use after a TIMEOUT. -/
inductive ReqPhase where
  | active
  | marker (data : List Byte)
  | quarantined
  deriving DecidableEq, Repr

/-- An outstanding non-posted request of this device. -/
structure Req where
  dst : BitVec 10
  op : BitVec 6
  laddr : BitVec 54
  len : BitVec 8
  phase : ReqPhase
  cont : Cont
  deriving DecidableEq, Repr

/-- A request taken in by a bay and not yet answered by its design (R198). -/
structure Accepted where
  bay : Nat
  src : BitVec 10
  tag : BitVec 12
  deriving DecidableEq, Repr

/-! ### Requests to host memory (R375) -/

/-- What a read of host memory is for. -/
inductive HostUse where
  /-- A piece of a PULL load: its offset (R311). -/
  | pull (off : Nat)
  /-- What it was for has ended. -/
  | dropped
  /-- A request to the HOST node, and the edge it entered at (R389). -/
  | fabric (e : Edge) (p : Packet)
  /-- A descriptor of a channel, or data of one, by descriptor index and offset (R390, R392). -/
  | descriptor (c idx : Nat)
  | dmaData (c idx off : Nat)
  deriving DecidableEq, Repr

/-! ### Windows and channels (R383 to R394) -/

/-- One packet of a window access, or of a descriptor: where it goes, how many bytes, its data when written. -/
structure Piece where
  addr : Nat
  len : Nat
  data : List Byte
  /-- 0 waits, 1 reads host memory, 2 has its data, 3 sent, 4 ended with `status`. -/
  phase : Nat
  status : Nat
  deriving DecidableEq, Repr

/-- A host access to a window (R384): `read` is the host's tag, none for a write. -/
structure WinOp where
  id : Nat
  read : Option Nat
  owner : Nat
  window : Nat
  /-- ORD, PRIO and CH of the window when the access was translated, as bits 0, 2:1 and 3 (R383). -/
  attr : Nat
  pieces : List Piece
  deriving DecidableEq, Repr

/-- A descriptor a channel has fetched or is fetching (R392). -/
structure Descriptor where
  idx : Nat
  bytes : Option (List Byte)
  /-- Fetched and begun. -/
  begun : Bool
  /-- First byte not yet cut into pieces. -/
  next : Nat
  pieces : List (Nat × Piece)
  /-- CODE, once it is not OK. -/
  code : Nat
  deriving DecidableEq, Repr

/-- A DMA channel behind its registers (R390 to R394). -/
structure ChanSt where
  descs : List Descriptor
  stopping : Bool
  deriving DecidableEq, Repr

def ChanSt.fresh : ChanSt := { descs := [], stopping := false }

/-- A Non-Posted Request of this device that awaits its completion. -/
structure HostReq where
  fn : PcieFn
  addr : Nat
  len : Nat
  use : HostUse
  deriving DecidableEq, Repr

/-! ### Loading (R288 to R336) -/

/-- The HEADER fields a load works with (R291). -/
structure StreamHdr where
  minStepping : Nat
  /-- 0 PLAIN, 1 GENERAL, 2 SEALED. -/
  cls : Nat
  absolute : Bool
  /-- 0 FULL, 1 PARTIAL, 2 READBACK. -/
  kind : Nat
  slot : Nat
  segLog2 : Nat
  nonce : List Byte
  bodyBytes : Nat
  frames : Nat
  wraps : Nat
  broadcast : Bool
  deriving DecidableEq, Repr

/-- Where the load sequencer stands. -/
inductive LoadPhase where
  | idle | sync | header | broadcast | wraps | body
  /-- The start-up steps that follow the one in progress. -/
  | steps (rest : List Nat)
  deriving DecidableEq, Repr, Inhabited

/-- A peer of a broadcast: its link and NODE_MGMT, and bytes that wait to be forwarded (R299, R316). -/
structure Peer where
  link : Nat
  node : BitVec 10
  bytes : List Byte
  stopped : Bool
  deriving DecidableEq, Repr

/-- The load sequencer and its source (R309 to R328). -/
structure LoadSt where
  phase : LoadPhase
  /-- Source of the load: 1 PUSH, 2 PULL, 3 FLASH, 4 FORWARD. -/
  src : Nat
  /-- LOAD_STATUS.STATE at GO (R498). -/
  before : Nat
  /-- Bytes delivered and not yet consumed. -/
  buf : List Byte
  /-- Bytes asked of host memory (PULL), and bytes delivered. -/
  asked : Nat
  delivered : Nat
  /-- Offset the SYNC search has reached (R290). -/
  offset : Nat
  /-- The prologue so far, from SYNC on, and the HEADER record (R292). -/
  prologue : List Byte
  head : List Byte
  hdr : Option StreamHdr
  wraps : List (List Byte)
  peers : List Peer
  /-- A broadcast without SELF: the lead forwards and loads nothing itself (R299). -/
  relay : Bool
  key : Option (BitVec 256)
  nextKey : Option (BitVec 256)
  keyUsed : Nat
  seg : Nat
  /-- End, in body bytes, of the segment that holds the last KEY_ROLL (R295). -/
  rollEnd : Nat
  /-- Verified body bytes not yet taken, body bytes taken by records, body bytes verified. -/
  body : List Byte
  used : Nat
  verified : Nat
  /-- Physical bays of the window once WINDOW has taken effect (R330). -/
  window : Option (List Nat)
  /-- A record that is not PAD nor skippable has been taken (R298). -/
  started : Bool
  order : Option Nat
  addr : Option Nat
  last : Option (List DWord × DWord)
  /-- Frames still to come of the FRAME_DATA record under way, and its ESS_MODE. -/
  framesLeft : Nat
  essMode : Nat
  /-- Frames still to be repeated, or read back: count, next address, destination, TRAILER. -/
  repeatLeft : Nat
  readLeft : Nat
  readAddr : Option Nat
  readDest : Nat
  trailer : Bool
  /-- Readback writes that wait for a tag: global address and bytes; and those not yet answered (R305). -/
  writes : List (Nat × List Byte)
  writesOut : Nat
  crc : Nat
  frames : Nat
  /-- Physical bays written by this load. -/
  written : List Nat
  /-- No load has started since PERST_N was deasserted; the deadline binds the load (R318). -/
  first : Bool
  bound : Bool
  /-- Frames a golden call looks for in its stream, and those it holds until END (R346). -/
  watch : List Nat
  caught : List (Nat × List DWord × DWord)
  deriving DecidableEq, Repr, Inhabited

/-- No load: what device reset leaves (R309). -/
def LoadSt.fresh : LoadSt :=
  { phase := .idle, src := 0, before := 0, buf := [], asked := 0, delivered := 0, offset := 0, prologue := []
    head := [], hdr := none, wraps := [], peers := [], relay := false, key := none, nextKey := none
    keyUsed := 0, seg := 0, rollEnd := 0, body := [], used := 0, verified := 0, window := none, started := false
    order := none, addr := none, last := none, framesLeft := 0, essMode := 0, repeatLeft := 0
    readLeft := 0, readAddr := none, readDest := 0, trailer := false, writes := [], writesOut := 0
    crc := 0xFFFFFFFF, frames := 0, written := [], first := true, bound := false, watch := [], caught := [] }

/-! ### Repair (R350 to R374) -/

/-- What a self-test of a physical bay is for (R354). -/
inductive TestFor where
  /-- The prepare step, or the retire step, of the migration of a row (R359, R363). -/
  | prepare (row : Nat)
  | retire (row : Nat)
  /-- The SELF_TEST or the RETIRE service of mailbox `n`. -/
  | service (n : Nat) (resteer : Bool)
  | retireCall (n : Nat)
  /-- A spare that is due, or one that a cut has found wanting (R354, R364). -/
  | periodic
  deriving DecidableEq, Repr

/-- A migration behind MIG_STATE (R358 to R364). -/
structure MigSt where
  /-- The mailbox that waits for the response; none: warden policy. -/
  mbx : Option Nat
  /-- The request names a golden stream that has still to be judged; the frames it supplied, and RESP_DATA3 (R359). -/
  stream : Bool
  golden : List (Nat × List DWord × DWord)
  goldenStatus : Nat
  /-- The cut is due and waits for a capture; whether its image check will pass (R18, R361). -/
  due : Option Bool
  /-- The hold of the cut is under way, to the same question (R79, R361). -/
  holding : Option Bool
  /-- Frames of the clone that the frame write port has granted, and when the next one came to stand at the port (R315). -/
  cloned : Nat
  since : Nat
  deriving DecidableEq, Repr

/-- A response at MBX_RESP, with its data words (R369). -/
structure Response where
  word : Word
  data : List Word
  deriving DecidableEq, Repr

/-- The reads or writes of host memory that a service makes through the HOST node (R369). -/
structure WardenJob where
  write : Bool
  addr : Nat
  len : Nat
  /-- What is to be written. -/
  data : List Byte
  /-- Bytes requested so far, requests outstanding, and what reads have returned, by its place. -/
  asked : Nat
  out : Nat
  got : List (Nat × List Byte)
  /-- A request has ended other than with OK. -/
  bad : Bool
  deriving DecidableEq, Repr

/-- A mailbox behind its registers (R369): requests of 16 words. -/
structure Mailbox where
  queue : List (List Word)
  running : Option (List Word)
  job : Option WardenJob
  /-- The running request has been judged and waits for its end. -/
  started : Bool
  resps : List Response
  deriving DecidableEq, Repr

def Mailbox.empty : Mailbox := { queue := [], running := none, job := none, started := false, resps := [] }

/-- The repair record (R352): registers by management offset, detoured outputs, engines that have failed. -/
structure RepairRecord where
  regs : List (Nat × Word)
  detours : Sparse Bool
  engines : Sparse Nat
  deriving DecidableEq, Repr

/-! ### The porter (R420 to R432) -/

/-- The porter behind its registers. A task in a slot keeps its place in its ready list. -/
structure PorterSt where
  /-- Ready lists by level, heads first (R423, R425). -/
  ready : Sparse (List Nat)
  /-- The delay list, sorted by WAKE (R427). -/
  delay : List Nat
  /-- The task in each core's slot (R425). -/
  slots : Sparse (Option Nat)
  /-- Dispatches that each core's TAKEs have made. -/
  taken : Sparse Nat
  /-- When each slot last became empty, and the next such moment: which slot was empty longer (R425). -/
  since : Sparse Nat
  clock : Nat
  /-- The core's task was lost to a bad descriptor: its next TAKE sees NONE (R422). -/
  noneNext : Sparse Bool
  /-- The alert groups as last seen (R426). -/
  groups : Word
  /-- The internal ring, records discarded since it was full, records of the burst under way, records written to memory
  since STREAM was set (R429). -/
  ring : List DWord
  lost : Nat
  burst : List DWord
  wptr : Nat
  deriving DecidableEq, Repr, Inhabited

def PorterSt.fresh : PorterSt :=
  { ready := [], delay := [], slots := [], taken := [], since := [], clock := 0, noneNext := [], groups := 0, ring := []
    lost := 0, burst := [], wptr := 0 }

/-! ### Tenant cores (R399 to R419, R440 to R449) -/

/-- CORE_STATUS.STATE. -/
inductive CoreMode where
  | reset | running | wfi | waiting | halted | lockup
  deriving DecidableEq, Repr

/-- The loads (R401). -/
inductive LoadKind where
  | sb | ub | sh | uh | w
  deriving DecidableEq, Repr

/-- What a core waits for (R405, R406). -/
inductive CoreWait where
  | load (rd : Nat) (k : LoadKind) (addr : Word)
  | atomic (rd : Nat) (addr : Word)
  | fence
  /-- All 256 tags are in use: this instruction waits for one. -/
  | freeTag (insn : Word)
  deriving DecidableEq, Repr

/-- A tenant core. -/
structure CoreSt where
  mode : CoreMode
  pc : Word
  /-- w1 to w15 (R399); w0 is 0. -/
  regs : Sparse Word
  /-- The control registers that hold a value of their own, by number. -/
  crs : Sparse Word
  cycle : BitVec 64
  /-- The granule reserved: LDX address div 8 (R407). -/
  resv : Option Nat
  wait : Option CoreWait
  /-- The tag of the request that the wait is for. -/
  waitTag : Option Nat
  /-- The instruction waited for was fed (R442). -/
  fed : Bool
  /-- First failed WR_NP store since the last MFENCE: aperture, STATUS and local address (R406); local source STORE_FAIL. -/
  fail : Option (Nat × Nat × Word)
  /-- The local address of a wait that was abandoned: a bus error ABANDONED follows on resume (R415). -/
  abandoned : Option Word
  /-- The instruction that executes next does not match instruction comparators (R443, R446). -/
  quiet : Bool
  /-- A STEP is under way (R443). -/
  stepping : Bool
  /-- Comparators that acted on the latest instruction. -/
  acted : List Nat
  /-- The trace buffer, oldest first; recording; records still to come after a trigger (R447). -/
  trace : List DWord
  tracing : Bool
  post : Option Nat
  /-- The peephole: core to debugger, debugger to core (R449). -/
  peepTx : List Word
  peepRx : List Word
  deriving DecidableEq, Repr

/-- A core after sill power-on. -/
def CoreSt.fresh : CoreSt :=
  { mode := .reset, pc := 0, regs := [], crs := [], cycle := 0, resv := none, wait := none, waitTag := none, fed := false
    fail := none, abandoned := none, quiet := false, stepping := false, acted := [], trace := [], tracing := false
    post := none, peepTx := [], peepRx := [] }

/-! ### Modes and the test access port (R433 to R436, R452 to R465) -/

/-- Where a mode transition stands (R453, R456, R458, R459). -/
inductive ModeStep where
  /-- To DORMANT: the curtain caches are written back. -/
  | flush
  /-- Shutters close. -/
  | closing
  /-- To QUIESCED: the links go to SLEEP. -/
  | asleep
  /-- To DORMANT: the PCI Express link is to reach L1.2 or go down. -/
  | pcie
  /-- QUIESCED to SERVICE: the stopped sources lock. -/
  | locking
  deriving DecidableEq, Repr

/-- The test access port: the instruction, the boundary-scan and wrapper registers' update stages, and what their last
Capture-DR found; the bypass bit; the result of the last DBGACC. -/
structure TapSt where
  ir : Nat
  cells : List Bool
  seen : List Bool
  bypass : Bool
  status : Nat
  data : Word
  dwr : List Bool
  dwrSeen : List Bool
  /-- WIR, WBY and WBR by wrapper (R434). -/
  wir : Sparse Nat
  wby : Sparse Bool
  wbr : Sparse (List Bool)
  wbrSeen : Sparse (List Bool)
  deriving DecidableEq, Repr, Inhabited

/-- IDCODE is selected after TAP reset (R433). -/
def TapSt.fresh : TapSt :=
  { ir := 2, cells := [], seen := [], bypass := false, status := 0, data := 0, dwr := [], dwrSeen := [], wir := [], wby := []
    wbr := [], wbrSeen := [] }

/-! ### Effects that cross the device -/

/-- Why the manual calls what follows a command undefined (R7). -/
inductive Undefined where
  /-- A field was written with an encoding that its description marks reserved or does not list (R6). -/
  | reservedEncoding
  /-- The clocks break a ratio of R145 or R64. -/
  | clockRatio
  /-- The frames put settings of R127 into force. -/
  | illegalSettings
  deriving DecidableEq, Repr

/-- No command ends in a fault: what the manual calls undefined leads to a next state with a free device (R7, entry 60). -/
inductive Fault
  deriving DecidableEq, Repr

/-- What a command sets off elsewhere in the device within the same step; none is left when the step ends. -/
inductive Signal where
  /-- An uncovered fault: the device enters FAULT_HOLD with this code and argument (R460). -/
  | faultHold (code : Nat)
  /-- A device reset to DORMANT: 1 PERST_N, 2 a source failure (R453, R457). -/
  | dormant (cause : Nat)
  /-- The shutter of a physical bay closes with a drain limit of zero (R325, R199). -/
  | closeNow (pb : Nat)
  /-- A full start-up has completed: entry to SERVICE (R323). -/
  | service
  /-- A physical bay has become DEGRADED (R357). -/
  | degraded (pb : Nat)
  /-- The PCI Express link goes down with its clock (R148). -/
  | pcieDown
  /-- The frame write port has granted the migration of a row frame `i` of its clone (R315). -/
  | cloneFrame (row i : Nat)
  /-- What follows is undefined (R7). -/
  | undefined (u : Undefined)
  deriving DecidableEq, Repr

/-! ### What leaves the device -/

/-- Everything the device sends out, in order: the model's own record of its outputs. -/
inductive Out where
  /-- Levels shifted out of the test access port, first level first (R433 to R436). -/
  | tdo (bits : List Bool)
  /-- A packet handed to the design of logical bay `n` (R159, R181). -/
  | toDesign (n : Nat) (p : Packet)
  /-- The value a read of a register returned to its requester. -/
  | readData (off : Nat) (w : Word)
  /-- A register write that was not performed, to its requester: Completer Abort over PCI Express, SLAVE_ERROR for a packet (R20). -/
  | accessRefused (rq : Requester) (off : Nat)
  /-- A word that the design of logical bay `n` takes from its inbound hinge or stile channel (R66, R69). -/
  | hingeWord (n ch : Nat) (w : BitVec 70)
  | stileWord (n ch : Nat) (w : BitVec 70)
  /-- A flit a link sends: kind, body, check, and the levels of lanes D0 to D3, DS, C and CS; a parked lane shows none (R206 to R211,
  R228 to R230). -/
  | flit (l : Nat) (kind : FlitKind) (body : BitVec 512) (fcrc : BitVec 16) (lanes : List (List Int))
  /-- A training flit, TRAIN or TRAIN_END, with its receiver report (R209). -/
  | training (l : Nat) (last : Bool) (report : BitVec 12) (lanes : List (List Int))
  /-- A Memory Read of `len` bytes of host memory with tag `ht` (R311, R375). -/
  | hostRead (fn : PcieFn) (ht addr len : Nat)
  /-- A Memory Write to host memory (R389, R390). -/
  | hostWrite (fn : PcieFn) (addr : Nat) (bytes : List Byte)
  /-- An AtomicOp Request to host memory with tag `ht`: opcode and operands of the request it came from (R389). -/
  | hostAtomic (fn : PcieFn) (ht addr op : Nat) (operands : List Byte)
  /-- The completion of a host request with the host's tag `ht` (R384, R385). -/
  | completion (ht : Nat) (st : CplStatus) (bytes : List Byte)
  /-- The answer to a Configuration Request; none: Request Retry Status (R377). -/
  | configReply (fn : PcieFn) (w : Option Word)
  /-- A Configuration Request to a VF that does not exist. -/
  | configUnsupported (fn : PcieFn)
  /-- An MSI-X message of a function's vector. -/
  | msix (fn : PcieFn) (vec : Nat)
  /-- A Device Readiness Status or Function Readiness Status message (R377, R378). -/
  | drs
  | frs (fn : PcieFn)
  /-- The flash is read from a byte address on (R312). -/
  | flashRead (addr : Nat)
  /-- The repair record is written to host memory (R370); a changed record is written to the flash (R352). -/
  | recordFlash (r : RepairRecord)
  /-- Bytes that engine `n` writes into its partner's memory as it initialises a window, by local address (R260). -/
  | windowInit (n : Nat) (node : BitVec 10) (writes : List (Nat × List Nat))
  deriving DecidableEq, Repr

/-- The device: everything but the queue of waiting commands. -/
structure Device where
  /-- The registers of every page by management offset: the value last written, or the current value (R4, R23). -/
  regs : Sparse Word
  /-- The RWS fields in effect (R30). -/
  committed : Sparse Word
  /-- The RWS fields copied by an accepted COMMIT and not yet in effect (R30). -/
  copied : Sparse Word
  /-- The route table as staged, by node (R183, R202). -/
  routeStaged : Sparse Word
  routeCommitted : Sparse Word
  routeCopied : Sparse Word
  out : List Out
  /-- Free values taken so far: the model's own counter, which the free values of Config are applied to. -/
  free : Nat
  /-- Tally leaves by 8 times the page's ordinal plus the leaf: a count, or none for a lost leaf (R44, R46). -/
  tally : Sparse (Option Nat)
  /-- Totals hit by an uncorrectable error and not yet recomputed (R46). -/
  tallyBroken : List Nat
  /-- Settings in force, by physical bay, memory or slice. -/
  bayCfg : Sparse BayCfg
  bramCfg : Sparse BramCfg
  sliceCfg : Sparse SliceCfg
  /-- Global set-reset (R61). -/
  gsr : Bool
  /-- Bay-level set-reset, by physical bay (R61, R331). -/
  bayReset : Sparse Bool
  /-- Physical bays whose ENABLE_WRITES has taken effect: their elements may change (R94, R324). -/
  writesOn : Sparse Bool
  /-- User flip-flops that are not 0, by physical bay times 2^19 plus flip-flop (R50, R61). -/
  ffs : Sparse Bool
  /-- Contents of M-pane RAM and shift-register cells, by physical bay times 2^18 plus cell (R53). -/
  mram : Sparse (BitVec 64)
  /-- Hinge channels inbound, by logical bay times 8 plus channel, and credits outbound (R66). -/
  hinges : Sparse Channel
  hingeCredits : Sparse Nat
  hingeOutReg : Sparse (BitVec 70)
  /-- Stile channels inbound, by logical bay times 4 plus channel, and credits outbound (R69). -/
  stiles : Sparse Channel
  stileCredits : Sparse Nat
  stileOutReg : Sparse (BitVec 70)
  /-- Outbound sideband values, by logical bay times 32 plus sideband; an inbound one shows its source (R67). -/
  sbOut : Sparse Bool
  /-- The shadow latches of each physical bay; none: no capture yet (R72, R73). -/
  shadow : Sparse (Option Shadow)
  /-- All-bay capture under way in a physical bay (R75). -/
  captureAll : Sparse Bool
  /-- The physical bay whose shadow frames a configuration engine reads (R76). -/
  readingShadow : Option Nat
  /-- Block-memory rows, by (physical bay times 128 plus memory) times 512 plus row (R83). -/
  bram : Sparse (BitVec 72)
  /-- The row that a port of a memory wrote last and what it held before that edge, by physical bay times 128 plus memory (R91). -/
  rowWas : Sparse (Option (Nat × BitVec 72))
  /-- Port outputs, by (physical bay times 128 plus memory) times 2 plus port (R90). -/
  bramOut : Sparse PortOut
  /-- Rows with a corrected read that wait for write-back, by physical bay times 128 plus memory (R99). -/
  writeback : Sparse (List Nat)
  /-- Dirty rows, keyed as the rows are (R103). -/
  dirty : Sparse Bool
  /-- Slice registers, by physical bay times 128 plus slice (R131). -/
  slices : Sparse SliceSt
  /-- Packets in the mesh, in the order in which they entered (R177 to R192). -/
  mesh : List Flight
  /-- Entries and moves in the mesh so far: what tells which packet came first (R193). -/
  meshTime : Nat
  /-- Packets of the MGMT and CORE nodes that a COMMIT of the MESH page holds back (R186). -/
  meshHeld : List (Edge × Nat × Packet)
  /-- The arbiters of the router outputs, keyed as `detours` is (R193). -/
  arbs : Sparse Arb
  /-- The arbiter of the frame write port (R315). -/
  cfgArb : Arb
  /-- Frames that the frame write port has granted. -/
  cfgTime : Nat
  /-- Requests outstanding by node (0 FABRIC, 1 MGMT, 2 CORE, 3 HOST) times 4,096 plus TAG. -/
  reqs : Sparse (Option Req)
  accepted : List Accepted
  /-- Packets a bay port holds, by logical bay times 4 plus class (R180). -/
  bayHeld : Sparse (List Packet)
  /-- Detoured router outputs, by ((plane times 16 plus x) times 10 plus y) times 8 plus output; output 7 is the whole
  router (R190). -/
  detours : Sparse Bool
  links : Sparse LinkSt
  curs : Sparse CurSt
  /-- Engines that are not healthy: 1 under test, 2 failed (R281, R282). -/
  engines : Sparse Nat
  /-- The voter moves its PLLs to this reference (false A, true B) (R135). -/
  refSwitch : Option Bool
  /-- A trim of the RC oscillator is under way; the RC oscillator has failed (R136, R137). -/
  trimming : Bool
  rcDead : Bool
  /-- Logical bays stopped by MODE_REQ DROWSE, which activity does not wake (R458). -/
  drowsed : Sparse Bool
  /-- The fabric has power (R16, R453); physical bays without it (R464). -/
  fabricOn : Bool
  bayOff : Sparse Bool
  /-- Stored configuration words of frame types 0, 2, 3 and 4 (R285), by the frame's place times 128 plus column. -/
  cfgMem : Sparse (BitVec 73)
  /-- Bits of a stored word that no write changes (R343). -/
  stuck : Sparse (BitVec 73)
  /-- The scrubber's copies of the exclusion maps, by physical bay times 64 plus word (R340). -/
  exclMap : Sparse DWord
  /-- The golden list and the reports that wait at GOLDEN_POP: frame addresses with the logical bay (R345). -/
  golden : List Nat
  goldenPop : List Nat
  /-- The next frame of the pass, none between passes (R339). -/
  scrubAt : Option Nat
  /-- Tightly coupled memories of the tenant cores, by (2c + m) times 2^14 plus word (R404, R416). -/
  tcm : Sparse (BitVec 72)
  load : LoadSt
  /-- Sealed keys in the key RAM, slots 4 to 11 (R296). -/
  keyRam : Sparse (Option (BitVec 256))
  /-- The push window, and reads of host memory under way, by host tag (R310, R375). -/
  pushWindow : Sparse Byte
  hostReqs : Sparse (Option HostReq)
  /-- Requests to the HOST node that wait for a free tag (R389), and the edge each entered at. -/
  hostWait : List (Edge × Packet)
  /-- MSI-X messages that wait for the PCI Express link to reach L0 (R43). -/
  msixWait : List (PcieFn × Nat)
  /-- A page's RWS field was written after the COMMIT under way was accepted, by the page's ordinal (R31). -/
  restaged : Sparse Bool
  /-- The configuration spaces, by function (0 PF0, 1 PF1, 2 + v VF v) times 64 plus register (R375, R378). -/
  pciCfg : Sparse Word
  /-- MSI-X entries: masked, pending; by function times 64 plus vector (R42, R388). -/
  msixMask : Sparse Bool
  msixPend : Sparse Bool
  /-- Window accesses under way, and the number of the next (R384). -/
  winOps : List WinOp
  winNext : Nat
  chans : Sparse ChanSt
  /-- Records that wait at HDMA.ERR_POP (R393). -/
  dmaErrs : List Word
  /-- PF1 is ready (R377); BAR0 sizes of PF1 and the VFs as sampled then (R381). -/
  pf1Ready : Bool
  barLog2 : Nat × Nat
  /-- Migrations by row; self-tests under way by physical bay (R354, R358). -/
  migs : Sparse (Option MigSt)
  tests : Sparse (Option TestFor)
  mbx : Sparse Mailbox
  /-- Logical bays whose policy migration is tried again (R357). -/
  policy : Sparse Bool
  /-- Health updates of each physical bay, and the one at which its last self-test ended: one a second (R353, R354). -/
  healthTick : Sparse Nat
  testTick : Sparse Nat
  /-- The health updates at which the last 16 corrected errors of a row were found, by row (R355). -/
  fixes : Sparse (List Nat)
  /-- Configuration words found stuck, by their place (R343, R355). -/
  stuckSeen : Sparse Bool
  /-- No record has been applied since sill power-on, and no load has begun (R352). -/
  recordPending : Bool
  /-- Porter RAM, by 8 times the task plus the word (R420). -/
  porterRam : Sparse (BitVec 72)
  porter : PorterSt
  cores : Sparse CoreSt
  /-- The mode transition under way (R452); MODE_STATUS holds its target. -/
  modeStep : Option ModeStep
  /-- PERST_N is asserted (R453). -/
  perst : Bool
  /-- A wake event held until a reference is good, and one that arrived while DORMANT was being entered: source and link (R465,
  R497). -/
  heldWake : Option (Nat × Nat)
  lateWake : Option (Nat × Nat)
  /-- References still to be judged since the exit from DORMANT began (R497). -/
  judging : List RefClk
  /-- Shutters that DROWSE or QUIESCED closed, the sources that QUIESCED stopped, and the physical bays whose shutters FAULT_HOLD
  closed (R458, R459, R461). -/
  reopen : List ShutterRef
  stopped : List Nat
  faultShut : List Nat
  /-- Links named by the MODE_REQ DROWSE in force (R458). -/
  drowsedLinks : List Nat
  /-- MODE_REQ DOORWAY has switched the fabric, mesh and link domains off, and LOAD has not been entered since (R33, R453). -/
  fabricLost : Bool
  /-- VBAT has fallen while VDD_SILL was down (R473). -/
  vbatLow : Bool
  tap : TapSt
  /-- An access of the debugger's MEM port waits for a tag (R438). -/
  memWait : Bool
  /-- TEMP_MAX holds a reading (R486). -/
  maxSeen : Bool
  /-- Empty between steps. -/
  signals : List Signal
  /-- The device's behaviour has become undefined, and no device reset has followed (R7). -/
  lost : Bool
  deriving DecidableEq, Repr, Inhabited

/-- The device after sill power-on (R467, R471): PERST_N asserted, in DORMANT, every register at its Reset value. -/
def Device.fresh : Device :=
  { regs := [], committed := [], copied := [], routeStaged := [], routeCommitted := [], routeCopied := [], out := []
    free := 0, tally := [], tallyBroken := [], bayCfg := [], bramCfg := [], sliceCfg := [], gsr := false
    bayReset := [], writesOn := [], ffs := [], mram := [], hinges := [], hingeCredits := [], hingeOutReg := [], stiles := []
    stileCredits := [], stileOutReg := [], sbOut := [], shadow := [], captureAll := [], readingShadow := none
    bram := [], rowWas := [], bramOut := [], writeback := [], dirty := [], slices := [], mesh := [], meshTime := 0
    meshHeld := [], arbs := [], cfgArb := Arb.fresh, cfgTime := 0, reqs := [], accepted := []
    bayHeld := [], detours := [], links := [], curs := [], engines := [], refSwitch := none, trimming := false
    rcDead := false, drowsed := [], fabricOn := false, bayOff := [], cfgMem := [], stuck := [], exclMap := []
    golden := [], goldenPop := [], scrubAt := none, tcm := [], load := LoadSt.fresh, keyRam := [], pushWindow := []
    hostReqs := [], hostWait := [], msixWait := [], restaged := [], pciCfg := [], msixMask := [], msixPend := []
    winOps := [], winNext := 0, chans := [], dmaErrs := [], pf1Ready := false, barLog2 := (0, 0), migs := []
    tests := [], mbx := [], policy := [], healthTick := [], testTick := [], fixes := [], stuckSeen := []
    recordPending := true, porterRam := [], porter := PorterSt.fresh, cores := [], modeStep := none, perst := true
    heldWake := none, lateWake := none, judging := [], reopen := [], stopped := [], faultShut := [], drowsedLinks := []
    fabricLost := false, vbatLow := false, tap := TapSt.fresh, memWait := false, maxSeen := false, signals := []
    lost := false }

/-! ### The machine -/

/-- Commands without a meaning. -/
inductive Refusal where
  /-- Raised by a row of the table that has no meaning yet. Safe. -/
  | notModelled (mnemonic : String)
  deriving DecidableEq, Repr

/-- The block: the commands that wait, first in first out, and the device. -/
structure State where
  pending : List Instr
  dev : Device
  deriving DecidableEq, Repr

/-- Right after sill power-on reset (R471). -/
def State.reset : State := { pending := [], dev := Device.fresh }

end Sys2Proof.Machine
end

