-- ==== Sys2Proof/Machine/Arbiter.lean ====
section
/-! DEFINITION. The one arbitration rule of the device (R193): router outputs, link egress, the frame write port. -/

namespace Sys2Proof.Machine

open Sys2Proof

/-- A requester with a packet at its head that can be granted now: its number, the rank of the packet, when the packet arrived. -/
structure Asking where
  id : Nat
  rank : Nat
  since : Nat
  deriving DecidableEq, Repr

/-- The better of two, where `better` is strict: the first stays on a tie. -/
def bestOf (better : Asking → Asking → Bool) (as : List Asking) : Option Asking :=
  as.foldl (fun (best : Option Asking) a => match best with
    | some b => if better a b then some a else some b
    | none => some a) none

/-- The requester whose head packet arrived earliest (rule 3). -/
def eldest (as : List Asking) : Option Nat := (bestOf (fun a b => decide (a.since < b.since)) as).map (·.id)

/-- How far a requester stands behind the one served last, in the order of the round robin. -/
def Arb.turn (a : Arb) (id : Nat) : Nat := (id + 1024 - (a.last + 1) % 1024) % 1024

/-- The highest rank, and among equals round robin (rule 4). -/
def Arb.ranked (a : Arb) (as : List Asking) : Option Nat :=
  (bestOf (fun x y => decide (y.rank < x.rank ∨ (x.rank = y.rank ∧ a.turn x.id < a.turn y.id))) as).map (·.id)

/-- The owner of a locked burst that may still carry packets, if it has its next one ready (rules 1 and 2). -/
def Arb.held (a : Arb) (limit : Nat) (as : List Asking) : Option Nat :=
  match a.holder with
  | some h => if a.burst < limit ∧ (as.any fun x => x.id == h) = true then some h else none
  | none => none

/-- The requester that an arbiter grants next; none: nobody asks. `limit` is BURST_LIMIT, `n` ARB_N. -/
def Arb.pick (a : Arb) (limit n : Nat) (as : List Asking) : Option Nat :=
  match a.held limit as with
  | some h => some h
  | none => if (a.grants + 1) % max 1 n = 0 then eldest as else a.ranked as

/-- The arbiter after a packet of requester `id` has been granted: the same grant goes on, or a new one is counted. -/
def Arb.granted (a : Arb) (limit : Nat) (id : Nat) (lock : Bool) : Arb :=
  let again := a.holder == some id && decide (a.burst < limit)
  { holder := if lock then some id else none, burst := if again then a.burst + 1 else 1, last := id
    grants := if again then a.grants else a.grants + 1 }

end Sys2Proof.Machine
end

