-- ==== Sys2Proof/Machine/Crc.lean ====
section
/-! DEFINITION. The checks of headers and flits: CRC-16 with polynomial 0x8BB7 (R157, R230), and the CRC-32C of the
configuration stream (R304). -/

namespace Sys2Proof.Machine

open Sys2Proof

/-- One step of the CRC-16 of R157 and R230 with the next bit of the message. -/
def crc16Step (crc : Nat) (b : Bool) : Nat :=
  let s := crc * 2 % 65536
  if (crc / 32768 % 2 == 1) != b then Nat.xor s 0x8BB7 else s

/-- The CRC-16 over bits `n - 1` down to 0 of a value. -/
def crc16 (init n v : Nat) : Nat := (List.range n).foldl (fun c i => crc16Step c (v.testBit (n - 1 - i))) init

/-- One step of CRC-32C (reflected, polynomial 0x1EDC6F41). -/
def crc32cBit (crc : Nat) : Nat := if crc % 2 = 1 then Nat.xor (crc / 2) 0x82F63B78 else crc / 2

/-- CRC-32C with one more byte, on the inner (inverted) register. -/
def crc32cByte (crc b : Nat) : Nat := (List.range 8).foldl (fun c _ => crc32cBit c) (Nat.xor crc b)

/-! ### Headers (R154) -/

/-- Header bits 111:0 (R154). -/
def headerLow (p : Packet) : Nat :=
  p.dst.toNat + p.src.toNat * 2 ^ 10 + p.cls.toNat * 2 ^ 20 + p.op.toNat * 2 ^ 22 + p.len.toNat * 2 ^ 28 +
    p.tag.toNat * 2 ^ 36 + p.laddr.toNat * 2 ^ 48 + p.ord.toNat * 2 ^ 102 + p.prio.toNat * 2 ^ 103 +
    p.ch.toNat * 2 ^ 105 + p.v.toNat * 2 ^ 106 + p.lock.toNat * 2 ^ 107 + p.rsv.toNat * 2 ^ 108

/-- HCRC (R157). -/
def hcrcOf (p : Packet) : BitVec 16 := BitVec.ofNat 16 (crc16 0xFFFF 112 (headerLow p))

/-- A packet with its HCRC computed. -/
def sealHeader (p : Packet) : Packet := { p with hcrc := hcrcOf p }

/-- The whole header, 128 bits. -/
def headerBits (p : Packet) : Nat := headerLow p + p.hcrc.toNat * 2 ^ 112

/-- `n` bits of a number from bit `lo`. -/
def natBits (v lo n : Nat) : Nat := v / 2 ^ lo % 2 ^ n

/-- The header fields read from 128 bits, with the payload and flit count given (R154). -/
def headerOf (h : Nat) (payload : List Byte) (flits : Nat) : Packet :=
  { dst := BitVec.ofNat 10 (natBits h 0 10), src := BitVec.ofNat 10 (natBits h 10 10)
    cls := BitVec.ofNat 2 (natBits h 20 2), op := BitVec.ofNat 6 (natBits h 22 6), len := BitVec.ofNat 8 (natBits h 28 8)
    tag := BitVec.ofNat 12 (natBits h 36 12), laddr := BitVec.ofNat 54 (natBits h 48 54), ord := h.testBit 102
    prio := BitVec.ofNat 2 (natBits h 103 2), ch := h.testBit 105, v := h.testBit 106, lock := h.testBit 107
    rsv := BitVec.ofNat 4 (natBits h 108 4), hcrc := BitVec.ofNat 16 (natBits h 112 16), payload := payload
    flits := flits }

/-! ### Bytes -/

/-- Little-endian bytes of a number. -/
def bytesLE (n v : Nat) : List Byte := (List.range n).map fun i => BitVec.ofNat 8 (v / 2 ^ (8 * i))

/-- The number that little-endian bytes spell. -/
def natLE (bs : List Byte) : Nat := bs.foldr (fun b s => s * 256 + b.toNat) 0

/-! ### Packets as flits (R160) -/

/-- Flits of a packet with `n` payload bytes (R160). -/
def flitCount (n : Nat) : Nat := (16 + n + 63) / 64

/-- The flit bodies of a packet: header, payload, zeros to the end (R154, R160). -/
def packetFlits (p : Packet) : List (BitVec 512) :=
  let v := headerBits p + natLE p.payload * 2 ^ 128
  (List.range (flitCount p.payload.length)).map fun i => BitVec.ofNat 512 (v / 2 ^ (512 * i))

/-- The payload length that opcode and LENGTH call for (R159). -/
def payloadLen (op len : Nat) : Nat :=
  if op = 0x00 ∨ op = 0x20 ∨ op = 0x30 ∨ op = 0x38 ∨ op = 0x39 then 0 else len + 1

/-- A packet from the flits its framing carried (R160, R161). -/
def packetOf (fs : List (BitVec 512)) : Packet :=
  let v := fs.foldr (fun f s => s * 2 ^ 512 + f.toNat) 0
  let n := payloadLen (natBits v 22 6) (natBits v 28 8)
  headerOf (v % 2 ^ 128) (bytesLE n (v / 2 ^ 128)) fs.length

/-- The class an opcode is valid in and the LENGTH it fixes, if any (R159); none: reserved. -/
def opcodeRow (op : Nat) : Option (Nat × Option Nat) :=
  match op with
  | 0x00 => some (0, none) | 0x01 => some (0, none) | 0x02 => some (0, some 7) | 0x03 => some (0, some 7)
  | 0x04 => some (0, some 15) | 0x05 => some (0, some 15) | 0x06 => some (0, some 15) | 0x07 => some (0, some 31)
  | 0x10 => some (2, none) | 0x11 => some (2, none) | 0x20 => some (3, some 3) | 0x21 => some (3, some 3)
  | 0x30 => some (1, some 0) | 0x31 => some (1, none) | 0x38 => some (1, some 0) | 0x39 => some (1, some 0)
  | _ => none

/-- R161. -/
def malformed (p : Packet) : Bool :=
  match opcodeRow p.op.toNat with
  | none => true
  | some (c, fixed) =>
    p.cls.toNat != c ||
    -- MRD and MWR have a fixed LENGTH too, so one of another length never reaches R20's answer (DEDUCED, entry 11).
    (match fixed with
      | some l => p.len.toNat != l
      | none => false) ||
    p.flits != flitCount (payloadLen p.op.toNat p.len.toNat) ||
    (p.cls == 1 && p.laddr.toNat / 8 != 0)

end Sys2Proof.Machine
end

