-- ==== Sys2Proof/Machine/Crypto.lean ====
section
/-! DEFINITION. The ciphers the manual names: AES-256 (FIPS 197), GHASH and AES-GCM (NIST SP 800-38D), AES Key Wrap (RFC
3394). The manual names them and does not restate them: PRESUMED, entry 7. -/

namespace Sys2Proof.Machine

open Sys2Proof

/-! ### The field GF(2^8) of FIPS 197 -/

def gfDouble (a : Nat) : Nat := if a < 128 then 2 * a else Nat.xor (2 * a) 0x11B

/-- Product in GF(2^8). -/
def gfMul (a b : Nat) : Nat :=
  ((List.range 8).foldl (fun (acc : Nat × Nat) i =>
    (if b.testBit i then Nat.xor acc.1 acc.2 else acc.1, gfDouble acc.2)) (0, a)).1

/-- Inverse in GF(2^8): the 254th power, 0 for 0. -/
def gfInv (a : Nat) : Nat :=
  let a2 := gfMul a a
  let a3 := gfMul a2 a
  let a12 := gfMul (gfMul a3 a3) (gfMul a3 a3)
  let a14 := gfMul a12 a2
  let a15 := gfMul a12 a3
  let a30 := gfMul a15 a15
  let a60 := gfMul a30 a30
  let a120 := gfMul a60 a60
  let a240 := gfMul a120 a120
  gfMul a240 a14

def rotl8 (a n : Nat) : Nat := (a * 2 ^ n + a / 2 ^ (8 - n)) % 256

/-- The S-box. -/
def sbox (a : Nat) : Nat :=
  let b := gfInv a
  Nat.xor (Nat.xor (Nat.xor (Nat.xor (Nat.xor b (rotl8 b 1)) (rotl8 b 2)) (rotl8 b 3)) (rotl8 b 4)) 0x63

/-- The inverse S-box. -/
def sboxInv (a : Nat) : Nat :=
  gfInv (Nat.xor (Nat.xor (Nat.xor (rotl8 a 1) (rotl8 a 3)) (rotl8 a 6)) 0x05)

/-! ### AES-256 on lists of 16 bytes -/

/-- Bytes of a number, most significant first. -/
def bytesBE (n v : Nat) : List Nat := (List.range n).map fun i => v / 256 ^ (n - 1 - i) % 256

/-- The number that bytes spell, most significant first. -/
def natBE (bs : List Nat) : Nat := bs.foldl (fun s b => s * 256 + b) 0

def xorBytes (a b : List Nat) : List Nat := List.zipWith Nat.xor a b

/-- The next words of the key schedule, newest first; a word is four bytes. -/
def keyWords : Nat → List (List Nat) → List (List Nat)
  | 0, ws => ws
  | n + 1, ws =>
    let i := ws.length
    let prev := ws.headD []
    let back := (ws[7]?).getD []
    let t :=
      if i % 8 = 0 then
        let rot := (prev.drop 1 ++ prev.take 1).map sbox
        xorBytes rot [((List.range (i / 8 - 1)).foldl (fun a _ => gfDouble a) 1), 0, 0, 0]
      else if i % 8 = 4 then prev.map sbox
      else prev
    keyWords n (xorBytes back t :: ws)

/-- `k` pieces of `n` bytes. -/
def pieces {α : Type} (n : Nat) : Nat → List α → List (List α)
  | 0, _ => []
  | k + 1, l => l.take n :: pieces n k (l.drop n)

/-- The 15 round keys of AES-256. -/
def roundKeys (key : BitVec 256) : List (List Nat) :=
  pieces 16 15 ((keyWords 52 (pieces 4 8 (bytesBE 32 key.toNat)).reverse).reverse.flatten)

def byteAt (s : List Nat) (i : Nat) : Nat := (s[i]?).getD 0

def shiftRows (s : List Nat) : List Nat := (List.range 16).map fun i => byteAt s ((i + 4 * (i % 4)) % 16)

def shiftRowsInv (s : List Nat) : List Nat := (List.range 16).map fun i => byteAt s ((i + 12 * (i % 4)) % 16)

def mixWith (c0 c1 c2 c3 : Nat) (s : List Nat) : List Nat :=
  (List.range 16).map fun i =>
    let col := i / 4 * 4
    let at' (k : Nat) := byteAt s (col + (i + k) % 4)
    Nat.xor (Nat.xor (gfMul c0 (at' 0)) (gfMul c1 (at' 1))) (Nat.xor (gfMul c2 (at' 2)) (gfMul c3 (at' 3)))

def aesRounds : List (List Nat) → List Nat → List Nat
  | [], s => s
  | [k], s => xorBytes (shiftRows (s.map sbox)) k
  | k :: k' :: ks, s => aesRounds (k' :: ks) (xorBytes (mixWith 2 3 1 1 (shiftRows (s.map sbox))) k)

/-- AES-256 of a block; block bits 127:120 are byte 0 (R256). -/
def aesEnc (key : BitVec 256) (block : BitVec 128) : BitVec 128 :=
  let ks := roundKeys key
  BitVec.ofNat 128 (natBE (aesRounds (ks.drop 1) (xorBytes (bytesBE 16 block.toNat) (ks.headD []))))

def aesRoundsInv : List (List Nat) → List Nat → List Nat
  | [], s => s
  | [k], s => xorBytes ((shiftRowsInv s).map sboxInv) k
  | k :: k' :: ks, s => aesRoundsInv (k' :: ks) (mixWith 14 11 13 9 (xorBytes ((shiftRowsInv s).map sboxInv) k))

/-- The inverse cipher. -/
def aesDec (key : BitVec 256) (block : BitVec 128) : BitVec 128 :=
  let ks := (roundKeys key).reverse
  BitVec.ofNat 128 (natBE (aesRoundsInv (ks.drop 1) (xorBytes (bytesBE 16 block.toNat) (ks.headD []))))

/-! ### GHASH and GCM -/

/-- Product in GF(2^128) of SP 800-38D; the leftmost bit of a block is bit 127 of its number. -/
def gf128Mul (x y : Nat) : Nat :=
  ((List.range 128).foldl (fun (acc : Nat × Nat) i =>
    (if x.testBit (127 - i) then Nat.xor acc.1 acc.2 else acc.1,
     if acc.2 % 2 = 1 then Nat.xor (acc.2 / 2) (0xE1 * 2 ^ 120) else acc.2 / 2)) (0, y)).1

/-- GHASH over whole blocks. -/
def ghash (h : Nat) (blocks : List Nat) : Nat := blocks.foldl (fun y b => gf128Mul (Nat.xor y b) h) 0

/-- Bytes as 16-byte blocks, the last padded with zeros. -/
def blocksOf (bs : List Nat) : List Nat :=
  let n := (bs.length + 15) / 16
  (pieces 16 n (bs ++ List.replicate (16 * n - bs.length) 0)).map natBE

/-- AES-GCM with a 96-bit IV: the keystream XORed with the data. -/
def gcmCrypt (key : BitVec 256) (iv : BitVec 96) (data : List Nat) : List Nat :=
  let n := (data.length + 15) / 16
  let ks := (List.range n).flatMap fun i => bytesBE 16 (aesEnc key (BitVec.ofNat 128 (iv.toNat * 2 ^ 32 + 2 + i))).toNat
  xorBytes data ks

/-- The AES-GCM tag over associated data and ciphertext. -/
def gcmTag (key : BitVec 256) (iv : BitVec 96) (aad cipher : List Nat) : BitVec 128 :=
  let h := (aesEnc key 0).toNat
  let lens := aad.length * 8 * 2 ^ 64 + cipher.length * 8
  let s := ghash h (blocksOf aad ++ blocksOf cipher ++ [lens])
  BitVec.ofNat 128 (Nat.xor s (aesEnc key (BitVec.ofNat 128 (iv.toNat * 2 ^ 32 + 1))).toNat)

/-! ### AES Key Wrap -/

/-- One step of the unwrapping index process of RFC 3394. -/
def unwrapStep (kek : BitVec 256) (n : Nat) (st : Nat × List Nat) (t : Nat) : Nat × List Nat :=
  let i := (t - 1) % n
  let b := (aesDec kek (BitVec.ofNat 128 (Nat.xor st.1 t * 2 ^ 64 + byteAt st.2 i))).toNat
  (b / 2 ^ 64, st.2.set i (b % 2 ^ 64))

/-- RFC 3394 unwrapping of a 320-bit wrapped key: none when the integrity check fails. -/
def keyUnwrap (kek : BitVec 256) (wrapped : List Nat) : Option (BitVec 256) :=
  let ws := (pieces 8 5 wrapped).map natBE
  let r := ((List.range 24).map fun k => 24 - k).foldl (unwrapStep kek 4) (ws.headD 0, ws.drop 1)
  if r.1 = 0xA6A6A6A6A6A6A6A6 then some (BitVec.ofNat 256 (r.2.foldl (fun s w => s * 2 ^ 64 + w) 0)) else none

end Sys2Proof.Machine
end

