-- ==== Sys2Proof/Machine/Ecc.lean ====
section
/-! DEFINITION. The extended Hamming (SECDED) code of R85, which block-memory rows of the ECC family and stored
configuration words (R285) share: check bits c0 to c6 at positions 2^k, data bits at the other positions from 3
to 71 in increasing order, c7 over all the rest. -/

namespace Sys2Proof.Machine

/-- The Hamming position of data bit `j` (R85): the positions that are no power of two, in increasing order. -/
def eccPos (j : Nat) : Nat :=
  if j < 1 then 3 else if j < 4 then j + 4 else if j < 11 then j + 5 else if j < 26 then j + 6
  else if j < 57 then j + 7 else j + 8

/-- The xor of the positions of the data bits that are 1: check bits c0 to c6 as one number (R85). -/
def eccCheck (d : Nat) : Nat :=
  (List.range 64).foldl (fun s j => if d.testBit j then Nat.xor s (eccPos j) else s) 0

/-- The parity of the low `n` bits of `x`. -/
def parityOf (n x : Nat) : Bool :=
  (List.range n).foldl (fun s j => s != x.testBit j) false

/-- The eight check bits of 64 data bits (R85), c0 in bit 0. -/
def eccBits (d : Nat) : Nat :=
  let c := eccCheck d
  c + (if parityOf 64 d != parityOf 7 c then 128 else 0)

/-- A 72-bit row: data in bits 63 to 0, check bits above. -/
def eccRow (d : Nat) : BitVec 72 := BitVec.ofNat 72 (d % 2 ^ 64 + eccBits (d % 2 ^ 64) * 2 ^ 64)

/-- The syndrome of a stored row (R85): `s` and `p`. -/
def eccSyndrome (row : BitVec 72) : Nat × Bool :=
  (Nat.xor (eccCheck (row.toNat % 2 ^ 64)) (row.toNat / 2 ^ 64 % 128), parityOf 72 row.toNat)

/-- What a read of a row of the code finds (R85). -/
inductive EccVerdict where
  | good | corrected | bad
  deriving DecidableEq, Repr

/-- R85: a single error at a position up to 71 is corrected, `c7` in error is corrected, anything else that is not
clean is uncorrectable. -/
def eccVerdict (row : BitVec 72) : EccVerdict :=
  let sp := eccSyndrome row
  if sp.1 = 0 then (if sp.2 then .corrected else .good)
  else if sp.2 && decide (sp.1 ≤ 71) then .corrected else .bad

/-- The data bit at Hamming position `s`, if one stands there. -/
def eccDataAt (s : Nat) : Option Nat := (List.range 64).find? fun j => eccPos j == s

/-- The row with a single error put right; every other row unchanged (R85). -/
def eccFix (row : BitVec 72) : BitVec 72 :=
  match eccVerdict row with
  | .corrected =>
    let s := (eccSyndrome row).1
    match eccDataAt s with
    | some j => eccRow (Nat.xor (row.toNat % 2 ^ 64) (2 ^ j))
    | none => eccRow (row.toNat % 2 ^ 64)
  | _ => row

end Sys2Proof.Machine
end

