-- ==== Sys2Proof/Config.lean ====
section
/-! DEFINITION. What one die fixes and what the manual leaves open: constants and functions WITHOUT a body, so that no
proof can see a value. Each carries the mark and the log entry that names it. -/

namespace Sys2Proof.Config

/-- UNVERIFIED, entry 2. Fused at manufacture: the bypassed position of the L chain and of the M chain of each
physical bay (R56); read modulo 33. -/
opaque fuseBypassL : Nat → Nat
@[inherit_doc fuseBypassL] opaque fuseBypassM : Nat → Nat

/-- Entry 2. DIE_SERIAL, fused (R294). -/
opaque dieSerial : BitVec 64

/-- Entry 4. A fresh 32-bit value for each natural number: what the model takes where the manual leaves a value open. -/
opaque freeWord : Nat → Word

/-- Entry 4. A fresh yes or no for each natural number. -/
opaque freeBool : Nat → Bool

/-- Entry 4. A fresh 72-bit row for each natural number. -/
opaque freeRow : Nat → BitVec 72

/-- Entry 8. What a key slot without a key gives a cipher, by engine times 2 plus slot: the manual says nothing of it. -/
opaque emptyKey : Nat → BitVec 256

/-- Entry 2. The fused device stream key, which unwraps KEY_WRAP and nothing else (R294). -/
opaque dieKey : BitVec 256

/-- Entry 2. The sealed keys fused by Icliwick in slots 0 to 3; none: the slot is empty (R296). -/
opaque fusedKey : Nat → Option (BitVec 256)

/-- Entry 12. The capture maps that Shaide emits: what map `m` names at a shadow frame's minor, word and bit (R73). -/
opaque captureMap : Nat → Nat → Nat → Nat → Option Machine.CaptureBit

/-- Entry 4. Bit `b` of word `k` of shadow frame `minor` of the capture with a given stamp, where no map names it (R73). -/
opaque shadowBit : Nat → Nat → Nat → Nat → Bool

/-- Entry 2. The fused device key-wrapping key, which unwraps the keys of LOAD_KEY (R276, R370). -/
opaque wrapKey : BitVec 256

/-- Entry 2. ICLIWICK_VID, the vendor's ID, whose number the manual does not give (R376). -/
opaque vendorId : BitVec 16

/-- Entry 2. Version and next-capability link of the doorway DVSEC's header, bits 31:16 (R380). -/
opaque capLink : BitVec 16

/-- Entry 2. ICLIWICK_JEDEC, the manufacturer code of IDCODE, whose value the manual does not give (R435). -/
opaque jedec : BitVec 11

/-- Entry 60. The device after behaviour that the manual calls undefined: nothing of it is guaranteed (R7). -/
opaque freeDevice : Nat → Machine.Device

end Sys2Proof.Config
end

