-- ==== Sys2Proof/Machine/Fields.lean ====
section
/-! DEFINITION. The register fields of every page: offset, bits, type (R4) and reset value, as the register
tables of the chapters give them; one definition a field, named after page, register and field. A cause bit of
PAGE_CAUSE (R26) carries a name that begins with `c`. Fields the tables mark RSV are the bits no field covers. -/

namespace Sys2Proof.Machine

/-- The field types of R4 (an RSV bit is a bit that no field covers). -/
inductive FldTy where
  | rw | ro | rws | w1c | w1s | wo
  deriving DecidableEq, Repr

/-- One field of a register table. `count` and `stride` give an indexed register its places; `minV` and `maxV` are
the encodings the description lists (R6). -/
structure Fld where
  off : Nat
  hi : Nat
  lo : Nat
  ty : FldTy
  reset : Nat
  count : Nat := 1
  stride : Nat := 4
  minV : Nat := 0
  maxV : Nat := 0xFFFFFFFF
  deriving DecidableEq, Repr

/-- The number of bits of a field. -/
def Fld.width (f : Fld) : Nat := f.hi + 1 - f.lo

/-- The offset of place `i` of a field within its page. -/
def Fld.at_ (f : Fld) (i : Nat) : Nat := f.off + i * f.stride

/-! ### The common header (R26), on every page -/

/-- PAGE_CTRL.ENABLE; its reset value is per page (`pageReset`). -/
def hdrEnable : Fld := ⟨0x008, 0, 0, .rw, 0, 1, 4, 0, 1⟩
/-- PAGE_STATUS.STAGED_PENDING. -/
def hdrStagedPending : Fld := ⟨0x00C, 3, 3, .ro, 0, 1, 4, 0, 1⟩
/-- PAGE_STATUS.COMMIT_BUSY. -/
def hdrCommitBusy : Fld := ⟨0x00C, 1, 1, .ro, 0, 1, 4, 0, 1⟩
/-- PAGE_ABORT.STATE. -/
def hdrAbortState : Fld := ⟨0x010, 3, 2, .ro, 0, 1, 4, 0, 3⟩
/-- PAGE_CAUSE, all of it (the block causes are named one by one below). -/
def hdrCause : Fld := ⟨0x014, 31, 0, .w1c, 0, 1, 4, 0, 0xFFFFFFFF⟩
/-- PAGE_CAUSE.RETURNED. -/
def hdrReturned : Fld := ⟨0x014, 31, 31, .w1c, 0, 1, 4, 0, 1⟩
/-- PAGE_CAUSE.STALE. -/
def hdrStale : Fld := ⟨0x014, 30, 30, .w1c, 0, 1, 4, 0, 1⟩
/-- PAGE_CAUSE.ABORT_DONE. -/
def hdrAbortDone : Fld := ⟨0x014, 29, 29, .w1c, 0, 1, 4, 0, 1⟩
/-- PAGE_CAUSE.OVERRUN. -/
def hdrOverrun : Fld := ⟨0x014, 28, 28, .w1c, 0, 1, 4, 0, 1⟩
/-- PAGE_CAUSE_MASK. -/
def hdrMask : Fld := ⟨0x018, 31, 0, .rw, 0, 1, 4, 0, 0xFFFFFFFF⟩
/-- PAGE_EPOCH. -/
def hdrEpoch : Fld := ⟨0x020, 31, 0, .ro, 0, 1, 4, 0, 0xFFFFFFFF⟩

/-! ### SILL -/

/-- SILL.SUMMARY.GROUP. -/
def fSillSummaryGroup : Fld := ⟨0x080, 31, 0, .ro, 0, 1, 4, 0, 4294967295⟩
/-- SILL.ALERT_REARM.REARM. -/
def fSillAlertRearmRearm : Fld := ⟨0x084, 0, 0, .wo, 0, 1, 4, 0, 1⟩
/-- SILL.GROUP_PEND.PAGE. -/
def fSillGroupPendPage : Fld := ⟨0x100, 31, 0, .ro, 0, 128, 4, 0, 4294967295⟩
/-! ### TALLY -/

/-- TALLY.PORT_SELECT.SELECT. -/
def fTallyPortSelectSelect : Fld := ⟨0x040, 12, 0, .rw, 0, 4, 16, 0, 8191⟩
/-- TALLY.PORT_COUNT.COUNT. -/
def fTallyPortCountCount : Fld := ⟨0x044, 31, 0, .ro, 0, 4, 16, 0, 4294967295⟩
/-- TALLY.PORT_STATUS.VALID. -/
def fTallyPortStatusValid : Fld := ⟨0x048, 31, 31, .ro, 1, 4, 16, 0, 1⟩
/-- TALLY.PORT_STATUS.INCOMPLETE. -/
def fTallyPortStatusIncomplete : Fld := ⟨0x048, 30, 30, .ro, 0, 4, 16, 0, 1⟩
/-- TALLY.PORT_STATUS.SATURATED. -/
def fTallyPortStatusSaturated : Fld := ⟨0x048, 29, 29, .ro, 0, 4, 16, 0, 1⟩
/-- TALLY.PORT_STATUS.LEAF. -/
def fTallyPortStatusLeaf : Fld := ⟨0x048, 28, 28, .ro, 0, 4, 16, 0, 1⟩
/-- TALLY.PORT_STATUS.PARENT. -/
def fTallyPortStatusParent : Fld := ⟨0x048, 12, 0, .ro, 0, 4, 16, 0, 8191⟩
/-- TALLY.CLEAR.INDEX. -/
def fTallyClearIndex : Fld := ⟨0x080, 12, 0, .wo, 0, 1, 4, 0, 8191⟩
/-- TALLY.CLEAR.SUBTREE. -/
def fTallyClearSubtree : Fld := ⟨0x080, 31, 31, .wo, 0, 1, 4, 0, 1⟩
/-- TALLY.PAGE_CAUSE.TALLY_LOST. -/
def cTallyTallyLost : Fld := ⟨0x014, 0, 0, .w1c, 0, 1, 4, 0, 1⟩
/-- TALLY.PAGE_CAUSE.TALLY_FIXED. -/
def cTallyTallyFixed : Fld := ⟨0x014, 1, 1, .w1c, 0, 1, 4, 0, 1⟩
/-! ### PBAY -/

/-- PBAY.COL_STEER.M_EXHAUSTED. -/
def fPbayColSteerMExhausted : Fld := ⟨0x060, 25, 25, .ro, 0, 1, 4, 0, 1⟩
/-- PBAY.COL_STEER.L_EXHAUSTED. -/
def fPbayColSteerLExhausted : Fld := ⟨0x060, 24, 24, .ro, 0, 1, 4, 0, 1⟩
/-- PBAY.COL_STEER.M_FIELD. -/
def fPbayColSteerMField : Fld := ⟨0x060, 17, 17, .ro, 0, 1, 4, 0, 1⟩
/-- PBAY.COL_STEER.L_FIELD. -/
def fPbayColSteerLField : Fld := ⟨0x060, 16, 16, .ro, 0, 1, 4, 0, 1⟩
/-- PBAY.COL_STEER.M_BYPASS. -/
def fPbayColSteerMBypass : Fld := ⟨0x060, 13, 8, .ro, 0, 1, 4, 0, 63⟩
/-- PBAY.COL_STEER.L_BYPASS. -/
def fPbayColSteerLBypass : Fld := ⟨0x060, 5, 0, .ro, 0, 1, 4, 0, 63⟩
/-! ### JAMB -/

/-- JAMB.IN_LO. -/
def fJambInLo : Fld := ⟨0x040, 31, 0, .ro, 0, 1, 4, 0, 4294967295⟩
/-- JAMB.IN_HI. -/
def fJambInHi : Fld := ⟨0x044, 15, 0, .ro, 0, 1, 4, 0, 65535⟩
/-- JAMB.OE_LO. -/
def fJambOeLo : Fld := ⟨0x048, 31, 0, .ro, 0, 1, 4, 0, 4294967295⟩
/-- JAMB.OE_HI. -/
def fJambOeHi : Fld := ⟨0x04c, 15, 0, .ro, 0, 1, 4, 0, 65535⟩
/-- JAMB.OUT_LO. -/
def fJambOutLo : Fld := ⟨0x050, 31, 0, .ro, 0, 1, 4, 0, 4294967295⟩
/-- JAMB.OUT_HI. -/
def fJambOutHi : Fld := ⟨0x054, 15, 0, .ro, 0, 1, 4, 0, 65535⟩
/-! ### PBAY -/

/-- PBAY.CAPTURE_CFG.EDGE_DELAY. -/
def fPbayCaptureCfgEdgeDelay : Fld := ⟨0x040, 31, 16, .rw, 0, 1, 4, 0, 65535⟩
/-- PBAY.CAPTURE_CFG.CLK_SEL. -/
def fPbayCaptureCfgClkSel : Fld := ⟨0x040, 4, 0, .rw, 0, 1, 4, 0, 31⟩
/-- PBAY.CAPTURE_CMD.ALL. -/
def fPbayCaptureCmdAll : Fld := ⟨0x044, 1, 1, .wo, 0, 1, 4, 0, 1⟩
/-- PBAY.CAPTURE_CMD.GO. -/
def fPbayCaptureCmdGo : Fld := ⟨0x044, 0, 0, .wo, 0, 1, 4, 0, 1⟩
/-- PBAY.CAPTURE_STATUS.SEQ. -/
def fPbayCaptureStatusSeq : Fld := ⟨0x048, 31, 16, .ro, 0, 1, 4, 0, 65535⟩
/-- PBAY.CAPTURE_STATUS.SHADOW_FRAMES. -/
def fPbayCaptureStatusShadowFrames : Fld := ⟨0x048, 15, 5, .ro, 0, 1, 4, 0, 2047⟩
/-- PBAY.CAPTURE_STATUS.LAST_ALL. -/
def fPbayCaptureStatusLastAll : Fld := ⟨0x048, 2, 2, .ro, 0, 1, 4, 0, 1⟩
/-- PBAY.CAPTURE_STATUS.SHADOW_VALID. -/
def fPbayCaptureStatusShadowValid : Fld := ⟨0x048, 1, 1, .ro, 0, 1, 4, 0, 1⟩
/-- PBAY.CAPTURE_STATUS.BUSY. -/
def fPbayCaptureStatusBusy : Fld := ⟨0x048, 0, 0, .ro, 0, 1, 4, 0, 1⟩
/-- PBAY.HINGE_STATUS.DROWSY_GATED. -/
def fPbayHingeStatusDrowsyGated : Fld := ⟨0x04c, 25, 25, .ro, 0, 1, 4, 0, 1⟩
/-- PBAY.HINGE_STATUS.HELD. -/
def fPbayHingeStatusHeld : Fld := ⟨0x04c, 24, 24, .ro, 0, 1, 4, 0, 1⟩
/-- PBAY.HINGE_STATUS.STILE_IN_MISMATCH. -/
def fPbayHingeStatusStileInMismatch : Fld := ⟨0x04c, 23, 20, .ro, 0, 1, 4, 0, 15⟩
/-- PBAY.HINGE_STATUS.STILE_OUT_MISMATCH. -/
def fPbayHingeStatusStileOutMismatch : Fld := ⟨0x04c, 19, 16, .ro, 0, 1, 4, 0, 15⟩
/-- PBAY.HINGE_STATUS.IN_MISMATCH. -/
def fPbayHingeStatusInMismatch : Fld := ⟨0x04c, 15, 8, .ro, 0, 1, 4, 0, 255⟩
/-- PBAY.HINGE_STATUS.OUT_MISMATCH. -/
def fPbayHingeStatusOutMismatch : Fld := ⟨0x04c, 7, 0, .ro, 0, 1, 4, 0, 255⟩
/-! ### BAY -/

/-- BAY.PAGE_CAUSE.CAPTURE_DONE. -/
def cBayCaptureDone : Fld := ⟨0x014, 0, 0, .w1c, 0, 1, 4, 0, 1⟩
/-- BAY.PAGE_CAUSE.CAPTURE_REFUSED. -/
def cBayCaptureRefused : Fld := ⟨0x014, 1, 1, .w1c, 0, 1, 4, 0, 1⟩
/-- BAY.PAGE_CAUSE.HINGE_MISMATCH. -/
def cBayHingeMismatch : Fld := ⟨0x014, 2, 2, .w1c, 0, 1, 4, 0, 1⟩
/-- BAY.PAGE_CAUSE.MEM_CORRECTED. -/
def cBayMemCorrected : Fld := ⟨0x014, 3, 3, .w1c, 0, 1, 4, 0, 1⟩
/-- BAY.PAGE_CAUSE.MEM_PARITY. -/
def cBayMemParity : Fld := ⟨0x014, 4, 4, .w1c, 0, 1, 4, 0, 1⟩
/-- BAY.PAGE_CAUSE.MEM_UNCORRECTABLE. -/
def cBayMemUncorrectable : Fld := ⟨0x014, 5, 5, .w1c, 0, 1, 4, 0, 1⟩
/-! ### PBAY -/

/-- PBAY.MEM_LOG0.VALID. -/
def fPbayMemLog0Valid : Fld := ⟨0x070, 31, 31, .w1c, 0, 1, 4, 0, 1⟩
/-- PBAY.MEM_LOG0.KIND. -/
def fPbayMemLog0Kind : Fld := ⟨0x070, 30, 29, .ro, 0, 1, 4, 0, 3⟩
/-- PBAY.MEM_LOG0.SOURCE. -/
def fPbayMemLog0Source : Fld := ⟨0x070, 28, 27, .ro, 0, 1, 4, 0, 3⟩
/-- PBAY.MEM_LOG0.MEMORY. -/
def fPbayMemLog0Memory : Fld := ⟨0x070, 22, 16, .ro, 0, 1, 4, 0, 127⟩
/-- PBAY.MEM_LOG0.ROW. -/
def fPbayMemLog0Row : Fld := ⟨0x070, 8, 0, .ro, 0, 1, 4, 0, 511⟩
/-- PBAY.MEM_LOG1.BYTE_MASK. -/
def fPbayMemLog1ByteMask : Fld := ⟨0x074, 15, 8, .ro, 0, 1, 4, 0, 255⟩
/-- PBAY.MEM_LOG1.SYNDROME. -/
def fPbayMemLog1Syndrome : Fld := ⟨0x074, 7, 0, .ro, 0, 1, 4, 0, 255⟩
/-- PBAY.MEM_DIRTY.ARMED. -/
def fPbayMemDirtyArmed : Fld := ⟨0x078, 31, 31, .ro, 0, 1, 4, 0, 1⟩
/-- PBAY.MEM_DIRTY.DIRTY_ROWS. -/
def fPbayMemDirtyDirtyRows : Fld := ⟨0x078, 16, 0, .ro, 0, 1, 4, 0, 131071⟩
/-- PBAY.SLICE_OVF.OVF. -/
def fPbaySliceOvfOvf : Fld := ⟨0x080, 31, 0, .w1c, 0, 4, 4, 0, 4294967295⟩
/-- PBAY.COL_STATE.BLOCK_FAULT. -/
def fPbayColStateBlockFault : Fld := ⟨0x090, 25, 25, .w1c, 0, 4, 4, 0, 1⟩
/-- PBAY.COL_STATE.OPEN. -/
def fPbayColStateOpen : Fld := ⟨0x090, 24, 24, .ro, 0, 4, 4, 0, 1⟩
/-- PBAY.COL_STATE.MIN. -/
def fPbayColStateMin : Fld := ⟨0x090, 21, 16, .ro, 63, 4, 4, 0, 63⟩
/-- PBAY.COL_STATE.ECUM. -/
def fPbayColStateEcum : Fld := ⟨0x090, 13, 8, .ro, 0, 4, 4, 0, 63⟩
/-- PBAY.COL_STATE.BEXP. -/
def fPbayColStateBexp : Fld := ⟨0x090, 5, 0, .ro, 0, 4, 4, 0, 63⟩
/-! ### BAY -/

/-- BAY.PAGE_CAUSE.SLICE_OVERFLOW. -/
def cBaySliceOverflow : Fld := ⟨0x014, 6, 6, .w1c, 0, 1, 4, 0, 1⟩
/-- BAY.PAGE_CAUSE.BLOCK_FAULT. -/
def cBayBlockFault : Fld := ⟨0x014, 7, 7, .w1c, 0, 1, 4, 0, 1⟩
/-! ### CLK -/

/-- CLK.REF_CTRL.PREFER. -/
def fClkRefCtrlPrefer : Fld := ⟨0x040, 0, 0, .rw, 0, 1, 4, 0, 1⟩
/-- CLK.REF_CTRL.REVERT. -/
def fClkRefCtrlRevert : Fld := ⟨0x040, 1, 1, .rw, 0, 1, 4, 0, 1⟩
/-- CLK.REF_STATUS.SELECTED. -/
def fClkRefStatusSelected : Fld := ⟨0x044, 0, 0, .ro, 0, 1, 4, 0, 1⟩
/-- CLK.REF_STATUS.A_GOOD. -/
def fClkRefStatusAGood : Fld := ⟨0x044, 1, 1, .ro, 0, 1, 4, 0, 1⟩
/-- CLK.REF_STATUS.B_GOOD. -/
def fClkRefStatusBGood : Fld := ⟨0x044, 2, 2, .ro, 0, 1, 4, 0, 1⟩
/-- CLK.REF_STATUS.PCIE_REF_GOOD. -/
def fClkRefStatusPcieRefGood : Fld := ⟨0x044, 3, 3, .ro, 0, 1, 4, 0, 1⟩
/-- CLK.SILL_CLK.SRC_SEL. -/
def fClkSillClkSrcSel : Fld := ⟨0x048, 0, 0, .rw, 0, 1, 4, 0, 1⟩
/-- CLK.SILL_CLK.TRIM_AUTO. -/
def fClkSillClkTrimAuto : Fld := ⟨0x048, 1, 1, .rw, 1, 1, 4, 0, 1⟩
/-- CLK.SILL_CLK.TRIM_GO. -/
def fClkSillClkTrimGo : Fld := ⟨0x048, 2, 2, .wo, 0, 1, 4, 0, 1⟩
/-- CLK.SILL_CLK.XIN_PRESENT. -/
def fClkSillClkXinPresent : Fld := ⟨0x048, 3, 3, .ro, 0, 1, 4, 0, 1⟩
/-- CLK.SILL_CLK.DEAD. -/
def fClkSillClkDead : Fld := ⟨0x048, 4, 4, .ro, 0, 1, 4, 0, 1⟩
/-- CLK.SILL_CLK.TRIM_CODE. -/
def fClkSillClkTrimCode : Fld := ⟨0x048, 15, 8, .ro, 128, 1, 4, 0, 255⟩
/-- CLK.SRC_RUN.RUN. -/
def fClkSrcRunRun : Fld := ⟨0x04c, 10, 0, .rw, 1536, 1, 4, 0, 2047⟩
/-- CLK.SRC_CFG.MULT. -/
def fClkSrcCfgMult : Fld := ⟨0x050, 17, 8, .rws, 800, 11, 4, 400, 800⟩
/-- CLK.SRC_CFG.SSC_DEPTH. -/
def fClkSrcCfgSscDepth : Fld := ⟨0x050, 21, 18, .rws, 0, 11, 4, 0, 10⟩
/-- CLK.SRC_CFG.SSC_CENTRE. -/
def fClkSrcCfgSscCentre : Fld := ⟨0x050, 22, 22, .rws, 0, 11, 4, 0, 1⟩
/-- CLK.SRC_CFG.SSC_RATE. -/
def fClkSrcCfgSscRate : Fld := ⟨0x050, 28, 23, .rws, 0, 11, 4, 0, 33⟩
/-- CLK.SRC_STATUS.LOCKED. -/
def fClkSrcStatusLocked : Fld := ⟨0x080, 0, 0, .ro, 0, 11, 4, 0, 1⟩
/-- CLK.SRC_STATUS.TWIN_ACTIVE. -/
def fClkSrcStatusTwinActive : Fld := ⟨0x080, 1, 1, .ro, 0, 11, 4, 0, 1⟩
/-- CLK.SRC_STATUS.TWIN_DEGRADED. -/
def fClkSrcStatusTwinDegraded : Fld := ⟨0x080, 2, 2, .ro, 0, 11, 4, 0, 1⟩
/-- CLK.RATIO.LL_DIV. -/
def fClkRatioLlDiv : Fld := ⟨0x0b0, 1, 0, .rw, 0, 1, 4, 0, 3⟩
/-- CLK.RATIO.CUR_DIV. -/
def fClkRatioCurDiv : Fld := ⟨0x0b0, 3, 2, .rw, 0, 1, 4, 0, 3⟩
/-- CLK.RATIO.CFG_DIV. -/
def fClkRatioCfgDiv : Fld := ⟨0x0b0, 5, 4, .rw, 0, 1, 4, 0, 3⟩
/-- CLK.DROWSY.IDLE_TIME. -/
def fClkDrowsyIdleTime : Fld := ⟨0x0b4, 15, 0, .rw, 100, 1, 4, 0, 65535⟩
/-- CLK.DROWSY.EN. -/
def fClkDrowsyEn : Fld := ⟨0x0b4, 16, 16, .rw, 1, 1, 4, 0, 1⟩
/-- CLK.LAST_FAIL.CODE. -/
def fClkLastFailCode : Fld := ⟨0x0b8, 3, 0, .ro, 0, 1, 4, 0, 15⟩
/-- CLK.LAST_FAIL.SOURCE. -/
def fClkLastFailSource : Fld := ⟨0x0b8, 8, 4, .ro, 0, 1, 4, 0, 31⟩
/-- CLK.LAST_FAIL.VALID. -/
def fClkLastFailValid : Fld := ⟨0x0b8, 31, 31, .w1c, 0, 1, 4, 0, 1⟩
/-- CLK.GCLK.DIV. -/
def fClkGclkDiv : Fld := ⟨0x0c0, 8, 0, .rws, 40, 32, 4, 8, 320⟩
/-- CLK.GCLK.IN_USE. -/
def fClkGclkInUse : Fld := ⟨0x0c0, 16, 16, .ro, 0, 32, 4, 0, 1⟩
/-- CLK.ROW_TRANSOM.GCLK. -/
def fClkRowTransomGclk : Fld := ⟨0x140, 4, 0, .rws, 0, 8, 4, 0, 31⟩
/-- CLK.PAGE_CAUSE.REF_A_LOST. -/
def cClkRefALost : Fld := ⟨0x014, 0, 0, .w1c, 0, 1, 4, 0, 1⟩
/-- CLK.PAGE_CAUSE.REF_B_LOST. -/
def cClkRefBLost : Fld := ⟨0x014, 1, 1, .w1c, 0, 1, 4, 0, 1⟩
/-- CLK.PAGE_CAUSE.REF_SWITCHED. -/
def cClkRefSwitched : Fld := ⟨0x014, 2, 2, .w1c, 0, 1, 4, 0, 1⟩
/-- CLK.PAGE_CAUSE.TWIN_SWITCHED. -/
def cClkTwinSwitched : Fld := ⟨0x014, 3, 3, .w1c, 0, 1, 4, 0, 1⟩
/-- CLK.PAGE_CAUSE.PLL_FAIL. -/
def cClkPllFail : Fld := ⟨0x014, 4, 4, .w1c, 0, 1, 4, 0, 1⟩
/-- CLK.PAGE_CAUSE.TRIM_DONE. -/
def cClkTrimDone : Fld := ⟨0x014, 5, 5, .w1c, 0, 1, 4, 0, 1⟩
/-- CLK.PAGE_CAUSE.GCLK_BUSY. -/
def cClkGclkBusy : Fld := ⟨0x014, 6, 6, .w1c, 0, 1, 4, 0, 1⟩
/-! ### MESH -/

/-- MESH.NODE_FABRIC.ID. -/
def fMeshNodeFabricId : Fld := ⟨0x040, 9, 0, .rws, 1023, 1, 4, 0, 1023⟩
/-- MESH.NODE_MGMT.ID. -/
def fMeshNodeMgmtId : Fld := ⟨0x044, 9, 0, .rws, 1023, 1, 4, 0, 1023⟩
/-- MESH.NODE_CORE.ID. -/
def fMeshNodeCoreId : Fld := ⟨0x048, 9, 0, .rws, 1023, 1, 4, 0, 1023⟩
/-- MESH.NODE_HOST.ID. -/
def fMeshNodeHostId : Fld := ⟨0x04c, 9, 0, .rws, 1023, 1, 4, 0, 1023⟩
/-- MESH.HDR_LOG.HDR. -/
def fMeshHdrLogHdr : Fld := ⟨0x050, 31, 0, .ro, 0, 4, 4, 0, 4294967295⟩
/-- MESH.LOG_STATUS.VALID. -/
def fMeshLogStatusValid : Fld := ⟨0x060, 31, 31, .w1c, 0, 1, 4, 0, 1⟩
/-- MESH.LOG_STATUS.KIND. -/
def fMeshLogStatusKind : Fld := ⟨0x060, 30, 28, .ro, 0, 1, 4, 0, 7⟩
/-- MESH.LOG_STATUS.EDGE. -/
def fMeshLogStatusEdge : Fld := ⟨0x060, 27, 24, .ro, 0, 1, 4, 0, 15⟩
/-- MESH.LOG_STATUS.INDEX. -/
def fMeshLogStatusIndex : Fld := ⟨0x060, 7, 0, .ro, 0, 1, 4, 0, 255⟩
/-- MESH.PAGE_CAUSE.HDR_BAD. -/
def cMeshHdrBad : Fld := ⟨0x014, 0, 0, .w1c, 0, 1, 4, 0, 1⟩
/-- MESH.PAGE_CAUSE.MALFORMED. -/
def cMeshMalformed : Fld := ⟨0x014, 1, 1, .w1c, 0, 1, 4, 0, 1⟩
/-- MESH.PAGE_CAUSE.LOOPED. -/
def cMeshLooped : Fld := ⟨0x014, 2, 2, .w1c, 0, 1, 4, 0, 1⟩
/-- MESH.PAGE_CAUSE.STRAY. -/
def cMeshStray : Fld := ⟨0x014, 3, 3, .w1c, 0, 1, 4, 0, 1⟩
/-- MESH.PAGE_CAUSE.POSTED_DROP. -/
def cMeshPostedDrop : Fld := ⟨0x014, 4, 4, .w1c, 0, 1, 4, 0, 1⟩
/-- MESH.PAGE_CAUSE.NODE_BUSY. -/
def cMeshNodeBusy : Fld := ⟨0x014, 5, 5, .w1c, 0, 1, 4, 0, 1⟩
/-- MESH.HASH_SEED.SEED. -/
def fMeshHashSeedSeed : Fld := ⟨0x070, 27, 0, .rws, 0, 1, 4, 0, 268435455⟩
/-- MESH.ARB.BURST_LIMIT. -/
def fMeshArbBurstLimit : Fld := ⟨0x074, 15, 8, .rws, 4, 1, 4, 1, 255⟩
/-- MESH.ARB.ARB_N. -/
def fMeshArbArbN : Fld := ⟨0x074, 7, 0, .rws, 8, 1, 4, 2, 255⟩
/-- MESH.DRAIN_LIMIT.LIMIT. -/
def fMeshDrainLimitLimit : Fld := ⟨0x078, 13, 0, .rw, 100, 1, 4, 1, 10000⟩
/-- MESH.ROUTE_SEL.NODE. -/
def fMeshRouteSelNode : Fld := ⟨0x080, 9, 0, .rw, 0, 1, 4, 0, 1023⟩
/-- MESH.ROUTE_DATA.VALID. -/
def fMeshRouteDataValid : Fld := ⟨0x084, 31, 31, .rws, 0, 1, 4, 0, 1⟩
/-- MESH.ROUTE_DATA.COUNT. -/
def fMeshRouteDataCount : Fld := ⟨0x084, 15, 12, .rws, 1, 1, 4, 1, 12⟩
/-- MESH.ROUTE_DATA.FIRST. -/
def fMeshRouteDataFirst : Fld := ⟨0x084, 7, 0, .rws, 0, 1, 4, 0, 143⟩
/-- MESH.DETOUR_STATUS.ACTIVE. -/
def fMeshDetourStatusActive : Fld := ⟨0x088, 8, 0, .ro, 0, 1, 4, 0, 511⟩
/-- MESH.DETOUR_LOG.VALID. -/
def fMeshDetourLogValid : Fld := ⟨0x08c, 31, 31, .w1c, 0, 1, 4, 0, 1⟩
/-- MESH.DETOUR_LOG.PLANE. -/
def fMeshDetourLogPlane : Fld := ⟨0x08c, 16, 16, .ro, 0, 1, 4, 0, 1⟩
/-- MESH.DETOUR_LOG.OUTPUT. -/
def fMeshDetourLogOutput : Fld := ⟨0x08c, 14, 12, .ro, 0, 1, 4, 0, 7⟩
/-- MESH.DETOUR_LOG.X. -/
def fMeshDetourLogX : Fld := ⟨0x08c, 11, 8, .ro, 0, 1, 4, 0, 15⟩
/-- MESH.DETOUR_LOG.Y. -/
def fMeshDetourLogY : Fld := ⟨0x08c, 3, 0, .ro, 0, 1, 4, 0, 15⟩
/-- MESH.PAGE_CAUSE.SEED_BUSY. -/
def cMeshSeedBusy : Fld := ⟨0x014, 6, 6, .w1c, 0, 1, 4, 0, 1⟩
/-- MESH.PAGE_CAUSE.ROUTE_BUSY. -/
def cMeshRouteBusy : Fld := ⟨0x014, 7, 7, .w1c, 0, 1, 4, 0, 1⟩
/-- MESH.PAGE_CAUSE.DETOUR. -/
def cMeshDetour : Fld := ⟨0x014, 8, 8, .w1c, 0, 1, 4, 0, 1⟩
/-- MESH.PAGE_CAUSE.PLANES_LOST. -/
def cMeshPlanesLost : Fld := ⟨0x014, 9, 9, .w1c, 0, 1, 4, 0, 1⟩
/-- MESH.PAGE_CAUSE.RSP_DROP. -/
def cMeshRspDrop : Fld := ⟨0x014, 10, 10, .w1c, 0, 1, 4, 0, 1⟩
/-! ### PBAY -/

/-- PBAY.SHUTTER.EXPIRED. -/
def fPbayShutterExpired : Fld := ⟨0x0a0, 4, 4, .ro, 0, 1, 4, 0, 1⟩
/-- PBAY.SHUTTER.STATE. -/
def fPbayShutterState : Fld := ⟨0x0a0, 3, 2, .ro, 2, 1, 4, 0, 3⟩
/-- PBAY.SHUTTER.OPEN. -/
def fPbayShutterOpen : Fld := ⟨0x0a0, 1, 1, .wo, 0, 1, 4, 0, 1⟩
/-- PBAY.SHUTTER.CLOSE. -/
def fPbayShutterClose : Fld := ⟨0x0a0, 0, 0, .wo, 0, 1, 4, 0, 1⟩
/-- PBAY.BP_TIMEOUT.TIMEOUT. -/
def fPbayBpTimeoutTimeout : Fld := ⟨0x0a4, 25, 0, .rw, 15625, 1, 4, 0, 67108863⟩
/-- PBAY.BP_STATUS.OUTSTANDING. -/
def fPbayBpStatusOutstanding : Fld := ⟨0x0a8, 5, 0, .ro, 0, 1, 4, 0, 63⟩
/-! ### BAY -/

/-- BAY.PAGE_CAUSE.BP_TIMEOUT. -/
def cBayBpTimeout : Fld := ⟨0x014, 8, 8, .w1c, 0, 1, 4, 0, 1⟩
/-- BAY.PAGE_CAUSE.BP_LATE. -/
def cBayBpLate : Fld := ⟨0x014, 9, 9, .w1c, 0, 1, 4, 0, 1⟩
/-- BAY.PAGE_CAUSE.DRAIN_EXPIRED. -/
def cBayDrainExpired : Fld := ⟨0x014, 10, 10, .w1c, 0, 1, 4, 0, 1⟩
/-! ### PORTR -/

/-- PORTR.POSITION.FIRST_LINK. -/
def fPortrPositionFirstLink : Fld := ⟨0x040, 23, 16, .ro, 0, 1, 4, 0, 255⟩
/-- PORTR.POSITION.NODE_PORT. -/
def fPortrPositionNodePort : Fld := ⟨0x040, 11, 10, .ro, 0, 1, 4, 0, 3⟩
/-- PORTR.POSITION.EDGE. -/
def fPortrPositionEdge : Fld := ⟨0x040, 9, 8, .ro, 0, 1, 4, 0, 3⟩
/-- PORTR.POSITION.Y. -/
def fPortrPositionY : Fld := ⟨0x040, 7, 4, .ro, 0, 1, 4, 0, 15⟩
/-- PORTR.POSITION.X. -/
def fPortrPositionX : Fld := ⟨0x040, 3, 0, .ro, 0, 1, 4, 0, 15⟩
/-- PORTR.EGRESS_ARB.BURST_LIMIT. -/
def fPortrEgressArbBurstLimit : Fld := ⟨0x044, 15, 8, .rws, 4, 1, 4, 1, 255⟩
/-- PORTR.EGRESS_ARB.ARB_N. -/
def fPortrEgressArbArbN : Fld := ⟨0x044, 7, 0, .rws, 8, 1, 4, 2, 255⟩
/-- PORTR.PAGE_CAUSE.EGRESS_REFUSED. -/
def cPortrEgressRefused : Fld := ⟨0x014, 0, 0, .w1c, 0, 1, 4, 0, 1⟩
/-! ### TXL -/

/-- TXL.SUB_LINK.LINK. -/
def fTxlSubLinkLink : Fld := ⟨0x040, 3, 0, .rws, 0, 1, 4, 0, 15⟩
/-- TXL.SUB_LANE_LO.LO. -/
def fTxlSubLaneLoLo : Fld := ⟨0x048, 31, 0, .rws, 1008, 7, 8, 0, 4294967295⟩
/-- TXL.SUB_LANE_HI.DESKEW. -/
def fTxlSubLaneHiDeskew : Fld := ⟨0x04c, 7, 0, .rws, 0, 7, 8, 0, 255⟩
/-- TXL.PHY_RX.FAILED. -/
def fTxlPhyRxFailed : Fld := ⟨0x080, 4, 0, .ro, 0, 1, 4, 0, 31⟩
/-- TXL.PHY_RX.C_FAILED. -/
def fTxlPhyRxCFailed : Fld := ⟨0x080, 5, 5, .ro, 0, 1, 4, 0, 1⟩
/-- TXL.PHY_RX.CS_FAILED. -/
def fTxlPhyRxCsFailed : Fld := ⟨0x080, 6, 6, .ro, 0, 1, 4, 0, 1⟩
/-- TXL.PHY_RX.DS_CARRIES. -/
def fTxlPhyRxDsCarries : Fld := ⟨0x080, 10, 8, .ro, 7, 1, 4, 0, 7⟩
/-- TXL.PHY_RX.CLK_SEL. -/
def fTxlPhyRxClkSel : Fld := ⟨0x080, 12, 12, .ro, 0, 1, 4, 0, 1⟩
/-- TXL.PHY_RX.DLL_LOCKED. -/
def fTxlPhyRxDllLocked : Fld := ⟨0x080, 13, 13, .ro, 0, 1, 4, 0, 1⟩
/-- TXL.PHY_RX.ALIGNED. -/
def fTxlPhyRxAligned : Fld := ⟨0x080, 14, 14, .ro, 0, 1, 4, 0, 1⟩
/-- TXL.PHY_RX.MODE. -/
def fTxlPhyRxMode : Fld := ⟨0x080, 16, 15, .ro, 2, 1, 4, 0, 3⟩
/-- TXL.PHY_TX.FAILED. -/
def fTxlPhyTxFailed : Fld := ⟨0x084, 4, 0, .ro, 0, 1, 4, 0, 31⟩
/-- TXL.PHY_TX.DS_CARRIES. -/
def fTxlPhyTxDsCarries : Fld := ⟨0x084, 10, 8, .ro, 7, 1, 4, 0, 7⟩
/-- TXL.PHY_TX.CLK_SEL. -/
def fTxlPhyTxClkSel : Fld := ⟨0x084, 12, 12, .ro, 0, 1, 4, 0, 1⟩
/-- TXL.PHY_TX.MODE. -/
def fTxlPhyTxMode : Fld := ⟨0x084, 14, 13, .ro, 2, 1, 4, 0, 3⟩
/-- TXL.SKEW_FOUND. -/
def fTxlSkewFound : Fld := ⟨0x088, 14, 0, .ro, 0, 1, 4, 0, 32767⟩
/-- TXL.CENTRE_FOUND. -/
def fTxlCentreFound : Fld := ⟨0x08c, 29, 0, .ro, 0, 1, 4, 0, 1073741823⟩
/-- TXL.MARGIN.WINDOW. -/
def fTxlMarginWindow : Fld := ⟨0x090, 3, 0, .rw, 4, 1, 4, 1, 15⟩
/-- TXL.MARGIN.LIMIT. -/
def fTxlMarginLimit : Fld := ⟨0x090, 15, 8, .rw, 16, 1, 4, 0, 255⟩
/-- TXL.MARGIN.AUTO. -/
def fTxlMarginAuto : Fld := ⟨0x090, 16, 16, .rw, 1, 1, 4, 0, 1⟩
/-- TXL.SWAP_TEST.LANE. -/
def fTxlSwapTestLane : Fld := ⟨0x094, 1, 0, .wo, 0, 1, 4, 0, 3⟩
/-- TXL.SWAP_TEST.DATA_GO. -/
def fTxlSwapTestDataGo : Fld := ⟨0x094, 2, 2, .wo, 0, 1, 4, 0, 1⟩
/-- TXL.SWAP_TEST.CLK_GO. -/
def fTxlSwapTestClkGo : Fld := ⟨0x094, 3, 3, .wo, 0, 1, 4, 0, 1⟩
/-- TXL.PAGE_CAUSE.TABLE_INVALID. -/
def cTxlTableInvalid : Fld := ⟨0x014, 0, 0, .w1c, 0, 1, 4, 0, 1⟩
/-- TXL.PAGE_CAUSE.TABLE_BUSY. -/
def cTxlTableBusy : Fld := ⟨0x014, 1, 1, .w1c, 0, 1, 4, 0, 1⟩
/-- TXL.PAGE_CAUSE.TRAIN_FAIL. -/
def cTxlTrainFail : Fld := ⟨0x014, 2, 2, .w1c, 0, 1, 4, 0, 1⟩
/-- TXL.PAGE_CAUSE.LANE_ORDER. -/
def cTxlLaneOrder : Fld := ⟨0x014, 3, 3, .w1c, 0, 1, 4, 0, 1⟩
/-- TXL.PAGE_CAUSE.LANE_SWAPPED. -/
def cTxlLaneSwapped : Fld := ⟨0x014, 4, 4, .w1c, 0, 1, 4, 0, 1⟩
/-- TXL.PAGE_CAUSE.CLK_SWAPPED. -/
def cTxlClkSwapped : Fld := ⟨0x014, 5, 5, .w1c, 0, 1, 4, 0, 1⟩
/-- TXL.PAGE_CAUSE.SPARE_LOST. -/
def cTxlSpareLost : Fld := ⟨0x014, 6, 6, .w1c, 0, 1, 4, 0, 1⟩
/-- TXL.PAGE_CAUSE.MARGIN_LOW. -/
def cTxlMarginLow : Fld := ⟨0x014, 7, 7, .w1c, 0, 1, 4, 0, 1⟩
/-- TXL.SHUTTER.EXPIRED. -/
def fTxlShutterExpired : Fld := ⟨0x0a0, 4, 4, .ro, 0, 1, 4, 0, 1⟩
/-- TXL.SHUTTER.STATE. -/
def fTxlShutterState : Fld := ⟨0x0a0, 3, 2, .ro, 2, 1, 4, 0, 3⟩
/-- TXL.SHUTTER.OPEN. -/
def fTxlShutterOpen : Fld := ⟨0x0a0, 1, 1, .wo, 0, 1, 4, 0, 1⟩
/-- TXL.SHUTTER.CLOSE. -/
def fTxlShutterClose : Fld := ⟨0x0a0, 0, 0, .wo, 0, 1, 4, 0, 1⟩
/-- TXL.LINK_STATUS.STATE. -/
def fTxlLinkStatusState : Fld := ⟨0x0a4, 2, 0, .ro, 0, 1, 4, 0, 7⟩
/-- TXL.LINK_STATUS.VERSION. -/
def fTxlLinkStatusVersion : Fld := ⟨0x0a4, 5, 4, .ro, 0, 1, 4, 0, 3⟩
/-- TXL.LINK_STATUS.TX_IDLE. -/
def fTxlLinkStatusTxIdle : Fld := ⟨0x0a4, 6, 6, .ro, 0, 1, 4, 0, 1⟩
/-- TXL.LINK_STATUS.RX_IDLE. -/
def fTxlLinkStatusRxIdle : Fld := ⟨0x0a4, 7, 7, .ro, 0, 1, 4, 0, 1⟩
/-- TXL.LINK_STATUS.PEER_CAPS. -/
def fTxlLinkStatusPeerCaps : Fld := ⟨0x0a4, 12, 8, .ro, 0, 1, 4, 0, 31⟩
/-- TXL.LINK_STATUS.RETRY_USED. -/
def fTxlLinkStatusRetryUsed : Fld := ⟨0x0a4, 22, 16, .ro, 0, 1, 4, 0, 127⟩
/-- TXL.PEER_NODE_LO.NODE0. -/
def fTxlPeerNodeLoNode0 : Fld := ⟨0x0a8, 9, 0, .ro, 1023, 1, 4, 0, 1023⟩
/-- TXL.PEER_NODE_LO.NODE1. -/
def fTxlPeerNodeLoNode1 : Fld := ⟨0x0a8, 25, 16, .ro, 1023, 1, 4, 0, 1023⟩
/-- TXL.PEER_NODE_HI.NODE2. -/
def fTxlPeerNodeHiNode2 : Fld := ⟨0x0ac, 9, 0, .ro, 1023, 1, 4, 0, 1023⟩
/-- TXL.PEER_NODE_HI.NODE3. -/
def fTxlPeerNodeHiNode3 : Fld := ⟨0x0ac, 25, 16, .ro, 1023, 1, 4, 0, 1023⟩
/-- TXL.PEER_DIE.DIE_CODE. -/
def fTxlPeerDieDieCode : Fld := ⟨0x0b0, 15, 0, .ro, 0, 1, 4, 0, 65535⟩
/-- TXL.PEER_DIE.STEPPING. -/
def fTxlPeerDieStepping : Fld := ⟨0x0b0, 23, 16, .ro, 0, 1, 4, 0, 255⟩
/-- TXL.PEER_DIE.VERSIONS. -/
def fTxlPeerDieVersions : Fld := ⟨0x0b0, 31, 24, .ro, 0, 1, 4, 0, 255⟩
/-- TXL.PEER_CRD_LO.CLASS0. -/
def fTxlPeerCrdLoClass0 : Fld := ⟨0x0b4, 11, 0, .ro, 0, 1, 4, 0, 4095⟩
/-- TXL.PEER_CRD_LO.CLASS1. -/
def fTxlPeerCrdLoClass1 : Fld := ⟨0x0b4, 27, 16, .ro, 0, 1, 4, 0, 4095⟩
/-- TXL.PEER_CRD_HI.CLASS2. -/
def fTxlPeerCrdHiClass2 : Fld := ⟨0x0b8, 11, 0, .ro, 0, 1, 4, 0, 4095⟩
/-- TXL.PEER_CRD_HI.CLASS3. -/
def fTxlPeerCrdHiClass3 : Fld := ⟨0x0b8, 27, 16, .ro, 0, 1, 4, 0, 4095⟩
/-- TXL.LL_CFG.REPLAY_LIMIT. -/
def fTxlLlCfgReplayLimit : Fld := ⟨0x0bc, 7, 0, .rws, 8, 1, 4, 1, 255⟩
/-- TXL.LL_CFG.RETRAIN_LIMIT. -/
def fTxlLlCfgRetrainLimit : Fld := ⟨0x0bc, 11, 8, .rws, 3, 1, 4, 1, 15⟩
/-- TXL.LL_CFG.VERSION_MAX. -/
def fTxlLlCfgVersionMax : Fld := ⟨0x0bc, 13, 12, .rws, 3, 1, 4, 1, 3⟩
/-- TXL.LL_CFG.IDLE_EN. -/
def fTxlLlCfgIdleEn : Fld := ⟨0x0bc, 14, 14, .rws, 1, 1, 4, 0, 1⟩
/-- TXL.LL_CFG.SLEEP_OK. -/
def fTxlLlCfgSleepOk : Fld := ⟨0x0bc, 15, 15, .rws, 1, 1, 4, 0, 1⟩
/-- TXL.LL_CFG.IDLE_TIME. -/
def fTxlLlCfgIdleTime : Fld := ⟨0x0bc, 31, 16, .rws, 100, 1, 4, 0, 65535⟩
/-- TXL.PM_CTRL.SLEEP. -/
def fTxlPmCtrlSleep : Fld := ⟨0x0c0, 0, 0, .wo, 0, 1, 4, 0, 1⟩
/-- TXL.PM_CTRL.WAKE. -/
def fTxlPmCtrlWake : Fld := ⟨0x0c0, 1, 1, .wo, 0, 1, 4, 0, 1⟩
/-- TXL.PM_CTRL.RETRAIN. -/
def fTxlPmCtrlRetrain : Fld := ⟨0x0c0, 2, 2, .wo, 0, 1, 4, 0, 1⟩
/-- TXL.STALL_LIMIT.LIMIT. -/
def fTxlStallLimitLimit : Fld := ⟨0x0c4, 19, 0, .rw, 100, 1, 4, 1, 1000000⟩
/-- TXL.BRINGUP_LIMIT.LIMIT. -/
def fTxlBringupLimitLimit : Fld := ⟨0x0c8, 19, 0, .rw, 0, 1, 4, 0, 1048575⟩
/-- TXL.TX_SEQ_LO. -/
def fTxlTxSeqLo : Fld := ⟨0x0d0, 31, 0, .ro, 0, 1, 4, 0, 4294967295⟩
/-- TXL.TX_SEQ_HI. -/
def fTxlTxSeqHi : Fld := ⟨0x0d4, 31, 0, .ro, 0, 1, 4, 0, 4294967295⟩
/-- TXL.RX_SEQ_LO. -/
def fTxlRxSeqLo : Fld := ⟨0x0d8, 31, 0, .ro, 0, 1, 4, 0, 4294967295⟩
/-- TXL.RX_SEQ_HI. -/
def fTxlRxSeqHi : Fld := ⟨0x0dc, 31, 0, .ro, 0, 1, 4, 0, 4294967295⟩
/-- TXL.PAGE_CAUSE.BRINGUP_LATE. -/
def cTxlBringupLate : Fld := ⟨0x014, 8, 8, .w1c, 0, 1, 4, 0, 1⟩
/-- TXL.PAGE_CAUSE.VERSION_MISMATCH. -/
def cTxlVersionMismatch : Fld := ⟨0x014, 9, 9, .w1c, 0, 1, 4, 0, 1⟩
/-- TXL.PAGE_CAUSE.RETRAIN. -/
def cTxlRetrain : Fld := ⟨0x014, 10, 10, .w1c, 0, 1, 4, 0, 1⟩
/-- TXL.PAGE_CAUSE.LINK_FAULT. -/
def cTxlLinkFault : Fld := ⟨0x014, 11, 11, .w1c, 0, 1, 4, 0, 1⟩
/-- TXL.PAGE_CAUSE.CREDIT_STALL. -/
def cTxlCreditStall : Fld := ⟨0x014, 12, 12, .w1c, 0, 1, 4, 0, 1⟩
/-- TXL.PAGE_CAUSE.CREDIT_OVERRUN. -/
def cTxlCreditOverrun : Fld := ⟨0x014, 13, 13, .w1c, 0, 1, 4, 0, 1⟩
/-- TXL.PAGE_CAUSE.PROTOCOL. -/
def cTxlProtocol : Fld := ⟨0x014, 14, 14, .w1c, 0, 1, 4, 0, 1⟩
/-! ### KEYS -/

/-- KEYS.SEAL_STATUS.FUSED. -/
def fKeysSealStatusFused : Fld := ⟨0x040, 3, 0, .ro, 0, 1, 4, 0, 15⟩
/-- KEYS.SEAL_STATUS.RAM. -/
def fKeysSealStatusRam : Fld := ⟨0x040, 11, 4, .ro, 0, 1, 4, 0, 255⟩
/-- KEYS.SEAL_STATUS.VBAT_OK. -/
def fKeysSealStatusVbatOk : Fld := ⟨0x040, 16, 16, .ro, 0, 1, 4, 0, 1⟩
/-- KEYS.SEAL_STATUS.ON_VBAT. -/
def fKeysSealStatusOnVbat : Fld := ⟨0x040, 17, 17, .ro, 0, 1, 4, 0, 1⟩
/-- KEYS.LAST_LOAD.INDEX. -/
def fKeysLastLoadIndex : Fld := ⟨0x044, 7, 0, .ro, 0, 1, 4, 0, 255⟩
/-- KEYS.LAST_LOAD.SLOT. -/
def fKeysLastLoadSlot : Fld := ⟨0x044, 8, 8, .ro, 0, 1, 4, 0, 1⟩
/-- KEYS.LAST_LOAD.TARGET. -/
def fKeysLastLoadTarget : Fld := ⟨0x044, 12, 12, .ro, 0, 1, 4, 0, 1⟩
/-- KEYS.LAST_LOAD.SOURCE. -/
def fKeysLastLoadSource : Fld := ⟨0x044, 16, 16, .ro, 0, 1, 4, 0, 1⟩
/-- KEYS.LAST_LOAD.STATUS. -/
def fKeysLastLoadStatus : Fld := ⟨0x044, 27, 24, .ro, 0, 1, 4, 0, 15⟩
/-- KEYS.LAST_LOAD.VALID. -/
def fKeysLastLoadValid : Fld := ⟨0x044, 31, 31, .ro, 0, 1, 4, 0, 1⟩
/-- KEYS.PAGE_CAUSE.KEY_LOADED. -/
def cKeysKeyLoaded : Fld := ⟨0x014, 0, 0, .w1c, 0, 1, 4, 0, 1⟩
/-- KEYS.PAGE_CAUSE.KEY_REFUSED. -/
def cKeysKeyRefused : Fld := ⟨0x014, 1, 1, .w1c, 0, 1, 4, 0, 1⟩
/-- KEYS.PAGE_CAUSE.UNWRAP_FAIL. -/
def cKeysUnwrapFail : Fld := ⟨0x014, 2, 2, .w1c, 0, 1, 4, 0, 1⟩
/-- KEYS.PAGE_CAUSE.SEAL_EMPTY. -/
def cKeysSealEmpty : Fld := ⟨0x014, 3, 3, .w1c, 0, 1, 4, 0, 1⟩
/-! ### CUR -/

/-- CUR.CUR_CFG.MODE. -/
def fCurCurCfgMode : Fld := ⟨0x040, 1, 0, .rws, 0, 1, 4, 0, 2⟩
/-- CUR.SHUTTER.EXPIRED. -/
def fCurShutterExpired : Fld := ⟨0x044, 4, 4, .ro, 0, 1, 4, 0, 1⟩
/-- CUR.SHUTTER.STATE. -/
def fCurShutterState : Fld := ⟨0x044, 3, 2, .ro, 2, 1, 4, 0, 3⟩
/-- CUR.SHUTTER.OPEN. -/
def fCurShutterOpen : Fld := ⟨0x044, 1, 1, .wo, 0, 1, 4, 0, 1⟩
/-- CUR.SHUTTER.CLOSE. -/
def fCurShutterClose : Fld := ⟨0x044, 0, 0, .wo, 0, 1, 4, 0, 1⟩
/-- CUR.CUR_TIMEOUT.TIMEOUT. -/
def fCurCurTimeoutTimeout : Fld := ⟨0x048, 25, 0, .rw, 15625, 1, 4, 0, 67108863⟩
/-- CUR.CUR_STATUS.ENGINE. -/
def fCurCurStatusEngine : Fld := ⟨0x04c, 7, 0, .ro, 0, 1, 4, 0, 255⟩
/-- CUR.CUR_STATUS.SLOT0_VALID. -/
def fCurCurStatusSlot0Valid : Fld := ⟨0x04c, 8, 8, .ro, 0, 1, 4, 0, 1⟩
/-- CUR.CUR_STATUS.SLOT1_VALID. -/
def fCurCurStatusSlot1Valid : Fld := ⟨0x04c, 9, 9, .ro, 0, 1, 4, 0, 1⟩
/-- CUR.CUR_STATUS.CURRENT. -/
def fCurCurStatusCurrent : Fld := ⟨0x04c, 10, 10, .ro, 0, 1, 4, 0, 1⟩
/-- CUR.CUR_STATUS.TX_PHASE. -/
def fCurCurStatusTxPhase : Fld := ⟨0x04c, 11, 11, .ro, 0, 1, 4, 0, 1⟩
/-- CUR.CUR_STATUS.RX_PHASE. -/
def fCurCurStatusRxPhase : Fld := ⟨0x04c, 12, 12, .ro, 0, 1, 4, 0, 1⟩
/-- CUR.CUR_STATUS.ROLL_BUSY. -/
def fCurCurStatusRollBusy : Fld := ⟨0x04c, 13, 13, .ro, 0, 1, 4, 0, 1⟩
/-- CUR.CUR_STATUS.INIT_BUSY. -/
def fCurCurStatusInitBusy : Fld := ⟨0x04c, 14, 14, .ro, 0, 1, 4, 0, 1⟩
/-- CUR.KEY_CTRL.ROLL. -/
def fCurKeyCtrlRoll : Fld := ⟨0x050, 0, 0, .wo, 0, 1, 4, 0, 1⟩
/-- CUR.SWEEP_PTR.PAGE. -/
def fCurSweepPtrPage : Fld := ⟨0x054, 27, 0, .ro, 0, 1, 4, 0, 268435455⟩
/-- CUR.SWEEP_PTR.WINDOW. -/
def fCurSweepPtrWindow : Fld := ⟨0x054, 29, 28, .ro, 0, 1, 4, 0, 3⟩
/-- CUR.WIN_CMD.WINDOW. -/
def fCurWinCmdWindow : Fld := ⟨0x058, 1, 0, .wo, 0, 1, 4, 0, 3⟩
/-- CUR.WIN_CMD.INIT. -/
def fCurWinCmdInit : Fld := ⟨0x058, 2, 2, .wo, 0, 1, 4, 0, 1⟩
/-- CUR.QUAR_STATUS.COUNT. -/
def fCurQuarStatusCount : Fld := ⟨0x05c, 5, 0, .ro, 0, 1, 4, 0, 63⟩
/-- CUR.WIN_BASE_LO.BASE. -/
def fCurWinBaseLoBase : Fld := ⟨0x060, 31, 12, .rws, 0, 4, 32, 0, 1048575⟩
/-- CUR.WIN_BASE_HI.BASE. -/
def fCurWinBaseHiBase : Fld := ⟨0x064, 21, 0, .rws, 0, 4, 32, 0, 4194303⟩
/-- CUR.WIN_PAGES.PAGES. -/
def fCurWinPagesPages : Fld := ⟨0x068, 28, 0, .rws, 0, 4, 32, 0, 536870911⟩
/-- CUR.WIN_CTR_LO.CTR. -/
def fCurWinCtrLoCtr : Fld := ⟨0x06c, 31, 6, .rws, 0, 4, 32, 0, 67108863⟩
/-- CUR.WIN_CTR_HI.CTR. -/
def fCurWinCtrHiCtr : Fld := ⟨0x070, 21, 0, .rws, 0, 4, 32, 0, 4194303⟩
/-- CUR.WIN_TAG_LO.TAG. -/
def fCurWinTagLoTag : Fld := ⟨0x074, 31, 6, .rws, 0, 4, 32, 0, 67108863⟩
/-- CUR.WIN_TAG_HI.TAG. -/
def fCurWinTagHiTag : Fld := ⟨0x078, 21, 0, .rws, 0, 4, 32, 0, 4194303⟩
/-- CUR.WIN_CTRL.NODE. -/
def fCurWinCtrlNode : Fld := ⟨0x07c, 9, 0, .rws, 1023, 4, 32, 0, 1023⟩
/-- CUR.WIN_CTRL.VALID. -/
def fCurWinCtrlValid : Fld := ⟨0x07c, 31, 31, .rws, 0, 4, 32, 0, 1⟩
/-- CUR.QUAR_SEL.INDEX. -/
def fCurQuarSelIndex : Fld := ⟨0x0e0, 4, 0, .rw, 0, 1, 4, 0, 31⟩
/-- CUR.QUAR_LO.VALID. -/
def fCurQuarLoValid : Fld := ⟨0x0e4, 0, 0, .ro, 0, 1, 4, 0, 1⟩
/-- CUR.QUAR_LO.WINDOW. -/
def fCurQuarLoWindow : Fld := ⟨0x0e4, 2, 1, .ro, 0, 1, 4, 0, 3⟩
/-- CUR.QUAR_LO.LINE. -/
def fCurQuarLoLine : Fld := ⟨0x0e4, 31, 6, .ro, 0, 1, 4, 0, 67108863⟩
/-- CUR.QUAR_HI.LINE. -/
def fCurQuarHiLine : Fld := ⟨0x0e8, 21, 0, .ro, 0, 1, 4, 0, 4194303⟩
/-- CUR.QUAR_RELEASE.INDEX. -/
def fCurQuarReleaseIndex : Fld := ⟨0x0ec, 4, 0, .wo, 0, 1, 4, 0, 31⟩
/-- CUR.QUAR_RELEASE.POISON. -/
def fCurQuarReleasePoison : Fld := ⟨0x0ec, 5, 5, .wo, 0, 1, 4, 0, 1⟩
/-- CUR.QUAR_RELEASE.GO. -/
def fCurQuarReleaseGo : Fld := ⟨0x0ec, 6, 6, .wo, 0, 1, 4, 0, 1⟩
/-- CUR.FAIL_LOG0.VALID. -/
def fCurFailLog0Valid : Fld := ⟨0x0f0, 31, 31, .w1c, 0, 1, 4, 0, 1⟩
/-- CUR.FAIL_LOG0.KIND. -/
def fCurFailLog0Kind : Fld := ⟨0x0f0, 30, 28, .ro, 0, 1, 4, 0, 7⟩
/-- CUR.FAIL_LOG0.WINDOW. -/
def fCurFailLog0Window : Fld := ⟨0x0f0, 27, 26, .ro, 0, 1, 4, 0, 3⟩
/-- CUR.FAIL_LOG1.WHERE_LO. -/
def fCurFailLog1WhereLo : Fld := ⟨0x0f4, 31, 0, .ro, 0, 1, 4, 0, 4294967295⟩
/-- CUR.FAIL_LOG2.WHERE_HI. -/
def fCurFailLog2WhereHi : Fld := ⟨0x0f8, 31, 0, .ro, 0, 1, 4, 0, 4294967295⟩
/-- CUR.PAGE_CAUSE.READ_FAIL. -/
def cCurReadFail : Fld := ⟨0x014, 0, 0, .w1c, 0, 1, 4, 0, 1⟩
/-- CUR.PAGE_CAUSE.WRITE_FAIL. -/
def cCurWriteFail : Fld := ⟨0x014, 1, 1, .w1c, 0, 1, 4, 0, 1⟩
/-- CUR.PAGE_CAUSE.POISON_HIT. -/
def cCurPoisonHit : Fld := ⟨0x014, 2, 2, .w1c, 0, 1, 4, 0, 1⟩
/-- CUR.PAGE_CAUSE.QUAR_FULL. -/
def cCurQuarFull : Fld := ⟨0x014, 3, 3, .w1c, 0, 1, 4, 0, 1⟩
/-- CUR.PAGE_CAUSE.LINK_TAG_FAIL. -/
def cCurLinkTagFail : Fld := ⟨0x014, 4, 4, .w1c, 0, 1, 4, 0, 1⟩
/-- CUR.PAGE_CAUSE.TAKEOVER. -/
def cCurTakeover : Fld := ⟨0x014, 5, 5, .w1c, 0, 1, 4, 0, 1⟩
/-- CUR.PAGE_CAUSE.ENGINE_LOST. -/
def cCurEngineLost : Fld := ⟨0x014, 6, 6, .w1c, 0, 1, 4, 0, 1⟩
/-- CUR.PAGE_CAUSE.MODE_REFUSED. -/
def cCurModeRefused : Fld := ⟨0x014, 7, 7, .w1c, 0, 1, 4, 0, 1⟩
/-- CUR.PAGE_CAUSE.CFG_BUSY. -/
def cCurCfgBusy : Fld := ⟨0x014, 8, 8, .w1c, 0, 1, 4, 0, 1⟩
/-- CUR.PAGE_CAUSE.FETCH_ERROR. -/
def cCurFetchError : Fld := ⟨0x014, 9, 9, .w1c, 0, 1, 4, 0, 1⟩
/-- CUR.PAGE_CAUSE.ROLL_DONE. -/
def cCurRollDone : Fld := ⟨0x014, 10, 10, .w1c, 0, 1, 4, 0, 1⟩
/-- CUR.PAGE_CAUSE.INIT_DONE. -/
def cCurInitDone : Fld := ⟨0x014, 11, 11, .w1c, 0, 1, 4, 0, 1⟩
/-- CUR.PAGE_CAUSE.SPARE_FAULT. -/
def cCurSpareFault : Fld := ⟨0x014, 12, 12, .w1c, 0, 1, 4, 0, 1⟩
/-! ### CFG -/

/-- CFG.LOAD_SRC.SOURCE. -/
def fCfgLoadSrcSource : Fld := ⟨0x040, 2, 0, .rw, 0, 1, 4, 0, 4⟩
/-- CFG.LOAD_CMD.GO. -/
def fCfgLoadCmdGo : Fld := ⟨0x044, 0, 0, .wo, 0, 1, 4, 0, 1⟩
/-- CFG.LOAD_CMD.STARTUP_GO. -/
def fCfgLoadCmdStartupGo : Fld := ⟨0x044, 1, 1, .wo, 0, 1, 4, 0, 1⟩
/-- CFG.LOAD_STATUS.STATE. -/
def fCfgLoadStatusState : Fld := ⟨0x048, 2, 0, .ro, 0, 1, 4, 0, 7⟩
/-- CFG.LOAD_STATUS.STEP. -/
def fCfgLoadStatusStep : Fld := ⟨0x048, 6, 4, .ro, 0, 1, 4, 0, 7⟩
/-- CFG.LOAD_STATUS.REASON. -/
def fCfgLoadStatusReason : Fld := ⟨0x048, 15, 8, .ro, 0, 1, 4, 0, 255⟩
/-- CFG.LOAD_STATUS.KIND. -/
def fCfgLoadStatusKind : Fld := ⟨0x048, 17, 16, .ro, 0, 1, 4, 0, 3⟩
/-- CFG.LOAD_STATUS.CLASS. -/
def fCfgLoadStatusClass : Fld := ⟨0x048, 19, 18, .ro, 0, 1, 4, 0, 3⟩
/-- CFG.BYTES_IN.BYTES. -/
def fCfgBytesInBytes : Fld := ⟨0x04c, 31, 0, .ro, 0, 1, 4, 0, 4294967295⟩
/-- CFG.FRAMES_WRITTEN.FRAMES. -/
def fCfgFramesWrittenFrames : Fld := ⟨0x050, 31, 0, .ro, 0, 1, 4, 0, 4294967295⟩
/-- CFG.STARTUP_ORDER.ORDER. -/
def fCfgStartupOrderOrder : Fld := ⟨0x054, 14, 0, .rw, 2257, 1, 4, 0, 32767⟩
/-- CFG.LATCH.LIMIT. -/
def fCfgLatchLimit : Fld := ⟨0x058, 15, 0, .rw, 0, 1, 4, 0, 65535⟩
/-- CFG.LATCH.LEVEL. -/
def fCfgLatchLevel : Fld := ⟨0x058, 16, 16, .ro, 0, 1, 4, 0, 1⟩
/-- CFG.LATCH.DRIVING. -/
def fCfgLatchDriving : Fld := ⟨0x058, 17, 17, .ro, 1, 1, 4, 0, 1⟩
/-- CFG.LOAD_LIMIT.LIMIT. -/
def fCfgLoadLimitLimit : Fld := ⟨0x05c, 15, 0, .rw, 0, 1, 4, 0, 65535⟩
/-- CFG.DEADLINE_STATUS.DEADLINE. -/
def fCfgDeadlineStatusDeadline : Fld := ⟨0x060, 15, 0, .ro, 0, 1, 4, 0, 65535⟩
/-- CFG.DEADLINE_STATUS.ARMED. -/
def fCfgDeadlineStatusArmed : Fld := ⟨0x060, 16, 16, .ro, 0, 1, 4, 0, 1⟩
/-- CFG.PUSH_HEAD.HEAD. -/
def fCfgPushHeadHead : Fld := ⟨0x064, 24, 0, .ro, 0, 1, 4, 0, 33554431⟩
/-- CFG.PUSH_TAIL.TAIL. -/
def fCfgPushTailTail : Fld := ⟨0x068, 24, 0, .rw, 0, 1, 4, 0, 33554431⟩
/-- CFG.PULL_BASE.BASE_LO. -/
def fCfgPullBaseBaseLo : Fld := ⟨0x06c, 31, 0, .rw, 0, 1, 4, 0, 4294967295⟩
/-- CFG.PULL_BASE.BASE_HI. -/
def fCfgPullBaseBaseHi : Fld := ⟨0x070, 31, 0, .rw, 0, 1, 4, 0, 4294967295⟩
/-- CFG.PULL_BYTES.BYTES. -/
def fCfgPullBytesBytes : Fld := ⟨0x074, 31, 0, .rw, 0, 1, 4, 0, 4294967295⟩
/-- CFG.FLASH_BASE.BASE. -/
def fCfgFlashBaseBase : Fld := ⟨0x078, 31, 0, .rw, 0, 1, 4, 0, 4294967295⟩
/-- CFG.FLASH_BOOT. -/
def fCfgFlashBoot : Fld := ⟨0x07c, 0, 0, .rw, 0, 1, 4, 0, 1⟩
/-- CFG.FWD_DATA. -/
def fCfgFwdData : Fld := ⟨0x084, 31, 0, .wo, 0, 1, 4, 0, 4294967295⟩
/-- CFG.FWD_STATUS.FAILED. -/
def fCfgFwdStatusFailed : Fld := ⟨0x088, 14, 0, .ro, 0, 1, 4, 0, 32767⟩
/-- CFG.SERIAL_LO. -/
def fCfgSerialLo : Fld := ⟨0x08c, 31, 0, .ro, 0, 1, 4, 0, 4294967295⟩
/-- CFG.SERIAL_HI. -/
def fCfgSerialHi : Fld := ⟨0x090, 31, 0, .ro, 0, 1, 4, 0, 4294967295⟩
/-- CFG.CFG_ARB.ARB_N. -/
def fCfgCfgArbArbN : Fld := ⟨0x094, 7, 0, .rws, 8, 1, 4, 2, 255⟩
/-- CFG.CFG_ARB.BURST_LIMIT. -/
def fCfgCfgArbBurstLimit : Fld := ⟨0x094, 15, 8, .rws, 16, 1, 4, 1, 255⟩
/-- CFG.STEPPING. -/
def fCfgStepping : Fld := ⟨0x098, 7, 0, .ro, 160, 1, 4, 0, 255⟩
/-- CFG.CFG_TIMEOUT.TIMEOUT. -/
def fCfgCfgTimeoutTimeout : Fld := ⟨0x09c, 25, 0, .rw, 15625, 1, 4, 0, 67108863⟩
/-- CFG.PAGE_CAUSE.LOAD_DONE. -/
def cCfgLoadDone : Fld := ⟨0x014, 0, 0, .w1c, 0, 1, 4, 0, 1⟩
/-- CFG.PAGE_CAUSE.STARTUP_DONE. -/
def cCfgStartupDone : Fld := ⟨0x014, 1, 1, .w1c, 0, 1, 4, 0, 1⟩
/-- CFG.PAGE_CAUSE.LOAD_FAILED. -/
def cCfgLoadFailed : Fld := ⟨0x014, 2, 2, .w1c, 0, 1, 4, 0, 1⟩
/-- CFG.PAGE_CAUSE.LOAD_LATE. -/
def cCfgLoadLate : Fld := ⟨0x014, 3, 3, .w1c, 0, 1, 4, 0, 1⟩
/-- CFG.PAGE_CAUSE.PR_BUSY. -/
def cCfgPrBusy : Fld := ⟨0x014, 4, 4, .w1c, 0, 1, 4, 0, 1⟩
/-- CFG.PAGE_CAUSE.FWD_FAIL. -/
def cCfgFwdFail : Fld := ⟨0x014, 5, 5, .w1c, 0, 1, 4, 0, 1⟩
/-- CFG.PAGE_CAUSE.LOAD_BUSY. -/
def cCfgLoadBusy : Fld := ⟨0x014, 6, 6, .w1c, 0, 1, 4, 0, 1⟩
/-- CFG.PAGE_CAUSE.PUSH_OVERRUN. -/
def cCfgPushOverrun : Fld := ⟨0x014, 7, 7, .w1c, 0, 1, 4, 0, 1⟩
/-! ### PBAY -/

/-- PBAY.BAY_CFG_STATE.GOLDEN_PENDING. -/
def fPbayBayCfgStateGoldenPending : Fld := ⟨0x0b0, 23, 16, .ro, 0, 1, 4, 0, 255⟩
/-- PBAY.BAY_CFG_STATE.SEALED. -/
def fPbayBayCfgStateSealed : Fld := ⟨0x0b0, 8, 8, .ro, 0, 1, 4, 0, 1⟩
/-- PBAY.BAY_CFG_STATE.DEGRADED. -/
def fPbayBayCfgStateDegraded : Fld := ⟨0x0b0, 7, 7, .ro, 0, 1, 4, 0, 1⟩
/-- PBAY.BAY_CFG_STATE.HELD_CAUSE. -/
def fPbayBayCfgStateHeldCause : Fld := ⟨0x0b0, 3, 2, .ro, 0, 1, 4, 0, 3⟩
/-- PBAY.BAY_CFG_STATE.HELD. -/
def fPbayBayCfgStateHeld : Fld := ⟨0x0b0, 1, 1, .ro, 0, 1, 4, 0, 1⟩
/-- PBAY.BAY_CFG_STATE.IN_PR. -/
def fPbayBayCfgStateInPr : Fld := ⟨0x0b0, 0, 0, .ro, 0, 1, 4, 0, 1⟩
/-- PBAY.PAGE_CAUSE.SCRUB_ESS_FIXED. -/
def cPbayScrubEssFixed : Fld := ⟨0x014, 16, 16, .w1c, 0, 1, 4, 0, 1⟩
/-- PBAY.PAGE_CAUSE.SCRUB_DEGRADED. -/
def cPbayScrubDegraded : Fld := ⟨0x014, 17, 17, .w1c, 0, 1, 4, 0, 1⟩
/-- PBAY.PAGE_CAUSE.SCRUB_STUCK. -/
def cPbayScrubStuck : Fld := ⟨0x014, 18, 18, .w1c, 0, 1, 4, 0, 1⟩
/-! ### SCRUB -/

/-- SCRUB.SCRUB_CTRL.PASS_GAP. -/
def fScrubScrubCtrlPassGap : Fld := ⟨0x040, 15, 0, .rw, 0, 1, 4, 0, 65535⟩
/-- SCRUB.SCRUB_STATUS.STATE. -/
def fScrubScrubStatusState : Fld := ⟨0x044, 2, 0, .ro, 0, 1, 4, 0, 7⟩
/-- SCRUB.SCRUB_STATUS.BAY. -/
def fScrubScrubStatusBay : Fld := ⟨0x044, 14, 8, .ro, 0, 1, 4, 0, 127⟩
/-- SCRUB.PASS_COUNT.PASSES. -/
def fScrubPassCountPasses : Fld := ⟨0x048, 31, 0, .ro, 0, 1, 4, 0, 4294967295⟩
/-- SCRUB.LAST_PASS.TIME. -/
def fScrubLastPassTime : Fld := ⟨0x04c, 31, 0, .ro, 0, 1, 4, 0, 4294967295⟩
/-- SCRUB.GOLDEN_POP.VALID. -/
def fScrubGoldenPopValid : Fld := ⟨0x050, 31, 31, .ro, 0, 1, 4, 0, 1⟩
/-- SCRUB.GOLDEN_POP.BAY. -/
def fScrubGoldenPopBay : Fld := ⟨0x050, 30, 24, .ro, 0, 1, 4, 0, 127⟩
/-- SCRUB.GOLDEN_POP.TYPE. -/
def fScrubGoldenPopType : Fld := ⟨0x050, 23, 21, .ro, 0, 1, 4, 0, 7⟩
/-- SCRUB.GOLDEN_POP.MAJOR. -/
def fScrubGoldenPopMajor : Fld := ⟨0x050, 20, 13, .ro, 0, 1, 4, 0, 255⟩
/-- SCRUB.GOLDEN_POP.MINOR. -/
def fScrubGoldenPopMinor : Fld := ⟨0x050, 6, 0, .ro, 0, 1, 4, 0, 127⟩
/-- SCRUB.GOLDEN_STATUS.COUNT. -/
def fScrubGoldenStatusCount : Fld := ⟨0x054, 6, 0, .ro, 0, 1, 4, 0, 127⟩
/-- SCRUB.ERR_LOG0.VALID. -/
def fScrubErrLog0Valid : Fld := ⟨0x058, 31, 31, .w1c, 0, 1, 4, 0, 1⟩
/-- SCRUB.ERR_LOG0.KIND. -/
def fScrubErrLog0Kind : Fld := ⟨0x058, 30, 28, .ro, 0, 1, 4, 0, 7⟩
/-- SCRUB.ERR_LOG0.PBAY. -/
def fScrubErrLog0Pbay : Fld := ⟨0x058, 22, 16, .ro, 0, 1, 4, 0, 127⟩
/-- SCRUB.ERR_LOG1.FRAME. -/
def fScrubErrLog1Frame : Fld := ⟨0x05c, 31, 0, .ro, 0, 1, 4, 0, 4294967295⟩
/-- SCRUB.ERR_LOG2.WORD. -/
def fScrubErrLog2Word : Fld := ⟨0x060, 5, 0, .ro, 0, 1, 4, 0, 63⟩
/-- SCRUB.ERR_LOG2.SYNDROME. -/
def fScrubErrLog2Syndrome : Fld := ⟨0x060, 14, 8, .ro, 0, 1, 4, 0, 127⟩
/-- SCRUB.ERR_LOG2.PARITY. -/
def fScrubErrLog2Parity : Fld := ⟨0x060, 15, 15, .ro, 0, 1, 4, 0, 1⟩
/-- SCRUB.VOTE_STATUS.DISSENT. -/
def fScrubVoteStatusDissent : Fld := ⟨0x064, 2, 0, .ro, 0, 1, 4, 0, 7⟩
/-- SCRUB.INJECT_ADDR.FRAME. -/
def fScrubInjectAddrFrame : Fld := ⟨0x068, 31, 0, .rw, 0, 1, 4, 0, 4294967295⟩
/-- SCRUB.INJECT.WORD. -/
def fScrubInjectWord : Fld := ⟨0x06c, 5, 0, .rw, 0, 1, 4, 0, 63⟩
/-- SCRUB.INJECT.BIT. -/
def fScrubInjectBit : Fld := ⟨0x06c, 14, 8, .rw, 0, 1, 4, 0, 72⟩
/-- SCRUB.INJECT.GO. -/
def fScrubInjectGo : Fld := ⟨0x06c, 31, 31, .wo, 0, 1, 4, 0, 1⟩
/-- SCRUB.PAGE_CAUSE.PASS_DONE. -/
def cScrubPassDone : Fld := ⟨0x014, 0, 0, .w1c, 0, 1, 4, 0, 1⟩
/-- SCRUB.PAGE_CAUSE.ESS_CORRECTED. -/
def cScrubEssCorrected : Fld := ⟨0x014, 1, 1, .w1c, 0, 1, 4, 0, 1⟩
/-- SCRUB.PAGE_CAUSE.ESS_UNCORRECTABLE. -/
def cScrubEssUncorrectable : Fld := ⟨0x014, 2, 2, .w1c, 0, 1, 4, 0, 1⟩
/-- SCRUB.PAGE_CAUSE.GOLDEN_REQUEST. -/
def cScrubGoldenRequest : Fld := ⟨0x014, 3, 3, .w1c, 0, 1, 4, 0, 1⟩
/-- SCRUB.PAGE_CAUSE.GOLDEN_FULL. -/
def cScrubGoldenFull : Fld := ⟨0x014, 4, 4, .w1c, 0, 1, 4, 0, 1⟩
/-- SCRUB.PAGE_CAUSE.VOTE_FIX. -/
def cScrubVoteFix : Fld := ⟨0x014, 5, 5, .w1c, 0, 1, 4, 0, 1⟩
/-- SCRUB.PAGE_CAUSE.VOTE_LOST. -/
def cScrubVoteLost : Fld := ⟨0x014, 6, 6, .w1c, 0, 1, 4, 0, 1⟩
/-! ### CFG -/

/-- CFG.PAGE_CAUSE.PR_WINDOW. -/
def cCfgPrWindow : Fld := ⟨0x014, 8, 8, .w1c, 0, 1, 4, 0, 1⟩
/-- CFG.PAGE_CAUSE.PR_HELD. -/
def cCfgPrHeld : Fld := ⟨0x014, 9, 9, .w1c, 0, 1, 4, 0, 1⟩
/-- CFG.PAGE_CAUSE.PR_DONE. -/
def cCfgPrDone : Fld := ⟨0x014, 10, 10, .w1c, 0, 1, 4, 0, 1⟩
/-! ### REPAIR -/

/-- REPAIR.POLICY.AUTO_MIGRATE. -/
def fRepairPolicyAutoMigrate : Fld := ⟨0x040, 0, 0, .rw, 1, 1, 4, 0, 1⟩
/-- REPAIR.POLICY.MIGRATE_DEGRADED. -/
def fRepairPolicyMigrateDegraded : Fld := ⟨0x040, 1, 1, .rw, 1, 1, 4, 0, 1⟩
/-- REPAIR.POLICY.AUTO_RETIRE. -/
def fRepairPolicyAutoRetire : Fld := ⟨0x040, 2, 2, .rw, 1, 1, 4, 0, 1⟩
/-- REPAIR.POLICY.MIGRATE_AT. -/
def fRepairPolicyMigrateAt : Fld := ⟨0x040, 15, 8, .rw, 40, 1, 4, 0, 100⟩
/-- REPAIR.POLICY.FAIL_AT. -/
def fRepairPolicyFailAt : Fld := ⟨0x040, 23, 16, .rw, 10, 1, 4, 0, 255⟩
/-- REPAIR.MIGRATE_CFG.CUT_DIRTY. -/
def fRepairMigrateCfgCutDirty : Fld := ⟨0x044, 15, 0, .rw, 2048, 1, 4, 0, 16384⟩
/-- REPAIR.MIGRATE_CFG.MIRROR_PASSES. -/
def fRepairMigrateCfgMirrorPasses : Fld := ⟨0x044, 23, 16, .rw, 64, 1, 4, 1, 255⟩
/-- REPAIR.SELFTEST.PERIOD. -/
def fRepairSelftestPeriod : Fld := ⟨0x048, 15, 0, .rw, 60, 1, 4, 0, 65535⟩
/-- REPAIR.WARDEN_STATUS.DISSENT. -/
def fRepairWardenStatusDissent : Fld := ⟨0x04c, 2, 0, .ro, 0, 1, 4, 0, 7⟩
/-- REPAIR.RECORD.FLASH. -/
def fRepairRecordFlash : Fld := ⟨0x050, 0, 0, .rw, 0, 1, 4, 0, 1⟩
/-- REPAIR.RECORD.LOADED. -/
def fRepairRecordLoaded : Fld := ⟨0x050, 1, 1, .ro, 0, 1, 4, 0, 1⟩
/-- REPAIR.STEER_LO. -/
def fRepairSteerLo : Fld := ⟨0x080, 31, 0, .ro, 0, 8, 8, 0, 4294967295⟩
/-- REPAIR.STEER_HI. -/
def fRepairSteerHi : Fld := ⟨0x084, 23, 0, .ro, 0, 8, 8, 0, 16777215⟩
/-- REPAIR.MIG_STATE.PHASE. -/
def fRepairMigStatePhase : Fld := ⟨0x0c0, 2, 0, .ro, 0, 8, 8, 0, 7⟩
/-- REPAIR.MIG_STATE.LOGICAL. -/
def fRepairMigStateLogical : Fld := ⟨0x0c0, 14, 8, .ro, 0, 8, 8, 0, 127⟩
/-- REPAIR.MIG_STATE.SOURCE. -/
def fRepairMigStateSource : Fld := ⟨0x0c0, 22, 16, .ro, 0, 8, 8, 0, 127⟩
/-- REPAIR.MIG_STATE.TARGET. -/
def fRepairMigStateTarget : Fld := ⟨0x0c0, 30, 24, .ro, 0, 8, 8, 0, 127⟩
/-- REPAIR.MIG_PROGRESS.DIRTY. -/
def fRepairMigProgressDirty : Fld := ⟨0x0c4, 16, 0, .ro, 0, 8, 8, 0, 131071⟩
/-- REPAIR.MIG_PROGRESS.PASS. -/
def fRepairMigProgressPass : Fld := ⟨0x0c4, 31, 24, .ro, 0, 8, 8, 0, 255⟩
/-- REPAIR.LAST_HOLD.HOLD_NS. -/
def fRepairLastHoldHoldNs : Fld := ⟨0x100, 15, 0, .ro, 0, 1, 4, 0, 65535⟩
/-- REPAIR.LAST_HOLD.ROW. -/
def fRepairLastHoldRow : Fld := ⟨0x100, 18, 16, .ro, 0, 1, 4, 0, 7⟩
/-- REPAIR.WARDEN_TIMEOUT.TIMEOUT. -/
def fRepairWardenTimeoutTimeout : Fld := ⟨0x104, 25, 0, .rw, 15625, 1, 4, 0, 67108863⟩
/-- REPAIR.PAGE_CAUSE.MIGRATE_DONE. -/
def cRepairMigrateDone : Fld := ⟨0x014, 0, 0, .w1c, 0, 1, 4, 0, 1⟩
/-- REPAIR.PAGE_CAUSE.MIGRATE_FAIL. -/
def cRepairMigrateFail : Fld := ⟨0x014, 1, 1, .w1c, 0, 1, 4, 0, 1⟩
/-- REPAIR.PAGE_CAUSE.MIGRATE_ABORTED. -/
def cRepairMigrateAborted : Fld := ⟨0x014, 2, 2, .w1c, 0, 1, 4, 0, 1⟩
/-- REPAIR.PAGE_CAUSE.RETIRED. -/
def cRepairRetired : Fld := ⟨0x014, 3, 3, .w1c, 0, 1, 4, 0, 1⟩
/-- REPAIR.PAGE_CAUSE.BAY_FAILED. -/
def cRepairBayFailed : Fld := ⟨0x014, 4, 4, .w1c, 0, 1, 4, 0, 1⟩
/-- REPAIR.PAGE_CAUSE.HEALTH_LOW. -/
def cRepairHealthLow : Fld := ⟨0x014, 5, 5, .w1c, 0, 1, 4, 0, 1⟩
/-- REPAIR.PAGE_CAUSE.NO_SPARE. -/
def cRepairNoSpare : Fld := ⟨0x014, 6, 6, .w1c, 0, 1, 4, 0, 1⟩
/-- REPAIR.PAGE_CAUSE.WARDEN_RESYNC. -/
def cRepairWardenResync : Fld := ⟨0x014, 7, 7, .w1c, 0, 1, 4, 0, 1⟩
/-- REPAIR.PAGE_CAUSE.WARDEN_LOST. -/
def cRepairWardenLost : Fld := ⟨0x014, 8, 8, .w1c, 0, 1, 4, 0, 1⟩
/-- REPAIR.PAGE_CAUSE.RECORD_LOST. -/
def cRepairRecordLost : Fld := ⟨0x014, 9, 9, .w1c, 0, 1, 4, 0, 1⟩
/-- REPAIR.PAGE_CAUSE.RESTORED. -/
def cRepairRestored : Fld := ⟨0x014, 10, 10, .w1c, 0, 1, 4, 0, 1⟩
/-! ### PBAY -/

/-- PBAY.HEALTH.SCORE. -/
def fPbayHealthScore : Fld := ⟨0x0c0, 7, 0, .ro, 100, 1, 4, 0, 255⟩
/-- PBAY.HEALTH.WORST. -/
def fPbayHealthWorst : Fld := ⟨0x0c0, 11, 8, .ro, 0, 1, 4, 0, 15⟩
/-- PBAY.HEALTH.TESTED. -/
def fPbayHealthTested : Fld := ⟨0x0c0, 12, 12, .ro, 0, 1, 4, 0, 1⟩
/-- PBAY.HEALTH.TEST_FAILED. -/
def fPbayHealthTestFailed : Fld := ⟨0x0c0, 13, 13, .ro, 0, 1, 4, 0, 1⟩
/-- PBAY.HEALTH.FAILED. -/
def fPbayHealthFailed : Fld := ⟨0x0c0, 14, 14, .ro, 0, 1, 4, 0, 1⟩
/-- PBAY.HEALTH.POOL. -/
def fPbayHealthPool : Fld := ⟨0x0c0, 15, 15, .ro, 0, 1, 4, 0, 1⟩
/-- PBAY.HEALTH.TEST_AGE. -/
def fPbayHealthTestAge : Fld := ⟨0x0c0, 31, 16, .ro, 65535, 1, 4, 0, 65535⟩
/-- PBAY.DRIFT. -/
def fPbayDrift : Fld := ⟨0x0c4, 31, 0, .ro, 0, 4, 4, 0, 4294967295⟩
/-! ### WARDEN -/

/-- WARDEN.REQ. -/
def fWardenReq : Fld := ⟨0x040, 31, 0, .rw, 0, 16, 4, 0, 4294967295⟩
/-- WARDEN.SUBMIT.GO. -/
def fWardenSubmitGo : Fld := ⟨0x080, 0, 0, .wo, 0, 1, 4, 0, 1⟩
/-- WARDEN.MBX_STATUS.QUEUED. -/
def fWardenMbxStatusQueued : Fld := ⟨0x084, 2, 0, .ro, 0, 1, 4, 0, 7⟩
/-- WARDEN.MBX_STATUS.RUNNING. -/
def fWardenMbxStatusRunning : Fld := ⟨0x084, 3, 3, .ro, 0, 1, 4, 0, 1⟩
/-- WARDEN.MBX_STATUS.PENDING. -/
def fWardenMbxStatusPending : Fld := ⟨0x084, 7, 4, .ro, 0, 1, 4, 0, 15⟩
/-- WARDEN.MBX_RESP.VALID. -/
def fWardenMbxRespValid : Fld := ⟨0x088, 31, 31, .ro, 0, 1, 4, 0, 1⟩
/-- WARDEN.MBX_RESP.STATUS. -/
def fWardenMbxRespStatus : Fld := ⟨0x088, 27, 24, .ro, 0, 1, 4, 0, 15⟩
/-- WARDEN.MBX_RESP.SERVICE. -/
def fWardenMbxRespService : Fld := ⟨0x088, 23, 16, .ro, 0, 1, 4, 0, 255⟩
/-- WARDEN.MBX_RESP.SEQ. -/
def fWardenMbxRespSeq : Fld := ⟨0x088, 15, 0, .ro, 0, 1, 4, 0, 65535⟩
/-- WARDEN.RESP_DATA.DATA. -/
def fWardenRespDataData : Fld := ⟨0x08c, 31, 0, .ro, 0, 4, 4, 0, 4294967295⟩
/-- WARDEN.PAGE_CAUSE.RESP_READY. -/
def cWardenRespReady : Fld := ⟨0x014, 0, 0, .w1c, 0, 1, 4, 0, 1⟩
/-- WARDEN.PAGE_CAUSE.MBX_FULL. -/
def cWardenMbxFull : Fld := ⟨0x014, 1, 1, .w1c, 0, 1, 4, 0, 1⟩
/-! ### PCIE -/

/-- PCIE.LINK_STATUS.RATE. -/
def fPcieLinkStatusRate : Fld := ⟨0x040, 2, 0, .ro, 0, 1, 4, 0, 7⟩
/-- PCIE.LINK_STATUS.WIDTH. -/
def fPcieLinkStatusWidth : Fld := ⟨0x040, 7, 3, .ro, 0, 1, 4, 0, 31⟩
/-- PCIE.LINK_STATUS.FLIT. -/
def fPcieLinkStatusFlit : Fld := ⟨0x040, 8, 8, .ro, 0, 1, 4, 0, 1⟩
/-- PCIE.LINK_STATUS.PM. -/
def fPcieLinkStatusPm : Fld := ⟨0x040, 11, 9, .ro, 0, 1, 4, 0, 7⟩
/-- PCIE.PF1_CFG.BAR0_LOG2. -/
def fPciePf1CfgBar0Log2 : Fld := ⟨0x044, 5, 0, .rw, 34, 1, 4, 20, 38⟩
/-- PCIE.PF1_CFG.VF_BAR0_LOG2. -/
def fPciePf1CfgVfBar0Log2 : Fld := ⟨0x044, 13, 8, .rw, 28, 1, 4, 20, 38⟩
/-- PCIE.WIN_TIMEOUT.TIMEOUT. -/
def fPcieWinTimeoutTimeout : Fld := ⟨0x048, 25, 0, .rw, 15625, 1, 4, 0, 67108863⟩
/-- PCIE.PF1_STATUS.READY. -/
def fPciePf1StatusReady : Fld := ⟨0x04c, 0, 0, .ro, 0, 1, 4, 0, 1⟩
/-- PCIE.PF1_STATUS.BME. -/
def fPciePf1StatusBme : Fld := ⟨0x04c, 1, 1, .ro, 0, 1, 4, 0, 1⟩
/-- PCIE.PF1_STATUS.ATOMIC_EN. -/
def fPciePf1StatusAtomicEn : Fld := ⟨0x04c, 2, 2, .ro, 0, 1, 4, 0, 1⟩
/-- PCIE.PF1_STATUS.NUM_VFS. -/
def fPciePf1StatusNumVfs : Fld := ⟨0x04c, 13, 8, .ro, 0, 1, 4, 0, 63⟩
/-- PCIE.WIN_LOG0.VALID. -/
def fPcieWinLog0Valid : Fld := ⟨0x050, 31, 31, .w1c, 0, 1, 4, 0, 1⟩
/-- PCIE.WIN_LOG0.STATUS. -/
def fPcieWinLog0Status : Fld := ⟨0x050, 30, 28, .ro, 0, 1, 4, 0, 7⟩
/-- PCIE.WIN_LOG0.WINDOW. -/
def fPcieWinLog0Window : Fld := ⟨0x050, 21, 16, .ro, 0, 1, 4, 0, 63⟩
/-- PCIE.WIN_LOG0.FUNCTION. -/
def fPcieWinLog0Function : Fld := ⟨0x050, 5, 0, .ro, 0, 1, 4, 0, 63⟩
/-- PCIE.WIN_LOG1.ADDR_LO. -/
def fPcieWinLog1AddrLo : Fld := ⟨0x054, 31, 0, .ro, 0, 1, 4, 0, 4294967295⟩
/-- PCIE.WIN_LOG2.ADDR_HI. -/
def fPcieWinLog2AddrHi : Fld := ⟨0x058, 31, 0, .ro, 0, 1, 4, 0, 4294967295⟩
/-- PCIE.WIN_BASE_LO.BASE. -/
def fPcieWinBaseLoBase : Fld := ⟨0x100, 31, 20, .rws, 0, 64, 32, 0, 4095⟩
/-- PCIE.WIN_BASE_HI.BASE. -/
def fPcieWinBaseHiBase : Fld := ⟨0x104, 5, 0, .rws, 0, 64, 32, 0, 63⟩
/-- PCIE.WIN_CTRL.SIZE_LOG2. -/
def fPcieWinCtrlSizeLog2 : Fld := ⟨0x108, 5, 0, .rws, 20, 64, 32, 0, 63⟩
/-- PCIE.WIN_CTRL.OWNER. -/
def fPcieWinCtrlOwner : Fld := ⟨0x108, 13, 8, .rws, 0, 64, 32, 0, 32⟩
/-- PCIE.WIN_CTRL.NP. -/
def fPcieWinCtrlNp : Fld := ⟨0x108, 16, 16, .rws, 0, 64, 32, 0, 1⟩
/-- PCIE.WIN_CTRL.ORD. -/
def fPcieWinCtrlOrd : Fld := ⟨0x108, 17, 17, .rws, 0, 64, 32, 0, 1⟩
/-- PCIE.WIN_CTRL.PRIO. -/
def fPcieWinCtrlPrio : Fld := ⟨0x108, 19, 18, .rws, 0, 64, 32, 0, 3⟩
/-- PCIE.WIN_CTRL.CH. -/
def fPcieWinCtrlCh : Fld := ⟨0x108, 20, 20, .rws, 0, 64, 32, 0, 1⟩
/-- PCIE.WIN_CTRL.VALID. -/
def fPcieWinCtrlValid : Fld := ⟨0x108, 31, 31, .rws, 0, 64, 32, 0, 1⟩
/-- PCIE.WIN_TARGET_LO.TARGET. -/
def fPcieWinTargetLoTarget : Fld := ⟨0x10c, 31, 12, .rws, 0, 64, 32, 0, 1048575⟩
/-- PCIE.WIN_TARGET_HI.TARGET. -/
def fPcieWinTargetHiTarget : Fld := ⟨0x110, 31, 0, .rws, 0, 64, 32, 0, 4294967295⟩
/-- PCIE.DB_LO.TARGET. -/
def fPcieDbLoTarget : Fld := ⟨0x900, 31, 3, .rws, 0, 64, 16, 0, 536870911⟩
/-- PCIE.DB_HI.TARGET. -/
def fPcieDbHiTarget : Fld := ⟨0x904, 31, 0, .rws, 0, 64, 16, 0, 4294967295⟩
/-- PCIE.DB_CTRL.OWNER. -/
def fPcieDbCtrlOwner : Fld := ⟨0x908, 5, 0, .rws, 0, 64, 16, 0, 32⟩
/-- PCIE.DB_CTRL.VALID. -/
def fPcieDbCtrlValid : Fld := ⟨0x908, 31, 31, .rws, 0, 64, 16, 0, 1⟩
/-- PCIE.VEC_OWNER.OWNER0. -/
def fPcieVecOwnerOwner0 : Fld := ⟨0xd00, 5, 0, .rws, 0, 16, 4, 0, 32⟩
/-- PCIE.VEC_OWNER.OWNER1. -/
def fPcieVecOwnerOwner1 : Fld := ⟨0xd00, 13, 8, .rws, 0, 16, 4, 0, 32⟩
/-- PCIE.VEC_OWNER.OWNER2. -/
def fPcieVecOwnerOwner2 : Fld := ⟨0xd00, 21, 16, .rws, 0, 16, 4, 0, 32⟩
/-- PCIE.VEC_OWNER.OWNER3. -/
def fPcieVecOwnerOwner3 : Fld := ⟨0xd00, 29, 24, .rws, 0, 16, 4, 0, 32⟩
/-- PCIE.PAGE_CAUSE.LINK_DOWN. -/
def cPcieLinkDown : Fld := ⟨0x014, 0, 0, .w1c, 0, 1, 4, 0, 1⟩
/-- PCIE.PAGE_CAUSE.LINK_DEGRADED. -/
def cPcieLinkDegraded : Fld := ⟨0x014, 1, 1, .w1c, 0, 1, 4, 0, 1⟩
/-- PCIE.PAGE_CAUSE.WIN_MISS. -/
def cPcieWinMiss : Fld := ⟨0x014, 2, 2, .w1c, 0, 1, 4, 0, 1⟩
/-- PCIE.PAGE_CAUSE.WIN_ERROR. -/
def cPcieWinError : Fld := ⟨0x014, 3, 3, .w1c, 0, 1, 4, 0, 1⟩
/-- PCIE.PAGE_CAUSE.OWNER_VIOLATION. -/
def cPcieOwnerViolation : Fld := ⟨0x014, 4, 4, .w1c, 0, 1, 4, 0, 1⟩
/-- PCIE.PAGE_CAUSE.WIN_INVALID. -/
def cPcieWinInvalid : Fld := ⟨0x014, 5, 5, .w1c, 0, 1, 4, 0, 1⟩
/-- PCIE.PAGE_CAUSE.FLR_DONE. -/
def cPcieFlrDone : Fld := ⟨0x014, 6, 6, .w1c, 0, 1, 4, 0, 1⟩
/-- PCIE.PAGE_CAUSE.PF1_READY. -/
def cPciePf1Ready : Fld := ⟨0x014, 7, 7, .w1c, 0, 1, 4, 0, 1⟩
/-! ### HDMA -/

/-- HDMA.SHUTTER.EXPIRED. -/
def fHdmaShutterExpired : Fld := ⟨0x040, 4, 4, .ro, 0, 1, 4, 0, 1⟩
/-- HDMA.SHUTTER.STATE. -/
def fHdmaShutterState : Fld := ⟨0x040, 3, 2, .ro, 0, 1, 4, 0, 3⟩
/-- HDMA.SHUTTER.OPEN. -/
def fHdmaShutterOpen : Fld := ⟨0x040, 1, 1, .wo, 0, 1, 4, 0, 1⟩
/-- HDMA.SHUTTER.CLOSE. -/
def fHdmaShutterClose : Fld := ⟨0x040, 0, 0, .wo, 0, 1, 4, 0, 1⟩
/-- HDMA.ERR_POP.VALID. -/
def fHdmaErrPopValid : Fld := ⟨0x044, 31, 31, .ro, 0, 1, 4, 0, 1⟩
/-- HDMA.ERR_POP.CODE. -/
def fHdmaErrPopCode : Fld := ⟨0x044, 27, 24, .ro, 0, 1, 4, 0, 15⟩
/-- HDMA.ERR_POP.CHANNEL. -/
def fHdmaErrPopChannel : Fld := ⟨0x044, 21, 16, .ro, 0, 1, 4, 0, 63⟩
/-- HDMA.ERR_POP.INDEX. -/
def fHdmaErrPopIndex : Fld := ⟨0x044, 15, 0, .ro, 0, 1, 4, 0, 65535⟩
/-- HDMA.RING_LO.RING. -/
def fHdmaRingLoRing : Fld := ⟨0x100, 31, 6, .rw, 0, 64, 32, 0, 67108863⟩
/-- HDMA.RING_HI.RING. -/
def fHdmaRingHiRing : Fld := ⟨0x104, 31, 0, .rw, 0, 64, 32, 0, 4294967295⟩
/-- HDMA.RING_CFG.SIZE_LOG2. -/
def fHdmaRingCfgSizeLog2 : Fld := ⟨0x108, 4, 0, .rw, 4, 64, 32, 4, 16⟩
/-- HDMA.RING_CFG.VECTOR. -/
def fHdmaRingCfgVector : Fld := ⟨0x108, 13, 8, .rw, 0, 64, 32, 0, 63⟩
/-- HDMA.RING_CFG.OWNER. -/
def fHdmaRingCfgOwner : Fld := ⟨0x108, 21, 16, .rw, 0, 64, 32, 0, 32⟩
/-- HDMA.TAIL. -/
def fHdmaTail : Fld := ⟨0x10c, 15, 0, .rw, 0, 64, 32, 0, 65535⟩
/-- HDMA.HEAD. -/
def fHdmaHead : Fld := ⟨0x110, 15, 0, .ro, 0, 64, 32, 0, 65535⟩
/-- HDMA.CH_STATUS.STATE. -/
def fHdmaChStatusState : Fld := ⟨0x114, 1, 0, .ro, 0, 64, 32, 0, 3⟩
/-- HDMA.TIMEOUT. -/
def fHdmaTimeout : Fld := ⟨0x118, 25, 0, .rw, 15625, 64, 32, 0, 67108863⟩
/-- HDMA.CH_CTRL.START. -/
def fHdmaChCtrlStart : Fld := ⟨0x11c, 0, 0, .wo, 0, 64, 32, 0, 1⟩
/-- HDMA.CH_CTRL.STOP. -/
def fHdmaChCtrlStop : Fld := ⟨0x11c, 1, 1, .wo, 0, 64, 32, 0, 1⟩
/-- HDMA.CH_CTRL.ABORT. -/
def fHdmaChCtrlAbort : Fld := ⟨0x11c, 2, 2, .wo, 0, 64, 32, 0, 1⟩
/-- HDMA.PAGE_CAUSE.CH_ERROR. -/
def cHdmaChError : Fld := ⟨0x014, 0, 0, .w1c, 0, 1, 4, 0, 1⟩
/-- HDMA.PAGE_CAUSE.ERR_LOST. -/
def cHdmaErrLost : Fld := ⟨0x014, 1, 1, .w1c, 0, 1, 4, 0, 1⟩
/-- HDMA.PAGE_CAUSE.DRAIN_EXPIRED. -/
def cHdmaDrainExpired : Fld := ⟨0x014, 2, 2, .w1c, 0, 1, 4, 0, 1⟩
/-! ### TCORE -/

/-- TCORE.CORE_CTRL.HOLD. -/
def fTcoreCoreCtrlHold : Fld := ⟨0x040, 0, 0, .rw, 1, 1, 4, 0, 1⟩
/-- TCORE.RESET_PC. -/
def fTcoreResetPc : Fld := ⟨0x044, 31, 2, .rw, 0, 1, 4, 0, 1073741823⟩
/-- TCORE.CORE_STATUS.STATE. -/
def fTcoreCoreStatusState : Fld := ⟨0x048, 2, 0, .ro, 0, 1, 4, 0, 7⟩
/-- TCORE.CORE_STATUS.EXL. -/
def fTcoreCoreStatusExl : Fld := ⟨0x048, 3, 3, .ro, 0, 1, 4, 0, 1⟩
/-- TCORE.CORE_STATUS.SEALED. -/
def fTcoreCoreStatusSealed : Fld := ⟨0x048, 4, 4, .ro, 0, 1, 4, 0, 1⟩
/-- TCORE.CORE_STATUS.OUTSTANDING. -/
def fTcoreCoreStatusOutstanding : Fld := ⟨0x048, 13, 5, .ro, 0, 1, 4, 0, 511⟩
/-- TCORE.CORE_TIMEOUT.TIMEOUT. -/
def fTcoreCoreTimeoutTimeout : Fld := ⟨0x04c, 25, 0, .rw, 15625, 1, 4, 0, 67108863⟩
/-- TCORE.WD_CTRL.EN. -/
def fTcoreWdCtrlEn : Fld := ⟨0x050, 0, 0, .rw, 0, 1, 4, 0, 1⟩
/-- TCORE.WD_CTRL.WD_DEBUG_POLICY. -/
def fTcoreWdCtrlWdDebugPolicy : Fld := ⟨0x050, 1, 1, .rw, 0, 1, 4, 0, 1⟩
/-- TCORE.WD_CTRL.LOCK. -/
def fTcoreWdCtrlLock : Fld := ⟨0x050, 2, 2, .w1s, 0, 1, 4, 0, 1⟩
/-- TCORE.WD_LOAD. -/
def fTcoreWdLoad : Fld := ⟨0x054, 23, 0, .rw, 100000, 1, 4, 1, 16777215⟩
/-- TCORE.WD_GRACE. -/
def fTcoreWdGrace : Fld := ⟨0x058, 23, 0, .rw, 1000, 1, 4, 0, 16777215⟩
/-- TCORE.WD_COUNT. -/
def fTcoreWdCount : Fld := ⟨0x05c, 23, 0, .ro, 0, 1, 4, 0, 16777215⟩
/-- TCORE.LAST_EXC0.EPC. -/
def fTcoreLastExc0Epc : Fld := ⟨0x060, 31, 0, .ro, 0, 1, 4, 0, 4294967295⟩
/-- TCORE.LAST_EXC1.CODE. -/
def fTcoreLastExc1Code : Fld := ⟨0x064, 2, 0, .ro, 0, 1, 4, 0, 7⟩
/-- TCORE.LAST_EXC2.EINFO. -/
def fTcoreLastExc2Einfo : Fld := ⟨0x068, 31, 0, .ro, 0, 1, 4, 0, 4294967295⟩
/-- TCORE.PEEP_TX.WORD. -/
def fTcorePeepTxWord : Fld := ⟨0x070, 31, 0, .ro, 0, 1, 4, 0, 4294967295⟩
/-- TCORE.PEEP_RX.WORD. -/
def fTcorePeepRxWord : Fld := ⟨0x074, 31, 0, .ro, 0, 1, 4, 0, 4294967295⟩
/-- TCORE.PAGE_CAUSE.TCM_CORRECTED. -/
def cTcoreTcmCorrected : Fld := ⟨0x014, 0, 0, .w1c, 0, 1, 4, 0, 1⟩
/-- TCORE.PAGE_CAUSE.TCM_UNCORRECTABLE. -/
def cTcoreTcmUncorrectable : Fld := ⟨0x014, 1, 1, .w1c, 0, 1, 4, 0, 1⟩
/-- TCORE.PAGE_CAUSE.WD_EXPIRED. -/
def cTcoreWdExpired : Fld := ⟨0x014, 2, 2, .w1c, 0, 1, 4, 0, 1⟩
/-- TCORE.PAGE_CAUSE.LOCKUP. -/
def cTcoreLockup : Fld := ⟨0x014, 3, 3, .w1c, 0, 1, 4, 0, 1⟩
/-- TCORE.PAGE_CAUSE.CORE_TIMEOUT. -/
def cTcoreCoreTimeout : Fld := ⟨0x014, 4, 4, .w1c, 0, 1, 4, 0, 1⟩
/-- TCORE.PAGE_CAUSE.CORE_LATE. -/
def cTcoreCoreLate : Fld := ⟨0x014, 5, 5, .w1c, 0, 1, 4, 0, 1⟩
/-! ### PORTER -/

/-- PORTER.PORTER_CFG.ARB_N. -/
def fPorterPorterCfgArbN : Fld := ⟨0x040, 7, 0, .rw, 8, 1, 4, 2, 255⟩
/-- PORTER.PORTER_CFG.TICK. -/
def fPorterPorterCfgTick : Fld := ⟨0x040, 19, 8, .rw, 4, 1, 4, 1, 4000⟩
/-- PORTER.TICK_COUNT. -/
def fPorterTickCount : Fld := ⟨0x044, 31, 0, .ro, 0, 1, 4, 0, 4294967295⟩
/-- PORTER.TASK_CMD.TASK. -/
def fPorterTaskCmdTask : Fld := ⟨0x048, 9, 0, .wo, 0, 1, 4, 0, 1023⟩
/-- PORTER.TASK_CMD.PRIO. -/
def fPorterTaskCmdPrio : Fld := ⟨0x048, 14, 10, .wo, 0, 1, 4, 0, 31⟩
/-- PORTER.TASK_CMD.OP. -/
def fPorterTaskCmdOp : Fld := ⟨0x048, 18, 16, .wo, 0, 1, 4, 0, 7⟩
/-- PORTER.READY_MAP. -/
def fPorterReadyMap : Fld := ⟨0x04c, 31, 0, .ro, 0, 1, 4, 0, 4294967295⟩
/-- PORTER.COUNTS.READY. -/
def fPorterCountsReady : Fld := ⟨0x050, 10, 0, .ro, 0, 1, 4, 0, 2047⟩
/-- PORTER.COUNTS.DELAYED. -/
def fPorterCountsDelayed : Fld := ⟨0x050, 26, 16, .ro, 0, 1, 4, 0, 2047⟩
/-- PORTER.CUR_TASK.TASK. -/
def fPorterCurTaskTask : Fld := ⟨0x060, 9, 0, .ro, 0, 2, 16, 0, 1023⟩
/-- PORTER.CUR_TASK.VALID. -/
def fPorterCurTaskValid : Fld := ⟨0x060, 31, 31, .ro, 0, 2, 16, 0, 1⟩
/-- PORTER.CUR_ENTRY.ENTRY. -/
def fPorterCurEntryEntry : Fld := ⟨0x064, 31, 0, .ro, 0, 2, 16, 0, 4294967295⟩
/-- PORTER.CUR_ARG.ARG. -/
def fPorterCurArgArg : Fld := ⟨0x068, 31, 0, .ro, 0, 2, 16, 0, 4294967295⟩
/-- PORTER.CUR_EVENT.EVENT. -/
def fPorterCurEventEvent : Fld := ⟨0x06c, 31, 0, .ro, 0, 2, 16, 0, 4294967295⟩
/-- PORTER.CAUSE_BIND.TASK. -/
def fPorterCauseBindTask : Fld := ⟨0x080, 9, 0, .rw, 0, 32, 4, 0, 1023⟩
/-- PORTER.CAUSE_BIND.EN. -/
def fPorterCauseBindEn : Fld := ⟨0x080, 31, 31, .rw, 0, 32, 4, 0, 1⟩
/-- PORTER.TRACE_CTRL.EN. -/
def fPorterTraceCtrlEn : Fld := ⟨0x100, 0, 0, .rw, 0, 1, 4, 0, 1⟩
/-- PORTER.TRACE_CTRL.STREAM. -/
def fPorterTraceCtrlStream : Fld := ⟨0x100, 1, 1, .rw, 0, 1, 4, 0, 1⟩
/-- PORTER.TRACE_CTRL.STREAM_LOG2. -/
def fPorterTraceCtrlStreamLog2 : Fld := ⟨0x100, 12, 8, .rw, 10, 1, 4, 7, 20⟩
/-- PORTER.TRACE_CTRL.KIND_MASK. -/
def fPorterTraceCtrlKindMask : Fld := ⟨0x100, 25, 16, .rw, 1023, 1, 4, 0, 1023⟩
/-- PORTER.TRACE_STATUS.COUNT. -/
def fPorterTraceStatusCount : Fld := ⟨0x104, 10, 0, .ro, 0, 1, 4, 0, 2047⟩
/-- PORTER.TRACE_POP_LO. -/
def fPorterTracePopLo : Fld := ⟨0x108, 31, 0, .ro, 0, 1, 4, 0, 4294967295⟩
/-- PORTER.TRACE_POP_HI. -/
def fPorterTracePopHi : Fld := ⟨0x10c, 31, 0, .ro, 0, 1, 4, 0, 4294967295⟩
/-- PORTER.TRACE_BASE_LO.BASE. -/
def fPorterTraceBaseLoBase : Fld := ⟨0x110, 31, 6, .rw, 0, 1, 4, 0, 67108863⟩
/-- PORTER.TRACE_BASE_HI.BASE. -/
def fPorterTraceBaseHiBase : Fld := ⟨0x114, 31, 0, .rw, 0, 1, 4, 0, 4294967295⟩
/-- PORTER.TRACE_WPTR.WPTR_LO. -/
def fPorterTraceWptrWptrLo : Fld := ⟨0x118, 31, 0, .ro, 0, 1, 4, 0, 4294967295⟩
/-- PORTER.TRACE_WPTR.WPTR_HI. -/
def fPorterTraceWptrWptrHi : Fld := ⟨0x11c, 31, 0, .ro, 0, 1, 4, 0, 4294967295⟩
/-- PORTER.PAGE_CAUSE.DB_DROP. -/
def cPorterDbDrop : Fld := ⟨0x014, 0, 0, .w1c, 0, 1, 4, 0, 1⟩
/-- PORTER.PAGE_CAUSE.CMD_REFUSED. -/
def cPorterCmdRefused : Fld := ⟨0x014, 1, 1, .w1c, 0, 1, 4, 0, 1⟩
/-- PORTER.PAGE_CAUSE.TASK_RECLAIMED. -/
def cPorterTaskReclaimed : Fld := ⟨0x014, 2, 2, .w1c, 0, 1, 4, 0, 1⟩
/-- PORTER.PAGE_CAUSE.TRACE_LOST. -/
def cPorterTraceLost : Fld := ⟨0x014, 3, 3, .w1c, 0, 1, 4, 0, 1⟩
/-- PORTER.PAGE_CAUSE.PENDING_SAT. -/
def cPorterPendingSat : Fld := ⟨0x014, 4, 4, .w1c, 0, 1, 4, 0, 1⟩
/-- PORTER.PAGE_CAUSE.DESC_BAD. -/
def cPorterDescBad : Fld := ⟨0x014, 5, 5, .w1c, 0, 1, 4, 0, 1⟩
/-! ### DBG -/

/-- DBG.OWNER. -/
def fDbgOwner : Fld := ⟨0x040, 1, 0, .ro, 0, 1, 4, 0, 3⟩
/-- DBG.OWNER.CLAIM. -/
def fDbgOwnerClaim : Fld := ⟨0x040, 2, 2, .wo, 0, 1, 4, 0, 1⟩
/-- DBG.OWNER.RELEASE. -/
def fDbgOwnerRelease : Fld := ⟨0x040, 3, 3, .wo, 0, 1, 4, 0, 1⟩
/-- DBG.MAP_ADDR. -/
def fDbgMapAddr : Fld := ⟨0x044, 31, 0, .rw, 0, 1, 4, 0, 4294967295⟩
/-- DBG.MAP_DATA. -/
def fDbgMapData : Fld := ⟨0x048, 31, 0, .rw, 0, 1, 4, 0, 4294967295⟩
/-- DBG.MAP_CTRL.BUSY. -/
def fDbgMapCtrlBusy : Fld := ⟨0x04c, 0, 0, .ro, 0, 1, 4, 0, 1⟩
/-- DBG.MAP_CTRL.ERROR. -/
def fDbgMapCtrlError : Fld := ⟨0x04c, 1, 1, .ro, 0, 1, 4, 0, 1⟩
/-- DBG.MAP_CTRL.GO. -/
def fDbgMapCtrlGo : Fld := ⟨0x04c, 2, 2, .wo, 0, 1, 4, 0, 1⟩
/-- DBG.MAP_CTRL.WRITE. -/
def fDbgMapCtrlWrite : Fld := ⟨0x04c, 3, 3, .wo, 0, 1, 4, 0, 1⟩
/-- DBG.MEM_ADDR_LO. -/
def fDbgMemAddrLo : Fld := ⟨0x050, 31, 0, .rw, 0, 1, 4, 0, 4294967295⟩
/-- DBG.MEM_ADDR_HI. -/
def fDbgMemAddrHi : Fld := ⟨0x054, 31, 0, .rw, 0, 1, 4, 0, 4294967295⟩
/-- DBG.MEM_DATA. -/
def fDbgMemData : Fld := ⟨0x058, 31, 0, .rw, 0, 1, 4, 0, 4294967295⟩
/-- DBG.MEM_CTRL.GO. -/
def fDbgMemCtrlGo : Fld := ⟨0x05c, 0, 0, .wo, 0, 1, 4, 0, 1⟩
/-- DBG.MEM_CTRL.WRITE. -/
def fDbgMemCtrlWrite : Fld := ⟨0x05c, 1, 1, .rw, 0, 1, 4, 0, 1⟩
/-- DBG.MEM_CTRL.SIZE. -/
def fDbgMemCtrlSize : Fld := ⟨0x05c, 3, 2, .rw, 0, 1, 4, 0, 3⟩
/-- DBG.MEM_CTRL.DONE. -/
def fDbgMemCtrlDone : Fld := ⟨0x05c, 4, 4, .ro, 0, 1, 4, 0, 1⟩
/-- DBG.MEM_CTRL.STATUS. -/
def fDbgMemCtrlStatus : Fld := ⟨0x05c, 7, 5, .ro, 0, 1, 4, 0, 7⟩
/-- DBG.IDCODE. -/
def fDbgIdcode : Fld := ⟨0x060, 31, 0, .ro, 0, 1, 4, 0, 4294967295⟩
/-! ### DBG, core c (offsets from 0x100 + 0x100 c) -/

/-- DBGC.RUN_CTRL.HALT_REQ. -/
def fDbgcRunCtrlHaltReq : Fld := ⟨0x000, 0, 0, .wo, 0, 1, 4, 0, 1⟩
/-- DBGC.RUN_CTRL.RESUME. -/
def fDbgcRunCtrlResume : Fld := ⟨0x000, 1, 1, .wo, 0, 1, 4, 0, 1⟩
/-- DBGC.RUN_CTRL.STEP. -/
def fDbgcRunCtrlStep : Fld := ⟨0x000, 2, 2, .wo, 0, 1, 4, 0, 1⟩
/-- DBGC.RUN_CTRL.STEP_IRQ. -/
def fDbgcRunCtrlStepIrq : Fld := ⟨0x000, 3, 3, .rw, 0, 1, 4, 0, 1⟩
/-- DBGC.RUN_CTRL.HALT_ON_RESET. -/
def fDbgcRunCtrlHaltOnReset : Fld := ⟨0x000, 4, 4, .rw, 0, 1, 4, 0, 1⟩
/-- DBGC.RUN_CTRL.HALT_BOTH. -/
def fDbgcRunCtrlHaltBoth : Fld := ⟨0x000, 5, 5, .rw, 0, 1, 4, 0, 1⟩
/-- DBGC.RUN_CTRL.CATCH. -/
def fDbgcRunCtrlCatch : Fld := ⟨0x000, 9, 6, .rw, 0, 1, 4, 0, 15⟩
/-- DBGC.RUN_STATUS.HALTED. -/
def fDbgcRunStatusHalted : Fld := ⟨0x004, 0, 0, .ro, 0, 1, 4, 0, 1⟩
/-- DBGC.RUN_STATUS.CAUSE. -/
def fDbgcRunStatusCause : Fld := ⟨0x004, 3, 1, .ro, 0, 1, 4, 0, 7⟩
/-- DBGC.RUN_STATUS.COMP. -/
def fDbgcRunStatusComp : Fld := ⟨0x004, 6, 4, .ro, 0, 1, 4, 0, 7⟩
/-- DBGC.REG_SEL. -/
def fDbgcRegSel : Fld := ⟨0x008, 6, 0, .rw, 0, 1, 4, 0, 127⟩
/-- DBGC.REG_DATA. -/
def fDbgcRegData : Fld := ⟨0x00c, 31, 0, .rw, 0, 1, 4, 0, 4294967295⟩
/-- DBGC.FEED. -/
def fDbgcFeed : Fld := ⟨0x010, 31, 0, .wo, 0, 1, 4, 0, 4294967295⟩
/-- DBGC.FEED_STATUS.BUSY. -/
def fDbgcFeedStatusBusy : Fld := ⟨0x014, 0, 0, .ro, 0, 1, 4, 0, 1⟩
/-- DBGC.FEED_STATUS.ERR. -/
def fDbgcFeedStatusErr : Fld := ⟨0x014, 1, 1, .ro, 0, 1, 4, 0, 1⟩
/-- DBGC.FEED_STATUS.ECODE. -/
def fDbgcFeedStatusEcode : Fld := ⟨0x014, 4, 2, .ro, 0, 1, 4, 0, 7⟩
/-- DBGC.FEED_STATUS.KIND. -/
def fDbgcFeedStatusKind : Fld := ⟨0x014, 15, 8, .ro, 0, 1, 4, 0, 255⟩
/-- DBGC.MON_CTRL.MON_THRESHOLD. -/
def fDbgcMonCtrlMonThreshold : Fld := ⟨0x018, 1, 0, .rw, 0, 1, 4, 0, 3⟩
/-- DBGC.MON_CTRL.MON_ACTIVE. -/
def fDbgcMonCtrlMonActive : Fld := ⟨0x018, 2, 2, .ro, 0, 1, 4, 0, 1⟩
/-- DBGC.MON_CTRL.MON_DEPTH. -/
def fDbgcMonCtrlMonDepth : Fld := ⟨0x018, 15, 8, .ro, 0, 1, 4, 0, 255⟩
/-- DBGC.PEEP_ACK. -/
def fDbgcPeepAck : Fld := ⟨0x01c, 0, 0, .wo, 0, 1, 4, 0, 1⟩
/-- DBGC.COMP_ADDR.ADDR. -/
def fDbgcCompAddrAddr : Fld := ⟨0x020, 31, 0, .rw, 0, 8, 16, 0, 4294967295⟩
/-- DBGC.COMP_CTRL.EN. -/
def fDbgcCompCtrlEn : Fld := ⟨0x024, 0, 0, .rw, 0, 8, 16, 0, 1⟩
/-- DBGC.COMP_CTRL.ACTION. -/
def fDbgcCompCtrlAction : Fld := ⟨0x024, 3, 1, .rw, 0, 8, 16, 0, 3⟩
/-- DBGC.COMP_CTRL.ACCESS. -/
def fDbgcCompCtrlAccess : Fld := ⟨0x024, 5, 4, .rw, 0, 8, 16, 0, 3⟩
/-- DBGC.COMP_CTRL.VALUE_EN. -/
def fDbgcCompCtrlValueEn : Fld := ⟨0x024, 6, 6, .rw, 0, 8, 16, 0, 1⟩
/-- DBGC.COMP_CTRL.MASK_BITS. -/
def fDbgcCompCtrlMaskBits : Fld := ⟨0x024, 11, 7, .rw, 0, 8, 16, 0, 31⟩
/-- DBGC.COMP_CTRL.BAY. -/
def fDbgcCompCtrlBay : Fld := ⟨0x024, 18, 12, .rw, 0, 8, 16, 0, 103⟩
/-- DBGC.COMP_CTRL.CAP_ALL. -/
def fDbgcCompCtrlCapAll : Fld := ⟨0x024, 19, 19, .rw, 0, 8, 16, 0, 1⟩
/-- DBGC.COMP_VALUE.VALUE. -/
def fDbgcCompValueValue : Fld := ⟨0x028, 31, 0, .rw, 0, 8, 16, 0, 4294967295⟩
/-- DBGC.COMP_VMASK.VMASK. -/
def fDbgcCompVmaskVmask : Fld := ⟨0x02c, 31, 0, .rw, 0, 8, 16, 0, 4294967295⟩
/-- DBGC.TRACE_CTRL.EN. -/
def fDbgcTraceCtrlEn : Fld := ⟨0x0a0, 0, 0, .rw, 0, 1, 4, 0, 1⟩
/-- DBGC.TRACE_CTRL.MODE. -/
def fDbgcTraceCtrlMode : Fld := ⟨0x0a0, 1, 1, .rw, 0, 1, 4, 0, 1⟩
/-- DBGC.TRACE_CTRL.POST. -/
def fDbgcTraceCtrlPost : Fld := ⟨0x0a0, 15, 8, .rw, 0, 1, 4, 0, 255⟩
/-- DBGC.TRACE_SEL. -/
def fDbgcTraceSel : Fld := ⟨0x0a4, 7, 0, .rw, 0, 1, 4, 0, 255⟩
/-- DBGC.TRACE_DATA_LO. -/
def fDbgcTraceDataLo : Fld := ⟨0x0a8, 31, 0, .ro, 0, 1, 4, 0, 4294967295⟩
/-- DBGC.TRACE_DATA_HI. -/
def fDbgcTraceDataHi : Fld := ⟨0x0ac, 31, 0, .ro, 0, 1, 4, 0, 4294967295⟩
/-- DBGC.TRACE_STATUS.COUNT. -/
def fDbgcTraceStatusCount : Fld := ⟨0x0b0, 8, 0, .ro, 0, 1, 4, 0, 511⟩
/-- DBGC.TRACE_STATUS.RUNNING. -/
def fDbgcTraceStatusRunning : Fld := ⟨0x0b0, 9, 9, .ro, 0, 1, 4, 0, 1⟩
/-! ### DBG -/

/-- DBG.PAGE_CAUSE.HALTED0. -/
def cDbgHalted0 : Fld := ⟨0x014, 0, 0, .w1c, 0, 1, 4, 0, 1⟩
/-- DBG.PAGE_CAUSE.HALTED1. -/
def cDbgHalted1 : Fld := ⟨0x014, 1, 1, .w1c, 0, 1, 4, 0, 1⟩
/-- DBG.PAGE_CAUSE.DBG_CONFLICT. -/
def cDbgDbgConflict : Fld := ⟨0x014, 2, 2, .w1c, 0, 1, 4, 0, 1⟩
/-- DBG.PAGE_CAUSE.SEALED_REFUSED. -/
def cDbgSealedRefused : Fld := ⟨0x014, 3, 3, .w1c, 0, 1, 4, 0, 1⟩
/-! ### TCORE -/

/-- TCORE.PAGE_CAUSE.PEEP_OVERRUN. -/
def cTcorePeepOverrun : Fld := ⟨0x014, 6, 6, .w1c, 0, 1, 4, 0, 1⟩
/-! ### PWR -/

/-- PWR.MODE_REQ.TARGET. -/
def fPwrModeReqTarget : Fld := ⟨0x040, 2, 0, .wo, 0, 1, 4, 0, 7⟩
/-- PWR.MODE_REQ.GO. -/
def fPwrModeReqGo : Fld := ⟨0x040, 3, 3, .wo, 0, 1, 4, 0, 1⟩
/-- PWR.MODE_STATUS.BUSY. -/
def fPwrModeStatusBusy : Fld := ⟨0x044, 0, 0, .ro, 0, 1, 4, 0, 1⟩
/-- PWR.MODE_STATUS.TARGET. -/
def fPwrModeStatusTarget : Fld := ⟨0x044, 3, 1, .ro, 0, 1, 4, 0, 7⟩
/-- PWR.POOL_OFF. -/
def fPwrPoolOff : Fld := ⟨0x048, 0, 0, .rw, 1, 1, 4, 0, 1⟩
/-- PWR.QUIESCE_LIMIT. -/
def fPwrQuiesceLimit : Fld := ⟨0x04c, 19, 0, .rw, 1000, 1, 4, 1, 1000000⟩
/-- PWR.DROWSE_BAYS.BAYS. -/
def fPwrDrowseBaysBays : Fld := ⟨0x050, 31, 0, .rw, 0, 3, 4, 0, 4294967295⟩
/-- PWR.DROWSE_BAYS[3].BAYS: bays 96 to 103, the bits above them RSV. -/
def fPwrDrowseBaysLast : Fld := ⟨0x05c, 7, 0, .rw, 0, 1, 4, 0, 255⟩
/-- PWR.DROWSE_LINKS.LINKS. -/
def fPwrDrowseLinksLinks : Fld := ⟨0x060, 31, 0, .rw, 0, 4, 4, 0, 4294967295⟩
/-- PWR.DROWSE_LINKS[4].LINKS: links 128 to 143, the bits above them RSV. -/
def fPwrDrowseLinksLast : Fld := ⟨0x070, 15, 0, .rw, 0, 1, 4, 0, 65535⟩
/-- PWR.PAGE_CAUSE.MODE_DONE. -/
def cPwrModeDone : Fld := ⟨0x014, 0, 0, .w1c, 0, 1, 4, 0, 1⟩
/-- PWR.PAGE_CAUSE.MODE_REFUSED. -/
def cPwrModeRefused : Fld := ⟨0x014, 1, 1, .w1c, 0, 1, 4, 0, 1⟩
/-- PWR.PAGE_CAUSE.DROWSE_PARTIAL. -/
def cPwrDrowsePartial : Fld := ⟨0x014, 2, 2, .w1c, 0, 1, 4, 0, 1⟩
/-- PWR.PAGE_CAUSE.LINK_FORCED. -/
def cPwrLinkForced : Fld := ⟨0x014, 3, 3, .w1c, 0, 1, 4, 0, 1⟩
/-- PWR.PAGE_CAUSE.FAULT_ENTERED. -/
def cPwrFaultEntered : Fld := ⟨0x014, 4, 4, .w1c, 0, 1, 4, 0, 1⟩
/-! ### SILL -/

/-- SILL.DEVICE_MODE.MODE. -/
def fSillDeviceModeMode : Fld := ⟨0x040, 2, 0, .ro, 0, 1, 4, 0, 7⟩
/-- SILL.DEVICE_MODE.PREV. -/
def fSillDeviceModePrev : Fld := ⟨0x040, 5, 3, .ro, 0, 1, 4, 0, 7⟩
/-- SILL.RESET_CAUSE.CAUSE. -/
def fSillResetCauseCause : Fld := ⟨0x044, 2, 0, .ro, 0, 1, 4, 0, 7⟩
/-- SILL.WAKE_EN.PCIE. -/
def fSillWakeEnPcie : Fld := ⟨0x048, 0, 0, .rw, 1, 1, 4, 0, 1⟩
/-- SILL.WAKE_EN.WAKE_N. -/
def fSillWakeEnWakeN : Fld := ⟨0x048, 1, 1, .rw, 1, 1, 4, 0, 1⟩
/-- SILL.WAKE_EN.TIMER. -/
def fSillWakeEnTimer : Fld := ⟨0x048, 2, 2, .rw, 0, 1, 4, 0, 1⟩
/-- SILL.WAKE_EN.LINK. -/
def fSillWakeEnLink : Fld := ⟨0x048, 3, 3, .rw, 0, 1, 4, 0, 1⟩
/-- SILL.WAKE_SRC.SOURCE. -/
def fSillWakeSrcSource : Fld := ⟨0x04c, 2, 0, .ro, 0, 1, 4, 0, 7⟩
/-- SILL.WAKE_SRC.LINK. -/
def fSillWakeSrcLink : Fld := ⟨0x04c, 15, 8, .ro, 0, 1, 4, 0, 255⟩
/-- SILL.TIMER_CMP. -/
def fSillTimerCmp : Fld := ⟨0x050, 31, 0, .rw, 0, 1, 4, 0, 4294967295⟩
/-- SILL.TIMER_COUNT. -/
def fSillTimerCount : Fld := ⟨0x054, 31, 0, .ro, 0, 1, 4, 0, 4294967295⟩
/-- SILL.FAULT.CAUSE. -/
def fSillFaultCause : Fld := ⟨0x058, 2, 0, .ro, 0, 1, 4, 0, 7⟩
/-- SILL.FAULT.FROM. -/
def fSillFaultFrom : Fld := ⟨0x058, 5, 3, .ro, 0, 1, 4, 0, 7⟩
/-- SILL.FAULT.SEEN. -/
def fSillFaultSeen : Fld := ⟨0x058, 13, 8, .ro, 0, 1, 4, 0, 63⟩
/-- SILL.FAULT.VALID. -/
def fSillFaultValid : Fld := ⟨0x058, 31, 31, .w1c, 0, 1, 4, 0, 1⟩
/-- SILL.LINK_WAKE_EN.LINKS. -/
def fSillLinkWakeEnLinks : Fld := ⟨0x088, 31, 0, .rw, 0, 4, 4, 0, 4294967295⟩
/-- SILL.LINK_WAKE_EN[4].LINKS: links 128 to 143, the bits above them RSV. -/
def fSillLinkWakeEnLast : Fld := ⟨0x098, 15, 0, .rw, 0, 1, 4, 0, 65535⟩
/-- SILL.PAGE_CAUSE.WOKE. -/
def cSillWoke : Fld := ⟨0x014, 0, 0, .w1c, 0, 1, 4, 0, 1⟩
/-- SILL.PAGE_CAUSE.FORCED_DORMANT. -/
def cSillForcedDormant : Fld := ⟨0x014, 1, 1, .w1c, 0, 1, 4, 0, 1⟩
/-- SILL.PAGE_CAUSE.KEYRAM_LOST. -/
def cSillKeyramLost : Fld := ⟨0x014, 2, 2, .w1c, 0, 1, 4, 0, 1⟩
/-! ### PWR -/

/-- PWR.TEMP. -/
def fPwrTemp : Fld := ⟨0x080, 11, 0, .ro, 0, 16, 4, 0, 4095⟩
/-- PWR.TEMP.VALID. -/
def fPwrTempValid : Fld := ⟨0x080, 31, 31, .ro, 0, 16, 4, 0, 1⟩
/-- PWR.TEMP_MAX.TEMP. -/
def fPwrTempMaxTemp : Fld := ⟨0x0c0, 11, 0, .ro, 0, 1, 4, 0, 4095⟩
/-- PWR.TEMP_MAX.SENSOR. -/
def fPwrTempMaxSensor : Fld := ⟨0x0c0, 15, 12, .ro, 0, 1, 4, 0, 15⟩
/-- PWR.TEMP_MAX.CLEAR. -/
def fPwrTempMaxClear : Fld := ⟨0x0c0, 31, 31, .wo, 0, 1, 4, 0, 1⟩
/-- PWR.TEMP_WARN. -/
def fPwrTempWarn : Fld := ⟨0x0c4, 11, 0, .rw, 400, 1, 4, 0, 4095⟩
/-- PWR.TRIP_STATUS.TRIPPED. -/
def fPwrTripStatusTripped : Fld := ⟨0x0c8, 0, 0, .ro, 0, 1, 4, 0, 1⟩
/-- PWR.PAGE_CAUSE.TEMP_HIGH. -/
def cPwrTempHigh : Fld := ⟨0x014, 5, 5, .w1c, 0, 1, 4, 0, 1⟩
/-- PWR.PAGE_CAUSE.THERM_TRIP. -/
def cPwrThermTrip : Fld := ⟨0x014, 6, 6, .w1c, 0, 1, 4, 0, 1⟩

/-! ### The fields of each page, in table order -/

/-- The block fields of SILL (the header and the cause bits are apart). -/
def fieldsSill : List Fld :=
  [fSillSummaryGroup, fSillAlertRearmRearm, fSillGroupPendPage, fSillDeviceModeMode,
   fSillDeviceModePrev, fSillResetCauseCause, fSillWakeEnPcie, fSillWakeEnWakeN,
   fSillWakeEnTimer, fSillWakeEnLink, fSillWakeSrcSource, fSillWakeSrcLink,
   fSillTimerCmp, fSillTimerCount, fSillFaultCause, fSillFaultFrom,
   fSillFaultSeen, fSillFaultValid, fSillLinkWakeEnLinks, fSillLinkWakeEnLast]

/-- The block fields of TALLY (the header and the cause bits are apart). -/
def fieldsTally : List Fld :=
  [fTallyPortSelectSelect, fTallyPortCountCount, fTallyPortStatusValid, fTallyPortStatusIncomplete,
   fTallyPortStatusSaturated, fTallyPortStatusLeaf, fTallyPortStatusParent, fTallyClearIndex,
   fTallyClearSubtree]

/-- The block fields of PBAY (the header and the cause bits are apart). -/
def fieldsPbay : List Fld :=
  [fPbayColSteerMExhausted, fPbayColSteerLExhausted, fPbayColSteerMField, fPbayColSteerLField,
   fPbayColSteerMBypass, fPbayColSteerLBypass, fPbayCaptureCfgEdgeDelay, fPbayCaptureCfgClkSel,
   fPbayCaptureCmdAll, fPbayCaptureCmdGo, fPbayCaptureStatusSeq, fPbayCaptureStatusShadowFrames,
   fPbayCaptureStatusLastAll, fPbayCaptureStatusShadowValid, fPbayCaptureStatusBusy, fPbayHingeStatusDrowsyGated,
   fPbayHingeStatusHeld, fPbayHingeStatusStileInMismatch, fPbayHingeStatusStileOutMismatch, fPbayHingeStatusInMismatch,
   fPbayHingeStatusOutMismatch, fPbayMemLog0Valid, fPbayMemLog0Kind, fPbayMemLog0Source,
   fPbayMemLog0Memory, fPbayMemLog0Row, fPbayMemLog1ByteMask, fPbayMemLog1Syndrome,
   fPbayMemDirtyArmed, fPbayMemDirtyDirtyRows, fPbaySliceOvfOvf, fPbayColStateBlockFault,
   fPbayColStateOpen, fPbayColStateMin, fPbayColStateEcum, fPbayColStateBexp,
   fPbayShutterExpired, fPbayShutterState, fPbayShutterOpen, fPbayShutterClose] ++
  [fPbayBpTimeoutTimeout, fPbayBpStatusOutstanding, fPbayBayCfgStateGoldenPending, fPbayBayCfgStateSealed,
   fPbayBayCfgStateDegraded, fPbayBayCfgStateHeldCause, fPbayBayCfgStateHeld, fPbayBayCfgStateInPr,
   fPbayHealthScore, fPbayHealthWorst, fPbayHealthTested, fPbayHealthTestFailed,
   fPbayHealthFailed, fPbayHealthPool, fPbayHealthTestAge, fPbayDrift]

/-- The block fields of JAMB (the header and the cause bits are apart). -/
def fieldsJamb : List Fld :=
  [fJambInLo, fJambInHi, fJambOeLo, fJambOeHi,
   fJambOutLo, fJambOutHi]

/-- The block fields of CLK (the header and the cause bits are apart). -/
def fieldsClk : List Fld :=
  [fClkRefCtrlPrefer, fClkRefCtrlRevert, fClkRefStatusSelected, fClkRefStatusAGood,
   fClkRefStatusBGood, fClkRefStatusPcieRefGood, fClkSillClkSrcSel, fClkSillClkTrimAuto,
   fClkSillClkTrimGo, fClkSillClkXinPresent, fClkSillClkDead, fClkSillClkTrimCode,
   fClkSrcRunRun, fClkSrcCfgMult, fClkSrcCfgSscDepth, fClkSrcCfgSscCentre,
   fClkSrcCfgSscRate, fClkSrcStatusLocked, fClkSrcStatusTwinActive, fClkSrcStatusTwinDegraded,
   fClkRatioLlDiv, fClkRatioCurDiv, fClkRatioCfgDiv, fClkDrowsyIdleTime,
   fClkDrowsyEn, fClkLastFailCode, fClkLastFailSource, fClkLastFailValid,
   fClkGclkDiv, fClkGclkInUse, fClkRowTransomGclk]

/-- The block fields of MESH (the header and the cause bits are apart). -/
def fieldsMesh : List Fld :=
  [fMeshNodeFabricId, fMeshNodeMgmtId, fMeshNodeCoreId, fMeshNodeHostId,
   fMeshHdrLogHdr, fMeshLogStatusValid, fMeshLogStatusKind, fMeshLogStatusEdge,
   fMeshLogStatusIndex, fMeshHashSeedSeed, fMeshArbBurstLimit, fMeshArbArbN,
   fMeshDrainLimitLimit, fMeshRouteSelNode, fMeshRouteDataValid, fMeshRouteDataCount,
   fMeshRouteDataFirst, fMeshDetourStatusActive, fMeshDetourLogValid, fMeshDetourLogPlane,
   fMeshDetourLogOutput, fMeshDetourLogX, fMeshDetourLogY]

/-- The block fields of PORTR (the header and the cause bits are apart). -/
def fieldsPortr : List Fld :=
  [fPortrPositionFirstLink, fPortrPositionNodePort, fPortrPositionEdge, fPortrPositionY,
   fPortrPositionX, fPortrEgressArbBurstLimit, fPortrEgressArbArbN]

/-- The block fields of TXL (the header and the cause bits are apart). -/
def fieldsTxl : List Fld :=
  [fTxlSubLinkLink, fTxlSubLaneLoLo, fTxlSubLaneHiDeskew, fTxlPhyRxFailed,
   fTxlPhyRxCFailed, fTxlPhyRxCsFailed, fTxlPhyRxDsCarries, fTxlPhyRxClkSel,
   fTxlPhyRxDllLocked, fTxlPhyRxAligned, fTxlPhyRxMode, fTxlPhyTxFailed,
   fTxlPhyTxDsCarries, fTxlPhyTxClkSel, fTxlPhyTxMode, fTxlSkewFound,
   fTxlCentreFound, fTxlMarginWindow, fTxlMarginLimit, fTxlMarginAuto,
   fTxlSwapTestLane, fTxlSwapTestDataGo, fTxlSwapTestClkGo, fTxlShutterExpired,
   fTxlShutterState, fTxlShutterOpen, fTxlShutterClose, fTxlLinkStatusState,
   fTxlLinkStatusVersion, fTxlLinkStatusTxIdle, fTxlLinkStatusRxIdle, fTxlLinkStatusPeerCaps,
   fTxlLinkStatusRetryUsed, fTxlPeerNodeLoNode0, fTxlPeerNodeLoNode1, fTxlPeerNodeHiNode2,
   fTxlPeerNodeHiNode3, fTxlPeerDieDieCode, fTxlPeerDieStepping, fTxlPeerDieVersions] ++
  [fTxlPeerCrdLoClass0, fTxlPeerCrdLoClass1, fTxlPeerCrdHiClass2, fTxlPeerCrdHiClass3,
   fTxlLlCfgReplayLimit, fTxlLlCfgRetrainLimit, fTxlLlCfgVersionMax, fTxlLlCfgIdleEn,
   fTxlLlCfgSleepOk, fTxlLlCfgIdleTime, fTxlPmCtrlSleep, fTxlPmCtrlWake,
   fTxlPmCtrlRetrain, fTxlStallLimitLimit, fTxlBringupLimitLimit, fTxlTxSeqLo,
   fTxlTxSeqHi, fTxlRxSeqLo, fTxlRxSeqHi]

/-- The block fields of KEYS (the header and the cause bits are apart). -/
def fieldsKeys : List Fld :=
  [fKeysSealStatusFused, fKeysSealStatusRam, fKeysSealStatusVbatOk, fKeysSealStatusOnVbat,
   fKeysLastLoadIndex, fKeysLastLoadSlot, fKeysLastLoadTarget, fKeysLastLoadSource,
   fKeysLastLoadStatus, fKeysLastLoadValid]

/-- The block fields of CUR (the header and the cause bits are apart). -/
def fieldsCur : List Fld :=
  [fCurCurCfgMode, fCurShutterExpired, fCurShutterState, fCurShutterOpen,
   fCurShutterClose, fCurCurTimeoutTimeout, fCurCurStatusEngine, fCurCurStatusSlot0Valid,
   fCurCurStatusSlot1Valid, fCurCurStatusCurrent, fCurCurStatusTxPhase, fCurCurStatusRxPhase,
   fCurCurStatusRollBusy, fCurCurStatusInitBusy, fCurKeyCtrlRoll, fCurSweepPtrPage,
   fCurSweepPtrWindow, fCurWinCmdWindow, fCurWinCmdInit, fCurQuarStatusCount,
   fCurWinBaseLoBase, fCurWinBaseHiBase, fCurWinPagesPages, fCurWinCtrLoCtr,
   fCurWinCtrHiCtr, fCurWinTagLoTag, fCurWinTagHiTag, fCurWinCtrlNode,
   fCurWinCtrlValid, fCurQuarSelIndex, fCurQuarLoValid, fCurQuarLoWindow,
   fCurQuarLoLine, fCurQuarHiLine, fCurQuarReleaseIndex, fCurQuarReleasePoison,
   fCurQuarReleaseGo, fCurFailLog0Valid, fCurFailLog0Kind, fCurFailLog0Window] ++
  [fCurFailLog1WhereLo, fCurFailLog2WhereHi]

/-- The block fields of CFG (the header and the cause bits are apart). -/
def fieldsCfg : List Fld :=
  [fCfgLoadSrcSource, fCfgLoadCmdGo, fCfgLoadCmdStartupGo, fCfgLoadStatusState,
   fCfgLoadStatusStep, fCfgLoadStatusReason, fCfgLoadStatusKind, fCfgLoadStatusClass,
   fCfgBytesInBytes, fCfgFramesWrittenFrames, fCfgStartupOrderOrder, fCfgLatchLimit,
   fCfgLatchLevel, fCfgLatchDriving, fCfgLoadLimitLimit, fCfgDeadlineStatusDeadline,
   fCfgDeadlineStatusArmed, fCfgPushHeadHead, fCfgPushTailTail, fCfgPullBaseBaseLo,
   fCfgPullBaseBaseHi, fCfgPullBytesBytes, fCfgFlashBaseBase, fCfgFlashBoot,
   fCfgFwdData, fCfgFwdStatusFailed, fCfgSerialLo, fCfgSerialHi,
   fCfgCfgArbArbN, fCfgCfgArbBurstLimit, fCfgStepping, fCfgCfgTimeoutTimeout]

/-- The block fields of SCRUB (the header and the cause bits are apart). -/
def fieldsScrub : List Fld :=
  [fScrubScrubCtrlPassGap, fScrubScrubStatusState, fScrubScrubStatusBay, fScrubPassCountPasses,
   fScrubLastPassTime, fScrubGoldenPopValid, fScrubGoldenPopBay, fScrubGoldenPopType,
   fScrubGoldenPopMajor, fScrubGoldenPopMinor, fScrubGoldenStatusCount, fScrubErrLog0Valid,
   fScrubErrLog0Kind, fScrubErrLog0Pbay, fScrubErrLog1Frame, fScrubErrLog2Word,
   fScrubErrLog2Syndrome, fScrubErrLog2Parity, fScrubVoteStatusDissent, fScrubInjectAddrFrame,
   fScrubInjectWord, fScrubInjectBit, fScrubInjectGo]

/-- The block fields of REPAIR (the header and the cause bits are apart). -/
def fieldsRepair : List Fld :=
  [fRepairPolicyAutoMigrate, fRepairPolicyMigrateDegraded, fRepairPolicyAutoRetire, fRepairPolicyMigrateAt,
   fRepairPolicyFailAt, fRepairMigrateCfgCutDirty, fRepairMigrateCfgMirrorPasses, fRepairSelftestPeriod,
   fRepairWardenStatusDissent, fRepairRecordFlash, fRepairRecordLoaded, fRepairSteerLo,
   fRepairSteerHi, fRepairMigStatePhase, fRepairMigStateLogical, fRepairMigStateSource,
   fRepairMigStateTarget, fRepairMigProgressDirty, fRepairMigProgressPass, fRepairLastHoldHoldNs,
   fRepairLastHoldRow, fRepairWardenTimeoutTimeout]

/-- The block fields of WARDEN (the header and the cause bits are apart). -/
def fieldsWarden : List Fld :=
  [fWardenReq, fWardenSubmitGo, fWardenMbxStatusQueued, fWardenMbxStatusRunning,
   fWardenMbxStatusPending, fWardenMbxRespValid, fWardenMbxRespStatus, fWardenMbxRespService,
   fWardenMbxRespSeq, fWardenRespDataData]

/-- The block fields of PCIE (the header and the cause bits are apart). -/
def fieldsPcie : List Fld :=
  [fPcieLinkStatusRate, fPcieLinkStatusWidth, fPcieLinkStatusFlit, fPcieLinkStatusPm,
   fPciePf1CfgBar0Log2, fPciePf1CfgVfBar0Log2, fPcieWinTimeoutTimeout, fPciePf1StatusReady,
   fPciePf1StatusBme, fPciePf1StatusAtomicEn, fPciePf1StatusNumVfs, fPcieWinLog0Valid,
   fPcieWinLog0Status, fPcieWinLog0Window, fPcieWinLog0Function, fPcieWinLog1AddrLo,
   fPcieWinLog2AddrHi, fPcieWinBaseLoBase, fPcieWinBaseHiBase, fPcieWinCtrlSizeLog2,
   fPcieWinCtrlOwner, fPcieWinCtrlNp, fPcieWinCtrlOrd, fPcieWinCtrlPrio,
   fPcieWinCtrlCh, fPcieWinCtrlValid, fPcieWinTargetLoTarget, fPcieWinTargetHiTarget,
   fPcieDbLoTarget, fPcieDbHiTarget, fPcieDbCtrlOwner, fPcieDbCtrlValid,
   fPcieVecOwnerOwner0, fPcieVecOwnerOwner1, fPcieVecOwnerOwner2, fPcieVecOwnerOwner3]

/-- The block fields of HDMA (the header and the cause bits are apart). -/
def fieldsHdma : List Fld :=
  [fHdmaShutterExpired, fHdmaShutterState, fHdmaShutterOpen, fHdmaShutterClose,
   fHdmaErrPopValid, fHdmaErrPopCode, fHdmaErrPopChannel, fHdmaErrPopIndex,
   fHdmaRingLoRing, fHdmaRingHiRing, fHdmaRingCfgSizeLog2, fHdmaRingCfgVector,
   fHdmaRingCfgOwner, fHdmaTail, fHdmaHead, fHdmaChStatusState,
   fHdmaTimeout, fHdmaChCtrlStart, fHdmaChCtrlStop, fHdmaChCtrlAbort]

/-- The block fields of TCORE (the header and the cause bits are apart). -/
def fieldsTcore : List Fld :=
  [fTcoreCoreCtrlHold, fTcoreResetPc, fTcoreCoreStatusState, fTcoreCoreStatusExl,
   fTcoreCoreStatusSealed, fTcoreCoreStatusOutstanding, fTcoreCoreTimeoutTimeout, fTcoreWdCtrlEn,
   fTcoreWdCtrlWdDebugPolicy, fTcoreWdCtrlLock, fTcoreWdLoad, fTcoreWdGrace,
   fTcoreWdCount, fTcoreLastExc0Epc, fTcoreLastExc1Code, fTcoreLastExc2Einfo,
   fTcorePeepTxWord, fTcorePeepRxWord]

/-- The block fields of PORTER (the header and the cause bits are apart). -/
def fieldsPorter : List Fld :=
  [fPorterPorterCfgArbN, fPorterPorterCfgTick, fPorterTickCount, fPorterTaskCmdTask,
   fPorterTaskCmdPrio, fPorterTaskCmdOp, fPorterReadyMap, fPorterCountsReady,
   fPorterCountsDelayed, fPorterCurTaskTask, fPorterCurTaskValid, fPorterCurEntryEntry,
   fPorterCurArgArg, fPorterCurEventEvent, fPorterCauseBindTask, fPorterCauseBindEn,
   fPorterTraceCtrlEn, fPorterTraceCtrlStream, fPorterTraceCtrlStreamLog2, fPorterTraceCtrlKindMask,
   fPorterTraceStatusCount, fPorterTracePopLo, fPorterTracePopHi, fPorterTraceBaseLoBase,
   fPorterTraceBaseHiBase, fPorterTraceWptrWptrLo, fPorterTraceWptrWptrHi]

/-- The block fields of DBG (the header and the cause bits are apart). -/
def fieldsDbg : List Fld :=
  [fDbgOwner, fDbgOwnerClaim, fDbgOwnerRelease, fDbgMapAddr,
   fDbgMapData, fDbgMapCtrlBusy, fDbgMapCtrlError, fDbgMapCtrlGo,
   fDbgMapCtrlWrite, fDbgMemAddrLo, fDbgMemAddrHi, fDbgMemData,
   fDbgMemCtrlGo, fDbgMemCtrlWrite, fDbgMemCtrlSize, fDbgMemCtrlDone,
   fDbgMemCtrlStatus, fDbgIdcode]

/-- The block fields of DBGC (the header and the cause bits are apart). -/
def fieldsDbgc : List Fld :=
  [fDbgcRunCtrlHaltReq, fDbgcRunCtrlResume, fDbgcRunCtrlStep, fDbgcRunCtrlStepIrq,
   fDbgcRunCtrlHaltOnReset, fDbgcRunCtrlHaltBoth, fDbgcRunCtrlCatch, fDbgcRunStatusHalted,
   fDbgcRunStatusCause, fDbgcRunStatusComp, fDbgcRegSel, fDbgcRegData,
   fDbgcFeed, fDbgcFeedStatusBusy, fDbgcFeedStatusErr, fDbgcFeedStatusEcode,
   fDbgcFeedStatusKind, fDbgcMonCtrlMonThreshold, fDbgcMonCtrlMonActive, fDbgcMonCtrlMonDepth,
   fDbgcPeepAck, fDbgcCompAddrAddr, fDbgcCompCtrlEn, fDbgcCompCtrlAction,
   fDbgcCompCtrlAccess, fDbgcCompCtrlValueEn, fDbgcCompCtrlMaskBits, fDbgcCompCtrlBay,
   fDbgcCompCtrlCapAll, fDbgcCompValueValue, fDbgcCompVmaskVmask, fDbgcTraceCtrlEn,
   fDbgcTraceCtrlMode, fDbgcTraceCtrlPost, fDbgcTraceSel, fDbgcTraceDataLo,
   fDbgcTraceDataHi, fDbgcTraceStatusCount, fDbgcTraceStatusRunning]

/-- The block fields of PWR (the header and the cause bits are apart). -/
def fieldsPwr : List Fld :=
  [fPwrModeReqTarget, fPwrModeReqGo, fPwrModeStatusBusy, fPwrModeStatusTarget,
   fPwrPoolOff, fPwrQuiesceLimit, fPwrDrowseBaysBays, fPwrDrowseBaysLast, fPwrDrowseLinksLinks, fPwrDrowseLinksLast,
   fPwrTemp, fPwrTempValid, fPwrTempMaxTemp, fPwrTempMaxSensor,
   fPwrTempMaxClear, fPwrTempWarn, fPwrTripStatusTripped]

end Sys2Proof.Machine
end

