-- ==== Sys2Proof/Machine/Operands.lean ====
section
/-! DEFINITION. How a command names what it acts on: pages and their offsets, register fields read and written in one
place, the steering of logical to physical bays. -/

namespace Sys2Proof.Machine

open Sys2Proof

/-! ### Pages (R23) -/

/-- The management offset of a page (R23). -/
def pageBase : PageRef → Nat
  | .sill => 0x0000 | .clk => 0x1000 | .pwr => 0x2000 | .repair => 0x3000 | .cfg => 0x4000 | .scrub => 0x5000
  | .keys => 0x6000 | .porter => 0x7000 | .tcore c => 0x8000 + 0x1000 * c.val | .dbg => 0xA000 | .pcie => 0xB000
  | .hdma => 0xC000 | .mesh => 0xD000 | .tally => 0xE000 | .jamb => 0xF000
  | .pbay n => 0x100000 + 0x1000 * n.val | .bay n => 0x200000 + 0x1000 * n.val
  | .txl n => 0x300000 + 0x1000 * n.val | .cur n => 0x400000 + 0x1000 * n.val
  | .portr n => 0x500000 + 0x1000 * n.val | .warden n => 0x600000 + 0x1000 * n.val

/-- The ordinal of a page (R23). -/
def pageOrdinal : PageRef → Nat
  | .sill => 0 | .clk => 1 | .pwr => 2 | .repair => 3 | .cfg => 4 | .scrub => 5 | .keys => 6 | .porter => 7
  | .tcore c => 8 + c.val | .dbg => 10 | .pcie => 11 | .hdma => 12 | .mesh => 13 | .tally => 14 | .jamb => 15
  | .pbay n => 16 + n.val | .bay n => 128 + n.val | .txl n => 232 + n.val | .cur n => 376 + n.val
  | .portr n => 532 + n.val | .warden n => 580 + n.val

/-- The page of a given ordinal, if there is one. -/
def pageOfOrdinal (p : Nat) : Option PageRef :=
  if h : p < 16 then
    some (match p with
      | 0 => .sill | 1 => .clk | 2 => .pwr | 3 => .repair | 4 => .cfg | 5 => .scrub | 6 => .keys | 7 => .porter
      | 8 => .tcore 0 | 9 => .tcore 1 | 10 => .dbg | 11 => .pcie | 12 => .hdma | 13 => .mesh | 14 => .tally
      | _ => .jamb)
  else if h : p < 128 then some (.pbay ⟨p - 16, by omega⟩)
  else if h : p < 232 then some (.bay ⟨p - 128, by omega⟩)
  else if h : p < 376 then some (.txl ⟨p - 232, by omega⟩)
  else if h : p < 532 then some (.cur ⟨p - 376, by omega⟩)
  else if h : p < 580 then some (.portr ⟨p - 532, by omega⟩)
  else if h : p < 584 then some (.warden ⟨p - 580, by omega⟩)
  else none

/-- The page that a management offset lies in, if any (R21, R23). -/
def pageOf (off : Nat) : Option PageRef :=
  let q := off / 0x1000
  if q < 16 then pageOfOrdinal q
  else if h : 0x100 ≤ q ∧ q < 0x100 + 112 then some (.pbay ⟨q - 0x100, by omega⟩)
  else if h : 0x200 ≤ q ∧ q < 0x200 + 104 then some (.bay ⟨q - 0x200, by omega⟩)
  else if h : 0x300 ≤ q ∧ q < 0x300 + 144 then some (.txl ⟨q - 0x300, by omega⟩)
  else if h : 0x400 ≤ q ∧ q < 0x400 + 156 then some (.cur ⟨q - 0x400, by omega⟩)
  else if h : 0x500 ≤ q ∧ q < 0x500 + 48 then some (.portr ⟨q - 0x500, by omega⟩)
  else if h : 0x600 ≤ q ∧ q < 0x600 + 4 then some (.warden ⟨q - 0x600, by omega⟩)
  else none

/-- The DBG fields of core `c`, moved to the core's base (R451). -/
def fieldsDbgCore (c : Nat) : List Fld := fieldsDbgc.map fun f => { f with off := f.off + 0x100 + 0x100 * c }

/-- The header fields that every page stores (R26). -/
def fieldsHeader : List Fld := [hdrEnable, hdrStagedPending, hdrCommitBusy, hdrAbortState, hdrCause, hdrMask, hdrEpoch]

/-- The block fields of a page. BAY pages have none of their own: theirs are those of a PBAY page (R25). -/
def fieldsBlock : PageRef → List Fld
  | .sill => fieldsSill | .clk => fieldsClk | .pwr => fieldsPwr | .repair => fieldsRepair | .cfg => fieldsCfg
  | .scrub => fieldsScrub | .keys => fieldsKeys | .porter => fieldsPorter | .tcore _ => fieldsTcore
  | .dbg => fieldsDbg ++ fieldsDbgCore 0 ++ fieldsDbgCore 1
  | .pcie => fieldsPcie | .hdma => fieldsHdma | .mesh => fieldsMesh | .tally => fieldsTally | .jamb => fieldsJamb
  | .pbay _ => fieldsPbay | .bay _ => [] | .txl _ => fieldsTxl | .cur _ => fieldsCur | .portr _ => fieldsPortr
  | .warden _ => fieldsWarden

/-- Whether a field has a place at offset `o` of its page. -/
def Fld.covers (f : Fld) (o : Nat) : Bool :=
  decide (f.off ≤ o) && decide ((o - f.off) % f.stride = 0) && decide ((o - f.off) / f.stride < f.count)

/-- The fields of a page at offset `o` (R26, R21). -/
def fieldsAt (pg : PageRef) (o : Nat) : List Fld :=
  (if o < 0x40 then fieldsHeader else fieldsBlock pg).filter fun f => f.covers o

/-! ### Reset values (R4, and the Reset column of every register table) -/

/-- Reset values that are per page or per place; every other field resets to the value of its own row. ENABLE resets to 1
on SCRUB (R338) and PORTER (R432); elsewhere the manual gives no value and the model takes 0 (DESIGN CHOICE, entry 3). -/
def specialReset (pg : PageRef) (o : Nat) : Option Nat :=
  match pg with
  | .scrub => if o = 0x008 then some 1 else none
  | .porter => if o = 0x008 then some 1 else none
  | .repair =>
    if 0x080 ≤ o ∧ o < 0x0C0 then some (if o % 8 = 0 then 0x76543210 else 0xDCBA98) else none
  | .cur n => if o = 0x04C then some n.val else none
  | .pbay n =>
    if o = 0x060 then some (Config.fuseBypassL n.val % 33 + 0x100 * (Config.fuseBypassM n.val % 33)) else none
  | _ => none

/-- A whole register at reset. -/
def wordReset (pg : PageRef) (o : Nat) : Nat :=
  match specialReset pg o with
  | some v => v
  | none => (fieldsAt pg o).foldl (fun s f => s + f.reset * 2 ^ f.lo) 0

/-- The reset value of the register at a management offset. -/
def regReset (key : Nat) : Word :=
  match pageOf key with
  | some pg => BitVec.ofNat 32 (wordReset pg (key % 0x1000))
  | none => 0

/-! ### Fields: the one place where registers are read and written -/

/-- Bits `lo + n - 1` to `lo` of a register. -/
def bitsOf (w : Word) (lo n : Nat) : Nat := (w.extractLsb' lo n).toNat

/-- A register with bits `lo + n - 1` to `lo` replaced. -/
def setBits (w : Word) (lo n v : Nat) : Word :=
  let mask := BitVec.ofNat 32 ((2 ^ n - 1) * 2 ^ lo)
  (w &&& ~~~mask) ||| (BitVec.ofNat 32 (v % 2 ^ n * 2 ^ lo) &&& mask)

/-- The register at a management offset. -/
def Device.word (d : Device) (key : Nat) : Word := sget regReset d.regs key

/-- Replace the register at a management offset. -/
def Device.setWord (d : Device) (key : Nat) (w : Word) : Device := { d with regs := sset regReset d.regs key w }

/-- The key of place `i` of field `f` on page `pg`. -/
def fldKey (pg : PageRef) (f : Fld) (i : Nat) : Nat := pageBase pg + f.at_ i

/-- The current value of a field (for an RWS field, the value last written). -/
def Device.rd (d : Device) (pg : PageRef) (f : Fld) (i : Nat := 0) : Nat :=
  bitsOf (d.word (fldKey pg f i)) f.lo f.width

/-- A one-bit field as a truth value. -/
def Device.flag (d : Device) (pg : PageRef) (f : Fld) (i : Nat := 0) : Bool := d.rd pg f i != 0

/-- Set a field. -/
def Device.put (d : Device) (pg : PageRef) (f : Fld) (v : Nat) (i : Nat := 0) : Device :=
  d.setWord (fldKey pg f i) (setBits (d.word (fldKey pg f i)) f.lo f.width v)

/-- The value of an RWS field in effect (R30). -/
def Device.eff (d : Device) (pg : PageRef) (f : Fld) (i : Nat := 0) : Nat :=
  bitsOf (sget regReset d.committed (fldKey pg f i)) f.lo f.width

/-- Set a cause bit or a flag. -/
def Device.raise (d : Device) (pg : PageRef) (f : Fld) (i : Nat := 0) : Device := d.put pg f 1 i

/-- Clear a flag. -/
def Device.lower (d : Device) (pg : PageRef) (f : Fld) (i : Nat := 0) : Device := d.put pg f 0 i

/-- Record an output. -/
def Device.emit (d : Device) (o : Out) : Device := { d with out := d.out ++ [o] }

/-! ### Steering (R2, R10, R25): REPAIR.STEER holds one code per physical position of a row -/

/-- The steering code of a physical bay (REPAIR.STEER_LO, STEER_HI): 0 to 12 a logical position, 13 pool, 14 target or
out of service, 15 failed. -/
def Device.steerCode (d : Device) (pb : Nat) : Nat :=
  let r := pb / 14
  let p := pb % 14
  if p < 8 then bitsOf (d.word (fldKey .repair fRepairSteerLo r)) (4 * p) 4
  else bitsOf (d.word (fldKey .repair fRepairSteerHi r)) (4 * (p - 8)) 4

/-- Set the steering code of a physical bay. -/
def Device.setSteerCode (d : Device) (pb code : Nat) : Device :=
  let r := pb / 14
  let p := pb % 14
  if p < 8 then
    d.setWord (fldKey .repair fRepairSteerLo r) (setBits (d.word (fldKey .repair fRepairSteerLo r)) (4 * p) 4 code)
  else
    d.setWord (fldKey .repair fRepairSteerHi r) (setBits (d.word (fldKey .repair fRepairSteerHi r)) (4 * (p - 8)) 4 code)

/-- The logical bay that a physical bay carries, if any. -/
def Device.logicalOf (d : Device) (pb : Fin 112) : Option (Fin 104) :=
  let c := d.steerCode pb.val
  if c < 13 then some (Fin.ofNat 104 (13 * (pb.val / 14) + c)) else none

/-- The physical bay that carries a logical bay: the position of its row whose code names it. -/
def Device.physOf (d : Device) (n : Fin 104) : Fin 112 :=
  let r := n.val / 13
  let k := n.val % 13
  match (List.range 14).find? fun p => d.steerCode (14 * r + p) == k with
  | some p => Fin.ofNat 112 (14 * r + p)
  | none => Fin.ofNat 112 (14 * r + k)

/-- The physical bay a bay page stands for (R2, R25). -/
def Device.bayPhys (d : Device) : BayPage → Fin 112
  | .bay n => d.physOf n
  | .pbay p => p

/-- The page whose header belongs to a bay page. -/
def bayHeader : BayPage → PageRef
  | .bay n => .bay n
  | .pbay p => .pbay p

/-- Set a cause of the logical bay that a physical bay carries; a bay that carries none has no BAY page to set it in. -/
def Device.bayCause (d : Device) (pb : Fin 112) (f : Fld) : Device :=
  match d.logicalOf pb with
  | some n => d.raise (.bay n) f
  | none => d

end Sys2Proof.Machine
end

