-- ==== Sys2Proof/Machine/Flags.lean ====
section
/-! DEFINITION. Cause bits, the alert tree above them (R40 to R43) and the tally (R44 to R47). -/

namespace Sys2Proof.Machine

open Sys2Proof

/-! ### The alert tree -/

/-- The alert group of a page and its bit there (R41). -/
def alertGroup : PageRef → Nat × Nat
  | .sill => (0, 0) | .clk => (1, 0) | .pwr => (2, 0) | .repair => (3, 0) | .cfg => (4, 0) | .scrub => (5, 0)
  | .keys => (6, 0) | .porter => (7, 0) | .tcore c => (8, c.val) | .dbg => (9, 0) | .pcie => (10, 0)
  | .hdma => (11, 0) | .mesh => (12, 0) | .tally => (13, 0) | .jamb => (14, 0) | .warden n => (15, n.val)
  | .bay n => (16 + n.val / 13, n.val % 13)
  | .pbay n => (24 + n.val / 28, n.val % 28)
  | .txl n => (28 + n.val / 36, n.val % 36)
  | .cur n => if n.val < 144 then (28 + n.val / 36, 36 + n.val % 36) else (28 + (n.val - 144) / 3, 72 + (n.val - 144) % 3)
  | .portr n => (28 + n.val / 12, 75 + n.val % 12)

/-- A page is pending while PAGE_CAUSE AND NOT PAGE_CAUSE_MASK is non-zero (R40). -/
def Device.pagePending (d : Device) (pg : PageRef) : Bool :=
  d.word (fldKey pg hdrCause 0) &&& ~~~(d.word (fldKey pg hdrMask 0)) != 0

/-- The pending pages. Every PAGE_CAUSE resets to 0, so only a page with a listed PAGE_CAUSE can be pending. -/
def Device.pendingPages (d : Device) : List PageRef :=
  d.regs.filterMap fun e =>
    if e.1 % 0x1000 = 0x014 then
      match pageOf e.1 with
      | some pg => if d.pagePending pg then some pg else none
      | none => none
    else none

/-- Whether group `g` is pending (R40). -/
def Device.groupPending (d : Device) (g : Nat) : Bool := d.pendingPages.any fun pg => (alertGroup pg).1 == g

/-- The alert condition (R40). -/
def Device.alertHolds (d : Device) : Bool := !d.pendingPages.isEmpty

/-- ALERT_N, driven low while the alert condition holds (R40). -/
def Device.alertN (d : Device) : Bool := !d.alertHolds

/-- SILL.SUMMARY. -/
def Device.summary (d : Device) : Word :=
  d.pendingPages.foldl (fun w pg => w ||| BitVec.ofNat 32 (2 ^ (alertGroup pg).1)) 0

/-- SILL.GROUP_PEND[g][w] (R41). -/
def Device.groupWord (d : Device) (g w : Nat) : Word :=
  d.pendingPages.foldl (fun acc pg =>
    let gb := alertGroup pg
    if gb.1 = g ∧ gb.2 / 32 = w then acc ||| BitVec.ofNat 32 (2 ^ (gb.2 % 32)) else acc) 0

/-! ### The tally -/

/-- A leaf stops at this count (R45). -/
def tallyMax : Nat := 0xFFFFFFFE

/-- Whether a page owns leaves: PAGE_CAPS.HAS_TALLY, for the pages whose chapters define leaves. -/
def hasTally : PageRef → Bool
  | .sill => false | .tally => false | .jamb => false | .warden _ => false
  | .clk => true | .pwr => true | .repair => true | .cfg => true | .scrub => true | .keys => true | .porter => true
  | .tcore _ => true | .dbg => true | .pcie => true | .hdma => true | .mesh => true | .pbay _ => true | .bay _ => true
  | .txl _ => true | .cur _ => true | .portr _ => true

def tallyDflt : Nat → Option Nat := fun _ => some 0

/-- Count `n` events in leaf `k` of a page; a lost leaf discards them (R45, R46). -/
def Device.countN (d : Device) (pg : PageRef) (k n : Nat) : Device :=
  let key := 8 * pageOrdinal pg + k
  match sget tallyDflt d.tally key with
  | none => d
  | some c => { d with tally := sset tallyDflt d.tally key (some (min (c + n) tallyMax)) }

/-- Count one event in leaf `k` of a page. -/
def Device.count (d : Device) (pg : PageRef) (k : Nat) : Device := d.countN pg k 1

/-- Count an event in leaf `k` of the BAY page of the logical bay that a physical bay carries. -/
def Device.bayCount (d : Device) (pb : Fin 112) (k : Nat) : Device :=
  match d.logicalOf pb with
  | some n => d.count (.bay n) k
  | none => d

/-- One entry of the tally as read (R44, R45). -/
structure TallyEntry where
  count : Nat
  valid : Bool
  incomplete : Bool
  saturated : Bool
  leaf : Bool
  parent : Nat
  deriving DecidableEq, Repr

/-- An index that is not listed (R44). -/
def TallyEntry.unlisted : TallyEntry :=
  { count := 0, valid := false, incomplete := false, saturated := false, leaf := false, parent := 0 }

/-- The leaves of the pages that `p` holds of which are not at 0. -/
def Device.leavesOf (d : Device) (p : PageRef → Bool) : List (Option Nat) :=
  d.tally.filterMap fun e =>
    match pageOfOrdinal (e.1 / 8) with
    | some pg => if p pg then some e.2 else none
    | none => none

/-- A total over leaves: the sum of the valid ones, saturated, INCOMPLETE with a lost one, SATURATED with a full one or
when it saturates itself. Page totals saturate on the way up, and so does every level above (R45). -/
def tallyTotal (parent : Nat) (ls : List (Option Nat)) : TallyEntry :=
  let sum := ls.foldl (fun s l => s + l.getD 0) 0
  { count := min sum tallyMax, valid := true, incomplete := ls.any fun l => l.isNone
    saturated := decide (tallyMax ≤ sum) || ls.any (fun l => l == some tallyMax), leaf := false, parent := parent }

/-- The tally entry at an index (R44). A total that waits for recomputation reads a free count (R46). -/
def Device.tallyEntry (d : Device) (i : Nat) : TallyEntry :=
  let fix (e : TallyEntry) : TallyEntry :=
    if d.tallyBroken.contains i then { e with count := (Config.freeWord d.free).toNat } else e
  if i = 0 then fix (tallyTotal 0 (d.leavesOf fun _ => true))
  else if i < 33 then fix (tallyTotal 0 (d.leavesOf fun pg => (alertGroup pg).1 == i - 1))
  else if i < 64 then .unlisted
  else if i < 64 + 584 then
    match pageOfOrdinal (i - 64) with
    | some pg => fix (tallyTotal (1 + (alertGroup pg).1) (d.leavesOf fun q => q == pg))
    | none => .unlisted
  else if i < 1024 then .unlisted
  else
    match pageOfOrdinal ((i - 1024) / 8) with
    | some pg =>
      if hasTally pg then
        match sget tallyDflt d.tally (i - 1024) with
        | some c => { count := c, valid := true, incomplete := false, saturated := decide (c = tallyMax), leaf := true
                      parent := 64 + (i - 1024) / 8 }
        | none => { count := 0xFFFFFFFF, valid := false, incomplete := false, saturated := false, leaf := true
                    parent := 64 + (i - 1024) / 8 }
      else .unlisted
    | none => .unlisted

/-- A TALLY status word (offset 0x048 of a port). -/
def TallyEntry.status (e : TallyEntry) : Word :=
  BitVec.ofNat 32 ((if e.valid then 2 ^ 31 else 0) + (if e.incomplete then 2 ^ 30 else 0) +
    (if e.saturated then 2 ^ 29 else 0) + (if e.leaf then 2 ^ 28 else 0) + e.parent)

/-- Whether leaf key `key` lies below index `i` (R47, SUBTREE). -/
def tallyBelow (i key : Nat) : Bool :=
  if i = 0 then true
  else if i < 33 then
    match pageOfOrdinal (key / 8) with
    | some pg => (alertGroup pg).1 == i - 1
    | none => false
  else if 64 ≤ i ∧ i < 64 + 584 then key / 8 == i - 64
  else key + 1024 == i

/-! ### Signals -/

/-- Set off an effect elsewhere in the device within the same step. -/
def Device.signal (d : Device) (s : Signal) : Device := { d with signals := d.signals ++ [s] }

end Sys2Proof.Machine
end

