-- ==== Sys2Proof/Machine/Bram.lean ====
section
/-! DEFINITION. Block memory (R83 to R104): shapes, write modes, collisions, cascades, errors, write-back, dirty rows. -/

namespace Sys2Proof.Machine

open Sys2Proof

/-! ### Bays that run -/

/-- The codes of the modes. -/
def mDormant : Nat := 0
@[inherit_doc mDormant] def mDoorway : Nat := 1
@[inherit_doc mDormant] def mLoad : Nat := 2
@[inherit_doc mDormant] def mStartup : Nat := 3
@[inherit_doc mDormant] def mService : Nat := 4
@[inherit_doc mDormant] def mDrowse : Nat := 5
@[inherit_doc mDormant] def mQuiesced : Nat := 6
@[inherit_doc mDormant] def mFaultHold : Nat := 7

/-- The device's mode (SILL.DEVICE_MODE, R16). -/
def Device.mode (d : Device) : Nat := d.rd .sill fSillDeviceModeMode

/-- The clocks of a physical bay run: the mode has fabric clocks (R16, R139), the bay is neither gated (R146) nor in a
migration hold (R80). -/
def Device.bayClocked (d : Device) (pb : Fin 112) : Bool :=
  decide (2 ≤ d.mode ∧ d.mode ≤ 5) && !d.flag (.pbay pb) fPbayHingeStatusDrowsyGated &&
    !d.flag (.pbay pb) fPbayHingeStatusHeld

/-- SRC_RUN bit `s`. -/
def Device.running (d : Device) (s : Nat) : Bool := (d.rd .clk fClkSrcRunRun).testBit s

/-- Global clock `g` gives edges in a physical bay: the bay's clocks run, it has selected `g`, and the source of `g` runs (R60,
R141). -/
def Device.edgesOn (d : Device) (pb : Fin 112) (g : Nat) : Bool :=
  d.bayClocked pb && (sget (fun _ => BayCfg.empty) d.bayCfg pb.val).clocks.getLsbD g && d.running (g / 8 + 1)

/-- Global or bay-level set-reset holds the bay (R61). -/
def Device.inReset (d : Device) (pb : Fin 112) : Bool := d.gsr || sget (fun _ => false) d.bayReset pb.val

/-- The elements of a physical bay may change: its clocks run, set-reset is released, ENABLE_WRITES has taken effect
(R61, R94, R324). -/
def Device.bayLive (d : Device) (pb : Fin 112) : Bool :=
  d.bayClocked pb && !d.inReset pb && sget (fun _ => false) d.writesOn pb.val

/-! ### Rows, shapes and families -/

/-- Key of memory `m` of physical bay `pb`. -/
def memKey (pb : Fin 112) (m : Nat) : Nat := pb.val * 128 + m

/-- Key of row `r` of a memory. -/
def rowKey (pb : Fin 112) (m r : Nat) : Nat := memKey pb m * 512 + r

/-- What an unlisted row reads as: all zero, a row without error in every family (entry 5). -/
def rowDflt : Nat → BitVec 72 := fun _ => 0

def Device.row (d : Device) (pb : Fin 112) (m r : Nat) : BitVec 72 := sget rowDflt d.bram (rowKey pb m r)

def Device.setRow (d : Device) (pb : Fin 112) (m r : Nat) (v : BitVec 72) : Device :=
  { d with bram := sset rowDflt d.bram (rowKey pb m r) v }

def Device.memCfg (d : Device) (pb : Fin 112) (m : Nat) : BramCfg :=
  sget (fun _ => BramCfg.empty) d.bramCfg (memKey pb m)

def BramCfg.port (c : BramCfg) : BramPort → PortCfg
  | .a => c.a
  | .b => c.b

/-- The other port. -/
def otherPort : BramPort → BramPort
  | .a => .b
  | .b => .a

def portIndex : BramPort → Nat
  | .a => 0
  | .b => 1

/-- The families of R83. -/
inductive Family where
  | narrow | byte | ecc
  deriving DecidableEq, Repr

/-- Width of a port word (R83). -/
def Shape.width : Shape → Nat
  | .w1 => 1 | .w2 => 2 | .w4 => 4 | .w9 => 9 | .w18 => 18 | .w36 => 36 | .w72 => 72

/-- Family of a port (R83). -/
def familyOf (c : BramCfg) (s : Shape) : Family :=
  match s with
  | .w1 => .narrow | .w2 => .narrow | .w4 => .narrow
  | .w9 => .byte | .w18 => .byte | .w36 => .byte
  | .w72 => if c.eccEn then .ecc else .byte

/-- Words in a row (R83). -/
def Shape.perRow (s : Shape) : Nat :=
  match s with
  | .w1 => 64 | .w2 => 32 | .w4 => 16 | .w9 => 8 | .w18 => 4 | .w36 => 2 | .w72 => 1

/-- Words of one memory in this shape: 512 rows (R83, R86). -/
def Shape.words (s : Shape) : Nat := 512 * s.perRow

/-- `n` bits of a row from bit `lo`. -/
def rowBits (r : BitVec 72) (lo n : Nat) : Nat := r.toNat / 2 ^ lo % 2 ^ n

/-- A row with `n` bits from `lo` replaced. -/
def setRowBits (r : BitVec 72) (lo n v : Nat) : BitVec 72 :=
  BitVec.ofNat 72 (r.toNat - rowBits r lo n * 2 ^ lo + v % 2 ^ n * 2 ^ lo)

/-- The row with the hidden parity of byte `k` of the narrow family in step with its data (R83, R84). -/
def hiddenParity (r : BitVec 72) (k : Nat) : BitVec 72 :=
  setRowBits r (64 + k) 1 (if parityOf 8 (rowBits r (8 * k) 8) then 1 else 0)

/-- Byte `k` of a row of a family: its place and width with its check bit (R83). -/
def byteLo (f : Family) (k : Nat) : Nat :=
  match f with
  | .byte => 9 * k
  | .narrow => 8 * k
  | .ecc => 8 * k

/-- The parity of byte `k` of a row is in error (R84). -/
def parityBad (f : Family) (r : BitVec 72) (k : Nat) : Bool :=
  match f with
  | .narrow => parityOf 8 (rowBits r (8 * k) 8) != (rowBits r (64 + k) 1 == 1)
  | .byte => parityOf 8 (rowBits r (9 * k) 8) != (rowBits r (9 * k + 8) 1 == 1)
  | .ecc => false

/-- The data bits of a port word, the ninth bit of each byte removed in the byte family (R108). -/
def stripNinth (f : Family) (w : Nat) : Nat :=
  match f with
  | .byte => (List.range 8).foldl (fun s k => s + w / 2 ^ (9 * k) % 256 * 2 ^ (8 * k)) 0
  | _ => w

/-- Where data bit `i` stands in a port word (R108). -/
def dataBit (f : Family) (i : Nat) : Nat :=
  match f with
  | .byte => 9 * (i / 8) + i % 8
  | _ => i

/-- The `n` bits of a slice's output in the data bits of a port word; every other bit, the ninth ones among them, is the fabric's
(R126, MEM_WR; DESIGN CHOICE, entry 79). -/
def driveData (f : Family) (n : Nat) (v : BitVec 40) (fab : BitVec 72) : BitVec 72 :=
  (List.range n).foldl (fun (w : BitVec 72) (i : Nat) =>
    setRowBits w (dataBit f i) 1 (if v.getLsbD i then 1 else 0)) fab

/-- Row and bit of a port address (R83, R86): the port uses the low bits its word count needs. -/
def rowOf (s : Shape) (a : Nat) : Nat := a % s.words / s.perRow

def bitOf (s : Shape) (a : Nat) : Nat := s.width * (a % s.perRow)

/-- The bytes of the row that hold bits of the addressed word. -/
def wordBytes (c : BramCfg) (s : Shape) (a : Nat) : List Nat :=
  match familyOf c s with
  | .narrow => [bitOf s a / 8]
  | .byte => (List.range (s.width / 9)).map fun i => bitOf s a / 9 + i
  | .ecc => List.range 8

/-- The result of reading a row through a port: the word, its flags, the bytes in parity error (R98). -/
def readRow (c : BramCfg) (s : Shape) (a : Nat) (r : BitVec 72) : PortWord × List Nat :=
  match familyOf c s with
  | .ecc =>
    match eccVerdict r with
    | .good => ({ word := BitVec.ofNat 72 (rowBits r 0 64), fix := false, bad := false }, [])
    | .corrected => ({ word := BitVec.ofNat 72 (rowBits (eccFix r) 0 64), fix := true, bad := false }, [])
    | .bad => ({ word := BitVec.ofNat 72 (rowBits r 0 64), fix := false, bad := true }, [])
  | f =>
    let checked := match f with
      | .narrow => true
      | _ => c.parityEn
    let errs := if checked then (wordBytes c s a).filter fun k => parityBad f r k else []
    ({ word := BitVec.ofNat 72 (rowBits r (bitOf s a) s.width), fix := false, bad := !errs.isEmpty }, errs)

/-- A row after a port write (R84, R85, R88, R89). -/
def writeRow (c : BramCfg) (s : Shape) (acc : BramAccess) (r : BitVec 72) : BitVec 72 :=
  let a := acc.addr.toNat
  match familyOf c s with
  | .narrow =>
    if acc.we.getLsbD 0 then hiddenParity (setRowBits r (bitOf s a) s.width acc.data.toNat) (bitOf s a / 8) else r
  | .byte =>
    (List.range (s.width / 9)).foldl (fun row k =>
      if acc.we.getLsbD k then
        let data := acc.data.toNat / 2 ^ (9 * k) % 512
        let nine := if c.parityEn then data % 256 + (if parityOf 8 data then 256 else 0) else data
        setRowBits row (bitOf s a + 9 * k) 9 nine
      else row) r
  | .ecc => if acc.we.getLsbD 0 then eccRow acc.data.toNat else r

/-- For each byte of a row (the whole row in the ECC family) the old or the new value, as free values choose (R91). -/
def mixRows (f : Family) (free : Nat) (old new : BitVec 72) : BitVec 72 :=
  match f with
  | .ecc => if Config.freeBool free then new else old
  | .narrow => (List.range 8).foldl (fun r k =>
      if Config.freeBool (free + k) then
        setRowBits (setRowBits r (8 * k) 8 (rowBits new (8 * k) 8)) (64 + k) 1 (rowBits new (64 + k) 1) else r) old
  | .byte => (List.range 8).foldl (fun r k =>
      if Config.freeBool (free + k) then setRowBits r (9 * k) 9 (rowBits new (9 * k) 9) else r) old

/-! ### Cascades and address generators (R92, R93) -/

/-- The bottom member of the cascade a memory belongs to; a memory in none is its own bottom. -/
def Device.cascadeBase (d : Device) (pb : Fin 112) (m : Nat) : Nat :=
  match (d.memCfg pb m).cascade with
  | some p => m - p
  | none => m

/-- The members of the cascade whose bottom member is `m`: consecutive positions of one column (R92). -/
def Device.cascadeSize (d : Device) (pb : Fin 112) (m : Nat) : Nat :=
  ((List.range (32 - m % 32)).takeWhile fun i => (d.memCfg pb (m + i)).cascade == some i).length

/-- The least power of two that is not below `n`. -/
def powerAbove (n : Nat) : Nat := if n ≤ 1 then 1 else 2 ^ (Nat.log2 (n - 1) + 1)

/-- The member that answers for an address at the bottom member `m` (R92). The cascade uses as many address bits as its words
need and ignores those above (R86); in a cascade whose size is no power of two an address may lie beyond the last member: it
has none (DESIGN CHOICE, entry 6). -/
def Device.cascadeMember (d : Device) (pb : Fin 112) (m a : Nat) (s : Shape) : Option Nat :=
  match (d.memCfg pb m).cascade with
  | none => some m
  | some _ =>
    let i := a / s.words % powerAbove (d.cascadeSize pb m)
    if i < d.cascadeSize pb m then some (m + i) else none

/-- The address at a port: the fabric's, or the partner slice's generator's (R87, R93). -/
def Device.portAddr (d : Device) (pb : Fin 112) (m : Nat) (p : BramPort) (a : BitVec 15) : Nat :=
  if ((d.memCfg pb m).port p).agBind then
    let st := sget (fun _ => SliceSt.zero) d.slices (memKey pb m)
    match p with
    | .a => st.idx0 % 2 ^ 15
    | .b => st.idx1 % 2 ^ 15
  else a.toNat

/-! ### Errors (R98 to R100) -/

/-- Keep the time of a corrected error of a row, for the health score (R355). -/
def Device.noteFix (d : Device) (pb : Fin 112) (m r : Nat) : Device :=
  let k := rowKey pb m r
  let old := sget (fun _ => ([] : List Nat)) d.fixes k
  { d with fixes := sset (fun _ => []) d.fixes k ((sget (fun _ => 0) d.healthTick pb.val :: old).take 16) }

/-- Report an error of a row: cause, tally leaf, first-error log. `kind` 1 corrected, 2 parity, 3 uncorrectable; `source`
0 port A, 1 port B, 2 scrubber, 3 migration mirror (R100). -/
def Device.memError (d : Device) (pb : Fin 112) (m r kind source mask synd : Nat) : Device :=
  let f := if kind = 1 then cBayMemCorrected else if kind = 2 then cBayMemParity else cBayMemUncorrectable
  let d := if kind = 1 then d.noteFix pb m r else d
  let d := (d.bayCause pb f).bayCount pb (kind - 1)
  if d.flag (.pbay pb) fPbayMemLog0Valid then d
  else
    let d := d.put (.pbay pb) fPbayMemLog0Kind kind
    let d := d.put (.pbay pb) fPbayMemLog0Source source
    let d := d.put (.pbay pb) fPbayMemLog0Memory m
    let d := d.put (.pbay pb) fPbayMemLog0Row r
    let d := d.put (.pbay pb) fPbayMemLog1ByteMask mask
    let d := d.put (.pbay pb) fPbayMemLog1Syndrome synd
    d.raise (.pbay pb) fPbayMemLog0Valid

/-- The SYNDROME byte of a row: s in bits 6:0 and p in bit 7. -/
def syndromeByte (r : BitVec 72) : Nat :=
  let sp := eccSyndrome r
  sp.1 + (if sp.2 then 128 else 0)

/-- Report what reading a row found (R100). -/
def Device.reportRead (d : Device) (pb : Fin 112) (m r source : Nat) (row : BitVec 72) (w : PortWord) (errs : List Nat) :
    Device :=
  if w.fix then d.memError pb m r 1 source 0 (syndromeByte row)
  else if !errs.isEmpty then d.memError pb m r 2 source (errs.foldl (fun s k => s + 2 ^ k) 0) 0
  else if w.bad then d.memError pb m r 3 source 0 (syndromeByte row)
  else d

/-- A word leaves the latch for the register, and each stage of a cascade takes what the stage before it showed (R90). -/
def PortOut.next (o : PortOut) (outReg : Bool) (w : PortWord) : PortOut :=
  { latch := w, reg := o.latch, casc1 := if outReg then o.reg else o.latch, casc2 := o.casc1 }

/-- Put a word into a port's output. -/
def Device.setPortOut (d : Device) (pb : Fin 112) (m : Nat) (p : BramPort) (w : PortWord) : Device :=
  let k := memKey pb m * 2 + (portIndex p)
  let o := (sget (fun _ => PortOut.zero) d.bramOut k).next ((d.memCfg pb m).port p).outReg w
  { d with bramOut := sset (fun _ => PortOut.zero) d.bramOut k o }

/-- A port's output with OUT_RESET in every stage (R87, R94). -/
def PortCfg.resetOut (c : PortCfg) : PortOut :=
  let w : PortWord := { word := c.outReset, fix := false, bad := false }
  { latch := w, reg := w, casc1 := w, casc2 := w }

/-- Set-reset, or the port's synchronous output reset, loads OUT_RESET (R87, R94). -/
def Device.resetPortOut (d : Device) (pb : Fin 112) (m : Nat) (p : BramPort) : Device :=
  { d with bramOut := sset (fun _ => PortOut.zero) d.bramOut (memKey pb m * 2 + (portIndex p)) ((d.memCfg pb m).port p).resetOut }

/-- The word at a port's output: a cascade of 2 to 8 memories adds one stage, one of 9 to 32 adds two (R90). -/
def Device.portOut (d : Device) (pb : Fin 112) (m : Nat) (p : BramPort) : PortWord :=
  let o := sget (fun _ => PortOut.zero) d.bramOut (memKey pb m * 2 + (portIndex p))
  let n := d.cascadeSize pb m
  if 8 < n then o.casc2 else if 1 < n then o.casc1
  else if ((d.memCfg pb m).port p).outReg then o.reg else o.latch

/-- Ask for the write-back of a corrected row (R99). -/
def Device.askWriteback (d : Device) (pb : Fin 112) (m r : Nat) : Device :=
  let l := sget (fun _ => ([] : List Nat)) d.writeback (memKey pb m)
  if l.contains r then d
  else { d with writeback := sset (fun _ => []) d.writeback (memKey pb m) (l ++ [r]) }

/-- A row is written or the write-back is done: it no longer waits (R99). -/
def Device.dropWriteback (d : Device) (pb : Fin 112) (m r : Nat) : Device :=
  let l := sget (fun _ => ([] : List Nat)) d.writeback (memKey pb m)
  { d with writeback := sset (fun _ => []) d.writeback (memKey pb m) (l.filter fun x => x != r) }

/-- Mark a row dirty while tracking is armed (R103). -/
def Device.markDirty (d : Device) (pb : Fin 112) (m r : Nat) : Device :=
  if d.flag (.pbay pb) fPbayMemDirtyArmed then
    { d with dirty := sset (fun _ => false) d.dirty (rowKey pb m r) true } else d

/-- The dirty rows of a physical bay (MEM_DIRTY.DIRTY_ROWS). -/
def Device.dirtyRows (d : Device) (pb : Fin 112) : List Nat :=
  d.dirty.filterMap fun e => if e.1 / 65536 = pb.val then some (e.1 % 65536) else none

/-- An access as it reaches member `mm`: the address of R93, the data the slice drives into port B (R126), and no byte to write
where that memory is read-only (R87). -/
def Device.driven (d : Device) (pb : Fin 112) (base : Nat) (p : BramPort) (mm : Nat) (acc : BramAccess) : BramAccess :=
  let c := d.memCfg pb base
  let slice := sget (fun _ => SliceCfg.empty) d.sliceCfg (memKey pb base)
  { addr := BitVec.ofNat 15 (d.portAddr pb base p acc.addr)
    we := if (d.memCfg pb mm).writeAllowed then acc.we else 0
    data := if slice.memWr && p == BramPort.b then
        driveData (familyOf c (c.port p).shape) slice.outW (sget (fun _ => SliceSt.zero) d.slices (memKey pb base)).p acc.data
      else acc.data
    rst := acc.rst }

/-- The access of the other port as it reaches row `r` of member `mm`, with its edge near this one; none where it does not (R91). -/
def Device.collides (d : Device) (pb : Fin 112) (base : Nat) (p : BramPort) (mm r : Nat) (other : Option OtherPort) :
    Option OtherPort :=
  match other with
  | none => none
  | some o =>
    let acc := d.driven pb base (otherPort p) mm o.acc
    let so := ((d.memCfg pb base).port (otherPort p)).shape
    if rowOf so acc.addr.toNat = r ∧ d.cascadeMember pb base acc.addr.toNat so = some mm then some { o with acc := acc } else none

/-- Row `r` of member `mm` as it was before the edge: what the other port's command, where it has run, found there (R88, R91). -/
def Device.rowBefore (d : Device) (pb : Fin 112) (mm r : Nat) (hit : Option OtherPort) : BitVec 72 :=
  match hit, sget (fun _ => none) d.rowWas (memKey pb mm) with
  | some o, some (r', old) => if o.done ∧ r' = r then old else d.row pb mm r
  | _, _ => d.row pb mm r

/-- What a read sees of a row that the other port reaches: on one clock the data before the write, on two clocks for each byte the
old or the new value (R91). -/
def BramCfg.seen (c : BramCfg) (p : BramPort) (free : Nat) (before : BitVec 72) (hit : Option OtherPort) : BitVec 72 :=
  match hit with
  | some o =>
    if c.a.clk = c.b.clk then before
    else mixRows (familyOf c (c.port p).shape) free before (writeRow c (c.port (otherPort p)).shape o.acc before)
  | none => before

/-- The row after a write and, where the other port writes it too, that write: on one clock port A's value stands in every bit both
write; on two clocks, what the command that runs first has settled (R91). -/
def BramCfg.merged (c : BramCfg) (p : BramPort) (free : Nat) (before now : BitVec 72) (acc : BramAccess)
    (hit : Option OtherPort) : BitVec 72 :=
  let w (q : BramPort) (a : BramAccess) (r : BitVec 72) : BitVec 72 := writeRow c (c.port q).shape a r
  match hit with
  | some o =>
    if c.a.clk = c.b.clk then
      (match p with
        | .a => w .a acc (w .b o.acc before)
        | .b => w .a o.acc (w .b acc before))
    else if o.done then now
    else mixRows (familyOf c (c.port p).shape) free (w (otherPort p) o.acc (w p acc before)) (w p acc (w (otherPort p) o.acc before))
  | none => w p acc before

/-- The other port, A, presents this row in the same cycle and reports an error that it finds there: port B reports none (R100). -/
def BramCfg.reportedByA (c : BramCfg) (p : BramPort) (before : BitVec 72) (hit : Option OtherPort) : Bool :=
  match hit with
  | some o =>
    let rd := readRow c c.a.shape o.acc.addr.toNat before
    p == BramPort.b && c.a.clk == c.b.clk && (o.acc.we == 0 || c.a.mode == .prior) && (rd.1.fix || rd.1.bad)
  | none => false

/-- Report what a port found in a row, unless port A reports it for both (R100). -/
def Device.reportOnce (d : Device) (pb : Fin 112) (c : BramCfg) (p : BramPort) (mm r : Nat) (seen before : BitVec 72)
    (rd : PortWord × List Nat) (hit : Option OtherPort) : Device :=
  if c.reportedByA p before hit then d else d.reportRead pb mm r (portIndex p) seen rd.1 rd.2

/-- A port shows a word, or OUT_RESET where its synchronous output reset is asserted (R87). -/
def Device.showPort (d : Device) (pb : Fin 112) (base : Nat) (p : BramPort) (rst : Bool) (w : PortWord) : Device :=
  if rst then d.resetPortOut pb base p else d.setPortOut pb base p w

/-! ### The commands -/

/-- A port of a memory has an edge: its clock, which is the one of the cascade's bottom member, runs in the bay (R60, R92). -/
def Device.portEdge (d : Device) (pb : Fin 112) (base : Nat) (p : BramPort) : Bool :=
  d.edgesOn pb ((d.memCfg pb base).port p).clk

/-- BRAM_READ: a port read at an edge, with the port's synchronous output reset (R87, R88, R90, R91, R94, R98 to R100). -/
def bramReadBody (pb : Fin 112) (m : Fin 128) (p : BramPort) (addr : BitVec 15) (rst : Bool) (other : Option OtherPort)
    (d : Device) : Device :=
  let base := d.cascadeBase pb m.val
  let c := d.memCfg pb base
  let s := (c.port p).shape
  if !d.portEdge pb base p then d
  else if d.inReset pb || !sget (fun _ => false) d.writesOn pb.val then d.resetPortOut pb base p
  else
    let a := d.portAddr pb base p addr
    match d.cascadeMember pb base a s with
    | none =>
      { d.showPort pb base p rst { word := Config.freeRow d.free, fix := false, bad := false } with free := d.free + 1 }
    | some mm =>
      let r := rowOf s a
      let hit := d.collides pb base p mm r other
      let before := d.rowBefore pb mm r hit
      let seen := c.seen p d.free before hit
      let rd := readRow c s a seen
      let d := { d with free := d.free + 8 }
      let d := d.showPort pb base p rst rd.1
      let d := d.reportOnce pb c p mm r seen before rd hit
      if rd.1.fix then d.askWriteback pb mm r else d

/-- BRAM_WRITE: a port write at an edge (R87 to R89, R91, R94, R103). At a read-only memory no byte is written, and the edge is that
of a read (DESIGN CHOICE, entry 79). -/
def bramWriteBody (pb : Fin 112) (m : Fin 128) (p : BramPort) (acc : BramAccess) (other : Option OtherPort)
    (d : Device) : Device :=
  let base := d.cascadeBase pb m.val
  let c := d.memCfg pb base
  let s := (c.port p).shape
  if !d.portEdge pb base p then d
  else if d.inReset pb || !sget (fun _ => false) d.writesOn pb.val then d.resetPortOut pb base p
  else
    let a := d.portAddr pb base p acc.addr
    match d.cascadeMember pb base a s with
    | none => d
    | some mm =>
      if !(d.memCfg pb mm).writeAllowed then bramReadBody pb m p acc.addr acc.rst other d
      else
        let rst := acc.rst
        let acc := d.driven pb base p mm acc
        let r := rowOf s a
        let hit := d.collides pb base p mm r other
        let before := d.rowBefore pb mm r hit
        let new := c.merged p d.free before (d.row pb mm r) acc hit
        let old := c.seen p (d.free + 8) before hit
        let d := { d with free := d.free + 16, rowWas := sset (fun _ => none) d.rowWas (memKey pb mm) (some (r, before)) }
        let d := (d.setRow pb mm r new).dropWriteback pb mm r
        let d := d.markDirty pb mm r
        match (c.port p).mode with
        | .keep => if rst then d.resetPortOut pb base p else d
        | .prior =>
          let rd := readRow c s a old
          (d.showPort pb base p rst rd.1).reportOnce pb c p mm r old before rd hit
        -- the stored value of a bit not enabled is that from before the edge (DESIGN CHOICE, entry 79)
        | .through => d.showPort pb base p rst (readRow c s a (writeRow c s acc before)).1

/-- BRAM_WRITEBACK: the oldest corrected row that waits is written back (R99); it is not a port write, so it leaves the
dirty bit alone. -/
def bramWritebackBody (pb : Fin 112) (m : Fin 128) (d : Device) : Device :=
  match sget (fun _ => ([] : List Nat)) d.writeback (memKey pb m.val) with
  | [] => d
  | r :: _ =>
    if !d.bayClocked pb then d
    else (d.setRow pb m.val r (eccFix (d.row pb m.val r))).dropWriteback pb m.val r

/-- BRAM_UPSET: a single upset flips one stored bit of a row (R102). -/
def bramUpsetBody (pb : Fin 112) (m : Fin 128) (r : Fin 512) (b : Fin 72) (d : Device) : Device :=
  d.setRow pb m.val r.val (d.row pb m.val r.val ^^^ BitVec.ofNat 72 (2 ^ b.val))

end Sys2Proof.Machine
end

