-- ==== Sys2Proof/Machine/Slices.lean ====
section
/-! DEFINITION. Arithmetic slices and transform columns (R105 to R132). A slice command is one COL_CLK edge of one slice:
every pipeline stage moves, each from what the stage before it held. -/

namespace Sys2Proof.Machine

open Sys2Proof

def Device.slice (d : Device) (pb : Fin 112) (s : Nat) : SliceSt := sget (fun _ => SliceSt.zero) d.slices (memKey pb s)

def Device.setSlice (d : Device) (pb : Fin 112) (s : Nat) (st : SliceSt) : Device :=
  { d with slices := sset (fun _ => SliceSt.zero) d.slices (memKey pb s) st }

def Device.sliceSet (d : Device) (pb : Fin 112) (s : Nat) : SliceCfg :=
  sget (fun _ => SliceCfg.empty) d.sliceCfg (memKey pb s)

/-- The settings that hold for a whole column: those of the slice at position 0 (R126). -/
def Device.colSet (d : Device) (pb : Fin 112) (c : Nat) : SliceCfg := d.sliceSet pb (32 * c)

/-! ### Arithmetic -/

/-- A value between two bounds, and whether it had to be moved. -/
def clampTo (lo hi v : Int) : Int × Bool := if v < lo then (lo, true) else if hi < v then (hi, true) else (v, false)

/-- A 16-bit operand as an integer. -/
def opInt (signed : Bool) (v : BitVec 16) : Int := if signed then v.toInt else (v.toNat : Int)

/-- The 16-bit range of an operand type. -/
def opLo (signed : Bool) : Int := if signed then -32768 else 0
def opHi (signed : Bool) : Int := if signed then 32767 else 65535

/-- The input shift of a column (R109): min(max(BEXP − HEADROOM, −15), 15). -/
def inputShift (bexp headroom : Nat) : Int := (clampTo (-15) 15 ((bexp : Int) - (headroom : Int))).1

/-- R109: the shifted operand and whether it saturated. -/
def shiftOperand (signed up : Bool) (s : Int) (v : BitVec 16) : BitVec 16 × Bool :=
  if 0 < s then
    let r := clampTo (opLo signed) (opHi signed) (opInt signed v * 2 ^ s.toNat)
    (BitVec.ofInt 16 r.1, r.2)
  else if s < 0 then
    let k := (-s).toNat
    (BitVec.ofInt 16 (Int.fdiv (opInt signed v + (if up then 2 ^ (k - 1) else 0)) (2 ^ k)), false)
  else (v, false)

/-- R110: AD, and whether a clamp occurred. -/
def preAdd (mode : PreMode) (signed sub : Bool) (a dd : BitVec 16) : BitVec 16 × Bool :=
  let x := opInt signed a
  let y := opInt signed dd
  let t := if sub then y - x else y + x
  match mode with
  | .bypass => (a, false)
  | .sat => let r := clampTo (opLo signed) (opHi signed) t; (BitVec.ofInt 16 r.1, r.2)
  | .half => (BitVec.ofInt 16 (Int.fdiv t 2), false)

/-- R111: the product as registered, and whether the fractional case is out of range. -/
def multiply (frac aSigned bSigned : Bool) (ad b : BitVec 16) : BitVec 32 × Bool :=
  let x := opInt aSigned ad * opInt bSigned b
  if frac then (if ad = 0x8000 ∧ b = 0x8000 then (0x7FFFFFFF, true) else (BitVec.ofInt 32 (2 * x), false))
  else (BitVec.ofInt 32 x, false)

/-- R111: the product extended to 40 bits, as an integer. -/
def extendProduct (frac aSigned bSigned : Bool) (p : BitVec 32) : Int :=
  if !frac && !aSigned && !bSigned then (p.toNat : Int) else p.toInt

/-- R112, R113: the exact result of an accumulator operation, by OPMODE code. -/
def accExact (op : Nat) (acc cin p : Int) : Int :=
  match op with
  | 0 => acc
  | 1 => p
  | 2 => acc + p
  | 3 => acc - p
  | 4 => cin + p
  | 5 => cin - p
  | 6 => 0
  | _ => cin

/-- R113: the stored accumulator and whether the exact result was out of range. -/
def accStore (sat : Bool) (v : Int) : BitVec 40 × Bool :=
  let r := clampTo (-(2 ^ 39)) (2 ^ 39 - 1) v
  (BitVec.ofInt 40 (if sat then r.1 else v), r.2)

/-- R114: the redundant-sign count of a `w`-bit value. -/
def redundantSigns (w v : Nat) : Nat :=
  let s := v.testBit (w - 1)
  ((List.range (w - 1)).takeWhile fun i => v.testBit (w - 2 - i) == s).length

/-- R116. -/
def roundTo (m : RndMode) (k : Nat) (y : Int) : Int :=
  if k = 0 then y
  else
    let q : Int := 2 ^ k
    let up := y + 2 ^ (k - 1)
    match m with
    | .trunc => y - Int.emod y q
    | .halfUp => up - Int.emod up q
    | .convergent =>
      if Int.emod y q = 2 ^ (k - 1) then
        let low := y - Int.emod y q
        if Int.emod (Int.fdiv low q) 2 = 0 then low else low + q
      else up - Int.emod up q

/-- R115: P, EXP_OUT, and whether anything overflowed. -/
def outputPath (c : SliceCfg) (bexp : Nat) (expIn : BitVec 6) (acc : BitVec 40) : BitVec 40 × Nat × Bool :=
  let e := redundantSigns 40 acc.toNat
  let n := match c.norm with
    | .off => 0
    | .self => e
    | .fabric => min expIn.toNat 39
    | .bexp => min bexp 39
  let y := clampTo (-(2 ^ 39)) (2 ^ 39 - 1) (acc.toInt * 2 ^ n)
  let r := roundTo c.rnd c.rndPos y.1
  let s : Int × Bool := match c.sat with
    | .s32 => clampTo (-(2 ^ 31)) (2 ^ 31 - 1) r
    | .s40 => clampTo (-(2 ^ 39)) (2 ^ 39 - 1) r
    | .off => ((BitVec.ofInt 40 r).toInt, (clampTo (-(2 ^ 39)) (2 ^ 39 - 1) r).2)
  let o := Int.fdiv s.1 (2 ^ c.oshift)
  (BitVec.ofNat 40 ((BitVec.ofInt 40 o).toNat % 2 ^ c.outW), (if c.norm = .off then e else n), y.2 || s.2)

/-! ### The column tree -/

/-- The count a slice reports: rs_OUT_W(P) of the value loaded (R122). -/
def reportCount (c : SliceCfg) (st : SliceSt) : Nat := redundantSigns c.outW (st.p.toNat % 2 ^ c.outW)

/-- Take a slice's pending report into the running minimum, when a block is open (R122, R123). -/
def Device.foldReport (d : Device) (pb : Fin 112) (s : Nat) : Device :=
  let st := d.slice pb s
  let c := s / 32
  if st.report then
    let d := d.setSlice pb s { st with report := false }
    if d.flag (.pbay pb) fPbayColStateOpen c then
      d.put (.pbay pb) fPbayColStateMin (min (d.rd (.pbay pb) fPbayColStateMin c) (reportCount (d.sliceSet pb s) st)) c
    else d
  else d

/-- R(e): the minimum of the counts a column's slices reported at this edge, or 63 (R123). -/
def Device.edgeReports (d : Device) (pb : Fin 112) (c : Nat) : Nat :=
  (List.range 32).foldl (fun m p =>
    let st := d.slice pb (32 * c + p)
    if st.report then min m (reportCount (d.sliceSet pb (32 * c + p)) st) else m) 63

/-- The reports of a column's edge have been used. -/
def Device.dropReports (d : Device) (pb : Fin 112) (c : Nat) : Device :=
  (List.range 32).foldl (fun d p =>
    let st := d.slice pb (32 * c + p)
    if st.report then d.setSlice pb (32 * c + p) { st with report := false } else d) d

/-- Set BLOCK_FAULT; its going from 0 to 1 sets the cause, and every fault recorded counts (R123, R129). -/
def Device.blockFault (d : Device) (pb : Fin 112) (c : Nat) : Device :=
  let was := d.flag (.pbay pb) fPbayColStateBlockFault c
  let d := (d.raise (.pbay pb) fPbayColStateBlockFault c).bayCount pb 4
  if was then d else d.bayCause pb cBayBlockFault

/-- Publish a minimum: BEXP goes to the slices at their next edge (R107, R124); a published 63 changes nothing, ECUM_CLR or not. `clr` is ECUM_CLR sampled high at the edge. -/
def Device.publish (d : Device) (pb : Fin 112) (c m : Nat) (clr : Bool) : Device :=
  if m = 63 then d
  else
    let e : Int := if clr then 0 else (BitVec.ofNat 6 (d.rd (.pbay pb) fPbayColStateEcum c)).toInt
    let s := inputShift m (d.colSet pb c).headroom
    let v := (clampTo (-32) 31 (e - s)).1
    (d.put (.pbay pb) fPbayColStateBexp m c).put (.pbay pb) fPbayColStateEcum (BitVec.ofInt 6 v).toNat c

/-- A column has an edge: its bay is live and COL_CLK, which the bay has selected, runs (R60, R105). -/
def Device.colLive (d : Device) (pb : Fin 112) (c : Nat) : Bool := d.bayLive pb && d.edgesOn pb (d.colSet pb c).colClk

/-- A block event is sampled at an edge: the column's fabric input, as the command gives it, or the WRAP of AG0 of the slice that
the setting names (R121). -/
def Device.eventAt (d : Device) (pb : Fin 112) (c : Nat) (src : Option Nat) (input : Bool) : Bool :=
  match src with
  | none => input
  | some p => (d.slice pb (32 * c + p % 32)).wrap0

/-- WRAP of the generator that gives an event has been sampled; it is high for one cycle (R118). -/
def Device.wrapTaken (d : Device) (pb : Fin 112) (c : Nat) (src : Option Nat) : Device :=
  match src with
  | none => d
  | some p => d.setSlice pb (32 * c + p % 32) { d.slice pb (32 * c + p % 32) with wrap0 := false }

/-- The block events of one edge (R123). -/
def Device.blockEvents (d : Device) (pb : Fin 112) (c : Nat) (start stop clr : Bool) : Device :=
  let r := d.edgeReports pb c
  let opened := d.flag (.pbay pb) fPbayColStateOpen c
  let m := min (d.rd (.pbay pb) fPbayColStateMin c) r
  let d := d.dropReports pb c
  let clear (d : Device) : Device := if clr then d.put (.pbay pb) fPbayColStateEcum 0 c else d
  match start, stop with
  | true, false =>
    let d := if opened then d.blockFault pb c else d
    clear ((d.raise (.pbay pb) fPbayColStateOpen c).put (.pbay pb) fPbayColStateMin r c)
  | false, true =>
    if opened then
      let d := (d.lower (.pbay pb) fPbayColStateOpen c).put (.pbay pb) fPbayColStateMin m c
      d.publish pb c m clr
    else clear (d.blockFault pb c)
  | true, true =>
    if opened then
      (d.publish pb c m clr).put (.pbay pb) fPbayColStateMin 63 c
    else d.publish pb c r clr
  | false, false => clear (if opened then d.put (.pbay pb) fPbayColStateMin m c else d)

/-- The block events of an edge of a column, its two fabric inputs and ECUM_CLR given (R121, R123). -/
def Device.columnEvents (d : Device) (pb : Fin 112) (c : Nat) (start stop clr : Bool) : Device :=
  let s := d.colSet pb c
  let st := d.eventAt pb c s.startSrc start
  let en := d.eventAt pb c s.endSrc stop
  let d := (d.wrapTaken pb c s.startSrc).wrapTaken pb c s.endSrc
  if st || en || clr then d.blockEvents pb c st en clr else d

/-- A WRAP of AG0 that stands as the next edge of its generator comes causes the events that name it as their source (R121). -/
def Device.wrapEvents (d : Device) (pb : Fin 112) (s : Nat) : Device :=
  let c := d.colSet pb (s / 32)
  if (d.slice pb s).wrap0 && (c.startSrc == some (s % 32) || c.endSrc == some (s % 32)) then
    d.columnEvents pb (s / 32) false false false
  else d

/-! ### One edge of a slice -/

/-- The value a source gives an operand (R108). -/
def Device.operand (d : Device) (pb : Fin 112) (s : Nat) (src : OpSrc) (half : Bool) (fab : BitVec 16) : BitVec 16 :=
  let mem (p : BramPort) : BitVec 16 :=
    let c := d.memCfg pb s
    let w := stripNinth (familyOf c (c.port p).shape) (d.portOut pb s p).word.toNat
    BitVec.ofNat 16 (if half then w / 65536 else w)
  match src with
  | .fabric => fab
  | .memA => mem .a
  | .memB => mem .b

/-- Set the slice's OVF flag; its going from 0 to 1 sets SLICE_OVERFLOW and counts (R117, R129). -/
def Device.setOvf (d : Device) (pb : Fin 112) (s : Nat) : Device :=
  let key := fldKey (.pbay pb) fPbaySliceOvfOvf (s / 32)
  let w := d.word key
  if w.getLsbD (s % 32) then d
  else ((d.setWord key (w ||| BitVec.ofNat 32 (2 ^ (s % 32)))).bayCause pb cBaySliceOverflow).bayCount pb 3

/-- What the registers of a slice take at an edge with CE high, and whether OVF is set: each stage from what the stage
before it held (R105 to R116). -/
def sliceNext (c : SliceCfg) (headroom bexp : Nat) (op : Nat) (i : SliceIn) (a b dd : BitVec 16) (cin : BitVec 40)
    (st : SliceSt) : SliceSt × Bool :=
  let s := inputShift bexp headroom
  let opnd (sh signed : Bool) (v : BitVec 16) := if sh then shiftOperand signed c.inRndUp s v else (v, false)
  let na := opnd c.shiftA c.aSigned a
  let nb := opnd c.shiftB c.bSigned b
  let nd := opnd c.shiftD c.aSigned dd
  let pre := preAdd c.preMode c.aSigned (c.preSub.getD i.preSub) st.a st.d
  let mul := multiply c.frac c.aSigned c.bSigned st.ad st.preB
  let ext := extendProduct c.frac c.aSigned c.bSigned st.prod
  let acc := accStore c.accSat (accExact op st.acc.toInt cin.toInt ext)
  let out := outputPath c bexp i.expIn st.acc
  let rep := match c.report with
    | .off => false
    | .fabric => i.rpt
    | .always => true
  ({ st with a := na.1, b := nb.1, d := nd.1, ad := pre.1, preB := st.b, prod := mul.1, acc := acc.1, p := out.1
             expOut := out.2.1, report := rep },
   na.2 || nb.2 || nd.2 || pre.2 || mul.2 || acc.2 || out.2.2)

/-- OVF of a slice clears (R117). -/
def Device.clrOvf (d : Device) (pb : Fin 112) (s : Nat) : Device :=
  let key := fldKey (.pbay pb) fPbaySliceOvfOvf (s / 32)
  d.setWord key (d.word key &&& ~~~(BitVec.ofNat 32 (2 ^ (s % 32))))

/-- CIN of a slice: the accumulator of the slice below as it was before the edge; at position 0 it is zero (R107, R113). -/
def Device.cascadeIn (d : Device) (pb : Fin 112) (s : Nat) (belowDone : Bool) : BitVec 40 :=
  let below := d.slice pb (s - 1)
  if s % 32 = 0 then 0 else if belowDone then below.accWas else below.acc

/-- One COL_CLK edge of a slice with the operation `op` on OPMODE (R112). A constant OPMODE admits no other operation. BEXP
reaches the slice at the edge and shifts operands from the next on; a set of OVF wins over CLR_OVF (R107, R117). -/
def Device.sliceEdge (d : Device) (pb : Fin 112) (s : Fin 128) (op : Fin 8) (i : SliceIn) : Device :=
  let c := d.sliceSet pb s.val
  let col := s.val / 32
  if !d.colLive pb col || (c.opmode.getD op != op) then d
  else
    let d := d.foldReport pb s.val
    let st := d.slice pb s.val
    let n := sliceNext c (d.colSet pb col).headroom st.bexp op.val i
      (d.operand pb s.val c.srcA c.halfA i.a) (d.operand pb s.val c.srcB c.halfB i.b)
      (d.operand pb s.val c.srcD c.halfD i.d) (d.cascadeIn pb s.val i.belowDone) st
    let next := if i.ce then n.1 else st
    let d := d.setSlice pb s.val { next with accWas := st.acc, bexp := d.rd (.pbay pb) fPbayColStateBexp col }
    if i.ce && n.2 then d.setOvf pb s.val else if i.clrOvf then d.clrOvf pb s.val else d

/-- TAG_OUT of a slice, as TAG_SEL chooses (R125). -/
def Device.tagOut (d : Device) (pb : Fin 112) (s : Nat) : BitVec 6 :=
  let st := d.slice pb s
  match (d.sliceSet pb s).tagSel with
  | .bexp => BitVec.ofNat 6 st.bexp
  | .expOut => BitVec.ofNat 6 st.expOut
  | .ecum => BitVec.ofNat 6 (d.rd (.pbay pb) fPbayColStateEcum (s / 32))
  | .shift => BitVec.ofInt 6 (inputShift st.bexp (d.colSet pb (s / 32)).headroom)

/-- CLR_OVF sampled high at an edge that sets no OVF (R117). -/
def clrOvfBody (pb : Fin 112) (s : Fin 128) (d : Device) : Device :=
  if !d.colLive pb (s.val / 32) then d else d.clrOvf pb s.val

/-! ### Address generators (R118 to R120) -/

/-- The low `m` bits of a number in reverse order. -/
def revBits (m n : Nat) : Nat :=
  (List.range m).foldl (fun s i => if n.testBit i then s + 2 ^ (m - 1 - i) else s) 0

/-- R118: the next INDEX and WRAP of a step. -/
def agNext (c : AgCfg) (idx : Nat) : Nat × Bool :=
  let len : Int := (c.length : Int)
  match c.mode with
  | .linear =>
    let t := (idx : Int) + c.step
    ((Int.emod t 32768).toNat, decide (t < 0 ∨ 32767 < t))
  | .circular =>
    let t := (idx : Int) - (c.base : Int) + c.step
    (c.base + (Int.emod t len).toNat, decide (t < 0 ∨ len ≤ t))
  | .bitrev =>
    let m := Nat.log2 c.length
    let t := ((revBits m (Int.emod ((idx : Int) - (c.base : Int)) len).toNat : Nat) : Int) + c.step
    (c.base + revBits m (Int.emod t len).toNat, decide (t < 0 ∨ len ≤ t))

/-- Set one generator's INDEX and WRAP. -/
def SliceSt.setAg (st : SliceSt) (k : Fin 2) (idx : Nat) (w : Bool) : SliceSt :=
  if k = 0 then { st with idx0 := idx, wrap0 := w } else { st with idx1 := idx, wrap1 := w }

/-- An edge of generator `k` of a slice: a WRAP of AG0 that stands is sampled, then INDEX and WRAP change (R118, R121). -/
def Device.agEdge (d : Device) (pb : Fin 112) (s : Nat) (k : Fin 2) (f : SliceSt → Nat × Bool) : Device :=
  let d := if k = 0 then d.wrapEvents pb s else d
  let st := d.slice pb s
  d.setSlice pb s (st.setAg k (f st).1 (f st).2)

/-- AG_LOAD. -/
def agLoadBody (pb : Fin 112) (s : Fin 128) (k : Fin 2) (v : BitVec 15) (d : Device) : Device :=
  if !d.colLive pb (s.val / 32) then d else d.agEdge pb s.val k fun _ => (v.toNat, false)

/-- AG_STEP. -/
def agStepBody (pb : Fin 112) (s : Fin 128) (k : Fin 2) (d : Device) : Device :=
  if !d.colLive pb (s.val / 32) then d
  else
    let c := d.sliceSet pb s.val
    d.agEdge pb s.val k fun st => agNext (if k = 0 then c.ag0 else c.ag1) (if k = 0 then st.idx0 else st.idx1)

/-! ### Block events -/

/-- BLOCK_START, alone or with BLOCK_END at the same edge: the column's fabric inputs (R121, R123). -/
def blockStartBody (pb : Fin 112) (c : Fin 4) (alsoEnd clr : Bool) (d : Device) : Device :=
  if !d.colLive pb c.val then d else d.columnEvents pb c.val true alsoEnd clr

/-- BLOCK_END (R123, R124). -/
def blockEndBody (pb : Fin 112) (c : Fin 4) (clr : Bool) (d : Device) : Device :=
  if !d.colLive pb c.val then d else d.columnEvents pb c.val false true clr

/-- ECUM_CLR sampled high at an edge; with no publication at it, ECUM becomes 0 (R124). -/
def ecumClrBody (pb : Fin 112) (c : Fin 4) (d : Device) : Device :=
  if !d.colLive pb c.val then d else d.columnEvents pb c.val false false true

/-! ### Set-reset of a bay's slices and memories (R94, R120, R130) -/

/-- Every slice and column of a physical bay as set-reset holds it (R130, R120). -/
def Device.resetSlices (d : Device) (pb : Fin 112) : Device :=
  let d := { d with slices := sclear (fun k => k / 128 == pb.val) d.slices }
  let d := d.sliceCfg.foldl (fun d e =>
    if e.1 / 128 = pb.val then
      d.setSlice pb (e.1 % 128) { SliceSt.zero with idx0 := e.2.ag0.initIndex, idx1 := e.2.ag1.initIndex }
    else d) d
  (List.range 4).foldl (fun d c =>
    let d := d.setWord (fldKey (.pbay pb) fPbaySliceOvfOvf c) 0
    d.setWord (fldKey (.pbay pb) fPbayColStateMin c) (regReset (fldKey (.pbay pb) fPbayColStateMin c))) d

/-- Every port output of a physical bay as set-reset holds it: OUT_RESET (R94). -/
def Device.resetMemOutputs (d : Device) (pb : Fin 112) : Device :=
  let d := { d with bramOut := sclear (fun k => k / 256 == pb.val) d.bramOut
                    writeback := sclear (fun k => k / 128 == pb.val) d.writeback }
  d.bramCfg.foldl (fun d e =>
    if e.1 / 128 = pb.val then
      let outs := sset (fun _ => PortOut.zero) d.bramOut (e.1 * 2) e.2.a.resetOut
      { d with bramOut := sset (fun _ => PortOut.zero) outs (e.1 * 2 + 1) e.2.b.resetOut }
    else d) d

end Sys2Proof.Machine
end

