-- ==== Sys2Proof/Machine/Cells.lean ====
section
/-! DEFINITION. Logic cells and M-pane cells (R50 to R54): what an edge of the global clocks does to a bay's cells. Routing is not
exposed (R58), so what it brings to a cell is a free value at every edge (entry 80). -/

namespace Sys2Proof.Machine

open Sys2Proof

/-! ### One cell -/

/-- What routing brings to a cell at an edge: bit 5 to 0 L5 to L0, then PA, PB, clock enable, set/reset, CI of a chain's first
cell, N of a LUT with one function, and for an M-pane cell write enable, write address and data. -/
abbrev CellIn := Word

def CellIn.l (x : CellIn) : Nat := (x.extractLsb' 0 6).toNat
def CellIn.pa (x : CellIn) : Bool := x.getLsbD 6
def CellIn.pb (x : CellIn) : Bool := x.getLsbD 7
def CellIn.enable (x : CellIn) : Bool := x.getLsbD 8
def CellIn.setReset (x : CellIn) : Bool := x.getLsbD 9
def CellIn.carry (x : CellIn) : Bool := x.getLsbD 10
def CellIn.otherN (x : CellIn) : Bool := x.getLsbD 11
def CellIn.writeEnable (x : CellIn) : Bool := x.getLsbD 12
def CellIn.writeAddr (x : CellIn) : Nat := (x.extractLsb' 13 6).toNat
def CellIn.data (x : CellIn) : Bool := x.getLsbD 19

/-- W of a cell: its function, the RAM bit that L0 to L5 address, or the stage that L0 to L4 address (R50, R53). -/
def CellCfg.w (c : CellCfg) (x : CellIn) (mem : BitVec 64) : Bool :=
  match c.mode with
  | .ram _ => mem.getLsbD x.l
  | .shift _ => mem.getLsbD (x.l % 32)
  | .logic =>
    match c.lut with
    | .six w => w.getLsbD x.l
    | .two w _ => w.getLsbD (x.l % 32)

/-- N of a cell; a LUT used as one function of six inputs has none that the manual gives (R50). -/
def CellCfg.n (c : CellCfg) (x : CellIn) : Bool :=
  match c.lut with
  | .six _ => x.otherN
  | .two _ n => n.getLsbD (x.l % 32)

/-- CO: CI when W is 1, else N (R50). -/
def CellCfg.co (c : CellCfg) (x : CellIn) (mem : BitVec 64) (ci : Bool) : Bool := if c.w x mem then ci else c.n x

/-- A flip-flop at an active edge: set/reset, then load under the clock enable, else hold (R51). -/
def flopNext (x : CellIn) (sr d q : Bool) : Bool := if x.setReset then sr else if x.enable then d else q

/-- FA and FB after an edge: D of FA from W or PA, of FB from N, the sum S = W XOR CI, or PB (R50, R51). -/
def CellCfg.flops (c : CellCfg) (x : CellIn) (mem : BitVec 64) (ci qa qb : Bool) : Bool × Bool :=
  let w := c.w x mem
  let db := match c.fb with
    | .n => c.n x
    | .sum => xor w ci
    | .pass => x.pb
  (flopNext x c.srA (if c.passA then x.pa else w) qa, flopNext x c.srB db qb)

/-- The contents of an M-pane cell after an edge: a write under its enable, or a shift under the clock enable (R53). -/
def CellCfg.memNext (c : CellCfg) (x : CellIn) (mem : BitVec 64) : BitVec 64 :=
  match c.mode with
  | .logic => mem
  | .ram _ =>
    let bit : BitVec 64 := BitVec.ofNat 64 (2 ^ x.writeAddr)
    if x.writeEnable then (if x.data then mem ||| bit else mem &&& ~~~bit) else mem
  | .shift _ => if x.enable then BitVec.ofNat 64 ((2 * mem.toNat + x.data.toNat) % 2 ^ 32) else mem

/-- The contents that configuration gives an M-pane cell (R54). -/
def CellCfg.initial (c : CellCfg) : BitVec 64 :=
  match c.mode with
  | .logic => 0
  | .ram init => init
  | .shift init => init.zeroExtend 64

/-! ### The cells of a bay -/

/-- Key of flip-flop FA (0) or FB (1) of a cell. -/
def flopKey (pb : Fin 112) (cell k : Nat) : Nat := pb.val * 2 ^ 19 + 2 * cell + k

/-- Key of the contents of an M-pane cell. -/
def cellKey (pb : Fin 112) (cell : Nat) : Nat := pb.val * 2 ^ 18 + cell

def Device.cellMem (d : Device) (pb : Fin 112) (cell : Nat) : BitVec 64 := sget (fun _ => 0) d.mram (cellKey pb cell)

/-- CI of a cell: a constant, routing, or CO of the cell below; the lowest cell of a column has none below (R52). A cell that is not
set has W = N = 0 and so CO = 0. -/
def carryIn (c : CellCfg) (x : CellIn) (cell : Nat) (below : Option (Nat × Bool)) : Bool :=
  match c.carry with
  | .const b => b
  | .routing => x.carry
  | .below =>
    if cell % 3072 = 0 then x.carry
    else match below with
      | some (i, co) => decide (i + 1 = cell) && co
      | none => false

/-- The global clock of a cell: one of the two that its pane selects. -/
def BayCfg.cellClock (c : BayCfg) (cell : Nat) (cc : CellCfg) : Nat :=
  let p := sget (fun _ => (0, 0)) c.panes (cell / 32)
  if cc.second then p.2 else p.1

/-- An edge at one cell, `below` being the cell last met with its CO: the device, and this cell with its CO. -/
def Device.cellEdge (d : Device) (pb : Fin 112) (mask : Word) (below : Option (Nat × Bool)) (e : Nat × CellCfg) :
    Device × Option (Nat × Bool) :=
  let bay := sget (fun _ => BayCfg.empty) d.bayCfg pb.val
  let x : CellIn := Config.freeWord d.free
  let mem := d.cellMem pb e.1
  let ci := carryIn e.2 x e.1 below
  let g := bay.cellClock e.1 e.2
  let d := { d with free := d.free + 1 }
  let q (k : Nat) : Bool := sget (fun _ => false) d.ffs (flopKey pb e.1 k)
  let f := e.2.flops x mem ci (q 0) (q 1)
  let d := if mask.getLsbD g && d.edgesOn pb g then
      let ffs := sset (fun _ => false) d.ffs (flopKey pb e.1 0) f.1
      { d with ffs := sset (fun _ => false) ffs (flopKey pb e.1 1) f.2
               mram := sset (fun _ => 0) d.mram (cellKey pb e.1) (e.2.memNext x mem) }
    else d
  (d, some (e.1, e.2.co x mem ci))

/-- An edge of the clocks in `mask` in a bay: its cells upward, column by column; none while set-reset or the wait for ENABLE_WRITES
holds them (R61, R324). -/
def Device.cellEdges (d : Device) (pb : Fin 112) (mask : Word) : Device :=
  if d.bayLive pb then
    ((sget (fun _ => BayCfg.empty) d.bayCfg pb.val).cellList.foldl (fun (acc : Device × Option (Nat × Bool)) e =>
      acc.1.cellEdge pb mask acc.2 e) (d, none)).1
  else d

/-- The cycle after an edge is over in a bay: a WRAP that stands is sampled by the block events it is the source of, and falls
(R118, R121). -/
def Device.wrapsFall (d : Device) (pb : Fin 112) (mask : Word) : Device :=
  d.slices.foldl (fun (d : Device) (e : Nat × SliceSt) =>
    let s := e.1 % 128
    if e.1 / 128 = pb.val ∧ mask.getLsbD (d.colSet pb (s / 32)).colClk = true ∧ d.colLive pb (s / 32) = true then
      let d := d.wrapEvents pb s
      d.setSlice pb s { d.slice pb s with wrap0 := false, wrap1 := false }
    else d) d

/-- One edge of the global clocks that a free mask names, in every bay that has settings (R51, entry 80). -/
def fabricTick (d : Device) : Device :=
  let mask := Config.freeWord d.free
  d.bayCfg.foldl (fun (d : Device) (e : Nat × BayCfg) =>
    (d.cellEdges (Fin.ofNat 112 e.1) mask).wrapsFall (Fin.ofNat 112 e.1) mask) { d with free := d.free + 1 }

/-! ### Set-reset and initial contents (R50, R54, R61) -/

/-- Every user flip-flop of a physical bay takes its initial value (R50, R61). -/
def Device.resetFlops (d : Device) (pb : Fin 112) : Device :=
  let d := { d with ffs := sclear (fun k => k / 2 ^ 19 == pb.val) d.ffs }
  (sget (fun _ => BayCfg.empty) d.bayCfg pb.val).cellList.foldl (fun d e =>
    let ffs := sset (fun _ => false) d.ffs (flopKey pb e.1 0) e.2.initA
    { d with ffs := sset (fun _ => false) ffs (flopKey pb e.1 1) e.2.initB }) d

/-- The M-pane cells of a physical bay take the contents that its frames give them; set-reset leaves these alone (R54). -/
def Device.loadCells (d : Device) (pb : Fin 112) : Device :=
  let d := { d with mram := sclear (fun k => k / 2 ^ 18 == pb.val) d.mram }
  (sget (fun _ => BayCfg.empty) d.bayCfg pb.val).cellList.foldl (fun d e =>
    { d with mram := sset (fun _ => 0) d.mram (cellKey pb e.1) e.2.initial }) d

/-- Set-reset holds a physical bay: flip-flops, slices and memory outputs (R61, R94, R130). -/
def Device.holdReset (d : Device) (pb : Fin 112) : Device := ((d.resetFlops pb).resetSlices pb).resetMemOutputs pb

end Sys2Proof.Machine
end

