-- ==== Sys2Proof/Machine/Fabric.lean ====
section
/-! DEFINITION. Ways out of a bay and capture (R63 to R80): hinge and stile channels, sidebands, jambs, the shadow. -/

namespace Sys2Proof.Machine

open Sys2Proof

/-! ### Bays in service -/

/-- Shutter states (R198). -/
def shutterOpen : Nat := 0
def shutterClosing : Nat := 1
def shutterClosed : Nat := 2

/-- The shutter of a physical bay. -/
def Device.bayShutter (d : Device) (pb : Fin 112) : Nat := d.rd (.pbay pb) fPbayShutterState

/-- A bay in service carries a logical bay and is not behind a closed shutter (R142). -/
def Device.inService (d : Device) (pb : Fin 112) : Bool :=
  (d.logicalOf pb).isSome && d.bayShutter pb != shutterClosed

/-- The settings in force for a logical bay. -/
def Device.cfgOf (d : Device) (n : Fin 104) : BayCfg :=
  sget (fun _ => BayCfg.empty) d.bayCfg (d.physOf n).val

/-- The settings in force for a logical bay given by number; out of range, none. -/
def Device.cfgAt (d : Device) (n : Nat) : BayCfg :=
  if h : n < 104 then d.cfgOf ⟨n, h⟩ else BayCfg.empty

/-- The row of a logical bay. -/
def bayRow (n : Nat) : Nat := n / 13

/-! ### Who names whom (R65, R69, R70) -/

/-- The partner of an entry of a connection list, if any. -/
def partnerAt (l : List (Option (Nat × Nat))) (ch : Nat) : Option (Nat × Nat) := (l[ch]?).join

/-- Outbound hinge channel `ch` of `n` and the inbound channel it names name each other, in one row (R65). -/
def Device.hingeAgrees (d : Device) (n ch : Nat) : Option (Nat × Nat) :=
  match partnerAt (d.cfgAt n).hingeOut ch with
  | some (m, k) =>
    if bayRow m = bayRow n ∧ partnerAt (d.cfgAt m).hingeIn k = some (n, ch) then some (m, k) else none
  | none => none

/-- The same for a stile channel, whose partner is in another row (R69). -/
def Device.stileAgrees (d : Device) (n ch : Nat) : Option (Nat × Nat) :=
  match partnerAt (d.cfgAt n).stileOut ch with
  | some (m, k) =>
    if bayRow m ≠ bayRow n ∧ partnerAt (d.cfgAt m).stileIn k = some (n, ch) then some (m, k) else none
  | none => none

/-- A list of bits as a number, bit 0 first. -/
def bitsNat (l : List Bool) : Nat := l.foldr (fun b s => 2 * s + (if b then 1 else 0)) 0

/-- HINGE_STATE's mismatch bits of a logical bay (R65): OUT, IN, STILE_OUT, STILE_IN. -/
def Device.mismatch (d : Device) (n : Nat) : Nat :=
  let c := d.cfgAt n
  let bad (own : List (Option (Nat × Nat))) (back : Nat → Nat → Option (Nat × Nat)) (ch : Nat) : Bool :=
    match partnerAt own ch with
    | some (m, k) => back m k != some (n, ch)
    | none => false
  let out := bitsNat ((List.range 8).map fun ch => bad c.hingeOut (fun m k => partnerAt (d.cfgAt m).hingeIn k) ch)
  let inn := bitsNat ((List.range 8).map fun ch => bad c.hingeIn (fun m k => partnerAt (d.cfgAt m).hingeOut k) ch)
  let so := bitsNat ((List.range 4).map fun ch => bad c.stileOut (fun m k => partnerAt (d.cfgAt m).stileIn k) ch)
  let si := bitsNat ((List.range 4).map fun ch => bad c.stileIn (fun m k => partnerAt (d.cfgAt m).stileOut k) ch)
  out + 0x100 * inn + 0x10000 * so + 0x100000 * si

/-- The logical bays of a bump's row that claim it (R70). -/
def Device.claimants (d : Device) (j : Nat) : List (Nat × JambClaim) :=
  (List.range 13).filterMap fun k =>
    let n := 13 * (j / 6) + k
    match (d.cfgAt n).jambs.find? fun c => c.bump == j with
    | some c => some (n, c)
    | none => none

/-- A claim of `n` is also made by another bay of its row (R70). -/
def Device.claimClash (d : Device) (n : Nat) : Bool :=
  (d.cfgAt n).jambs.any fun c => decide (1 < (d.claimants c.bump).length)

/-- After a change of settings in the physical bays `pbs`: HINGE_MISMATCH in each of them whose frames disagree with a partner's or
claim a bump that another claims, and in every bay whose disagreement is not what it was before (R65, R70). -/
def Device.hingeCheck (d before : Device) (pbs : List Nat) : Device :=
  (List.finRange 104).foldl (fun acc n =>
    let now := (d.mismatch n.val, d.claimClash n.val)
    if now != (0, false) && (pbs.contains (d.physOf n).val || now != (before.mismatch n.val, before.claimClash n.val)) then
      acc.raise (.bay n) cBayHingeMismatch
    else acc) d

/-! ### Channels (R66, R69) -/

/-- The code of the start-up step RELEASE_OUTPUTS (R303). -/
def stOutputs : Nat := 4

/-- The outputs of a physical bay follow its design: its shutter is not CLOSED, and it is not loading or fenced. In a start-up of
its region they follow from RELEASE_OUTPUTS on, whatever the order of the steps (R71, R77, R323, R324). -/
def Device.outputsReleased (d : Device) (pb : Fin 112) : Bool :=
  let inRegion := match d.load.window with
    | some w => w.contains pb.val
    | none => true
  d.bayShutter pb != shutterClosed &&
    match d.load.phase with
    | .steps rest => if inRegion then !rest.contains stOutputs && d.rd .cfg fCfgLoadStatusStep != stOutputs else !d.inReset pb
    | _ => !d.inReset pb

/-- The receiving bay may be presented words: not behind a closed shutter, not loading, not held (R77, R79). -/
def Device.takesWords (d : Device) (n : Nat) : Bool :=
  if h : n < 104 then
    let pb := d.physOf ⟨n, h⟩
    d.outputsReleased pb && !d.flag (.pbay pb) fPbayHingeStatusHeld
  else false

def chanDflt : Nat → Channel := fun _ => Channel.empty

/-- A wake event of R147 reaches a logical bay; a bay stopped by MODE_REQ DROWSE does not wake (R458). -/
def Device.wakeBay (d : Device) (n : Fin 104) : Device :=
  if sget (fun _ => false) d.drowsed n.val then d else d.lower (.pbay (d.physOf n)) fPbayHingeStatusDrowsyGated

/-- A word as the fabric presents it: with TAG_OUT of a slice in its tag bits where it is wired so (R125). -/
def Device.tagged (d : Device) (n : Fin 104) (w : BitVec 70) (tag : Option (Fin 128)) : BitVec 70 :=
  match tag with
  | none => w
  | some s => (d.tagOut (d.physOf n) s.val) ++ (w.extractLsb' 0 64)

/-- HINGE_WORD_SEND: valid and ready are both high at an edge; one credit is used (R65, R66). -/
def hingeWordSendBody (n : Fin 104) (ch : Fin 8) (w : BitVec 70) (tag : Option (Fin 128)) (d : Device) : Device :=
  let w := d.tagged n w tag
  let key := n.val * 8 + ch.val
  let credits := sget (fun _ => 8) d.hingeCredits key
  match d.hingeAgrees n.val ch.val with
  | none => d
  | some (m, k) =>
    if !d.bayLive (d.physOf n) || !d.outputsReleased (d.physOf n) || !d.takesWords m || credits == 0 then d
    else
      let c := sget chanDflt d.hinges (m * 8 + k)
      { d with hingeCredits := sset (fun _ => 8) d.hingeCredits key (credits - 1)
               hingeOutReg := sset (fun _ => 0) d.hingeOutReg key w
               hinges := sset chanDflt d.hinges (m * 8 + k) { c with flight := c.flight ++ [w] } }

/-- HINGE_WORD_ARRIVE: the oldest word on its way enters the inbound buffer, and wakes a gated bay (R66, R147). -/
def hingeWordArriveBody (n : Fin 104) (ch : Fin 8) (d : Device) : Device :=
  let key := n.val * 8 + ch.val
  match (sget chanDflt d.hinges key).flight with
  | [] => d
  | w :: ws =>
    let c := sget chanDflt d.hinges key
    { d with hinges := sset chanDflt d.hinges key { buf := c.buf ++ [w], flight := ws } }.wakeBay n

/-- HINGE_CREDIT_RETURN: the design has taken the oldest buffered word, and its credit comes back to the sender (R66). -/
def hingeCreditReturnBody (n : Fin 104) (ch : Fin 8) (d : Device) : Device :=
  let key := n.val * 8 + ch.val
  match (sget chanDflt d.hinges key).buf with
  | [] => d
  | w :: ws =>
    if !d.bayLive (d.physOf n) then d
    else
      let c := sget chanDflt d.hinges key
      let d := { d with hinges := sset chanDflt d.hinges key { c with buf := ws } }
      let d := d.emit (.hingeWord n.val ch.val w)
      match partnerAt (d.cfgOf n).hingeIn ch.val with
      | some (m, k) =>
        let sk := m * 8 + k
        { d with hingeCredits := sset (fun _ => 8) d.hingeCredits sk (min 8 (sget (fun _ => 8) d.hingeCredits sk + 1)) }
      | none => d

/-- STILE_WORD_SEND (R69). -/
def stileWordSendBody (n : Fin 104) (ch : Fin 4) (w : BitVec 70) (tag : Option (Fin 128)) (d : Device) : Device :=
  let w := d.tagged n w tag
  let key := n.val * 4 + ch.val
  let credits := sget (fun _ => 16) d.stileCredits key
  match d.stileAgrees n.val ch.val with
  | none => d
  | some (m, k) =>
    if !d.bayLive (d.physOf n) || !d.outputsReleased (d.physOf n) || !d.takesWords m || credits == 0 then d
    else
      let c := sget chanDflt d.stiles (m * 4 + k)
      { d with stileCredits := sset (fun _ => 16) d.stileCredits key (credits - 1)
               stileOutReg := sset (fun _ => 0) d.stileOutReg key w
               stiles := sset chanDflt d.stiles (m * 4 + k) { c with flight := c.flight ++ [w] } }

/-- STILE_WORD_ARRIVE (R69). -/
def stileWordArriveBody (n : Fin 104) (ch : Fin 4) (d : Device) : Device :=
  let key := n.val * 4 + ch.val
  match (sget chanDflt d.stiles key).flight with
  | [] => d
  | w :: ws =>
    let c := sget chanDflt d.stiles key
    { d with stiles := sset chanDflt d.stiles key { buf := c.buf ++ [w], flight := ws } }.wakeBay n

/-- STILE_CREDIT_RETURN (R69). -/
def stileCreditReturnBody (n : Fin 104) (ch : Fin 4) (d : Device) : Device :=
  let key := n.val * 4 + ch.val
  match (sget chanDflt d.stiles key).buf with
  | [] => d
  | w :: ws =>
    if !d.bayLive (d.physOf n) then d
    else
      let c := sget chanDflt d.stiles key
      let d := { d with stiles := sset chanDflt d.stiles key { c with buf := ws } }
      let d := d.emit (.stileWord n.val ch.val w)
      match partnerAt (d.cfgOf n).stileIn ch.val with
      | some (m, k) =>
        let sk := m * 4 + k
        { d with stileCredits := sset (fun _ => 16) d.stileCredits sk (min 16 (sget (fun _ => 16) d.stileCredits sk + 1)) }
      | none => d

/-- R78: the inbound buffers of a logical bay are emptied, the words in them and on their way to them discarded, their credits
returned. -/
def Device.emptyInbound (d : Device) (n : Fin 104) : Device :=
  let d := (List.range 8).foldl (fun d ch =>
    let key := n.val * 8 + ch
    let c := sget chanDflt d.hinges key
    let back := c.buf.length + c.flight.length
    let d := { d with hinges := sset chanDflt d.hinges key Channel.empty }
    match partnerAt (d.cfgOf n).hingeIn ch with
    | some (m, k) =>
      let sk := m * 8 + k
      { d with hingeCredits := sset (fun _ => 8) d.hingeCredits sk (min 8 (sget (fun _ => 8) d.hingeCredits sk + back)) }
    | none => d) d
  (List.range 4).foldl (fun d ch =>
    let key := n.val * 4 + ch
    let c := sget chanDflt d.stiles key
    let back := c.buf.length + c.flight.length
    let d := { d with stiles := sset chanDflt d.stiles key Channel.empty }
    match partnerAt (d.cfgOf n).stileIn ch with
    | some (m, k) =>
      let sk := m * 4 + k
      { d with stileCredits := sset (fun _ => 16) d.stileCredits sk (min 16 (sget (fun _ => 16) d.stileCredits sk + back)) }
    | none => d) d

/-! ### Sidebands and jambs (R67, R70, R71, R77) -/

/-- The value an outbound sideband presents: the design's, or its shutter value until the bay's outputs are released (R77). -/
def Device.sidebandOut (d : Device) (n i : Nat) : Bool :=
  if h : n < 104 then
    let pb := d.physOf ⟨n, h⟩
    if !d.outputsReleased pb then (d.cfgAt n).sbShutterOut.getLsbD i
    else sget (fun _ => false) d.sbOut (n * 32 + i)
  else false

/-- The level a jamb bump reads (JAMB.IN). -/
def Device.jambIn (d : Device) (j : Nat) : Bool :=
  if j < 32 then (d.word (fldKey .jamb fJambInLo 0)).getLsbD j else (d.word (fldKey .jamb fJambInHi 0)).getLsbD (j - 32)

/-- The outbound sidebands of a bay's row that its inbound sideband `i` is fed by: the senders' frames name it (R67). -/
def Device.sidebandSources (d : Device) (n i : Nat) : List (Nat × Nat) :=
  (List.range 13).flatMap fun k =>
    let m := 13 * bayRow n + k
    (List.range 32).filterMap fun o =>
      if (((d.cfgAt m).sbTo[o]?).getD []).contains (n, i) then some (m, o) else none

/-- The value at an inbound sideband: its source's, or its shutter value when it has none; the level of a bump that the bay claims
for it (R67, R70). Two sources at once the manual does not provide for: a free value. -/
def Device.sidebandIn (d : Device) (n i : Nat) : Bool :=
  match (d.cfgAt n).jambs.find? (fun c => c.inSb == i), d.sidebandSources n i with
  | some c, [] => d.jambIn c.bump
  | none, [] => (d.cfgAt n).sbShutterIn.getLsbD i
  | none, [(m, k)] => d.sidebandOut m k
  | _, _ => Config.freeBool d.free

/-- Output enable and output value of a jamb bump (R70, R71): driven by the one bay that claims it once that bay's outputs
are released; otherwise its shutter state, which for a bump that two bays claim is high impedance, whatever their frames say of it
(DESIGN CHOICE, entry 79). -/
def Device.jambOut (d : Device) (j : Nat) : Bool × Bool :=
  match d.claimants j with
  | [(n, c)] =>
    if h : n < 104 then
      let pb := d.physOf ⟨n, h⟩
      if !d.outputsReleased pb then
        match (d.cfgAt n).jambShutter.find? fun e => e.1 == j with
        | some e => (true, e.2)
        | none => (false, d.sidebandOut n c.outSb)
      else (d.sidebandOut n c.oeSb, d.sidebandOut n c.outSb)
    else (false, false)
  | _ => (false, false)

/-- The gated bays of the row that an outbound sideband feeds wake (R67, R147). -/
def Device.wakeFed (d : Device) (n i : Nat) : Device :=
  (List.finRange 104).foldl (fun (d : Device) (m : Fin 104) =>
    if (((d.cfgAt n).sbTo[i]?).getD []).any (fun e => e.1 == m.val) && bayRow m.val == bayRow n then d.wakeBay m else d) d

/-- The gated bays that claim a bump wake (R147, R478). -/
def Device.wakeClaimants (d : Device) (j : Nat) : Device :=
  (d.claimants j).foldl (fun (d : Device) e => d.wakeBay (Fin.ofNat 104 e.1)) d

/-- SIDEBAND_CHANGE: the design changes an outbound sideband, and the gated bays that it feeds wake (R67, R147). -/
def sidebandChangeBody (n : Fin 104) (i : Fin 32) (v : Bool) (d : Device) : Device :=
  if !d.bayLive (d.physOf n) then d
  else
    let before := sget (fun _ => false) d.sbOut (n.val * 32 + i.val)
    let d := { d with sbOut := sset (fun _ => false) d.sbOut (n.val * 32 + i.val) v }
    if v = before ∨ d.outputsReleased (d.physOf n) = false then d
    else d.wakeFed n.val i.val

/-- JAMB_INPUT: a level change at a bump, after its synchroniser, wakes a gated bay that claims it (R147, R478). -/
def jambInputBody (j : Fin 48) (v : Bool) (d : Device) : Device :=
  let key := if j.val < 32 then fldKey .jamb fJambInLo 0 else fldKey .jamb fJambInHi 0
  let before := d.jambIn j.val
  let d := d.setWord key (setBits (d.word key) (j.val % 32) 1 (if v then 1 else 0))
  if v = before then d
  else d.wakeClaimants j.val

/-! ### Capture (R72 to R76) -/

/-- The conditions of R76 that refuse a capture of a physical bay, apart from its being out of service. -/
def Device.captureBlocked (d : Device) (pb : Fin 112) : Bool :=
  !(sget (fun _ => BayCfg.empty) d.bayCfg pb.val).clocks.getLsbD (d.rd (.pbay pb) fPbayCaptureCfgClkSel) ||
    d.flag (.pbay pb) fPbayCaptureStatusBusy || d.readingShadow == some pb.val

/-- Accept a capture of a physical bay: BUSY from this moment; a gated bay wakes (R74, R147). -/
def Device.startCapture (d : Device) (pb : Fin 112) (all : Bool) : Device :=
  let d := (d.raise (.pbay pb) fPbayCaptureStatusBusy).lower (.pbay pb) fPbayHingeStatusDrowsyGated
  { d with captureAll := sset (fun _ => false) d.captureAll pb.val all }

/-- CAPTURE_CMD with GO (R74, R76). -/
def captureBody (b : BayPage) (d : Device) : Device :=
  let pb := d.bayPhys b
  if d.bayShutter pb == shutterClosed || d.flag (.pbay pb) fPbayBayCfgStateInPr || d.captureBlocked pb then
    d.bayCause pb cBayCaptureRefused
  else d.startCapture pb false

/-- CAPTURE_CMD with GO and ALL: every bay in service; the others, those behind a closed shutter or in partial reconfiguration
among them, are skipped and set no CAPTURE_REFUSED, and the remaining conditions of R76 refuse the capture of a bay alone (R75, R76;
DESIGN CHOICE between the two rules, entry 79). -/
def captureAllBody (d : Device) : Device :=
  (List.finRange 112).foldl (fun d pb =>
    if !d.inService pb || d.flag (.pbay pb) fPbayBayCfgStateInPr then d
    else if d.captureBlocked pb then d.bayCause pb cBayCaptureRefused
    else d.startCapture pb true) d

/-- The shadow frames a bay needs: 112 and one for every two M panes in RAM or shift-register mode (R73). -/
def Device.shadowFrames (d : Device) (pb : Fin 112) : Nat :=
  112 + ((sget (fun _ => BayCfg.empty) d.bayCfg pb.val).ramPanes.length + 1) / 2

/-- The entries of a map that belong to a bay, `per` keys a bay, by their numbers in it. -/
def bayPart {α : Type} (per pb : Nat) (m : Sparse α) : Sparse α :=
  (m.filter fun e => e.1 / per == pb).map fun e => (e.1 % per, e.2)

/-- What a capture at this moment puts into the shadow latches of a physical bay (R72, R131). -/
def Device.image (d : Device) (pb : Fin 112) (stamp : Nat) : Shadow :=
  let n := (d.logicalOf pb).map (·.val)
  let at_ {α : Type} (k : Nat) (f : Nat → α) (g : List α) : List α := match n with
    | some n => (List.range k).map fun i => f (n * k + i)
    | none => g
  let bits (f : Nat → Nat → Bool) : Word := match n with
    | some n => BitVec.ofNat 32 (bitsNat ((List.range 32).map (f n)))
    | none => 0
  { map := (sget (fun _ => BayCfg.empty) d.bayCfg pb.val).map
    stamp := stamp
    ffs := bayPart (2 ^ 19) pb.val d.ffs
    slices := bayPart 128 pb.val d.slices
    ovf := (List.range 4).map fun c => d.word (fldKey (.pbay pb) fPbaySliceOvfOvf c)
    cols := (List.range 4).map fun c => d.word (fldKey (.pbay pb) fPbayColStateMin c)
    bramOut := bayPart 256 pb.val d.bramOut
    hinges := at_ 8 (fun k => (sget chanDflt d.hinges k).buf) []
    hingeOut := at_ 8 (sget (fun _ => 0) d.hingeOutReg) []
    stiles := at_ 4 (fun k => (sget chanDflt d.stiles k).buf) []
    stileOut := at_ 4 (sget (fun _ => 0) d.stileOutReg) []
    sbIn := bits d.sidebandIn
    sbOut := bits d.sidebandOut
    mram := bayPart (2 ^ 18) pb.val d.mram }

/-- The shadow of a physical bay is loaded (R72). -/
def Device.loadShadow (d : Device) (pb : Fin 112) : Device :=
  { d with shadow := sset (fun _ => none) d.shadow pb.val (some (d.image pb d.free)), free := d.free + 1 }

/-- CAPTURE_COMPLETE: the shadow is loaded at the capture edge (R72, R74). -/
def captureCompleteBody (pb : Fin 112) (d : Device) : Device :=
  if !d.flag (.pbay pb) fPbayCaptureStatusBusy then d
  else
    let all := sget (fun _ => false) d.captureAll pb.val
    let d := d.loadShadow pb
    let d := d.put (.pbay pb) fPbayCaptureStatusSeq (d.rd (.pbay pb) fPbayCaptureStatusSeq + 1)
    let d := d.put (.pbay pb) fPbayCaptureStatusShadowFrames (d.shadowFrames pb)
    let d := d.put (.pbay pb) fPbayCaptureStatusLastAll (if all then 1 else 0)
    let d := (d.raise (.pbay pb) fPbayCaptureStatusShadowValid).lower (.pbay pb) fPbayCaptureStatusBusy
    d.bayCause pb cBayCaptureDone

/-! ### What a shadow reads as (R72, R73, R131) -/

/-- Fields side by side, the first lowest: value and width of each. -/
def packBits : List (Nat × Nat) → Nat
  | [] => 0
  | (v, w) :: rest => v % 2 ^ w + 2 ^ w * packBits rest

/-- The 256 capture bits of a slice, in the order of R131; START and END are never pending between commands, and spare bits are 0. -/
def Shadow.sliceBits (h : Shadow) (s : Nat) : Nat :=
  let st := sget (fun _ => SliceSt.zero) h.slices s
  let col : Word := (h.cols[s / 32]?).getD 0
  let bit (b : Bool) : Nat := if b then 1 else 0
  let field (lo w : Nat) : Nat := (col.extractLsb' lo w).toNat
  let column := if s % 32 = 0 then
      packBits [(field fPbayColStateOpen.lo 1, 1), (field fPbayColStateMin.lo 6, 6), (field fPbayColStateEcum.lo 6, 6),
        (field fPbayColStateBlockFault.lo 1, 1)]
    else 0
  packBits [(st.a.toNat, 16), (st.b.toNat, 16), (st.d.toNat, 16), (st.ad.toNat, 16), (st.preB.toNat, 16), (st.prod.toNat, 32),
    (st.acc.toNat, 40), (st.p.toNat, 40), (st.expOut, 6), (bit st.report, 1),
    (bit (((h.ovf[s / 32]?).getD 0).getLsbD (s % 32)), 1), (st.bexp, 6), (st.idx0, 15), (st.idx1, 15), (column, 16)]

/-- A bit of a word of a list of captured words; a place of a buffer that holds no word has no defined value. -/
def wordBit (l : List (BitVec 70)) (i b : Nat) : Option Bool := (l[i]?).map fun w => w.getLsbD b

/-- The captured value of an element; none: not defined. -/
def Shadow.value (h : Shadow) : CaptureBit → Option Bool
  | .ff i => some (sget (fun _ => false) h.ffs i)
  | .slice s b => some ((h.sliceBits s).testBit b)
  | .latch m p b => some ((sget (fun _ => PortOut.zero) h.bramOut (2 * m + p)).latch.word.getLsbD b)
  | .hingeBuf ch w b => wordBit ((h.hinges[ch]?).getD []) w b
  | .hingeOut ch b => wordBit h.hingeOut ch b
  | .stileBuf ch w b => wordBit ((h.stiles[ch]?).getD []) w b
  | .stileOut ch b => wordBit h.stileOut ch b
  | .sbIn i => some (h.sbIn.getLsbD i)
  | .sbOut i => some (h.sbOut.getLsbD i)
  | .cell c b => some ((sget (fun _ => 0) h.mram c).getLsbD b)

/-- A word of a shadow frame: each bit the element that the design's map names there; a bit that it does not name has no defined
value (R73). -/
def Shadow.word (h : Shadow) (minor k : Nat) : DWord :=
  BitVec.ofNat 64 (bitsNat ((List.range 64).map fun b =>
    ((Config.captureMap h.map minor k b).bind h.value).getD (Config.shadowBit h.stamp minor k b)))

end Sys2Proof.Machine
end

