-- ==== Sys2Proof/Machine/LinkTx.lean ====
section
/-! DEFINITION. Links, the sending side: lanes, scrambler and precoder (R206 to R210), flits and their check (R228 to R234),
the retry buffer (R237), the states of a link (R245). -/

namespace Sys2Proof.Machine

open Sys2Proof

/-! ### A link and its registers -/

def linkDisabled : Nat := 0
def linkTraining : Nat := 1
def linkHello : Nat := 2
def linkActive : Nat := 3
def linkSleep : Nat := 4
def linkRetrain : Nat := 5
def linkFault : Nat := 6

/-- PHY_RX.MODE and PHY_TX.MODE. -/
def phyTraining : Nat := 0
def phyData : Nat := 1
def phyParked : Nat := 2

def Device.lk (d : Device) (l : Fin 144) : LinkSt := sget (fun _ => LinkSt.fresh) d.links l.val

def Device.setLk (d : Device) (l : Fin 144) (k : LinkSt) : Device :=
  { d with links := sset (fun _ => LinkSt.fresh) d.links l.val k }

def Device.linkState (d : Device) (l : Fin 144) : Nat := d.rd (.txl l) fTxlLinkStatusState

def Device.setLinkState (d : Device) (l : Fin 144) (s : Nat) : Device := d.put (.txl l) fTxlLinkStatusState s

/-- The engine page of a link. -/
def curOfLink (l : Fin 144) : Fin 156 := Fin.ofNat 156 l.val

def Device.cur (d : Device) (n : Fin 144) : CurSt := sget (fun _ => CurSt.fresh) d.curs n.val

def Device.setCur (d : Device) (n : Fin 144) (c : CurSt) : Device :=
  { d with curs := sset (fun _ => CurSt.fresh) d.curs n.val c }

/-- An encryption engine: 0 healthy, 1 in self-test, 2 failed (R281). -/
def Device.setEngine (d : Device) (e v : Nat) : Device := { d with engines := sset (fun _ => 0) d.engines e v }

/-- CUR_CFG.MODE in force: 0 OFF, 1 MEMORY, 2 LINK (R255). -/
def Device.curMode (d : Device) (l : Fin 144) : Nat := d.eff (.cur (curOfLink l)) fCurCurCfgMode

/-- A node ID in force (R150); 0x3FF: unassigned. -/
def Device.nodeId (d : Device) : NodeKind → BitVec 10
  | .fabric => BitVec.ofNat 10 (d.eff .mesh fMeshNodeFabricId)
  | .mgmt => BitVec.ofNat 10 (d.eff .mesh fMeshNodeMgmtId)
  | .core => BitVec.ofNat 10 (d.eff .mesh fMeshNodeCoreId)
  | .host => BitVec.ofNat 10 (d.eff .mesh fMeshNodeHostId)

/-! ### Lanes (R206 to R209) -/

/-- The scrambler seeds of D0 to D3 and DS (R207). -/
def laneSeeds : List (BitVec 23) := [0x1F4A73, 0x520C9E, 0x6BD135, 0x0738E4, 0x3CA68B]

/-- One bit of the scrambler: the output and the next state (R207). -/
def scrambleBit (s : BitVec 23) : Bool × BitVec 23 :=
  let b := s.getLsbD 22 != s.getLsbD 17
  (b, (s <<< 1) ||| (if b then 1 else 0))

/-- The level of a precoded value (R208). -/
def levelOf (y : Nat) : Int :=
  match y with
  | 0 => -3
  | 1 => -1
  | 3 => 1
  | _ => 3

/-- The lane bits of a flit on logical data lane `k` (R206). -/
def laneBits (flit k : Nat) : Nat := (List.range 66).foldl (fun acc i => acc + natBits flit (8 * i + 2 * k) 2 * 4 ^ i) 0

/-- 66 symbols of a lane: scrambled, precoded, as levels; with the scrambler and precoder state after them. -/
def laneLevels (s : BitVec 23) (y bits : Nat) : List Int × BitVec 23 × Nat :=
  (List.range 66).foldl (fun (acc : List Int × BitVec 23 × Nat) i =>
    let (b1, s1) := scrambleBit acc.2.1
    let (b0, s2) := scrambleBit s1
    let x := Nat.xor (natBits bits (2 * i) 2) (2 * b1.toNat + b0.toNat)
    let y' := (x + 4 - acc.2.2) % 4
    (acc.1 ++ [levelOf y'], s2, y')) ([], s, y)

/-- The precoded value that a level stands for (R208). -/
def valueOf (lv : Int) : Nat := if lv = -3 then 0 else if lv = -1 then 1 else if lv = 1 then 3 else 2

/-- The receiver of a lane: what the levels it meets spell, decoded and descrambled symbol by symbol (R208); `s` and `y`: the
scrambler and the value before them. -/
def laneReceive (s : BitVec 23) (y : Nat) (levels : List Int) : List Nat × BitVec 23 × Nat :=
  levels.foldl (fun (acc : List Nat × BitVec 23 × Nat) lv =>
    let (b1, s1) := scrambleBit acc.2.1
    let (b0, s2) := scrambleBit s1
    let y' := valueOf lv
    (acc.1 ++ [Nat.xor ((y' + acc.2.2) % 4) (2 * b1.toNat + b0.toNat)], s2, y')) ([], s, y)

/-- Send lane bits on physical lane `p`. -/
def LinkSt.sendLane (k : LinkSt) (p bits : Nat) : List Int × LinkSt :=
  let r := laneLevels ((k.scramble[p]?).getD 0) ((k.precode[p]?).getD 0) bits
  (r.1, { k with scramble := k.scramble.set p r.2.1, precode := k.precode.set p r.2.2 })

/-- Send five lanes; a lane without bits is parked and shows no level. -/
def LinkSt.sendLanes (k : LinkSt) (lanes : List (Option Nat)) : List (List Int) × LinkSt :=
  lanes.foldl (fun (acc : List (List Int) × LinkSt) b =>
    match b with
    | some bits => let r := acc.2.sendLane acc.1.length bits; (acc.1 ++ [r.1], r.2)
    | none => (acc.1 ++ [[]], acc.2)) ([], k)

/-- The levels of a driven clock lane during a flit whose first UI is UI `ui` modulo 4: a quarter of the symbol rate, rising where n
mod 4 = 0 (R211). -/
def clockLevels (ui : Nat) : List Int := (List.range 66).map fun i => if (ui + i) % 4 < 2 then 3 else -3

/-- Lanes C and CS during a flit: both in training, in data mode the selected one (R216). -/
def LinkSt.clockLanes (k : LinkSt) (both : Bool) (sel : Nat) : List (List Int) :=
  [if both || sel == 0 then clockLevels k.ui else [], if both || sel != 0 then clockLevels k.ui else []]

/-- The forwarded clock goes on by the 66 UIs of a flit. -/
def LinkSt.tick (k : LinkSt) : LinkSt := { k with ui := (k.ui + 66) % 4 }

/-! ### Flits (R228 to R230) -/

/-- R229. -/
def kindCode : FlitKind → Nat
  | .sole => 0x00FF | .head => 0x0F0F | .mid => 0x3333 | .tail => 0x5555 | .ctrl => 0x6969

/-- FCRC (R230). -/
def fcrcOf (kind : FlitKind) (body : BitVec 512) : BitVec 16 :=
  BitVec.ofNat 16 (Nat.xor (crc16 0 512 body.toNat) (kindCode kind))

/-- The kind a receiver finds in a flit, if it is good (R230). -/
def kindOf (body : BitVec 512) (fcrc : BitVec 16) : Option FlitKind :=
  [FlitKind.sole, .head, .mid, .tail, .ctrl].find? fun k => fcrcOf k body == fcrc

/-- Send one flit in data mode. A marker that is due goes out on DS with it, and the lane map changes after it (R223). -/
def Device.sendFlit (d : Device) (l : Fin 144) (kind : FlitKind) (body : BitVec 512) : Device :=
  let pg := PageRef.txl l
  let k := d.lk l
  let fcrc := fcrcOf kind body
  let flit := body.toNat + fcrc.toNat * 2 ^ 512
  let ds := d.rd pg fTxlPhyTxDsCarries
  let spare := if ds < 4 then laneBits flit ds else if k.marker.isSome then 2 ^ 132 - 1 else 0
  let lanes := ((List.range 4).map fun p => if ds = p then none else some (laneBits flit p)) ++ [some spare]
  let r := k.sendLanes lanes
  let clk := k.clockLanes false (d.rd pg fTxlPhyTxClkSel)
  let d := (d.setLk l { r.2.tick with marker := none, sinceLink := r.2.sinceLink + 1 }).emit
    (.flit l.val kind body fcrc (r.1 ++ clk))
  match k.marker with
  | some m =>
    let d := d.put pg fTxlPhyTxDsCarries m
    let d := d.put pg fTxlPhyTxFailed (Nat.lor (d.rd pg fTxlPhyTxFailed) (2 ^ m))
    (d.raise pg cTxlLaneSwapped).count pg 0
  | none => d

/-- The report this side's receiver makes (R209). -/
def Device.ownReport (d : Device) (l : Fin 144) : BitVec 12 :=
  let pg := PageRef.txl l
  BitVec.ofNat 12 (d.rd pg fTxlPhyRxAligned + 2 * d.rd pg fTxlPhyRxDsCarries + 16 * d.rd pg fTxlPhyRxClkSel +
    32 * (d.lk l).cannot.toNat)

/-- Send a training flit on every data lane: TRAIN, or TRAIN_END (R209). The scrambler starts at its seed in every training
flit, and once more in the first flit after TRAIN_END. -/
def Device.sendTraining (d : Device) (l : Fin 144) (last : Bool) : Device :=
  let rep := d.ownReport l
  let bits := (if last then 2 ^ 120 - 1 else 0) + rep.toNat * 2 ^ 120
  let k : LinkSt := { d.lk l with scramble := laneSeeds }
  let r := k.sendLanes (List.replicate 5 (some bits))
  (d.setLk l { r.2.tick with scramble := laneSeeds, trainSent := k.trainSent + 1 }).emit
    (.training l.val last rep (r.1 ++ k.clockLanes true 0))

/-- One training flit of a resume: on every data lane in use, the lane map unchanged (R246). -/
def Device.sendResume (d : Device) (l : Fin 144) (last : Bool) : Device :=
  let rep := d.ownReport l
  let bits := (if last then 2 ^ 120 - 1 else 0) + rep.toNat * 2 ^ 120
  let ds := d.rd (.txl l) fTxlPhyTxDsCarries
  let k : LinkSt := { d.lk l with scramble := laneSeeds }
  let r := k.sendLanes (((List.range 4).map fun p => if ds = p then none else some bits) ++ [some bits])
  (d.setLk l { r.2.tick with scramble := laneSeeds }).emit
    (.training l.val last rep (r.1 ++ k.clockLanes false (d.rd (.txl l) fTxlPhyTxClkSel)))

/-- A transmitter in IDLE resumes, its lanes leaving the parked state: 16 TRAIN flits and one TRAIN_END (R208, R246). One that is
not in IDLE does nothing. -/
def Device.txResume (d : Device) (l : Fin 144) : Device :=
  if d.flag (.txl l) fTxlLinkStatusTxIdle then
    let d := d.setLk l { d.lk l with precode := [0, 0, 0, 0, 0] }
    let d := (List.range 16).foldl (fun d _ => d.sendResume l false) d
    ((d.sendResume l true).lower (.txl l) fTxlLinkStatusTxIdle).put (.txl l) fTxlPhyTxMode phyData
  else d

/-- The transmitter can send a flit: it is in data mode, or in IDLE, from which it resumes (R246). -/
def Device.canSend (d : Device) (l : Fin 144) : Bool :=
  d.rd (.txl l) fTxlPhyTxMode == phyData || d.flag (.txl l) fTxlLinkStatusTxIdle

/-- A field of 12 bits of one class. -/
def classField (xs : List Nat) (c : Nat) : Nat := (xs[c]?).getD 0

/-- The sequence number of the next sequenced flit that will be sent (R233). -/
def LinkSt.nextSeq (k : LinkSt) : BitVec 64 :=
  match k.replayAt with
  | some i => match k.retry[i]? with
    | some h => h.seq
    | none => k.txSeq
  | none => k.txSeq

/-- The body of a LINK flit (R233). -/
def LinkSt.linkBody (k : LinkSt) (fault : Bool) : BitVec 512 :=
  let crd := (List.range 4).foldl (fun s c => s + classField k.freed c % 4096 * 2 ^ (40 + 12 * c)) 0
  BitVec.ofNat 512 (0x1 + k.expect.toNat % 4096 * 2 ^ 8 + k.oweNak.toNat * 2 ^ 20 + k.oweReplay.toNat * 2 ^ 21 +
    k.nextSeq.toNat % 4096 * 2 ^ 24 + crd + k.owePm * 2 ^ 88 + k.swapReq.isSome.toNat * 2 ^ 96 +
    k.swapReq.getD 0 * 2 ^ 97 + (decide (0 < k.oweDone)).toNat * 2 ^ 99 + k.oweCswap.toNat * 2 ^ 100 +
    (decide (0 < k.oweRetrain)).toNat * 2 ^ 101 + fault.toNat * 2 ^ 102)

/-- Send a LINK flit with every field that is owed. -/
def Device.sendLink (d : Device) (l : Fin 144) (fault : Bool) : Device :=
  let d := d.sendFlit l .ctrl ((d.lk l).linkBody fault)
  let k := d.lk l
  d.setLk l { k with oweNak := false, oweReplay := false, owePm := if k.owePm = 2 then 2 else 0, pmSent := true
                     oweDone := k.oweDone - 1, oweRetrain := k.oweRetrain - 1, oweCswap := false, sinceLink := 0
                     given := k.freed }

/-- A PM code is to be sent. -/
def LinkSt.askPm (k : LinkSt) (pm : Nat) : LinkSt := { k with owePm := pm, pmSent := false }

/-- What this side's HELLO holds as HELLO begins, but for CHOSEN and PEER_SEEN (R242, R253). -/
def Device.helloBase (d : Device) (l : Fin 144) : BitVec 512 :=
  let pg := PageRef.txl l
  let versions := 2 ^ d.eff pg fTxlLlCfgVersionMax - 1
  let sub := d.eff pg fTxlSubLinkLink
  let spareRx := sub.testBit 2 || sub.testBit 3
  BitVec.ofNat 512 (0x2 + versions * 2 ^ 8 + 2 ^ 24 +
    spareRx.toNat * 2 ^ 26 + d.eff pg fTxlLlCfgSleepOk * 2 ^ 27 +
    96 * (2 ^ 32 + 2 ^ 44 + 2 ^ 56 + 2 ^ 68) + (d.lk l).txSeq.toNat * 2 ^ 80 +
    (d.nodeId .fabric).toNat * 2 ^ 144 + (d.nodeId .mgmt).toNat * 2 ^ 154 + (d.nodeId .core).toNat * 2 ^ 164 +
    (d.nodeId .host).toNat * 2 ^ 174 + 0x7144 * 2 ^ 184 + 0xA0 * 2 ^ 200)

/-- The HELLO this side sends now (R242). -/
def Device.helloBody (d : Device) (l : Fin 144) : BitVec 512 :=
  let k := d.lk l
  let chosen := if k.peer.isSome then d.rd (.txl l) fTxlLinkStatusVersion else 0
  k.ownHello ||| BitVec.ofNat 512 (chosen * 2 ^ 16 + k.peer.isSome.toNat * 2 ^ 20)

/-- NODE[0] of the HELLO sent, which names this side in counter blocks of link mode (R256). -/
def LinkSt.ownNode (k : LinkSt) : BitVec 10 := k.ownHello.extractLsb' 144 10

/-! ### States (R238, R245, R247 to R249) -/

/-- Park every lane. -/
def Device.parkLanes (d : Device) (l : Fin 144) : Device :=
  let pg := PageRef.txl l
  let d := (d.put pg fTxlPhyTxMode phyParked).put pg fTxlPhyRxMode phyParked
  let d := (d.lower pg fTxlPhyRxDllLocked).lower pg fTxlPhyRxAligned
  (d.lower pg fTxlLinkStatusTxIdle).lower pg fTxlLinkStatusRxIdle

/-- Add to the count of one class. -/
def bump (xs : List Nat) (c n : Nat) : List Nat := xs.set c (classField xs c + n)

/-- The credits freed once the receive buffer is emptied: of a partly received packet, and of packets held for their tag (R240). -/
def LinkSt.freedAll (k : LinkSt) : List Nat :=
  let xs := match k.rxOpen with
    | some fs => bump k.freed (packetOf fs).cls.toNat fs.length
    | none => k.freed
  k.rxHeld.foldl (fun xs p => bump xs p.cls.toNat (flitCount p.payload.length)) xs

/-- What a link that stops loses: the retry buffer, a partly received packet, packets at its egress. Sequence numbers and the
lane map stay (R225, R235, R245, R249). -/
def LinkSt.emptied (k : LinkSt) : LinkSt :=
  { LinkSt.fresh with txSeq := k.txSeq, expect := k.expect, count := k.count, credits := k.credits, freed := k.freedAll
                      given := k.given, prevCrd := k.prevCrd, stamp := k.stamp, scramble := k.scramble, precode := k.precode
                      ownHello := k.ownHello, ui := k.ui, arb := k.arb }

/-- Link fault (R249). -/
def Device.linkEnterFault (d : Device) (l : Fin 144) : Device :=
  let pg := PageRef.txl l
  let d := if d.canSend l then (List.range 4).foldl (fun d _ => d.sendLink l true) (d.txResume l) else d
  let d := (d.parkLanes l).setLk l (d.lk l).emptied
  (d.setLinkState l linkFault).raise pg cTxlLinkFault

/-- The precoder of each lane as training starts: 0 on a lane that leaves the parked state, which are all lanes of a transmitter that
is parked or in IDLE, and a lane that a swap has parked (R208, R223). -/
def Device.precodeStart (d : Device) (l : Fin 144) (parked : Bool) : List Nat :=
  let ds := d.rd (.txl l) fTxlPhyTxDsCarries
  if parked || d.flag (.txl l) fTxlLinkStatusTxIdle then [0, 0, 0, 0, 0]
  else if ds < 4 then (d.lk l).precode.set ds 0 else (d.lk l).precode

/-- Both directions of a link start training. `parked`: the lanes leave the parked state (R208). -/
def Device.startTraining (d : Device) (l : Fin 144) (st : Nat) (noHello parked : Bool) : Device :=
  let pg := PageRef.txl l
  let precode := d.precodeStart l parked
  let d := (d.put pg fTxlPhyTxMode phyTraining).put pg fTxlPhyRxMode phyTraining
  let d := (d.lower pg fTxlPhyRxDllLocked).lower pg fTxlPhyRxAligned
  let d := (d.lower pg fTxlLinkStatusTxIdle).lower pg fTxlLinkStatusRxIdle
  let k := d.lk l
  let k := { k with trainSent := 0, report := 0, reportsSeen := [], alignedLanes := 0, cannot := false, noHello := noHello
                    swapReq := none, marker := none, precode := precode, peerReady := false, seenSent := 0 }
  (d.setLk l k).setLinkState l st

/-- A receiver in data mode meets flits: in HELLO and ACTIVE, and while the transmitter still trains for a link that has had its HELLO
(R236, R238, R248). -/
def Device.receives (d : Device) (l : Fin 144) : Bool :=
  let st := d.linkState l
  (st == linkActive || st == linkHello || ((st == linkTraining || st == linkRetrain) && (d.lk l).noHello)) &&
    d.rd (.txl l) fTxlPhyRxMode == phyData && !d.flag (.txl l) fTxlLinkStatusRxIdle

/-- Retrain a link (R238); in HELLO the training restarts and HELLO runs again (R251). One whose receiver has left a training that its
transmitter is still in trains anew. -/
def Device.linkRetrainNow (d : Device) (l : Fin 144) : Device :=
  let pg := PageRef.txl l
  let st := d.linkState l
  if st ≠ linkActive ∧ d.receives l = false then d
  else
    let k := d.lk l
    if d.eff pg fTxlLlCfgRetrainLimit ≤ k.retrainRow then d.linkEnterFault l
    else
      let d := d.setLk l { k with retrainRow := k.retrainRow + 1 }
      let d := if d.canSend l then
          (List.range 4).foldl (fun d _ => d.sendLink l false) ((d.setLk l { d.lk l with oweRetrain := 4 }).txResume l)
        else d
      let d := (d.raise pg cTxlRetrain).count pg 6
      if st = linkActive then d.startTraining l linkRetrain true false
      else if st = linkHello then
        let d := d.startTraining l linkTraining false false
        d.setLk l { d.lk l with peer := none }
      else d.startTraining l st true false

/-- The link is active: with nothing owed after HELLO; after a training without HELLO the first flit is a LINK flit with
REPLAY = 1, and the oldest held flit follows (R238, R248). -/
def Device.linkGoActive (d : Device) (l : Fin 144) : Device :=
  let k := d.lk l
  let d := if k.noHello then
      d.setLk l { k with oweReplay := true, replayAt := if k.retry.isEmpty then none else some 0, noHello := false }
    else d
  d.setLinkState l linkActive

/-- Once both directions are in data mode, HELLO begins, or the link is active again (R242, R238, R248). -/
def Device.linkAdvance (d : Device) (l : Fin 144) : Device :=
  let pg := PageRef.txl l
  let st := d.linkState l
  if d.rd pg fTxlPhyTxMode = phyData ∧ d.rd pg fTxlPhyRxMode = phyData ∧ (st = linkTraining ∨ st = linkRetrain) then
    if (d.lk l).noHello then d.linkGoActive l
    else
      (d.setLk l { d.lk l with peer := none, seenSent := 0, peerReady := false, ownHello := d.helloBase l }).setLinkState l linkHello
  else d

/-- A side starts its transmitter to leave SLEEP (R248). A link in SLEEP after an abort does not wake. -/
def Device.linkWake (d : Device) (l : Fin 144) : Device :=
  if d.linkState l = linkSleep ∧ (d.lk l).sleepAfterAbort = false then d.startTraining l linkTraining true true else d

/-- The link enters SLEEP (R247); a packet that waits wakes it at once (R251). -/
def Device.linkGoSleep (d : Device) (l : Fin 144) : Device :=
  let d := d.parkLanes l
  let k := d.lk l
  let d := d.setLk l { k with sleepWanted := false, sleepSent := false, sleepRepeat := false, owePm := 0 }
  let d := d.setLinkState l linkSleep
  if k.txq.isEmpty && k.cur.isEmpty then d else d.linkWake l

/-! ### Replay (R237) -/

/-- Start a replay from the oldest held flit; too many in a row without progress retrain the link (R238). -/
def Device.linkReplay (d : Device) (l : Fin 144) : Device :=
  let pg := PageRef.txl l
  let d := d.count pg 5
  let k := d.lk l
  let d := d.setLk l { k with replayAt := if k.retry.isEmpty then none else some 0, oweReplay := true
                              replayRow := k.replayRow + 1 }
  if d.eff pg fTxlLlCfgReplayLimit ≤ k.replayRow + 1 then d.linkRetrainNow l else d

/-- The 64-bit number nearest to `near` with low 12 bits `v` (R235). -/
def extend12 (near : BitVec 64) (v : BitVec 12) : BitVec 64 := near + (v - near.setWidth 12).signExtend 64

/-- Take an ACK_SEQ: free what lies below it. None: outside the range held (R237). -/
def LinkSt.ack (k : LinkSt) (v : BitVec 12) : Option LinkSt :=
  let oldest := match k.retry with
    | h :: _ => h.seq
    | [] => k.txSeq
  let n := (extend12 k.txSeq v - oldest).toNat
  if k.retry.length < n then none
  else if n = 0 then some k
  else some { k with retry := k.retry.drop n, replayRow := 0, retrainRow := 0
                     replayAt := k.replayAt.bind fun i => if k.retry.length ≤ max i n then none else some (i - n) }

/-! ### A packet at a link egress -/

/-- Packets for this link are refused: its shutter or its engine's is not open, or it is disabled, in fault or in SLEEP after
an abort (R183, R198, R245, R284). Responses still pass while a shutter drains. -/
def Device.linkRefuses (d : Device) (l : Fin 144) (p : Packet) : Bool :=
  let st := d.linkState l
  let shut := d.rd (.txl l) fTxlShutterState
  let cshut := d.rd (.cur (curOfLink l)) fCurShutterState
  let worst := if shut = shutterClosed ∨ cshut = shutterClosed then shutterClosed
    else if shut = shutterOpen ∧ cshut = shutterOpen then shutterOpen else shutterClosing
  st == linkDisabled || st == linkFault || (d.lk l).sleepAfterAbort || worst == shutterClosed ||
    (worst == shutterClosing && p.cls != 1)

/-- Queue a packet at a link egress; a sleeping link wakes for it (R248). -/
def Device.linkQueue (d : Device) (l : Fin 144) (rank input : Nat) (p : Packet) : Device :=
  let k := d.lk l
  let outs := if p.cls == 0 || p.cls == 3 then k.outReqs ++ [(p.src, p.tag)] else k.outReqs
  let ins := if p.cls == 1 && p.op.toNat < 0x38 then k.inReqs.erase (p.dst, p.tag) else k.inReqs
  let k := { k with txq := k.txq ++ [⟨k.stamp, rank, input, p⟩], stamp := k.stamp + 1, outReqs := outs, inReqs := ins }
  (d.setLk l k).linkWake l

end Sys2Proof.Machine
end

