-- ==== Sys2Proof/Machine/Mesh.lean ====
section
/-! DEFINITION. The mesh (R177 to R194): where a packet goes, how it enters, what the edges refuse. -/

namespace Sys2Proof.Machine

open Sys2Proof

/-! ### What the edges log (R174, R175) -/

/-- LOG_STATUS.EDGE and INDEX of an edge; for the HOST node, by the TAG of the packet (R175). -/
def edgeCode (e : Edge) (tag : Nat) : Nat × Nat :=
  match e with
  | .bay n => (0, n)
  | .link l => (1, l)
  | .host => (if tag < 0x400 then 3 else 2, 0)
  | .mgmt => (4, 0)
  | .core => (5, 0)

/-- Kinds of header errors (R174, R175). -/
def kHdrBad : Nat := 1
def kMalformed : Nat := 2
def kLooped : Nat := 3
def kStray : Nat := 4

/-- Count a header error and log the first (R174, R175). -/
def Device.headerError (d : Device) (kind : Nat) (edge : Nat × Nat) (p : Packet) : Device :=
  let f := if kind = kHdrBad then cMeshHdrBad else if kind = kMalformed then cMeshMalformed
    else if kind = kLooped then cMeshLooped else cMeshStray
  let d := (d.raise .mesh f).count .mesh (kind - 1)
  if d.flag .mesh fMeshLogStatusValid then d
  else
    let h := headerBits p
    let d := (List.range 4).foldl (fun d w => d.put .mesh fMeshHdrLogHdr (natBits h (32 * w) 32) w) d
    let d := (d.put .mesh fMeshLogStatusKind kind).put .mesh fMeshLogStatusEdge edge.1
    (d.put .mesh fMeshLogStatusIndex edge.2).raise .mesh fMeshLogStatusValid

/-- A posted request is discarded (R169). -/
def Device.postedDrop (d : Device) : Device := (d.raise .mesh cMeshPostedDrop).count .mesh 4

/-- A response or marker is discarded at the entering edge (R183). -/
def Device.rspDrop (d : Device) : Device := (d.raise .mesh cMeshRspDrop).count .mesh 6

/-! ### The flow hash (R184) -/

def edgeNumber : Edge → Nat
  | .bay n => n
  | .link l => 104 + l
  | .mgmt => 248 | .core => 249 | .host => 250

/-- The logical bay a packet for the FABRIC node names (R182). -/
def bayNamed (p : Packet) : Nat := if p.cls == 1 then natBits p.tag.toNat 5 7 else natBits p.laddr.toNat 46 8

/-- The 16 hash bits of a packet. -/
def Device.flowHash (d : Device) (e : Edge) (p : Packet) : Nat :=
  let bay := if p.dst == d.nodeId .fabric && p.dst != 0x3FF then bayNamed p else 0
  let key := edgeNumber e + p.dst.toNat * 2 ^ 8 + p.cls.toNat * 2 ^ 18 + bay * 2 ^ 20
  let k := Nat.xor key (d.eff .mesh fMeshHashSeedSeed)
  k * 0x9E3779B1 % 2 ^ 32 / 2 ^ 16

/-! ### The mesh runs (R138, R453, R459) -/

/-- The mesh has power and clock by the mode. -/
def Device.meshUp (d : Device) : Bool := d.mode != mDormant && d.mode != mDoorway && d.mode != mQuiesced

/-- Packets move: the mesh PLL runs too (R138). -/
def Device.meshRuns (d : Device) : Bool := d.meshUp && d.running 0

/-! ### Routers and detours (R178, R185, R190) -/

/-- Position of port router `m` (R178). -/
def portRouterAt (m : Nat) : Nat × Nat :=
  if m < 12 then (2 + m, 0)
  else if m = 12 then (14, 0)
  else if m < 22 then (15, m - 13)
  else if m = 22 then (15, 9)
  else if m = 23 then (14, 9)
  else if m < 36 then (37 - m, 9)
  else if m = 36 then (1, 9)
  else if m < 47 then (0, 46 - m)
  else (1, 0)

/-- Position of the router at an edge (R178). -/
def Device.routerAt (d : Device) : Edge → Nat × Nat
  | .bay n =>
    if h : n < 104 then
      let pb := (d.physOf ⟨n, h⟩).val
      (pb % 14 + 1, pb / 14 + 1)
    else (0, 0)
  | .link l => portRouterAt (l / 3)
  | .mgmt => portRouterAt 0 | .core => portRouterAt 1 | .host => portRouterAt 30

/-- Key of a router output: 0 east, 1 west, 2 south, 3 north, 4 edge port, 7 the whole router. -/
def outKey (plane x y out : Nat) : Nat := ((plane * 16 + x) * 10 + y) * 8 + out

def Device.detoured (d : Device) (plane x y out : Nat) : Bool := sget (fun _ => false) d.detours (outKey plane x y out)

/-- The output of router (x, y) that leads a packet on: along the row, then along the column, then out (R185). -/
def outTo (x y : Nat) (goal : Nat × Nat) : Nat :=
  if x < goal.1 then 0 else if goal.1 < x then 1 else if y < goal.2 then 2 else if goal.2 < y then 3 else 4

/-- Walk a packet in dimension order from (x, y) to (dx, dy), crossing to the other plane at most once (R185, R189); false:
it cannot be carried. -/
def Device.walk (d : Device) (dx dy : Nat) : Nat → Nat → Nat → Nat → Bool → Bool
  | 0, _, _, _, _ => false
  | fuel + 1, plane, x, y, crossed =>
    let out := outTo x y (dx, dy)
    if d.detoured plane x y out || d.detoured plane x y 7 then
      if crossed then false else d.walk dx dy fuel (1 - plane) x y true
    else
      match out with
      | 0 => d.walk dx dy fuel plane (x + 1) y crossed
      | 1 => d.walk dx dy fuel plane (x - 1) y crossed
      | 2 => d.walk dx dy fuel plane x (y + 1) crossed
      | 3 => d.walk dx dy fuel plane x (y - 1) crossed
      | _ => true

/-- The mesh can carry a packet from where it stands to its edge (R192). -/
def Device.carries (d : Device) (f : Flight) : Bool :=
  if d.detours.isEmpty then true
  else
    let s := match f.here with
      | some (x, y, _) => (x, y)
      | none => d.routerAt f.src
    d.walk f.goal.1 f.goal.2 64 f.plane.toNat s.1 s.2 f.crossed

/-! ### Entering the mesh -/

/-- A packet is lost between the planes: PLANES_LOST, FAULT_HOLD with cause 4 (R192, R460). -/
def Device.planesLost (d : Device) : Device :=
  (d.raise .mesh cMeshPlanesLost).signal (.faultHold 4)

/-- The rank a packet is arbitrated with: PRIO, or 0 when it came over a link of TXL 1.0 or 1.1 (R176, R193). -/
def Device.rankOf (d : Device) (e : Edge) (p : Packet) : Nat :=
  match e with
  | .link l => if d.rd (.txl (Fin.ofNat 144 l)) fTxlLinkStatusVersion < 3 then 0 else p.prio.toNat
  | _ => p.prio.toNat

/-- The entry of a packet into the mesh at an edge, on the plane of its flow. -/
def Device.flightOf (d : Device) (e : Edge) (ini : Nat) (dst : Edge) (p : Packet) : Flight :=
  { id := d.meshTime, src := e, ini := ini, dst := dst, plane := (d.flowHash e p).testBit 0, crossed := false, here := none
    behind := none, goal := d.routerAt dst, since := d.meshTime, rank := d.rankOf e p, buffered := false, pkt := p }

/-- Put a packet into the mesh; one that cannot be carried is lost (R192). -/
def Device.launch (d : Device) (e : Edge) (ini : Nat) (dst : Edge) (p : Packet) : Device :=
  let f := d.flightOf e ini dst p
  let d := { d with meshTime := d.meshTime + 1 }
  if d.carries f then { d with mesh := d.mesh ++ [f] } else d.planesLost

/-- Where a packet goes (R182). -/
inductive Where where
  | edge (e : Edge)
  /-- FABRIC node, but no such logical bay. -/
  | noBay
  /-- Node 0x3FF. -/
  | unassigned
  /-- Another node: a link. -/
  | away
  deriving DecidableEq, Repr

/-- R150, R182. -/
def Device.whereTo (d : Device) (p : Packet) : Where :=
  if p.dst == 0x3FF then .unassigned
  else if p.dst == d.nodeId .mgmt then .edge .mgmt
  else if p.dst == d.nodeId .core then .edge .core
  else if p.dst == d.nodeId .host then .edge .host
  else if p.dst == d.nodeId .fabric then
    if bayNamed p < 104 then .edge (.bay (bayNamed p)) else .noBay
  else .away

/-- What a route-table entry reads as when it is not listed: VALID = 0, COUNT = 1 (R202). -/
def routeDflt : Nat → Word := fun _ => 0x00001000

/-- The link the route table gives a packet (R183, R184); none: VALID = 0. -/
def Device.routeLink (d : Device) (e : Edge) (p : Packet) : Option (Fin 144) :=
  let w := sget routeDflt d.routeCommitted p.dst.toNat
  if w.getLsbD 31 then
    let h := d.flowHash e p
    some (Fin.ofNat 144 (bitsOf w 0 8 + h / 2 % (bitsOf w 12 4)))
  else none

/-- The port router of a link (R178). -/
def portrOf (l : Fin 144) : Fin 48 := ⟨l.val / 3, by omega⟩

/-- A port router refuses a packet (R183, R202). -/
def Device.egressRefused (d : Device) (l : Fin 144) : Device :=
  (d.raise (.portr (portrOf l)) cPortrEgressRefused).count (.portr (portrOf l)) 0

/-- A class 1 packet enters at an edge: to an edge of this device, to a link, or discarded (R182, R183). -/
def Device.injectRsp (d : Device) (e : Edge) (ini : Nat) (p : Packet) : Device :=
  match d.whereTo p with
  | .edge t => d.launch e ini t p
  | .noBay => d.headerError kStray (edgeCode e p.tag.toNat) p
  | .unassigned => d.rspDrop
  | .away =>
    match d.routeLink e p with
    | none => d.rspDrop
    | some l => if d.linkRefuses l p then (d.egressRefused l).rspDrop else d.launch e ini (.link l.val) p

/-- An RSP to a request (R167). -/
def rspTo (req : Packet) (status : Nat) : Packet :=
  sealHeader { dst := req.src, src := req.dst, cls := 1, op := 0x30, len := 0, tag := req.tag
               laddr := BitVec.ofNat 54 status, ord := req.ord, prio := req.prio, ch := false, v := true, lock := false
               rsv := 0, hcrc := 0, payload := [], flits := 1 }

/-- An RSP_DATA to a request (R167). -/
def rspDataTo (req : Packet) (data : List Byte) (v : Bool) : Packet :=
  sealHeader { rspTo req 0 with op := 0x31, len := BitVec.ofNat 8 (data.length - 1), payload := data, v := v
                                flits := flitCount data.length }

/-- Response codes (R167). -/
def stOk : Nat := 0
def stSlave : Nat := 1
def stDecode : Nat := 2
def stTimeout : Nat := 3
def stFenced : Nat := 4
def stPoison : Nat := 5
def stCrypto : Nat := 6

/-- The initiator number that answers made at an edge carry: a flow of their own. -/
def iniAnswer : Nat := 999

/-- Answer a request at the edge where it entered: back over the link it came from, or to the initiator behind the edge. -/
def Device.answerAt (d : Device) (e : Edge) (req : Packet) (status : Nat) : Device :=
  match e with
  | .link _ => d.injectRsp e iniAnswer (rspTo req status)
  | _ => d.launch e iniAnswer e (rspTo req status)

/-- Turn a packet away: a non-posted request is answered, a posted one discarded and counted (R169, R183). -/
def Device.turnAway (d : Device) (e : Edge) (p : Packet) (status : Nat) : Device :=
  if p.cls == 2 then d.postedDrop else d.answerAt e p status

/-- A request's bytes LADDR to LADDR + LENGTH cross a 4 KiB boundary (R161); the bytes are those of both operands of a compare and
swap, and of a message, as the rule is written (DEDUCED, entry 77). -/
def crosses4K (p : Packet) : Bool := decide (4096 < p.laddr.toNat % 4096 + p.len.toNat + 1)

/-! ### Entering at an edge (R150, R182, R183, R186) -/

/-- A COMMIT that waits to take effect changes the hash seed or a valid route: injections of the MGMT and CORE nodes are held for it
(R186). -/
def Device.commitHolds (d : Device) : Bool :=
  d.flag .mesh hdrCommitBusy &&
    (bitsOf (sget regReset d.copied (fldKey .mesh fMeshHashSeedSeed 0)) 0 28 != d.eff .mesh fMeshHashSeedSeed ||
      d.routeCommitted.any fun e => e.2.getLsbD 31 && sget routeDflt d.routeCopied e.1 != e.2)

/-- A request or posted packet enters: to an edge of this device, to a link, or turned away. -/
def Device.injectReq (d : Device) (e : Edge) (ini : Nat) (p : Packet) : Device :=
  match d.whereTo p with
  | .edge t => d.launch e ini t p
  | .noBay => d.turnAway e p stDecode
  | .unassigned => d.turnAway e p stDecode
  | .away =>
    match d.routeLink e p with
    | none => d.turnAway e p stDecode
    | some l => if d.linkRefuses l p then (d.egressRefused l).turnAway e p stFenced else d.launch e ini (.link l.val) p

/-- A packet enters the mesh at an edge. -/
def Device.inject (d : Device) (e : Edge) (ini : Nat) (p : Packet) : Device :=
  if (e == .mgmt || e == .core) && d.commitHolds then { d with meshHeld := d.meshHeld ++ [(e, ini, p)] }
  else if p.cls == 1 then d.injectRsp e ini p
  else d.injectReq e ini p

/-- What a COMMIT of the MESH page has held back enters (R186). -/
def Device.meshRelease (d : Device) : Device :=
  d.meshHeld.foldl (fun (d : Device) (h : Edge × Nat × Packet) => d.inject h.1 h.2.1 h.2.2) { d with meshHeld := [] }

/-- The lines of R193's key for a request outstanding here. -/
def reqKey (n : NodeKind) (tag : Nat) : Nat :=
  (match n with
    | .fabric => 0 | .mgmt => 1 | .core => 2 | .host => 3) * 4096 + tag

def Device.req (d : Device) (n : NodeKind) (tag : Nat) : Option Req := sget (fun _ => none) d.reqs (reqKey n tag)

def Device.setReq (d : Device) (n : NodeKind) (tag : Nat) (r : Option Req) : Device :=
  { d with reqs := sset (fun _ => none) d.reqs (reqKey n tag) r }

/-- The first tag of a range that R164 lets its owner use. -/
def Device.freeTag (d : Device) (n : NodeKind) (lo cnt : Nat) : Option Nat :=
  ((List.range cnt).map (lo + ·)).find? fun t => (d.req n t).isNone

end Sys2Proof.Machine
end

