-- ==== Sys2Proof/Machine/Curtain.lean ====
section
/-! DEFINITION. The curtain's engines (R254 to R284): keys, windows, the ciphers of both modes, the caches of counters and tags, lines
sealed and opened, and the requests an engine makes itself. -/

namespace Sys2Proof.Machine

open Sys2Proof

/-- The page of the engine that serves link `n`. -/
def curPage (n : Fin 144) : PageRef := .cur (curOfLink n)

/-! ### Keys (R276) -/

/-- The key in a slot of an engine; an empty slot gives a free value (entry 8). -/
def Device.slotKey (d : Device) (n : Fin 144) (slot : Bool) : BitVec 256 :=
  let c := d.cur n
  (if slot then c.key1 else c.key0).getD (Config.emptyKey (2 * n.val + slot.toNat))

def Device.curCurrent (d : Device) (n : Fin 144) : Bool := d.flag (curPage n) fCurCurStatusCurrent

def CurSt.slotLoaded (c : CurSt) (slot : Bool) : Bool := if slot then c.key1.isSome else c.key0.isSome

/-! ### Windows (R258) -/

/-- A window in force. -/
structure Window where
  node : BitVec 10
  base : Nat
  pages : Nat
  ctr : Nat
  tag : Nat
  deriving DecidableEq, Repr

/-- Window `w` of an engine, when it is valid: VALID, and a size of 1 to 2^28 pages (R258, R284). -/
def Device.window (d : Device) (n : Fin 144) (w : Nat) : Option Window :=
  let pg := curPage n
  let pages := d.eff pg fCurWinPagesPages w
  if d.eff pg fCurWinCtrlValid w = 1 ∧ 1 ≤ pages ∧ pages ≤ 2 ^ 28 then
    some { node := BitVec.ofNat 10 (d.eff pg fCurWinCtrlNode w)
           base := d.eff pg fCurWinBaseLoBase w * 2 ^ 12 + d.eff pg fCurWinBaseHiBase w * 2 ^ 32
           pages := pages
           ctr := d.eff pg fCurWinCtrLoCtr w * 2 ^ 6 + d.eff pg fCurWinCtrHiCtr w * 2 ^ 32
           tag := d.eff pg fCurWinTagLoTag w * 2 ^ 6 + d.eff pg fCurWinTagHiTag w * 2 ^ 32 }
  else none

/-- The window a request lies in: DST is its node, and all its bytes lie in it (R261). -/
def Device.windowOf (d : Device) (n : Fin 144) (p : Packet) : Option (Nat × Window) :=
  (List.range 4).findSome? fun w =>
    match d.window n w with
    | some v =>
      let a := p.laddr.toNat
      if p.dst = v.node ∧ v.base ≤ a ∧ a + p.len.toNat < v.base + v.pages * 4096 then some (w, v) else none
    | none => none

/-- The number of the PF1 window initiator among those behind the HOST node (R384); channel c has number c. -/
def iniWindow : Nat := 64

/-- A raw PF1 window access (R261, R279, R384): by its tag, or, for a posted one, which has TAG 0, by its initiator. -/
def Device.isRaw (d : Device) (e : Edge) (ini : Nat) (p : Packet) : Bool :=
  p.src == d.nodeId .host && p.src != 0x3FF && (decide (0x400 ≤ p.tag.toNat) || p.cls == 2 && e == .host && ini == iniWindow)

/-- The response to a raw window access. -/
def Device.isRawRsp (d : Device) (p : Packet) : Bool :=
  p.dst == d.nodeId .host && p.dst != 0x3FF && decide (0x400 ≤ p.tag.toNat)

/-! ### The cipher (R256, R257) -/

/-- A memory counter block. -/
def memBlock (domain w line major minor b : Nat) : BitVec 128 :=
  BitVec.ofNat 128 (domain * 2 ^ 123 + w * 2 ^ 121 + line % 2 ^ 48 * 2 ^ 73 + major * 2 ^ 9 + minor * 2 ^ 2 + b)

/-- 64 bytes XORed with the keystream of four counter blocks. -/
def xorKeystream (key : BitVec 256) (block : Nat → BitVec 128) (data : List Nat) : List Nat :=
  xorBytes data ((List.range 4).flatMap fun b => bytesBE 16 (aesEnc key (block b)).toNat)

/-- Encrypt or decrypt a line of a window. -/
def lineCrypt (key : BitVec 256) (w line major minor : Nat) (data : List Nat) : List Nat :=
  xorKeystream key (memBlock 0 w line major minor) data

/-- The tag of a line: GHASH over the four ciphertext blocks, masked, first 8 bytes. That the input blocks are the line's
ciphertext is DEDUCED, entry 9. -/
def lineTag (key : BitVec 256) (w line major minor : Nat) (cipher : List Nat) : List Nat :=
  let h := (aesEnc key (BitVec.ofNat 128 (2 * 2 ^ 123))).toNat
  let s := ghash h (blocksOf cipher)
  (bytesBE 16 (Nat.xor s (aesEnc key (memBlock 1 w line major minor 0)).toNat)).take 8

/-- A link-mode block (R256). -/
def linkBlock (domain : Nat) (node : BitVec 10) (b : Nat) (seq : BitVec 64) : BitVec 128 :=
  BitVec.ofNat 128 (domain * 2 ^ 123 + node.toNat * 2 ^ 66 + b * 2 ^ 64 + seq.toNat)

/-- A flit body in bytes. -/
def bodyBytes (body : BitVec 512) : List Nat := (bytesLE 64 body.toNat).map (·.toNat)

/-- The number that bytes spell, least significant first. -/
def natLEn (bs : List Nat) : Nat := bs.foldr (fun b s => s * 256 + b) 0

/-- Encrypt or decrypt a packet flit's body (R272). -/
def flitCrypt (key : BitVec 256) (node : BitVec 10) (seq : BitVec 64) (body : BitVec 512) : BitVec 512 :=
  BitVec.ofNat 512 (natLEn (xorKeystream key (fun b => linkBlock 16 node b seq) (bodyBytes body)))

/-- The 16-byte tag over covered flits, as they are on the wire (R257, R273; ciphertext DEDUCED, entry 9). -/
def coverTag (key : BitVec 256) (node : BitVec 10) (cover : List (BitVec 64 × BitVec 512)) : List Nat :=
  let h := (aesEnc key (BitVec.ofNat 128 (18 * 2 ^ 123))).toNat
  let first := ((cover.map (·.1)).head?).getD 0
  let s := ghash h ((cover.flatMap fun c => blocksOf (bodyBytes c.2)) ++ [cover.length])
  bytesBE 16 (Nat.xor s (aesEnc key (linkBlock 17 node 0 first)).toNat)

/-! ### Caches (R258, R271) -/

def ctrKey (w page : Nat) : Nat := w * 2 ^ 28 + page
def tagKey (w tline : Nat) : Nat := w * 2 ^ 31 + tline

/-- A counter block from its 64 bytes (R258). -/
def ctrOfBytes (bs : List Nat) : CtrBlock :=
  let m := natLEn (bs.drop 8)
  { major := BitVec.ofNat 64 (natLEn (bs.take 8))
    minors := (List.range 64).map fun i => BitVec.ofNat 7 (m / 2 ^ (7 * i)), dirty := false, saving := false, leaving := false }

/-- The 64 bytes of a counter block. -/
def CtrBlock.bytes (c : CtrBlock) : List Nat :=
  let m := c.minors.foldr (fun x s => s * 2 ^ 7 + x.toNat) 0
  (bytesLE 8 c.major.toNat ++ bytesLE 56 m).map (·.toNat)

def CtrBlock.minor (c : CtrBlock) (i : Nat) : Nat := ((c.minors[i]?).getD 0).toNat

/-- The minor count of a poisoned line. -/
def poisoned : Nat := 127

/-- Line number within the window's space: local address div 64. The page of a line, its minor counter and its tag's place. -/
def Window.pageOfLine (v : Window) (line : Nat) : Nat := (line * 64 - v.base) / 4096
def Window.minorIx (v : Window) (line : Nat) : Nat := (line * 64 - v.base) % 4096 / 64
def Window.tagLineOf (v : Window) (line : Nat) : Nat := (line * 64 - v.base) / 512
def Window.tagIx (v : Window) (line : Nat) : Nat := (line * 64 - v.base) % 512 / 64

def CurSt.ctr (c : CurSt) (w page : Nat) : Option CtrBlock := sget (fun _ => none) c.ctrs (ctrKey w page)
def CurSt.tagLine (c : CurSt) (w t : Nat) : Option TagLine := sget (fun _ => none) c.tags (tagKey w t)
def CurSt.setCtr (c : CurSt) (w page : Nat) (b : CtrBlock) : CurSt :=
  { c with ctrs := sset (fun _ => none) c.ctrs (ctrKey w page) (some b) }
def CurSt.setTagLine (c : CurSt) (w t : Nat) (b : TagLine) : CurSt :=
  { c with tags := sset (fun _ => none) c.tags (tagKey w t) (some b) }

/-- A number as a key slot's choice for a page: pages a sweep has passed use the other slot (R277). -/
def Device.pageSlot (d : Device) (n : Fin 144) (w page : Nat) : Bool :=
  let pg := curPage n
  let cur := d.curCurrent n
  if d.curMode n = 1 ∧ d.flag pg fCurCurStatusRollBusy = true ∧
      ((d.cur n).swept = true ∨ w < d.rd pg fCurSweepPtrWindow ∨
        (w = d.rd pg fCurSweepPtrWindow ∧ page < d.rd pg fCurSweepPtrPage)) then !cur
  else cur

/-! ### Lines (R264, R265, R267) -/

/-- FAIL_LOG0 to FAIL_LOG2 take the first failure (R284). -/
def Device.curLog (d : Device) (n : Fin 144) (kind w line : Nat) : Device :=
  let pg := curPage n
  if d.flag pg fCurFailLog0Valid then d
  else
    let d := ((d.raise pg fCurFailLog0Valid).put pg fCurFailLog0Kind kind).put pg fCurFailLog0Window w
    if kind = 4 then (d.put pg fCurFailLog1WhereLo (line % 2 ^ 32)).put pg fCurFailLog2WhereHi (line / 2 ^ 32)
    else (d.put pg fCurFailLog1WhereLo (line * 64 % 2 ^ 32)).put pg fCurFailLog2WhereHi (line * 64 / 2 ^ 32)

/-- The tag of a line as cached. -/
def CurSt.tagOf (c : CurSt) (w : Nat) (v : Window) (line : Nat) : Option (List Nat) :=
  (c.tagLine w (v.tagLineOf line)).map fun t => (t.bytes.drop (8 * v.tagIx line)).take 8

/-- Store the tag of a line in its cached tag line. -/
def CurSt.putTag (c : CurSt) (w : Nat) (v : Window) (line : Nat) (tag : List Nat) : CurSt :=
  let t := (c.tagLine w (v.tagLineOf line)).getD
    { bytes := List.replicate 64 0, dirty := true, saving := false, leaving := false }
  let i := 8 * v.tagIx line
  c.setTagLine w (v.tagLineOf line) { t with bytes := t.bytes.take i ++ tag ++ t.bytes.drop (i + 8), dirty := true }

/-- Encrypt a line under a given counter and keep counter and tag; the ciphertext is the answer (R264). -/
def Device.curSeal (d : Device) (n : Fin 144) (slot : Bool) (w : Nat) (v : Window) (line minor : Nat) (data : List Nat) :
    List Nat × Device :=
  let c := d.cur n
  match c.ctr w (v.pageOfLine line) with
  | none => (data, d)
  | some b =>
    let key := d.slotKey n slot
    let cipher := lineCrypt key w line b.major.toNat minor data
    let tag := lineTag key w line b.major.toNat minor cipher
    let b := { b with minors := b.minors.set (v.minorIx line) (BitVec.ofNat 7 minor), dirty := true }
    (cipher, d.setCur n ((c.setCtr w (v.pageOfLine line) b).putTag w v line tag))

/-- Decrypt a line; the second part says whether its tag verifies. -/
def Device.curOpen (d : Device) (n : Fin 144) (w : Nat) (v : Window) (line : Nat) (cipher : List Nat) : List Nat × Bool :=
  let c := d.cur n
  match c.ctr w (v.pageOfLine line), c.tagOf w v line with
  | some b, some t =>
    let key := d.slotKey n (d.pageSlot n w (v.pageOfLine line))
    let minor := b.minor (v.minorIx line)
    (lineCrypt key w line b.major.toNat minor cipher, lineTag key w line b.major.toNat minor cipher == t)
  | _, _ => (cipher, false)

def Device.isPoisoned (d : Device) (n : Fin 144) (w : Nat) (v : Window) (line : Nat) : Bool :=
  match (d.cur n).ctr w (v.pageOfLine line) with
  | some b => b.minor (v.minorIx line) == poisoned
  | none => false

/-- An access met a poisoned line. -/
def Device.poisonHit (d : Device) (n : Fin 144) : Device := (d.raise (curPage n) cCurPoisonHit).count (curPage n) 2

/-- The lines of a packet: first line and their number. -/
def linesOf (laddr len : Nat) : Nat × Nat := (laddr / 64, (laddr + len) / 64 - laddr / 64 + 1)

def lineList (first n : Nat) : List Nat := (List.range n).map (first + ·)

/-- Payload as numbers. -/
def payloadNat (p : Packet) : List Nat := p.payload.map (·.toNat)

/-- Encrypt the payload of a whole-line write line by line and count each line's counter up (R264). -/
def Device.sealLines (d : Device) (n : Fin 144) (w : Nat) (v : Window) (first : Nat) (data : List Nat) : List Nat × Device :=
  (pieces 64 (data.length / 64) data).foldl (fun (acc : (List Nat × Nat) × Device) piece =>
    let line := first + acc.1.2
    let minor := match (acc.2.cur n).ctr w (v.pageOfLine line) with
      | some b => b.minor (v.minorIx line)
      | none => 0
    let r := acc.2.curSeal n (acc.2.pageSlot n w (v.pageOfLine line)) w v line (minor + 1) piece
    ((acc.1.1 ++ r.1, acc.1.2 + 1), r.2)) (([], 0), d) |> fun r => (r.1.1, r.2)

/-! ### The engine's own requests (R262) -/

/-- A request of the engine's own, its TAG still open. -/
def Device.ownPacket (d : Device) (node : BitVec 10) (op laddr len : Nat) (data : List Nat) : Packet :=
  { dst := node, src := d.nodeId .mgmt, cls := 0, op := BitVec.ofNat 6 op, len := BitVec.ofNat 8 len, tag := 0
    laddr := BitVec.ofNat 54 laddr, ord := false, prio := 0, ch := false, v := true, lock := false, rsv := 0, hcrc := 0
    payload := data.map (BitVec.ofNat 8 ·), flits := flitCount data.length }

/-- Put a request of the engine into its queue. -/
def Device.curOwn (d : Device) (n : Fin 144) (job : CurJob) (p : Packet) : Device :=
  let c := d.cur n
  d.setCur n { c with issueq := c.issueq ++ [(job, p)] }

/-- The write-back of a cached block has ended: acknowledged, it is clean, unless it was written again meanwhile, and leaves the cache
if it was to; otherwise it stays dirty (R271). -/
def CurSt.ctrSaved (c : CurSt) (key : Nat) (ok : Bool) : CurSt :=
  match sget (fun _ => none) c.ctrs key with
  | none => c
  | some b =>
    { c with ctrs := sset (fun _ => none) c.ctrs key
               (if ok && b.leaving && !b.dirty then none
                else some { b with saving := false, leaving := false, dirty := b.dirty || !ok }) }

@[inherit_doc CurSt.ctrSaved] def CurSt.tagSaved (c : CurSt) (key : Nat) (ok : Bool) : CurSt :=
  match sget (fun _ => none) c.tags key with
  | none => c
  | some b =>
    { c with tags := sset (fun _ => none) c.tags key
               (if ok && b.leaving && !b.dirty then none
                else some { b with saving := false, leaving := false, dirty := b.dirty || !ok }) }

/-- One line of a partial write has been read, or written. -/
def CurSt.rmwAnswer (c : CurSt) (status : Nat) (got : List (Nat × List Nat)) : CurSt :=
  match c.rmw with
  | some r => { c with rmw := some { r with left := r.left - 1, status := if r.status = 0 then status else r.status
                                            got := r.got ++ got } }
  | none => c

/-- One line of a page re-encryption has been read: its bytes, none after an error. -/
def CurSt.reencGot (c : CurSt) (line : Nat) (data : Option (List Nat)) : CurSt :=
  match c.reenc with
  | some r => { c with reenc := some { r with left := r.left.erase line, got := r.got ++ [(line, data)] } }
  | none => c

/-- One line of a page re-encryption has been written. While the shutter is closed one that was not is kept, and written when the
shutter opens (R271, R283). -/
def CurSt.reencPut (c : CurSt) (line : Nat) (keep : Bool) : CurSt :=
  match c.reenc with
  | some r =>
    { c with reenc := some { r with left := r.left.erase line
                                    writes := if keep then r.writes else r.writes.filter fun e => e.1 != line } }
  | none => c

/-- Take the end of one of the engine's own requests: a fetched block waits for CACHE_FETCH_DONE. -/
def Device.curOwnDone (d : Device) (n : Fin 144) (job : CurJob) (status : Nat) (data : List Nat) : Device :=
  let c := d.cur n
  let ok := status == 0
  let open_ := d.rd (curPage n) fCurShutterState == shutterOpen
  match job with
  | .counter _ _ => d.setCur n { c with fetched := c.fetched ++ [(job, if ok then some data else none)] }
  | .tags _ _ => d.setCur n { c with fetched := c.fetched ++ [(job, if ok then some data else none)] }
  | .saveCtr key => d.setCur n (c.ctrSaved key ok)
  | .saveTag key => d.setCur n (c.tagSaved key ok)
  | .rmwRead line => d.setCur n (c.rmwAnswer status [(line, data)])
  | .rmwWrite => d.setCur n (c.rmwAnswer status [])
  | .reencRead line => d.setCur n (c.reencGot line (if ok then some data else none))
  | .reencWrite line => d.setCur n (c.reencPut line (!ok && !open_))

/-- The engine's own traffic finds the link refusing: it is disabled, in fault, in SLEEP after an abort, or its shutter is CLOSED. -/
def Device.curCut (d : Device) (n : Fin 144) : Bool :=
  let st := d.linkState n
  st == linkDisabled || st == linkFault || (d.lk n).sleepAfterAbort || d.rd (.txl n) fTxlShutterState == shutterClosed

/-- Issue queued requests of the engine while tags are free; with NODE_MGMT unassigned, or a link that refuses them, each ends at once
(R151, R183). A stopped engine, and one behind a CLOSED shutter, issues none (R281, R284). -/
def Device.curIssue (d : Device) (n : Fin 144) : Nat → Device
  | 0 => d
  | fuel + 1 =>
    let c := d.cur n
    match c.issueq with
    | [] => d
    | (job, p) :: rest =>
      if c.stopped || d.rd (curPage n) fCurShutterState == shutterClosed then d
      else if d.nodeId .mgmt == 0x3FF then
        ((d.setCur n { c with issueq := rest }).curOwnDone n job stDecode []).curIssue n fuel
      else if d.curCut n then ((d.setCur n { c with issueq := rest }).curOwnDone n job stFenced []).curIssue n fuel
      else
        match d.freeTag .mgmt (0x400 + 16 * n.val) 16 with
        | none => d
        | some t =>
          let p := sealHeader { p with tag := BitVec.ofNat 12 t, src := d.nodeId .mgmt }
          let d := d.setCur n { c with issueq := rest }
          let d := d.setReq .mgmt t (some { dst := p.dst, op := p.op, laddr := p.laddr, len := p.len, phase := .active
                                            cont := .curtain n.val job })
          (d.linkQueue n 0 9 p).curIssue n fuel

/-- Read the counter block or tag line that is missing (R263). -/
def Device.curFetch (d : Device) (n : Fin 144) (v : Window) (job : CurJob) : Device :=
  let c := d.cur n
  if c.fetching.contains job then d
  else
    let d := d.setCur n { c with fetching := c.fetching ++ [job] }
    match job with
    | .counter _ page => (d.count (curPage n) 4).curOwn n job (d.ownPacket v.node 0x00 (v.ctr + 64 * page) 63 [])
    | .tags _ t => (d.count (curPage n) 5).curOwn n job (d.ownPacket v.node 0x00 (v.tag + 64 * t) 63 [])
    | _ => d

/-- Fetch whatever a run of lines lacks; the answer says whether all of it is present. -/
def Device.curNeed (d : Device) (n : Fin 144) (w : Nat) (v : Window) (lines : List Nat) : Bool × Device :=
  lines.foldl (fun (acc : Bool × Device) line =>
    let c := acc.2.cur n
    let hasC := (c.ctr w (v.pageOfLine line)).isSome
    let hasT := (c.tagLine w (v.tagLineOf line)).isSome
    let d := if hasC then acc.2 else acc.2.curFetch n v (.counter w (v.pageOfLine line))
    let d := if hasT then d else d.curFetch n v (.tags w (v.tagLineOf line))
    (acc.1 && hasC && hasT, d)) (true, d)

/-- Write a dirty counter block back to the partner (R271). -/
def Device.saveCtr (d : Device) (n : Fin 144) (key : Nat) (leaving : Bool) : Device :=
  match sget (fun _ => none) (d.cur n).ctrs key, d.window n (key / 2 ^ 28) with
  | some b, some v =>
    let d := d.curOwn n (.saveCtr key) (d.ownPacket v.node 0x01 (v.ctr + 64 * (key % 2 ^ 28)) 63 b.bytes)
    d.setCur n { d.cur n with ctrs := sset (fun _ => none) (d.cur n).ctrs key
                                        (some { b with dirty := false, saving := true, leaving := leaving }) }
  | _, _ => d

/-- Write a dirty tag line back. -/
def Device.saveTag (d : Device) (n : Fin 144) (key : Nat) (leaving : Bool) : Device :=
  match sget (fun _ => none) (d.cur n).tags key, d.window n (key / 2 ^ 31) with
  | some b, some v =>
    let d := d.curOwn n (.saveTag key) (d.ownPacket v.node 0x01 (v.tag + 64 * (key % 2 ^ 31)) 63 b.bytes)
    d.setCur n { d.cur n with tags := sset (fun _ => none) (d.cur n).tags key
                                        (some { b with dirty := false, saving := true, leaving := leaving }) }
  | _, _ => d

/-- Dirty, and its write-back not under way. -/
def ctrDue (e : Nat × Option CtrBlock) : Bool := match e.2 with
  | some b => b.dirty && !b.saving
  | none => false

@[inherit_doc ctrDue] def tagDue (e : Nat × Option TagLine) : Bool := match e.2 with
  | some b => b.dirty && !b.saving
  | none => false

/-- Write every dirty entry back, as before the shutter closes (R271). -/
def Device.curFlush (d : Device) (n : Fin 144) : Device :=
  let d := ((d.cur n).ctrs.filter ctrDue).foldl (fun (d : Device) (e : Nat × Option CtrBlock) => d.saveCtr n e.1 false) d
  let d := ((d.cur n).tags.filter tagDue).foldl (fun (d : Device) (e : Nat × Option TagLine) => d.saveTag n e.1 false) d
  d.curIssue n 16

/-- Every entry is as the partner holds it, and nothing of the engine's own waits (R271). -/
def Device.curClean (d : Device) (n : Fin 144) : Bool :=
  let c := d.cur n
  c.ctrs.all (fun e => match e.2 with | some b => !b.dirty && !b.saving | none => true) &&
    c.tags.all (fun e => match e.2 with | some b => !b.dirty && !b.saving | none => true) && c.issueq.isEmpty

/-- Lines that an access under way works on: a read, a partial write, a page under re-encryption. -/
def CurSt.usesLine (c : CurSt) (w : Nat) (test : Nat → Bool) (v : Window) : Bool :=
  (c.reads.any fun r => r.window == w && (List.range r.lines).any fun i => test (r.line + i)) ||
    (match c.rmw with
      | some r => r.window == w && (List.range r.lines).any fun i => test (r.line + i)
      | none => false) ||
    match c.reenc with
    | some r => r.window == w && (List.range 64).any fun i => test (v.base / 64 + r.page * 64 + i)
    | none => false

def Device.ctrInUse (d : Device) (n : Fin 144) (key : Nat) : Bool :=
  match d.window n (key / 2 ^ 28) with
  | some v => (d.cur n).usesLine (key / 2 ^ 28) (fun x => v.pageOfLine x == key % 2 ^ 28) v
  | none => false

def Device.tagInUse (d : Device) (n : Fin 144) (key : Nat) : Bool :=
  match d.window n (key / 2 ^ 31) with
  | some v => (d.cur n).usesLine (key / 2 ^ 31) (fun x => v.tagLineOf x == key % 2 ^ 31) v
  | none => false

/-- Make room in a full counter cache: an entry that no access under way needs leaves, once it is written back if it is dirty (R271).
Which one leaves the manual does not say: a free value. -/
def Device.ctrEvict (d : Device) (n : Fin 144) : Device :=
  let staying := (d.cur n).ctrs.filter fun (e : Nat × Option CtrBlock) => match e.2 with
    | some b => !b.leaving
    | none => false
  if staying.length ≤ 512 then d
  else
    let cand := staying.filter fun e => !d.ctrInUse n e.1
    let d := { d with free := d.free + 1 }
    match cand[(Config.freeWord d.free).toNat % cand.length]? with
    | some (k, some b) =>
      if b.dirty && !b.saving then d.saveCtr n k true
      else if b.saving then d.setCur n { d.cur n with ctrs := sset (fun _ => none) (d.cur n).ctrs k (some { b with leaving := true }) }
      else d.setCur n { d.cur n with ctrs := sset (fun _ => none) (d.cur n).ctrs k none }
    | _ => d

/-- The same in the tag cache. -/
def Device.tagEvict (d : Device) (n : Fin 144) : Device :=
  let staying := (d.cur n).tags.filter fun (e : Nat × Option TagLine) => match e.2 with
    | some b => !b.leaving
    | none => false
  if staying.length ≤ 2048 then d
  else
    let cand := staying.filter fun e => !d.tagInUse n e.1
    let d := { d with free := d.free + 1 }
    match cand[(Config.freeWord d.free).toNat % cand.length]? with
    | some (k, some b) =>
      if b.dirty && !b.saving then d.saveTag n k true
      else if b.saving then d.setCur n { d.cur n with tags := sset (fun _ => none) (d.cur n).tags k (some { b with leaving := true }) }
      else d.setCur n { d.cur n with tags := sset (fun _ => none) (d.cur n).tags k none }
    | _ => d

def Device.curEvict (d : Device) (n : Fin 144) : Device := (d.ctrEvict n).tagEvict n

/-! ### Poison and quarantine (R265, R267) -/

/-- Mark a line poisoned in its counter block, or remember to when the block is not in the cache. -/
def Device.curPoison (d : Device) (n : Fin 144) (w : Nat) (v : Window) (line : Nat) : Device :=
  let c := d.cur n
  match c.ctr w (v.pageOfLine line) with
  | some b => d.setCur n (c.setCtr w (v.pageOfLine line) { b with minors := b.minors.set (v.minorIx line) 127, dirty := true })
  | none => (d.setCur n { c with poisonq := c.poisonq ++ [(w, line)] }).curFetch n v (.counter w (v.pageOfLine line))

/-- A line that fails verification on a read: quarantined, or poisoned when the table is full (R267). -/
def Device.curReadFail (d : Device) (n : Fin 144) (w line : Nat) : Device :=
  let pg := curPage n
  let d := ((d.raise pg cCurReadFail).count pg 0).curLog n 1 w line
  let c := d.cur n
  if c.quar.any (fun e => e.2 == some (w, line)) then d
  else
    match (List.range 32).find? fun i => (sget (fun _ => none) c.quar i).isNone with
    | some i => d.setCur n { c with quar := sset (fun _ => none) c.quar i (some (w, line)) }
    | none =>
      let d := d.raise pg cCurQuarFull
      match d.window n w with
      | some v => d.curPoison n w v line
      | none => d

end Sys2Proof.Machine
end

