-- ==== Sys2Proof/Machine/CurtainAccess.lean ====
section
/-! DEFINITION. What an engine does with the traffic of its link in memory mode (R260 to R267): requests into a window, page
re-encryption and sweeps, responses, partial writes, initialisation, key rotation (R277, R278). -/

namespace Sys2Proof.Machine

open Sys2Proof

/-! ### What an access has to wait for (R262) -/

/-- Two runs of lines share a line. -/
def linesMeet (first lines first' lines' : Nat) : Bool := decide (first < first' + lines' ∧ first' < first + lines)

/-- An earlier access to one of these lines has not completed at the partner: a read or a write awaits its response, a posted write
the partner's acknowledgement of its last flit (DEDUCED, entry 81). -/
def Device.linesOut (d : Device) (n : Fin 144) (w first lines : Nat) : Bool :=
  ((d.cur n).reads.any fun r => r.window == w && linesMeet first lines r.line r.lines) ||
    (d.lk n).posts.any fun r => r.window == w && linesMeet first lines r.line r.lines

/-- A page re-encryption must wait for an access to the page. -/
def Device.pageInUse (d : Device) (n : Fin 144) (w : Nat) (v : Window) (page : Nat) : Bool :=
  d.linesOut n w (v.base / 64 + page * 64) 64

/-- The page at the pointer of a sweep under way (R277). -/
def Device.atSweep (d : Device) (n : Fin 144) (w page : Nat) : Bool :=
  let pg := curPage n
  d.curMode n == 1 && d.flag pg fCurCurStatusRollBusy && !(d.cur n).swept && d.rd pg fCurSweepPtrWindow == w &&
    d.rd pg fCurSweepPtrPage == page

/-- The engine tracks 256 window requests. -/
def Device.curFull (d : Device) (n : Fin 144) : Bool :=
  decide (256 ≤ (d.cur n).reads.length + (d.lk n).posts.length)

/-- An access to these lines must wait for something under way: an earlier access to one of them, whoever made it, and for a
write a tag check of one of them (R262, R265, R277, R281, R283). -/
def Device.curBusy (d : Device) (n : Fin 144) (w : Nat) (v : Window) (first lines : Nat) (write : Bool) : Bool :=
  let c := d.cur n
  let pages := (lineList first lines).map v.pageOfLine
  c.stopped || c.init == some w ||
    (match c.reenc with
      | some r => r.window == w && pages.contains r.page
      | none => false) ||
    (pages.any fun page => d.atSweep n w page) ||
    (match c.rmw with
      | some r => r.window == w && linesMeet first lines r.line r.lines
      | none => false) ||
    d.linesOut n w first lines ||
    (write && c.checks.any fun k => k.results.any fun e => e.1 == w && linesMeet first lines e.2.1 1) || d.curFull n

/-- Two requests of one flow (R171). -/
def Entering.sameFlow (q r : Entering) : Bool :=
  q.edge == r.edge && q.ini == r.ini && q.pkt.cls == r.pkt.cls && q.pkt.dst == r.pkt.dst

/-- An earlier request of the flow is still with the engine: it waits, or is performed by the engine itself (R262). -/
def Device.flowWaits (d : Device) (n : Fin 144) (r : Entering) : Bool :=
  let c := d.cur n
  (c.waiting.any fun q => q.sameFlow r) ||
    (match c.rmw with
      | some m => m.req.sameFlow r
      | none => false) ||
    match c.reenc with
    | some m => (match m.trigger with
        | some (q, _) => q.sameFlow r
        | none => false)
    | none => false

/-- Forget a tracked request of this SRC and TAG: its initiator has freed the tag, so it has ended (R164, R170). -/
def CurSt.forget (c : CurSt) (src : BitVec 10) (tag : BitVec 12) : CurSt :=
  { c with reads := c.reads.filter fun r => !(r.src == src && r.tag == tag) }

/-! ### Page re-encryption (R265, R277) -/

/-- The lines of a page. -/
def pageLines (v : Window) (page : Nat) : List Nat := lineList (v.base / 64 + page * 64) 64

/-- A page re-encryption begins: every line but the poisoned ones is read, and the tags of all. -/
def Device.reencStart (d : Device) (n : Fin 144) (w : Nat) (v : Window) (page : Nat) (trigger : Option (Entering × Bool)) :
    Device :=
  let d := (d.curNeed n w v (pageLines v page)).2
  let todo := (pageLines v page).filter fun x => !d.isPoisoned n w v x
  let d := d.setCur n { d.cur n with reenc := some { window := w, page := page, trigger := trigger, got := [], left := todo
                                                     writing := false, writes := [] } }
  (todo.foldl (fun (d : Device) (x : Nat) => d.curOwn n (.reencRead x) (d.ownPacket v.node 0x00 (x * 64) 63 [])) d).curIssue n 16

/-- The plaintext of a line that has been read and verifies. -/
def Device.reencOpen (d : Device) (n : Fin 144) (r : Reenc) (v : Window) (line : Nat) : Option (List Nat) :=
  match (r.got.find? fun e => e.1 == line).bind (·.2) with
  | some cipher => if (d.curOpen n r.window v line cipher).2 then some (d.curOpen n r.window v line cipher).1 else none
  | none => none

/-- The key slot that a page gets: the other one when a sweep has come to it (R277, R283). -/
def Device.reencSlot (d : Device) (n : Fin 144) (w page : Nat) : Bool :=
  if d.atSweep n w page then !d.curCurrent n else d.pageSlot n w page

/-- The lines that the triggering write gives new data. -/
def Reenc.target (r : Reenc) : List Nat :=
  match r.trigger with
  | some (q, _) => lineList (linesOf q.pkt.laddr.toNat q.pkt.len.toNat).1 (linesOf q.pkt.laddr.toNat q.pkt.len.toNat).2
  | none => []

/-- A line under its new counter is to be written. -/
def Device.reencQueue (d : Device) (n : Fin 144) (v : Window) (line : Nat) (cipher : List Nat) : Device :=
  let c := d.cur n
  let c := match c.reenc with
    | some r => { c with reenc := some { r with left := r.left ++ [line], writes := r.writes ++ [(line, cipher)] } }
    | none => c
  (d.setCur n c).curOwn n (.reencWrite line) (d.ownPacket v.node 0x01 (line * 64) 63 cipher)

/-- One line that was read: sealed under minor 0 of the new major counter, or poisoned. A line that the triggering write replaces is
verified like the others; its old data is not written under the counter that its new data gets (DEDUCED, entry 9). -/
def Device.reencLine (d : Device) (n : Fin 144) (slot : Bool) (r : Reenc) (v : Window) (e : Nat × Option (List Nat)) : Device :=
  match e.2 with
  | some plain =>
    if r.target.contains e.1 then d
    else
      let s := d.curSeal n slot r.window v e.1 0 plain
      s.2.reencQueue n v e.1 s.1
  | none => (((d.raise (curPage n) cCurReadFail).count (curPage n) 0).curLog n 3 r.window e.1).curPoison n r.window v e.1

/-- Every line has been read: the major counter goes up, and the lines are written back. -/
def Device.reencSeal (d : Device) (n : Fin 144) (r : Reenc) (v : Window) : Device :=
  match (d.cur n).ctr r.window r.page with
  | none => d
  | some b =>
    let read := (pageLines v r.page).filter fun x => !d.isPoisoned n r.window v x
    let opened := read.map fun x => (x, d.reencOpen n r v x)
    let slot := d.reencSlot n r.window r.page
    let c := (d.cur n).setCtr r.window r.page { b with major := b.major + 1, dirty := true }
    let d := d.setCur n { c with reenc := some { r with writing := true, left := [], writes := [] } }
    (opened.foldl (fun (d : Device) (e : Nat × Option (List Nat)) => d.reencLine n slot r v e) d).curIssue n 16

/-- The re-encryption under way goes on once its reads and the fetches of its tags have ended. -/
def Device.reencGo (d : Device) (n : Fin 144) : Device :=
  let c := d.cur n
  match c.reenc with
  | none => d
  | some r =>
    match d.window n r.window with
    | none => d
    | some v =>
      let tags := (pageLines v r.page).any fun x => c.fetching.contains (.tags r.window (v.tagLineOf x))
      if r.writing || !r.left.isEmpty || tags || c.stopped then d else d.reencSeal n r v

/-- The next page of a sweep after the one at the pointer (R277). -/
def Device.sweepNext (d : Device) (n : Fin 144) : Device :=
  let pg := curPage n
  let w := d.rd pg fCurSweepPtrWindow
  let page := d.rd pg fCurSweepPtrPage
  match d.window n w with
  | some v =>
    if page + 1 < v.pages then d.put pg fCurSweepPtrPage (page + 1)
    else match ((List.range 4).filter (w < ·)).find? fun k => (d.window n k).isSome with
      | some k => (d.put pg fCurSweepPtrWindow k).put pg fCurSweepPtrPage 0
      | none => d.setCur n { d.cur n with swept := true }
  | none => d.setCur n { d.cur n with swept := true }

/-- A sweep takes up the page at its pointer once nothing works on it; it pauses at a page boundary while the shutter is not open
(R277, R283). -/
def Device.sweepGo (d : Device) (n : Fin 144) : Device :=
  let pg := curPage n
  let c := d.cur n
  let w := d.rd pg fCurSweepPtrWindow
  let page := d.rd pg fCurSweepPtrPage
  if !d.atSweep n w page || c.reenc.isSome || c.stopped || c.init.isSome || d.rd pg fCurShutterState != shutterOpen then d
  else match d.window n w with
    | none => d
    | some v =>
      if d.pageInUse n w v page || c.rmw.any (fun r => r.window == w && v.pageOfLine r.line == page) then d
      else if (c.ctr w page).isNone then (d.curFetch n v (.counter w page)).curIssue n 16
      else d.reencStart n w v page none

/-- The engine's own work goes on: what waits for a tag, a re-encryption, a sweep, and, while the shutter closes, entries that were
written again (R271). -/
def Device.curAdvance (d : Device) (n : Fin 144) : Device :=
  let d := if d.rd (curPage n) fCurShutterState == shutterClosing then d.curFlush n else d.curIssue n 16
  (d.reencGo n).sweepGo n

/-! ### Requests into a window (R261, R262) -/

/-- What becomes of a request at the engine. -/
inductive CurVerdict where
  | done | wait
  deriving DecidableEq, Repr

/-- Answer a request turned away at the engine. -/
def Device.curDecline (d : Device) (r : Entering) (status : Nat) : Device := d.turnAway r.edge r.pkt status

/-- A write of whole lines goes to the partner, and is tracked until it has completed there. -/
def Device.curSend (d : Device) (n : Fin 144) (w first lines : Nat) (r : Entering) (cipher : List Nat) : Device :=
  let p := { r.pkt with payload := cipher.map (BitVec.ofNat 8 ·) }
  let d := if p.op == 0x01 then
      d.setCur n { d.cur n with reads := (d.cur n).reads ++ [⟨p.src, p.tag, w, first, lines⟩] }
    else d.setLk n { d.lk n with posts := (d.lk n).posts ++ [⟨w, first, lines, p, none⟩] }
  d.linkQueue n r.rank r.input p

/-- A write of whole lines whose counters are present (R264, R265). -/
def Device.curWrite (d : Device) (n : Fin 144) (w : Nat) (v : Window) (r : Entering) : CurVerdict × Device :=
  let p := r.pkt
  let (first, cnt) := linesOf p.laddr.toNat p.len.toNat
  let full := (lineList first cnt).any fun x => match (d.cur n).ctr w (v.pageOfLine x) with
    | some b => decide (126 ≤ b.minor (v.minorIx x))
    | none => false
  if full && ((d.cur n).reenc.isSome || (d.cur n).rmw.isSome || d.pageInUse n w v (v.pageOfLine first)) then (.wait, d)
  else
    let d := if (lineList first cnt).any fun x => d.isPoisoned n w v x then d.poisonHit n else d
    if full then (.done, d.reencStart n w v (v.pageOfLine first) (some (r, false)))
    else
      let s := d.sealLines n w v first (payloadNat p)
      (.done, (s.2.curSend n w first cnt r s.1).curEvict n)

/-- A partial write begins: the engine reads its lines (R266). -/
def Device.curPartial (d : Device) (n : Fin 144) (w : Nat) (v : Window) (r : Entering) : CurVerdict × Device :=
  let (first, cnt) := linesOf r.pkt.laddr.toNat r.pkt.len.toNat
  if (d.cur n).rmw.isSome || (d.cur n).reenc.isSome then (.wait, d)
  else if (lineList first cnt).any fun x => d.isPoisoned n w v x then (.done, (d.poisonHit n).curDecline r stPoison)
  else
    let d := d.setCur n { d.cur n with rmw := some { req := r, window := w, line := first, lines := cnt, got := []
                                                     left := cnt, status := 0, writing := false } }
    let d := (lineList first cnt).foldl (fun (d : Device) (x : Nat) =>
      d.curOwn n (.rmwRead x) (d.ownPacket v.node 0x00 (x * 64) 63 [])) d
    (.done, d.curIssue n 16)

/-- Try one request of a window (R261 to R266). -/
def Device.curTry (d : Device) (n : Fin 144) (w : Nat) (v : Window) (r : Entering) : CurVerdict × Device :=
  let p := r.pkt
  let op := p.op.toNat
  let (first, cnt) := linesOf p.laddr.toNat p.len.toNat
  let lines := lineList first cnt
  let whole := p.laddr.toNat % 64 == 0 && (p.len.toNat + 1) % 64 == 0
  let quar := lines.any fun x => (d.cur n).quar.any fun e => e.2 == some (w, x)
  let isWrite := op == 0x01 || op == 0x10
  if p.cls == 3 || op == 0x11 then (.done, d.linkQueue n r.rank r.input p)
  else if d.curBusy n w v first cnt isWrite then (.wait, d)
  else if quar then (.done, d.curDecline r stCrypto)
  else if op == 0x00 then
    if !whole then (.done, d.curDecline r stSlave)
    else
      let d := (d.curNeed n w v lines).2
      let c := d.cur n
      let d := d.setCur n { c with reads := c.reads ++ [⟨p.src, p.tag, w, first, cnt⟩] }
      (.done, (d.curIssue n 16).linkQueue n r.rank r.input p)
  else if isWrite then
    let (ready, d) := d.curNeed n w v lines
    let d := d.curIssue n 16
    if !ready then (.wait, d)
    else if crosses4K p then (.done, d.curDecline r stSlave)
    else if whole then d.curWrite n w v r
    else d.curPartial n w v r
  else (.done, d.curDecline r stSlave)

/-- One request that waits tries again; a later one of a flow never passes an earlier one (R262). -/
def Device.curRetry (d : Device) (n : Fin 144) (r : Entering) : Device :=
  let out := if d.flowWaits n r then (CurVerdict.wait, d)
    else match d.windowOf n r.pkt with
      | some (w, v) =>
        (if r.pkt.cls == 0 then d.setCur n ((d.cur n).forget r.pkt.src r.pkt.tag) else d).curTry n w v r
      | none => (.done, d.linkQueue n r.rank r.input r.pkt)
  match out with
  | (.done, d) => d
  | (.wait, d) => d.setCur n { d.cur n with waiting := (d.cur n).waiting ++ [r] }

/-- Requests that wait try again, oldest first, and the engine's own work goes on. -/
def Device.curPump (d : Device) (n : Fin 144) : Device :=
  let waiting := (d.cur n).waiting
  let d := d.setCur n { d.cur n with waiting := [] }
  (waiting.foldl (fun (d : Device) (r : Entering) => d.curRetry n r) (d.curIssue n 16)).curAdvance n

/-- A request or posted packet reaches the engine of its link (R254, R261). One outside every window passes unchanged, behind what
waits of its flow (R171). -/
def Device.curtainEgress (d : Device) (n : Fin 144) (r : Entering) : Device :=
  if d.curMode n ≠ 1 ∨ d.isRaw r.edge r.ini r.pkt = true then d.linkQueue n r.rank r.input r.pkt
  else if (d.windowOf n r.pkt).isNone && !d.flowWaits n r then d.linkQueue n r.rank r.input r.pkt
  else (d.setCur n { d.cur n with waiting := (d.cur n).waiting ++ [r] }).curPump n

/-- A request of this SRC and TAG has ended at its initiator for good: no engine waits for it any longer (R164). -/
def Device.curTimedOut (d : Device) (src : BitVec 10) (tag : BitVec 12) : Device :=
  (List.finRange 144).foldl (fun (d : Device) (n : Fin 144) =>
    if (d.cur n).reads.any fun r => r.src == src && r.tag == tag then (d.setCur n ((d.cur n).forget src tag)).curPump n
    else d) d

/-! ### Responses from a window (R263) -/

/-- An RSP of a status in place of a response. -/
def errorRsp (p : Packet) (status : Nat) : Packet :=
  sealHeader { p with op := 0x30, len := 0, laddr := BitVec.ofNat 54 status, payload := [], flits := 1, v := true }

/-- Release the data of a window read: decrypted, with V as far as the tag checks have come (a free value: how far they have
come at this moment the manual does not fix). -/
def Device.curRelease (d : Device) (n : Fin 144) (rd : WinRead) (v : Window) (p : Packet) : Device :=
  let lines := lineList rd.line rd.lines
  let d := d.setCur n { d.cur n with reads := (d.cur n).reads.erase rd }
  if lines.any fun x => d.isPoisoned n rd.window v x then (d.poisonHit n).injectRsp (.link n.val) 0 (errorRsp p stPoison)
  else
    let opened := (List.zip lines (pieces 64 rd.lines (payloadNat p))).map fun e =>
      (e.1, d.curOpen n rd.window v e.1 e.2)
    let plain := opened.flatMap fun e => e.2.1
    let results := opened.map fun e => (rd.window, e.1, e.2.2)
    let ok := results.all fun e => e.2.2
    let d := { d with free := d.free + 1 }
    let finished := Config.freeBool d.free
    let d := d.injectRsp (.link n.val) 0
      (sealHeader { p with payload := plain.map (BitVec.ofNat 8 ·), v := finished && ok })
    if finished && ok then d
    else d.setCur n { d.cur n with checks := (d.cur n).checks ++
      [{ src := p.src, dst := p.dst, tag := p.tag, edge := .link n.val, results := results }] }

/-- Two responses of one flow. -/
def rspFlow (p q : Packet) : Bool := p.src == q.src && p.dst == q.dst && !p.ord && !q.ord

/-- The read of a window that a response answers. -/
def CurSt.readOf (c : CurSt) (p : Packet) : Option WinRead := c.reads.find? fun r => r.src == p.dst && r.tag == p.tag

/-- The blocks that the data of a read still lacks. -/
def CurSt.lacks (c : CurSt) (rd : WinRead) (v : Window) : List CurJob :=
  let lines := lineList rd.line rd.lines
  (lines.filterMap fun x =>
      if (c.ctr rd.window (v.pageOfLine x)).isNone then some (CurJob.counter rd.window (v.pageOfLine x)) else none) ++
    lines.filterMap fun x =>
      if (c.tagLine rd.window (v.tagLineOf x)).isNone then some (CurJob.tags rd.window (v.tagLineOf x)) else none

/-- One response at the engine: released, replaced by SLAVE_ERROR when a fetch has failed, or kept, with every later one of its flow
behind it (R171). -/
def Device.curAnswer (d : Device) (n : Fin 144) (p : Packet) : Device :=
  let c := d.cur n
  if c.stopped || c.arrived.any (fun q => rspFlow q p) then d.setCur n { c with arrived := c.arrived ++ [p] }
  else match c.readOf p with
    | none => d.injectRsp (.link n.val) 0 p
    | some rd =>
      if p.op == 0x30 then (d.setCur n { c with reads := c.reads.erase rd }).injectRsp (.link n.val) 0 p
      else if p.op != 0x31 then d.injectRsp (.link n.val) 0 p
      else match d.window n rd.window with
        | none => d.injectRsp (.link n.val) 0 p
        | some v =>
          let missing := c.lacks rd v
          if missing.isEmpty then d.curRelease n rd v p
          else if missing.all fun j => c.fetching.contains j then d.setCur n { c with arrived := c.arrived ++ [p] }
          else
            let d := d.setCur n { c with reads := c.reads.erase rd }
            (d.raise (curPage n) cCurFetchError).injectRsp (.link n.val) 0 (errorRsp p stSlave)

/-- Responses that wait are looked at again, oldest first. A stopped engine releases nothing until its spare is attached (R281). -/
def Device.curArrived (d : Device) (n : Fin 144) : Device :=
  let arrived := (d.cur n).arrived
  arrived.foldl (fun (d : Device) (p : Packet) => d.curAnswer n p) (d.setCur n { d.cur n with arrived := [] })

/-- A class 1 packet comes in over a link in memory mode (R261, R263). -/
def Device.curIngress (d : Device) (n : Fin 144) (p : Packet) : Device :=
  if d.curMode n ≠ 1 ∨ d.isRawRsp p = true then d.injectRsp (.link n.val) 0 p
  else (d.curAnswer n p).curPump n

/-! ### The engine's events -/

/-- The first line of a window. -/
def Device.windowLine (d : Device) (n : Fin 144) (w : Nat) : Nat :=
  match d.window n w with
  | some v => v.base / 64
  | none => 0

/-- Writes that wait for a block whose fetch has failed cannot be performed: SLAVE_ERROR, as for a read (R263). -/
def Device.curRefuse (d : Device) (n : Fin 144) (w : Nat) (lacks : Window → Nat → Bool) : Device :=
  (d.cur n).waiting.foldl (fun (d : Device) (r : Entering) =>
    match d.windowOf n r.pkt with
    | some (w', v) =>
      if w' = w ∧ lacks v (r.pkt.laddr.toNat / 64) = true then
        (d.setCur n { d.cur n with waiting := (d.cur n).waiting.erase r }).curDecline r stSlave
      else d
    | none => d) d

/-- A fetched block enters its cache. -/
def Device.curFetched (d : Device) (n : Fin 144) (job : CurJob) (bs : List Nat) : Device :=
  match job with
  | .counter w page => d.setCur n ((d.cur n).setCtr w page (ctrOfBytes bs))
  | .tags w t =>
    d.setCur n ((d.cur n).setTagLine w t { bytes := bs, dirty := false, saving := false, leaving := false })
  | _ => d

/-- A fetch has failed: FETCH_ERROR, and the writes that wait for the block are refused. -/
def Device.curUnfetched (d : Device) (n : Fin 144) (job : CurJob) : Device :=
  match job with
  | .counter w page =>
    ((d.raise (curPage n) cCurFetchError).curLog n 5 w (d.windowLine n w + page * 64)).curRefuse n w fun v line =>
      v.pageOfLine line == page
  | .tags w t =>
    ((d.raise (curPage n) cCurFetchError).curLog n 5 w (d.windowLine n w + t * 8)).curRefuse n w fun v line =>
      v.tagLineOf line == t
  | _ => d

/-- CACHE_FETCH_DONE: the oldest fetched block enters its cache, or its fetch has failed (R263). -/
def cacheFetchDoneBody (n : Fin 144) (d : Device) : Device :=
  let c := d.cur n
  match c.fetched with
  | [] => d
  | (job, data) :: rest =>
    let d := d.setCur n { c with fetched := rest, fetching := c.fetching.erase job }
    let d := match data with
      | some bs => d.curFetched n job bs
      | none => d.curUnfetched n job
    let todo := (d.cur n).poisonq
    let d := d.setCur n { d.cur n with poisonq := [] }
    let d := todo.foldl (fun (d : Device) (e : Nat × Nat) => match d.window n e.1 with
      | some v => d.curPoison n e.1 v e.2
      | none => d) d
    ((d.curArrived n).curPump n).curEvict n

/-- TAG_CHECK_DONE: the oldest tag check finishes; the marker follows its response (R263, R267). -/
def tagCheckDoneBody (n : Fin 144) (d : Device) : Device :=
  let c := d.cur n
  if c.stopped then d
  else match c.checks with
  | [] => d
  | k :: rest =>
    let d := d.setCur n { c with checks := rest }
    let bad := k.results.filter fun e => !e.2.2
    let d := bad.foldl (fun (d : Device) (e : Nat × Nat × Bool) => d.curReadFail n e.1 e.2.1) d
    let marker := sealHeader
      { dst := k.dst, src := k.src, cls := 1, op := if bad.isEmpty then 0x38 else 0x39, len := 0, tag := k.tag
        laddr := BitVec.ofNat 54 (if bad.isEmpty then stOk else stCrypto), ord := false, prio := 0, ch := false, v := true
        lock := false, rsv := 0, hcrc := 0, payload := [], flits := 1 }
    (d.injectRsp k.edge 0 marker).curPump n

/-- The triggering write of a re-encryption, under minor 0 of the new major counter (R265, step 4); `own`: the engine performs it. -/
def Device.reencTrigger (d : Device) (n : Fin 144) (slot : Bool) (w : Nat) (v : Window) (r : Entering) (own : Bool) : Device :=
  let (first, cnt) := linesOf r.pkt.laddr.toNat r.pkt.len.toNat
  let s := (pieces 64 cnt (payloadNat r.pkt)).foldl
    (fun (acc : List Nat × Device) (piece : List Nat) =>
      let o := acc.2.curSeal n slot w v (first + acc.1.length / 64) 0 piece
      (acc.1 ++ o.1, o.2)) ([], d)
  if own then
    (List.zip (lineList first cnt) (pieces 64 cnt s.1)).foldl (fun (d : Device) (e : Nat × List Nat) =>
      d.curOwn n .rmwWrite (d.ownPacket v.node 0x01 (e.1 * 64) 63 e.2)) s.2
  else s.2.curSend n w first cnt r s.1

/-- REENCRYPT_DONE: the partner has acknowledged every line of `page`, which is under re-encryption; the triggering write follows, and
accesses to the page go on (R265, R277, R283). -/
def reencryptDoneBody (n : Fin 144) (page : Nat) (d : Device) : Device :=
  match (d.cur n).reenc with
  | none => d
  | some r =>
    match d.window n r.window with
    | none => d
    | some v =>
      if r.page != page || !r.writing || !r.left.isEmpty || !r.writes.isEmpty || (d.cur n).stopped then d
      else
        let slot := d.reencSlot n r.window r.page
        let swept := d.atSweep n r.window r.page
        let d := (d.count (curPage n) 3).setCur n { d.cur n with reenc := none }
        let d := match r.trigger with
          | some (q, own) => d.reencTrigger n slot r.window v q own
          | none => d
        (if swept then d.sweepNext n else d).curPump n

/-! ### Partial writes (R266) -/

/-- The requester of a partial write gets its answer; one that is posted and could not be performed is discarded. -/
def Device.rmwReply (d : Device) (n : Fin 144) (r : Rmw) (status : Nat) : Device :=
  let d := d.setCur n { d.cur n with rmw := none }
  (if r.req.pkt.cls == 2 then (if status = 0 then d else d.postedDrop) else d.answerAt r.req.edge r.req.pkt status).curPump n

/-- The lines of a partial write as they become. -/
def Rmw.merged (r : Rmw) (opened : List (Nat × List Nat × Bool)) : List Nat :=
  let plain := (lineList r.line r.lines).flatMap fun x =>
    match opened.find? fun e => e.1 == x with
    | some e => e.2.1
    | none => []
  let off := r.req.pkt.laddr.toNat - r.line * 64
  let new := payloadNat r.req.pkt
  plain.take off ++ new ++ plain.drop (off + new.length)

/-- The minor counter of a line as cached. -/
def Device.minorOf (d : Device) (n : Fin 144) (w : Nat) (v : Window) (line : Nat) : Nat :=
  match (d.cur n).ctr w (v.pageOfLine line) with
  | some b => b.minor (v.minorIx line)
  | none => 0

/-- The merged lines are written. A line at its last count: its page is re-encrypted with the merged lines as the triggering data,
once nothing else works on the page. -/
def Device.rmwWriteBack (d : Device) (n : Fin 144) (r : Rmw) (v : Window) (merged : List Nat) : Device :=
  let page := v.pageOfLine r.line
  let writing := d.setCur n { d.cur n with rmw := some { r with left := r.lines, writing := true } }
  if (lineList r.line r.lines).any fun x => 126 ≤ d.minorOf n r.window v x then
    if (d.cur n).reenc.isSome || d.pageInUse n r.window v page then d
    else writing.reencStart n r.window v page
      (some ({ r.req with pkt := { r.req.pkt with payload := merged.map (BitVec.ofNat 8 ·) } }, true))
  else
    ((List.zip (lineList r.line r.lines) (pieces 64 r.lines merged)).foldl (fun (d : Device) (e : Nat × List Nat) =>
      let s := d.curSeal n (d.pageSlot n r.window page) r.window v e.1 (d.minorOf n r.window v e.1 + 1) e.2
      s.2.curOwn n .rmwWrite (d.ownPacket v.node 0x01 (e.1 * 64) 63 s.1)) writing).curIssue n 16

/-- PARTIAL_WRITE_DONE: the lines have been read; merged and written back, or refused; or the written lines have been
acknowledged and the requester is answered (R266). -/
def partialWriteDoneBody (n : Fin 144) (d : Device) : Device :=
  match (d.cur n).rmw with
  | none => d
  | some r =>
    match d.window n r.window with
    | none => d
    | some v =>
      if r.left ≠ 0 ∨ (d.cur n).stopped = true then d
      else if r.writing ∨ r.status ≠ 0 then d.rmwReply n r r.status
      else
        let opened := r.got.map fun e => (e.1, d.curOpen n r.window v e.1 e.2)
        let bad := opened.filter fun e => !e.2.2
        if bad.isEmpty then d.rmwWriteBack n r v (r.merged opened)
        else
          let d := bad.foldl (fun (d : Device) (e : Nat × List Nat × Bool) =>
            ((d.count (curPage n) 0).curLog n 2 r.window e.1).curPoison n r.window v e.1) d
          ((d.raise (curPage n) cCurWriteFail).count (curPage n) 1).rmwReply n r stCrypto

/-! ### Initialisation (R260) -/

/-- WIN_CMD with INIT (R260): the window's committed VALID is 1. -/
def winInit (n : Fin 144) (w : Nat) (d : Device) : Device :=
  if (d.window n w).isNone || (d.cur n).init.isSome then d
  else (d.setCur n { d.cur n with init := some w }).raise (curPage n) fCurCurStatusInitBusy

/-- What initialisation writes for one page: its counter block, and each line of zeros encrypted, with its tag. -/
def initPage (key : BitVec 256) (w : Nat) (v : Window) (page : Nat) : List (Nat × List Nat) :=
  (v.ctr + 64 * page, List.replicate 64 0) :: (pageLines v page).flatMap fun line =>
    let cipher := lineCrypt key w line 0 0 (List.replicate 64 0)
    [(line * 64, cipher), (v.tag + 8 * (line - v.base / 64), lineTag key w line 0 0 cipher)]

/-- INIT_DONE: every counter block 0, every line the encryption of zeros, with its tag; waiting accesses proceed (R260). -/
def initDoneBody (n : Fin 144) (d : Device) : Device :=
  match (d.cur n).init with
  | none => d
  | some w =>
    match d.window n w with
    | none => d
    | some v =>
      let c := d.cur n
      let key := d.slotKey n (d.curCurrent n)
      let d := d.setCur n { c with init := none, ctrs := sclear (fun k => k / 2 ^ 28 == w) c.ctrs
                                   tags := sclear (fun k => k / 2 ^ 31 == w) c.tags }
      let d := (d.lower (curPage n) fCurCurStatusInitBusy).raise (curPage n) cCurInitDone
      (d.emit (.windowInit n.val v.node ((List.range v.pages).flatMap fun page => initPage key w v page))).curPump n

/-! ### Quarantine released, keys rolled (R267, R277, R278) -/

/-- QUAR_RELEASE with GO (R267). -/
def quarRelease (n : Fin 144) (i : Nat) (poison : Bool) (d : Device) : Device :=
  match sget (fun _ => none) (d.cur n).quar i with
  | none => d
  | some (w, line) =>
    let d := match poison, d.window n w with
      | true, some v => (d.curPoison n w v line).curIssue n 16
      | _, _ => d
    (d.setCur n { d.cur n with quar := sset (fun _ => none) (d.cur n).quar i none }).curPump n

/-- KEY_CTRL with ROLL (R277, R278): the other slot is loaded and no rotation is under way. -/
def keyRoll (n : Fin 144) (d : Device) : Device :=
  let pg := curPage n
  let c := d.cur n
  if d.flag pg fCurCurStatusRollBusy || !c.slotLoaded (!d.curCurrent n) || d.curMode n == 0 then d
  else
    let d := d.raise pg fCurCurStatusRollBusy
    if d.curMode n = 1 then
      (match (List.range 4).find? fun w => (d.window n w).isSome with
        | some w => ((d.put pg fCurSweepPtrWindow w).put pg fCurSweepPtrPage 0).setCur n { c with swept := false }
        | none => d.setCur n { c with swept := true }).curAdvance n
    else d

/-- LINK mode: both directions use the slot that is not current (R278). -/
def Device.phasesChanged (d : Device) (n : Fin 144) : Bool :=
  d.flag (curPage n) fCurCurStatusTxPhase != d.curCurrent n && d.flag (curPage n) fCurCurStatusRxPhase != d.curCurrent n

/-- ROLL_DONE: the other slot becomes current, the old key is erased (R277, R278). -/
def rollDoneBody (n : Fin 144) (d : Device) : Device :=
  let pg := curPage n
  let c := d.cur n
  let ready := if d.curMode n = 1 then c.swept && c.reenc.isNone else d.phasesChanged n
  if d.flag pg fCurCurStatusRollBusy && ready then
    let old := d.curCurrent n
    let c := { c with key0 := if old then c.key0 else none, key1 := if old then none else c.key1, swept := false }
    let d := (d.setCur n c).put pg fCurCurStatusCurrent (!old).toNat
    (d.lower pg fCurCurStatusRollBusy).raise pg cCurRollDone
  else d

end Sys2Proof.Machine
end

