-- ==== Sys2Proof/Machine/Routers.lean ====
section
/-! DEFINITION. Packets on their way through the mesh: hops, buffers and grants of the routers (R185, R187 to R190, R193, R200), and
where a packet leaves the mesh for a link (R163, R183). -/

namespace Sys2Proof.Machine

open Sys2Proof

/-! ### The next stage (R185, R187, R190, R200) -/

/-- The input of its router by which an edge enters: 4 a bay or node port, 6 to 8 the links. -/
def edgeInput : Edge → Nat
  | .link l => 6 + l % 3
  | _ => 4

/-- What comes next for a packet: the buffer of an input of a router, its edge, or nothing that both planes still offer. -/
inductive Hop where
  | into (plane : Bool) (x y input : Nat) (crossed : Bool)
  | edge
  | stuck
  deriving DecidableEq, Repr

/-- Where a packet is bound: the router it was aimed at, and, once it stands there, the one that the steering table names now for its
edge, to which that router forwards it (R182, R200). -/
def Device.goalOf (d : Device) (f : Flight) : Nat × Nat :=
  match f.here with
  | some (x, y, _) => if (x, y) = f.goal then d.routerAt f.dst else f.goal
  | none => f.goal

/-- The router that a packet stands at, or enters. -/
def Device.standsAt (d : Device) (f : Flight) : Nat × Nat :=
  match f.here with
  | some (x, y, _) => (x, y)
  | none => d.routerAt f.src

/-- The stage after the one that holds a packet. The port of a failed router is reached through its twin's (R190). -/
def Device.hop (d : Device) (f : Flight) : Hop :=
  let pl := f.plane.toNat
  match f.here with
  | none =>
    let (x, y) := d.routerAt f.src
    if d.detoured pl x y 7 then .into (!f.plane) x y (edgeInput f.src) true else .into f.plane x y (edgeInput f.src) f.crossed
  | some (x, y, _) =>
    let out := outTo x y (d.goalOf f)
    if d.detoured pl x y out || d.detoured pl x y 7 then (if f.crossed then .stuck else .into (!f.plane) x y 5 true)
    else match out with
      | 0 => .into f.plane (x + 1) y 1 f.crossed
      | 1 => .into f.plane (x - 1) y 0 f.crossed
      | 2 => .into f.plane x (y + 1) 3 f.crossed
      | 3 => .into f.plane x (y - 1) 2 f.crossed
      | _ => .edge

/-- The key of the router output that a packet asks for, in `arbs`; 5 is the crossing. None: it enters from its edge. -/
def Device.outputOf (d : Device) (f : Flight) : Option Nat :=
  match f.here with
  | none => none
  | some (x, y, _) =>
    match d.hop f with
    | .into plane _ _ _ _ =>
      some (outKey f.plane.toNat x y (if plane = f.plane then outTo x y (d.goalOf f) else 5))
    | .edge => some (outKey f.plane.toNat x y 4)
    | .stuck => none

/-! ### Buffers (R187) -/

/-- The links of the port router at a position. -/
def linksAt (x y : Nat) : List (Fin 144) := (List.finRange 144).filter fun l => portRouterAt (l.val / 3) == (x, y)

/-- Packets of an input and class of a port router that wait at its link egresses: they have not left its buffer (R193). -/
def Device.atEgress (d : Device) (plane : Bool) (x y input cls : Nat) : List Packet :=
  (linksAt x y).flatMap fun l => ((d.lk l).txq.filter fun q =>
    q.input == 10 * plane.toNat + input && q.pkt.cls.toNat == cls).map (·.pkt)

/-- Flits that a packet takes up. -/
def roomOf (p : Packet) : Nat := flitCount p.payload.length

/-- Flits in the buffer of an input of a router for a class. -/
def Device.bufferUsed (d : Device) (plane : Bool) (x y input cls : Nat) : Nat :=
  ((d.mesh.filter fun f => f.plane == plane && f.here == some (x, y, input) && f.pkt.cls.toNat == cls).foldl
    (fun s f => s + roomOf f.pkt) 0) + (d.atEgress plane x y input cls).foldl (fun s p => s + roomOf p) 0

/-- Two packets wait in one queue: the same input and class of a router, or the same port of an edge. -/
def sameQueue (f g : Flight) : Bool :=
  f.plane == g.plane && f.here == g.here && f.pkt.cls == g.pkt.cls && (f.here.isSome || f.src == g.src)

/-- A packet is at the head of its queue. -/
def Device.atHead (d : Device) (f : Flight) : Bool :=
  !(d.mesh.any fun g => sameQueue g f && decide (g.since < f.since)) &&
    match f.here with
    | some (x, y, input) => (d.atEgress f.plane x y input f.pkt.cls.toNat).isEmpty
    | none => true

/-! ### Order of a flow (R171, R191) -/

/-- Two packets of one flow that keep their order. -/
def sameFlow (f g : Flight) : Bool :=
  f.src == g.src && f.ini == g.ini && f.dst == g.dst && f.pkt.src == g.pkt.src && f.pkt.cls == g.pkt.cls && !f.pkt.ord && !g.pkt.ord

/-- A packet would overtake an earlier one of its flow, which the stamps of R191 prevent. -/
def Device.overtakes (d : Device) (f : Flight) : Bool := d.mesh.any fun g => decide (g.id < f.id) && sameFlow f g

/-! ### Moves -/

/-- A packet can go on: it is at the head of its queue, and the next stage has room for all of it; or it is at the port router of its
link. -/
def Device.canMove (d : Device) (f : Flight) : Bool :=
  d.atHead f &&
    match d.hop f with
    | .into plane x y input _ => decide (d.bufferUsed plane x y input f.pkt.cls.toNat + roomOf f.pkt ≤ 6)
    | .edge => (match f.dst with
        | .link _ => !d.overtakes f
        | _ => false)
    | .stuck => false

/-- A link is chosen for a 128-bit atomic and has negotiated TXL 1.0 or 1.1 (R163, R243). -/
def Device.atomicRefused (d : Device) (l : Fin 144) (p : Packet) : Bool :=
  let version := d.rd (.txl l) fTxlLinkStatusVersion
  p.cls == 0 && decide (5 ≤ p.op.toNat ∧ p.op.toNat ≤ 7) && (version == 1 || version == 2)

/-- A packet comes to the egress of its link: refused there when the link has ceased to take packets since it entered, else on to the
curtain engine (R163, R183, R254). -/
def Device.toEgress (d : Device) (l : Fin 144) (input : Nat) (f : Flight) : Device :=
  let p := f.pkt
  if d.linkRefuses l p then
    (if p.cls == 1 then (d.egressRefused l).rspDrop else (d.egressRefused l).turnAway f.src p stFenced)
  else if p.cls == 1 then d.linkQueue l f.rank input p
  else if d.atomicRefused l p then d.turnAway f.src p stSlave
  else d.curtainEgress l { edge := f.src, ini := f.ini, rank := f.rank, input := input, pkt := p }

/-- A packet leaves the mesh. -/
def Device.takeFlight (d : Device) (f : Flight) : Device := { d with mesh := d.mesh.filter fun g => g.id != f.id }

/-- Free the credits of a packet's flits: they have left the receive buffer of a link (R240). -/
def Device.freeCredit (d : Device) (l : Fin 144) (c n : Nat) : Device :=
  let k := d.lk l
  d.setLk l { k with freed := bump k.freed c n, rxUsed := k.rxUsed.set c (classField k.rxUsed c - n) }

/-- Flits that came over a link leave its receive buffer as their packet enters its router. -/
def Device.unbuffer (d : Device) (f : Flight) : Device :=
  match f.buffered, f.src with
  | true, .link l => d.freeCredit (Fin.ofNat 144 l) f.pkt.cls.toNat (roomOf f.pkt)
  | _, _ => d

/-- A packet moves into the next stage; the stage behind keeps its copy (R188). -/
def Device.advance (d : Device) (f : Flight) : Device :=
  match d.hop f with
  | .into plane x y input crossed =>
    let f' := { f with plane := plane, crossed := crossed, here := some (x, y, input), behind := f.here, goal := d.goalOf f
                       since := d.meshTime, buffered := false }
    let d := d.unbuffer f
    { d with mesh := d.mesh.map fun g => if g.id = f.id then f' else g, meshTime := d.meshTime + 1 }
  | .edge => (match f.dst with
      | .link l => (d.takeFlight f).toEgress (Fin.ofNat 144 l)
          (10 * f.plane.toNat + (match f.here with | some (_, _, i) => i | none => 9)) f
      | _ => d)
  | .stuck => d

/-! ### Grants (R193) -/

/-- The requester that a packet's queue is at its router: input and class. -/
def Flight.asking (f : Flight) : Asking :=
  { id := 4 * (match f.here with | some (_, _, i) => i | none => 4) + f.pkt.cls.toNat, rank := f.rank, since := f.since }

def Device.arbAt (d : Device) (key : Nat) : Arb := sget (fun _ => Arb.fresh) d.arbs key

def Device.setArb (d : Device) (key : Nat) (a : Arb) : Device := { d with arbs := sset (fun _ => Arb.fresh) d.arbs key a }

/-- The packet that the arbiter of an output grants among those that ask for it. -/
def Device.grant (d : Device) (key : Nat) (asks : List Flight) : Option Flight :=
  match (d.arbAt key).pick (d.eff .mesh fMeshArbBurstLimit) (d.eff .mesh fMeshArbArbN) (asks.map (·.asking)) with
  | some id => asks.find? fun f => f.asking.id == id
  | none => none

/-- The arbiter of an output has granted a packet. -/
def Device.granted (d : Device) (key : Nat) (f : Flight) : Device :=
  d.setArb key ((d.arbAt key).granted (d.eff .mesh fMeshArbBurstLimit) f.asking.id f.pkt.lock)

/-- Some output or edge of the mesh makes one grant. Which of them is next the manual does not order: a free value. A link egress
grants as it sends (R193). -/
def Device.meshStep (d : Device) : Device :=
  let movable := d.mesh.filter fun f => d.canMove f
  let d' := { d with free := d.free + 1 }
  match movable[(Config.freeWord d'.free).toNat % movable.length]? with
  | none => d'
  | some f =>
    match (if d.hop f = .edge then none else d.outputOf f) with
    | none => d'.advance f
    | some key =>
      match d.grant key (movable.filter fun g => d.outputOf g == some key) with
      | some g => (d'.granted key g).advance g
      | none => d'

/-- So many grants. -/
def Device.meshSteps : Nat → Device → Device
  | 0, d => d
  | n + 1, d => Device.meshSteps n d.meshStep

/-- The mesh runs for a while: how many grants it makes between two commands is a free value (entry 80). -/
def Device.meshRun (d : Device) : Device :=
  if d.mesh.isEmpty || !d.meshRuns then d
  else
    let d := { d with free := d.free + 1 }
    Device.meshSteps ((Config.freeWord d.free).toNat % (64 * (d.mesh.length + 1))) d

/-- A packet stands where it leaves the mesh for an edge of this device. -/
def Device.atPort (d : Device) (f : Flight) : Bool := d.hop f == .edge && d.atHead f

/-- The port of an edge grants this packet next: no other of its class that could leave there comes before it (R193). A class that the
design does not accept does not take part (R181). -/
def Device.portGrants (d : Device) (takes : Flight → Bool) (f : Flight) : Bool :=
  match d.outputOf f with
  | some key =>
    (d.grant key (d.mesh.filter fun g =>
      g.pkt.cls == f.pkt.cls && d.outputOf g == some key && d.atPort g && takes g)).any fun g => g.id == f.id
  | none => false

end Sys2Proof.Machine
end

