-- ==== Sys2Proof/Machine/LinkRx.lean ====
section
/-! DEFINITION. Links: training (R209 to R217), lane failures and swaps (R220 to R225, R250), the flits received (R231 to R240),
HELLO (R242, R243), IDLE and SLEEP (R246 to R248), link mode (R272 to R275), the flit slot (R234). -/

namespace Sys2Proof.Machine

open Sys2Proof

/-! ### Who owns a tag (R165), and late responses (R166, R196) -/

/-- An initiator of R165. -/
inductive Initiator where
  | bay (n : Nat) | engine (e : Nat) | curtain (n : Nat) | core (c : Nat) | warden | channel (c : Nat) | window
  deriving DecidableEq, Repr

/-- The owner of a tag at a node; none: stray (R165, R166). -/
def ownerOf (n : NodeKind) (tag : Nat) : Option Initiator :=
  match n with
  | .fabric => if tag / 32 < 104 then some (.bay (tag / 32)) else none
  | .mgmt =>
    if tag < 0x400 then some (.engine (tag / 128))
    else if tag < 0x400 + 16 * 156 then some (.curtain ((tag - 0x400) / 16)) else none
  | .core => if tag < 0x200 then some (.core (tag / 0x100)) else if tag < 0x300 then some .warden else none
  | .host => if tag < 0x400 then some (.channel (tag / 16)) else some .window

/-- Count a late response or marker at its initiator (R196). -/
def Device.lateAt (d : Device) : Initiator → Device
  | .bay n => if h : n < 104 then (d.raise (.bay ⟨n, h⟩) cBayBpLate).count (.bay ⟨n, h⟩) 6 else d
  | .core c => (d.raise (.tcore (Fin.ofNat 2 c)) cTcoreCoreLate).count (.tcore (Fin.ofNat 2 c)) 3
  | .channel _ => d.count .hdma 3
  | .window => d.count .pcie 5
  | .engine _ => d
  | .curtain _ => d
  | .warden => d

/-- The node of this device that a packet is addressed to. -/
def Device.nodeOf (d : Device) (p : Packet) : Option NodeKind :=
  if p.dst == 0x3FF then none
  else [NodeKind.fabric, .mgmt, .core, .host].find? fun n => d.nodeId n == p.dst

/-- A response that reaches a closed shutter is late (R198). -/
def Device.lateResponse (d : Device) (p : Packet) : Device :=
  match d.nodeOf p with
  | some n => match ownerOf n p.tag.toNat with
    | some o => d.lateAt o
    | none => d
  | none => d

/-! ### Complete packets (R174, R198, R274) -/

/-- SRC is one of this device's node IDs (R174). -/
def Device.ownSource (d : Device) (p : Packet) : Bool :=
  p.src != 0x3FF && [NodeKind.fabric, .mgmt, .core, .host].any fun n => d.nodeId n == p.src

/-- A packet leaves the link's receive buffer towards its destination. -/
def Device.linkForward (d : Device) (l : Fin 144) (p : Packet) : Device :=
  let shut := d.rd (.txl l) fTxlShutterState
  let cshut := d.rd (curPage l) fCurShutterState
  let closed := shut == shutterClosed || cshut == shutterClosed
  let draining := shut != shutterOpen || cshut != shutterOpen
  let k := d.lk l
  if p.cls == 1 then
    if closed then d.lateResponse p
    else
      let d := if p.op.toNat < 0x38 then d.setLk l { k with outReqs := k.outReqs.erase (p.dst, p.tag) } else d
      d.curIngress l p
  else if draining then d.turnAway (.link l.val) p stFenced
  else
    let d := if p.cls == 2 then d else d.setLk l { k with inReqs := k.inReqs ++ [(p.src, p.tag)] }
    d.inject (.link l.val) 0 p

/-- A packet that has left the link's logic stands in its receive buffer until its router takes it: its credits are free then, and
at once when it goes no further or to the engine (R240). -/
def Device.linkDeliver (d : Device) (l : Fin 144) (p : Packet) : Device :=
  let t := d.meshTime
  let d := d.linkForward l p
  let entered (g : Flight) : Bool := decide (t ≤ g.id) && g.src == .link l.val && g.ini == 0 && g.pkt.src == p.src &&
    g.pkt.cls == p.cls && g.pkt.tag == p.tag
  match d.mesh.find? entered with
  | some f => { d with mesh := d.mesh.map fun g => if g.id = f.id then { g with buffered := true } else g }
  | none => d.freeCredit l p.cls.toNat (roomOf p)

/-- A packet delivered before its tag is checked, in link mode: RSP_DATA for an initiator of this device, and what else is for the
FABRIC node, but for the class 1 packets that R274 names among those held. -/
def Device.speculative (d : Device) (p : Packet) : Bool :=
  match d.nodeOf p with
  | some .fabric => p.cls != 1 || p.op == 0x31
  | some _ => p.op == 0x31
  | none => false

/-- What is kept of a packet that is delivered early, to name it by (R275); a packet that reaches no edge is not. -/
def Device.specOf (d : Device) (p : Packet) : List Spec :=
  match d.whereTo p with
  | .edge e => [{ src := p.src, dst := p.dst, tag := if p.cls == 2 then 0 else p.tag, owed := p.op == 0x31 && p.v, edge := e }]
  | _ => []

/-- A packet that passes the checks of its edge, by the engine's mode (R274). -/
def Device.linkAccept (d : Device) (l : Fin 144) (p : Packet) : Device :=
  if d.curMode l = 2 then
    if d.speculative p then
      (d.setLk l { d.lk l with specs := (d.lk l).specs ++ d.specOf p }).linkDeliver l
        (if p.op == 0x31 then sealHeader { p with v := false } else p)
    else d.setLk l { d.lk l with rxHeld := (d.lk l).rxHeld ++ [p] }
  else d.linkDeliver l p

/-- A packet has come without credit: more flits of its class have arrived than the credits announced at HELLO and given back since
(R240). -/
def LinkSt.overrun (k : LinkSt) (c : Nat) : Bool :=
  decide (96 + classField k.given c < classField k.rxUsed c + classField k.freed c)

/-- A packet is complete: checked at the edge (R174), then held or forwarded. -/
def Device.linkPacket (d : Device) (l : Fin 144) (fs : List (BitVec 512)) : Device :=
  let p := packetOf fs
  let c := p.cls.toNat
  let d := d.setLk l { d.lk l with rxUsed := bump (d.lk l).rxUsed c fs.length }
  let edge := (1, l.val)
  if (d.lk l).overrun c then (d.raise (.txl l) cTxlCreditOverrun).freeCredit l c fs.length
  else if hcrcOf p != p.hcrc then (d.headerError kHdrBad edge p).freeCredit l c fs.length
  else if malformed p then (d.headerError kMalformed edge p).freeCredit l c fs.length
  else if d.ownSource p then (d.headerError kLooped edge p).freeCredit l c fs.length
  else d.linkAccept l p

/-! ### Framing (R231, R232) -/

/-- A packet that breaks the framing is discarded and counted as MALFORMED (R232); the credits of its `n` flits are free again
(R240). -/
def Device.framingLoss (d : Device) (l : Fin 144) (fs : List (BitVec 512)) (n : Nat) : Device :=
  let p := packetOf fs
  let d := d.headerError kMalformed (1, l.val) p
  d.setLk l { d.lk l with freed := bump (d.lk l).freed p.cls.toNat n }

/-- A sixth flit of one packet: the packet is lost, and flits up to the next HEAD or SOLE with it (R232). -/
def Device.sixthFlit (d : Device) (l : Fin 144) (fs : List (BitVec 512)) : Device :=
  let d := d.framingLoss l fs 6
  d.setLk l { d.lk l with rxOpen := none, rxSkip := some (packetOf fs).cls.toNat }

/-- The framing of one accepted packet flit. -/
def Device.frameFlit (d : Device) (l : Fin 144) (kind : FlitKind) (body : BitVec 512) : Device :=
  let k := d.lk l
  match kind with
  | .sole =>
    let d := match k.rxOpen with
      | some fs => d.framingLoss l fs fs.length
      | none => d
    (d.setLk l { d.lk l with rxOpen := none, rxSkip := none }).linkPacket l [body]
  | .head =>
    let d := match k.rxOpen with
      | some fs => d.framingLoss l fs fs.length
      | none => d
    d.setLk l { d.lk l with rxOpen := some [body], rxSkip := none }
  | .mid =>
    match k.rxSkip, k.rxOpen with
    | some c, _ => d.setLk l { k with freed := bump k.freed c 1 }
    | none, none => d.raise (.txl l) cTxlProtocol
    | none, some fs =>
      if fs.length = 5 then d.sixthFlit l fs else d.setLk l { k with rxOpen := some (fs ++ [body]) }
  | .tail =>
    match k.rxSkip, k.rxOpen with
    | some c, _ => d.setLk l { k with freed := bump k.freed c 1 }
    | none, none => d.raise (.txl l) cTxlProtocol
    | none, some fs =>
      if fs.length = 5 then d.sixthFlit l fs else (d.setLk l { k with rxOpen := none }).linkPacket l (fs ++ [body])
  | .ctrl => d

/-! ### What a good flit meets first -/

/-- A side in HELLO that has seen its peer enters ACTIVE on a LINK or sequenced flit (R242). None: the flit meets no
receiver. -/
def Device.meetFlit (d : Device) (l : Fin 144) : Option Device :=
  if !d.receives l then none
  else if d.linkState l = linkHello then
    if (d.lk l).peer.isSome then some (d.linkGoActive l) else none
  else some d

/-- R236: a sequenced flit, accepted or discarded. -/
def Device.sequenced (d : Device) (l : Fin 144) (accept : Device → BitVec 64 → Device) : Device :=
  let k := d.lk l
  if k.wait then d
  else if k.count = k.expect then
    accept (d.setLk l { k with expect := k.expect + 1, count := k.count + 1 }) k.expect
  else d.setLk l { k with count := k.count + 1 }

/-- Send NAK once and wait (R236). -/
def Device.naks (d : Device) (l : Fin 144) : Device :=
  let k := d.lk l
  if k.wait then d else d.setLk l { k with wait := true, oweNak := true }

/-- An accepted packet flit of link mode is decrypted with its number, and then framed (R272, R274). -/
def Device.cipherFlit (d : Device) (l : Fin 144) (kind : FlitKind) (seq : BitVec 64) (body : BitVec 512) : Device :=
  let k := d.lk l
  let d := d.setLk l { k with rxCover := k.rxCover ++ [(seq, body)] }
  let key := d.slotKey l (d.flag (curPage l) fCurCurStatusRxPhase)
  d.frameFlit l kind (flitCrypt key (BitVec.ofNat 10 (d.rd (.txl l) fTxlPeerNodeLoNode0)) seq body)

/-- A flit waits for the spare engine (R281). -/
def Device.stall (d : Device) (l : Fin 144) (kind : FlitKind) (seq : BitVec 64) (body : BitVec 512) : Device :=
  d.setLk l { d.lk l with stalled := (d.lk l).stalled ++ [(kind, seq, body)] }

/-- SOLE, HEAD, MID, TAIL: a good packet flit. In link mode it is decrypted as it is accepted, or once a spare engine has taken over
(R272, R274, R281). -/
def packetFlit (kind : FlitKind) (l : Fin 144) (body : BitVec 512) (d : Device) : Device :=
  match d.meetFlit l with
  | none => d
  | some d =>
    d.sequenced l fun d seq =>
      if d.curMode l ≠ 2 then d.frameFlit l kind body
      else if (d.cur l).stopped then d.stall l kind seq body
      else d.cipherFlit l kind seq body

/-- BAD_FLIT (R236). -/
def badFlitBody (l : Fin 144) (d : Device) : Device :=
  if d.receives l then (d.count (.txl l) 4).naks l else d

/-! ### LINK flits (R233, R236 to R240, R247, R250) -/

/-- Fields of a LINK flit. -/
def bitAt (b : BitVec 512) (i : Nat) : Bool := b.getLsbD i
def fieldAt (b : BitVec 512) (lo n : Nat) : Nat := (b.extractLsb' lo n).toNat

/-- Add the credits a LINK flit reports (R240). -/
def LinkSt.addCredits (k : LinkSt) (b : BitVec 512) : LinkSt :=
  let crd := (List.range 4).map fun c => fieldAt b (40 + 12 * c) 12
  { k with prevCrd := crd
           credits := (List.range 4).map fun c =>
             classField k.credits c + (classField crd c + 4096 - classField k.prevCrd c) % 4096 }

/-- The conditions to send SLEEP_REQ or SLEEP_ACK: nothing held, nothing to send (R247). -/
def LinkSt.quiet (k : LinkSt) : Bool :=
  k.retry.isEmpty && k.txq.isEmpty && k.cur.isEmpty && k.txCover.isEmpty && k.replayAt.isNone

/-- No replay, swap or retrain in progress (R247). -/
def LinkSt.settled (k : LinkSt) : Bool :=
  !k.wait && !k.oweReplay && k.swapReq.isNone && k.marker.isNone && k.oweDone == 0 && k.oweRetrain == 0 && !k.oweCswap

/-- The reverse direction can carry a request: it is not parked, or in IDLE, from which it resumes (R225, R250). -/
def Device.canAsk (d : Device) (l : Fin 144) : Bool :=
  d.rd (.txl l) fTxlPhyTxMode != phyParked || d.flag (.txl l) fTxlLinkStatusTxIdle

/-- A receive data lane has failed: DS takes it, or the link faults; so it does when its transmitter is parked and cannot carry the
request (R221, R223, R225, R250). -/
def Device.laneFailed (d : Device) (l : Fin 144) (lane : Nat) : Device :=
  let pg := PageRef.txl l
  let failed := d.rd pg fTxlPhyRxFailed
  if d.rd pg fTxlPhyRxMode ≠ phyData ∨ d.flag pg fTxlLinkStatusRxIdle = true ∨ failed.testBit lane = true then d
  else
    let d := d.put pg fTxlPhyRxFailed (Nat.lor failed (2 ^ lane))
    if (d.eff pg fTxlSubLinkLink).testBit 2 && d.rd pg fTxlPhyRxDsCarries == 7 && !failed.testBit 4 &&
        (d.lk l).swapReq.isNone && d.canAsk l then
      let d := d.setLk l { d.lk l with swapReq := some lane, sinceLink := 31 }
      -- an idle reverse direction resumes to carry the request
      if d.flag pg fTxlLinkStatusTxIdle then (d.txResume l).sendLink l false else d
    else d.linkEnterFault l

/-- DS of the receiving direction has failed: the link faults when a lane is on it, or a swap to it is pending (R220, R225). -/
def Device.spareFailed (d : Device) (l : Fin 144) : Device :=
  let pg := PageRef.txl l
  let failed := d.rd pg fTxlPhyRxFailed
  if d.rd pg fTxlPhyRxMode ≠ phyData ∨ failed.testBit 4 = true then d
  else
    let d := (d.put pg fTxlPhyRxFailed (Nat.lor failed 16)).raise pg cTxlSpareLost
    if d.rd pg fTxlPhyRxDsCarries = 7 ∧ (d.lk l).swapReq.isNone = true then d else d.linkEnterFault l

/-- Both directions train again on a new clock lane; replay follows from the oldest held flit (R224). A bring-up that has not
reached ACTIVE begins its training again, and HELLO runs after it (R242, R251). -/
def Device.clockTrain (d : Device) (l : Fin 144) : Device :=
  let st := d.linkState l
  if st = linkHello ∨ (st = linkTraining ∧ (d.lk l).noHello = false) then
    let d := d.startTraining l linkTraining false false
    d.setLk l { d.lk l with peer := none }
  else d.startTraining l (if st = linkTraining then linkTraining else linkRetrain) true false

/-- The receive clock lane has failed (R221, R224, R225). -/
def Device.clockFailed (d : Device) (l : Fin 144) : Device :=
  let pg := PageRef.txl l
  if d.rd pg fTxlPhyRxMode ≠ phyData then d
  else if d.rd pg fTxlPhyRxClkSel = 0 ∧ (d.eff pg fTxlSubLinkLink).testBit 3 = true ∧ d.flag pg fTxlPhyRxCsFailed = false ∧
      d.canAsk l = true then
    let d := d.raise pg fTxlPhyRxCFailed
    let d := if d.canSend l then
        ((d.setLk l { d.lk l with oweCswap := true }).txResume l).sendLink l false
      else d
    d.clockTrain l
  else d.linkEnterFault l

/-- The transmitter moves a logical lane to DS after a marker flit; repeats are ignored (R223, R250). -/
def Device.dswapAsked (d : Device) (l : Fin 144) (lane : Nat) : Device :=
  let k := d.lk l
  if d.rd (.txl l) fTxlPhyTxDsCarries = 7 ∧ k.marker = none then d.setLk l { k with marker := some lane } else d

/-- The transmitter moves its clock to CS and trains; CLK_SWAPPED follows in data mode (R224). -/
def Device.cswapAsked (d : Device) (l : Fin 144) : Device :=
  let pg := PageRef.txl l
  if d.rd pg fTxlPhyTxClkSel = 0 then
    ((d.raise pg fTxlPhyTxClkSel).setLk l { d.lk l with clkSwapTx := true }).clockTrain l
  else d

/-- Posted writes that the partner has acknowledged whole have completed there (R262, DEDUCED, entry 81). -/
def LinkSt.postsAcked (k : LinkSt) : LinkSt :=
  let oldest := match k.retry with
    | h :: _ => h.seq
    | [] => k.txSeq
  { k with posts := k.posts.filter fun r => match r.seq with
      | some s => decide ((s - oldest).toNat < 2 ^ 63)
      | none => true }

/-- ACK_SEQ of a LINK flit frees what it acknowledges; out of range it is ignored (R237). Accesses to lines whose writes have completed
go on (R262). -/
def Device.takeAck (d : Device) (l : Fin 144) (b : BitVec 512) : Device :=
  match (d.lk l).ack (b.extractLsb' 8 12) with
  | some k =>
    let d' := d.setLk l (k.addCredits b).postsAcked
    if (d.lk l).posts.isEmpty then d' else d'.curPump l
  | none => (d.raise (.txl l) cTxlProtocol).setLk l ((d.lk l).addCredits b)

/-- REPLAY and TX_SEQ of a LINK flit at the receiver (R236). -/
def Device.takeTxSeq (d : Device) (l : Fin 144) (b : BitVec 512) : Device :=
  let k := d.lk l
  let s := extend12 k.count (b.extractLsb' 24 12)
  if bitAt b 21 then
    if (k.expect - s).toNat < 2 ^ 63 then d.setLk l { k with count := s, wait := false } else d.naks l
  else if !k.wait && s != k.count then d.naks l
  else d

/-- A SLEEP_REQ that arrives: acknowledged when nothing stands against SLEEP, else, and always outside ACTIVE, refused (R247, R251). -/
def Device.takeSleepReq (d : Device) (l : Fin 144) : Device :=
  let k := d.lk l
  if d.linkState l = linkActive ∧ d.eff (.txl l) fTxlLlCfgSleepOk = 1 ∧ k.quiet = true ∧ k.settled = true then
    if k.sleepSent then d.linkGoSleep l
    else (((d.setLk l (k.askPm 3)).txResume l).sendLink l false).linkGoSleep l
  else d.setLk l (k.askPm 4)

/-- The PM code of a LINK flit (R246, R247). A SLEEP_REQ that crosses this side's own counts as its SLEEP_ACK. -/
def Device.takePm (d : Device) (l : Fin 144) (pm : Nat) : Device :=
  let k := d.lk l
  match pm with
  | 1 => (d.raise (.txl l) fTxlLinkStatusRxIdle).put (.txl l) fTxlPhyRxMode phyParked
  | 2 => d.takeSleepReq l
  | 3 => if k.sleepSent then d.linkGoSleep l else d
  | 4 => d.setLk l { k with sleepSent := false, sleepWanted := false, sleepRepeat := k.sleepSent, owePm := if k.owePm = 2 then 0 else k.owePm }
  | _ => d

/-- NAK, swap fields and RETRAIN_REQ of a LINK flit (R237, R238, R250); `valid`: its ACK_SEQ was in range. -/
def Device.takeAsks (d : Device) (l : Fin 144) (b : BitVec 512) (valid : Bool) : Device :=
  let d := if bitAt b 96 then d.dswapAsked l (fieldAt b 97 2) else d
  let d := if bitAt b 100 then d.cswapAsked l else d
  let d := if bitAt b 20 && valid && d.linkState l == linkActive then d.linkReplay l else d
  if bitAt b 101 then d.linkRetrainNow l else d

/-- A good LINK flit (R236): its ACK_SEQ, CRD, PM and swap fields act whatever the state of wait. RETRAIN_REQ in HELLO restarts the
training (R251). -/
def linkFlitBody (l : Fin 144) (b : BitVec 512) (d : Device) : Device :=
  if d.receives l && d.linkState l == linkHello && bitAt b 101 && !bitAt b 102 then d.takeAsks l b false
  else match d.meetFlit l with
  | none =>
    -- in HELLO, before the peer is seen, only the fault, swap and retrain fields act (R242, R249)
    if !d.receives l then d else if bitAt b 102 then d.linkEnterFault l else d.takeAsks l b false
  | some d =>
    if bitAt b 102 then d.linkEnterFault l
    else
      let valid := ((d.lk l).ack (b.extractLsb' 8 12)).isSome
      (((d.takeAck l b).takeTxSeq l b).takePm l (fieldAt b 88 4)).takeAsks l b valid

/-- A LINK flit that carries what a row of the table names; one that does not is no such event. -/
def linkFlitIf (carries : BitVec 512 → Bool) (l : Fin 144) (b : BitVec 512) (d : Device) : Device :=
  if fieldAt b 0 4 == 1 && carries b then linkFlitBody l b d else d

/-- A good CTRL flit by its CTYPE (R233): a reserved one sets PROTOCOL. -/
def reservedCtrl (l : Fin 144) (d : Device) : Device := if d.receives l then d.raise (.txl l) cTxlProtocol else d

/-! ### HELLO (R242, R243, R255) -/

/-- Record the partner's fields (R242, R253). -/
def Device.recordPeer (d : Device) (l : Fin 144) (b : BitVec 512) (chosen : Nat) : Device :=
  let pg := PageRef.txl l
  let d := (d.put pg fTxlLinkStatusVersion chosen).put pg fTxlLinkStatusPeerCaps (fieldAt b 24 5)
  let d := (d.put pg fTxlPeerNodeLoNode0 (fieldAt b 144 10)).put pg fTxlPeerNodeLoNode1 (fieldAt b 154 10)
  let d := (d.put pg fTxlPeerNodeHiNode2 (fieldAt b 164 10)).put pg fTxlPeerNodeHiNode3 (fieldAt b 174 10)
  let d := (d.put pg fTxlPeerDieDieCode (fieldAt b 184 16)).put pg fTxlPeerDieStepping (fieldAt b 200 8)
  let d := d.put pg fTxlPeerDieVersions (fieldAt b 8 8)
  let d := (d.put pg fTxlPeerCrdLoClass0 (fieldAt b 32 12)).put pg fTxlPeerCrdLoClass1 (fieldAt b 44 12)
  let d := (d.put pg fTxlPeerCrdHiClass2 (fieldAt b 56 12)).put pg fTxlPeerCrdHiClass3 (fieldAt b 68 12)
  let k := d.lk l
  let seq := b.extractLsb' 80 64
  let d := { d with mesh := d.mesh.map fun (g : Flight) => if g.src == Edge.link l.val then { g with buffered := false } else g }
  d.setLk l { k with peer := some b, credits := (List.range 4).map fun c => fieldAt b (32 + 12 * c) 12
                     prevCrd := [0, 0, 0, 0], freed := [0, 0, 0, 0], given := [0, 0, 0, 0], rxUsed := [0, 0, 0, 0]
                     expect := seq, count := seq, wait := false, oweNak := false, rxOpen := none, rxSkip := none }

/-- The highest version both sides offer, as CHOSEN codes it; 0: none (R243). -/
def chooseVersion (own peer : Nat) : Nat :=
  if own.testBit 2 && peer.testBit 2 then 3 else if own.testBit 1 && peer.testBit 1 then 2
  else if own.testBit 0 && peer.testBit 0 then 1 else 0

/-- What a repeated HELLO must repeat: everything but CHOSEN and PEER_SEEN (R242). -/
def helloMask : BitVec 512 := ~~~(BitVec.ofNat 512 (0x1F * 2 ^ 16))

/-- ACTIVE as soon as the peer allows it and eight HELLOs with PEER_SEEN are out (R242). -/
def Device.helloDone (d : Device) (l : Fin 144) : Device :=
  let k := d.lk l
  if d.linkState l = linkHello ∧ k.peerReady = true ∧ 8 ≤ k.seenSent then d.linkGoActive l else d

/-- HELLO: a good HELLO flit (R242, R243, R255). -/
def helloFlitBody (l : Fin 144) (b : BitVec 512) (d : Device) : Device :=
  let pg := PageRef.txl l
  if d.linkState l ≠ linkHello ∨ d.receives l = false ∨ fieldAt b 0 4 ≠ 2 then d
  else
    let k := d.lk l
    match k.peer with
    | none =>
      let chosen := chooseVersion (fieldAt k.ownHello 8 3) (fieldAt b 8 3)
      let d := d.recordPeer l b chosen
      let mode := d.curMode l
      if chosen = 0 then (d.raise pg cTxlVersionMismatch).linkEnterFault l
      else if (mode = 1 ∧ bitAt b 25 = false) ∨ (mode = 2 ∧ (chosen = 1 ∨ bitAt b 24 = false)) then
        (d.raise (curPage l) cCurModeRefused).linkEnterFault l
      else
        let d := (d.lower (curPage l) fCurCurStatusRxPhase).lower (curPage l) fCurCurStatusTxPhase
        let d := d.setLk l { d.lk l with peerReady := bitAt b 20 && fieldAt b 16 4 == chosen }
        d.helloDone l
    | some first =>
      if b &&& helloMask ≠ first &&& helloMask then (d.raise pg cTxlProtocol).linkRetrainNow l
      else
        (d.setLk l { k with peerReady := k.peerReady || (bitAt b 20 && fieldAt b 16 4 == d.rd pg fTxlLinkStatusVersion) }).helloDone l

/-! ### TAG flits (R273 to R275, R278) -/

/-- A marker for a packet delivered early (R275). -/
def specMarker (s : Spec) (ok : Bool) : Packet :=
  sealHeader { dst := s.dst, src := s.src, cls := 1, op := if ok then 0x38 else 0x39, len := 0, tag := s.tag
               laddr := BitVec.ofNat 54 (if ok then stOk else stCrypto), ord := false, prio := 0, ch := false, v := true
               lock := false, rsv := 0, hcrc := 0, payload := [], flits := 1 }

/-- The number among initiators under which a link names packets that it has delivered in vain. -/
def iniVerify : Nat := 998

/-- A packet delivered early turns out forged: a named response follows the way of its response; a named request or posted packet goes
to the edge that received it (R275). -/
def Device.nameForged (d : Device) (l : Fin 144) (s : Spec) : Device :=
  if s.owed then d.injectRsp (.link l.val) 0 (specMarker s false) else d.launch (.link l.val) iniVerify s.edge (specMarker s false)

/-- A TAG flit covers what stands since the last one and verifies it (R273, R275). -/
def Device.tagGood (d : Device) (l : Fin 144) (b : BitVec 512) : Bool :=
  let k := d.lk l
  let first := ((k.rxCover.map (·.1)).head?).getD 0
  let key := d.slotKey l (d.flag (curPage l) fCurCurStatusRxPhase)
  let tag := coverTag key (BitVec.ofNat 10 (d.rd (.txl l) fTxlPeerNodeLoNode0)) k.rxCover
  fieldAt b 16 6 == k.rxCover.length && b.extractLsb' 24 64 == first && !k.rxCover.isEmpty && fieldAt b 96 128 == natLEn tag &&
    d.curMode l == 2

/-- An accepted TAG flit: what it covers is verified and what was held goes on; or the link faults, and what was delivered early is
named (R274, R275, R278). -/
def Device.takeTag (d : Device) (l : Fin 144) (b : BitVec 512) : Device :=
  let cpg := curPage l
  let k := d.lk l
  if d.tagGood l b then
    let d := d.setLk l { k with rxCover := [], rxHeld := [], specs := [] }
    let d := (k.specs.filter (·.owed)).foldl (fun (d : Device) (s : Spec) =>
      d.injectRsp (.link l.val) 0 (specMarker s true)) d
    let d := k.rxHeld.foldl (fun (d : Device) (p : Packet) => d.linkDeliver l p) d
    d.put cpg fCurCurStatusRxPhase (bitAt b 8).toNat
  else
    let d := ((d.raise cpg cCurLinkTagFail).count cpg 6).curLog l 4 0 (fieldAt b 24 64)
    k.specs.foldl (fun (d : Device) (s : Spec) => d.nameForged l s) (d.linkEnterFault l)

/-- TAG: a good TAG flit (R273 to R275); one that meets a stopped engine waits for the spare (R281). -/
def tagFlitBody (l : Fin 144) (b : BitVec 512) (d : Device) : Device :=
  if fieldAt b 0 4 ≠ 4 then d
  else match d.meetFlit l with
  | none => d
  | some d =>
    d.sequenced l fun d seq => if (d.cur l).stopped && d.curMode l == 2 then d.stall l .ctrl seq b else d.takeTag l b

/-- What waited for the spare engine, oldest first (R281). -/
def Device.unstall (d : Device) (l : Fin 144) : Device :=
  (d.lk l).stalled.foldl (fun (d : Device) (f : FlitKind × BitVec 64 × BitVec 512) =>
    if f.1 = .ctrl then d.takeTag l f.2.2 else d.cipherFlit l f.1 f.2.1 f.2.2) (d.setLk l { d.lk l with stalled := [] })

/-! ### Training (R209, R210, R216, R217) -/

/-- LINK_FLIT: a good CTRL flit, by its CTYPE; a reserved one sets PROTOCOL (R233). -/
def ctrlFlitBody (l : Fin 144) (b : BitVec 512) (d : Device) : Device :=
  match fieldAt b 0 4 with
  | 1 => linkFlitBody l b d
  | 2 => helloFlitBody l b d
  | 4 => tagFlitBody l b d
  | _ => reservedCtrl l d

/-- Lane bits of a training flit that differ from all 0. -/
def onesOf (b : BitVec 132) : Nat := ((List.range 120).filter fun i => b.getLsbD i).length

/-- A lane's flit is recognised as TRAIN, as TRAIN_END (R210). -/
def isTrain (b : BitVec 132) : Bool := decide (onesOf b ≤ 6)
@[inherit_doc isTrain] def isTrainEnd (b : BitVec 132) : Bool := decide (114 ≤ onesOf b)

/-- The lanes of a training flit, by number. -/
def lanesOf (f : TrainFlit) : List (BitVec 132) := [f.d0, f.d1, f.d2, f.d3, f.ds]

/-- The aligned lanes of a training flit. -/
def LinkSt.alignedOf (k : LinkSt) (f : TrainFlit) : List (BitVec 132) :=
  ((List.range 5).filter fun i => k.alignedLanes.getLsbD i).filterMap fun i => (lanesOf f)[i]?

/-- The receiver report on a lane, its reserved bits aside (R209). -/
def reportOf (b : BitVec 132) : BitVec 12 := b.extractLsb' 120 12 &&& 0x3F

/-- The report values that at least two aligned lanes of a TRAIN flit carry (R209). -/
def LinkSt.reportsIn (k : LinkSt) (f : TrainFlit) : List (BitVec 12) :=
  let rs := ((k.alignedOf f).filter isTrain).map reportOf
  rs.eraseDups.filter fun r => decide (2 ≤ rs.count r)

/-- The partner's report is accepted: the lane it expects on DS, the clock it is locked to (R209, R217, R224). -/
def Device.takeReport (d : Device) (l : Fin 144) (report : BitVec 12) : Device :=
  let pg := PageRef.txl l
  let d := d.setLk l { d.lk l with report := report }
  let ds := (report.extractLsb' 1 3).toNat
  let d :=
    if ds < 4 ∧ d.rd pg fTxlPhyTxDsCarries ≠ ds then
      let d := d.put pg fTxlPhyTxDsCarries ds
      let d := d.put pg fTxlPhyTxFailed (Nat.lor (d.rd pg fTxlPhyTxFailed) (2 ^ ds))
      (d.raise pg cTxlLaneSwapped).count pg 0
    else d
  if report.getLsbD 4 && d.rd pg fTxlPhyTxClkSel == 0 then
    (d.raise pg fTxlPhyTxClkSel).setLk l { d.lk l with clkSwapTx := true }
  else d

/-- TRAIN: a training flit. Its report is accepted when two aligned lanes carry it in this flit and in the one before (R209). -/
def trainBody (l : Fin 144) (f : TrainFlit) (d : Device) : Device :=
  let pg := PageRef.txl l
  if d.rd pg fTxlPhyRxMode ≠ phyTraining ∨ d.flag pg fTxlPhyRxAligned = false then d
  else
    let k := d.lk l
    let now := k.reportsIn f
    let d := d.setLk l { k with reportsSeen := now }
    match now.find? fun r => k.reportsSeen.contains r with
    | some r => d.takeReport l r
    | none => d

/-- A clock swap of a direction has come to data mode (R224, step 4). -/
def Device.clockSwapped (d : Device) (l : Fin 144) : Device := (d.raise (.txl l) cTxlClkSwapped).count (.txl l) 1

/-- TRAIN_END, on at least two aligned lanes: the receiver enters data mode; on an idle direction it ends a resume (R210, R246). -/
def trainEndBody (l : Fin 144) (f : TrainFlit) (d : Device) : Device :=
  let pg := PageRef.txl l
  let k := d.lk l
  if ((k.alignedOf f).filter isTrainEnd).length < 2 then d
  else if d.flag pg fTxlLinkStatusRxIdle then (d.lower pg fTxlLinkStatusRxIdle).put pg fTxlPhyRxMode phyData
  else if d.rd pg fTxlPhyRxMode = phyTraining ∧ d.flag pg fTxlPhyRxAligned = true then
    let d := if k.clkSwapRx then (d.setLk l { k with clkSwapRx := false }).clockSwapped l else d
    (d.put pg fTxlPhyRxMode phyData).linkAdvance l
  else d

/-! #### Sampling (R212) -/

/-- A field of `n` bits as a two's complement number. -/
def signedOf (n v : Nat) : Int := if v < 2 ^ (n - 1) then (v : Int) else (v : Int) - 2 ^ n

/-- SKEW_FOUND and CENTRE_FOUND of a lane (R227). -/
def skewOf (v lane : Nat) : Int := signedOf 3 (natBits v (3 * lane) 3)
@[inherit_doc skewOf] def centreOf (v lane : Nat) : Int := signedOf 6 (natBits v (6 * lane) 6)

/-- The sampling phase of a receive lane, in 1/32 UI after the boundary that the clock gives, and its delay in UI: held from the last
training (R212). -/
def Device.lanePhase (d : Device) (l : Fin 144) (lane : Nat) : Int :=
  2 * ((d.eff (.txl l) fTxlSubLaneHiDeskew lane % 16 : Nat) : Int) + centreOf (d.rd (.txl l) fTxlCentreFound) lane
@[inherit_doc Device.lanePhase] def Device.laneDelay (d : Device) (l : Fin 144) (lane : Nat) : Int :=
  ((d.eff (.txl l) fTxlSubLaneHiDeskew lane / 16 : Nat) : Int) + skewOf (d.rd (.txl l) fTxlSkewFound) lane

/-- A lane is aligned: within 2 UI of its DESKEW value, its phase centred within a quarter UI (R212, R216). -/
def inReach (o : AlignOutcome) (lane : Nat) : Bool :=
  o.aligned.getLsbD lane && decide (-2 ≤ skewOf o.skew.toNat lane ∧ skewOf o.skew.toNat lane ≤ 2) &&
    decide (-8 ≤ centreOf o.centre.toNat lane ∧ centreOf o.centre.toNat lane ≤ 8)

/-- Step 4 has found this receiver unable to train (R217). -/
def Device.cannotTrain (d : Device) (l : Fin 144) : Device :=
  (d.setLk l { d.lk l with cannot := true }).raise (.txl l) cTxlTrainFail

/-- The lane map after step 4 (R217). A lane already marked failed stays so (R225). -/
def Device.laneMap (d : Device) (l : Fin 144) (o : AlignOutcome) : Device :=
  let pg := PageRef.txl l
  let failed := d.rd pg fTxlPhyRxFailed
  let ok (i : Nat) : Bool := inReach o i && !o.crossed.getLsbD i && !failed.testBit i
  let d := d.setLk l { d.lk l with alignedLanes := BitVec.ofNat 5 (((List.range 5).filter ok).foldl (fun s i => s + 2 ^ i) 0) }
  match (List.range 4).filter fun i => !ok i with
  | [] =>
    if ok 4 then (d.put pg fTxlPhyRxDsCarries 7).raise pg fTxlPhyRxAligned
    else if failed.testBit 4 then (d.put pg fTxlPhyRxDsCarries 7).raise pg fTxlPhyRxAligned
    else if o.crossed.getLsbD 4 then d.cannotTrain l
    else
      let d := (d.put pg fTxlPhyRxFailed (Nat.lor failed 16)).raise pg cTxlSpareLost
      (d.put pg fTxlPhyRxDsCarries 7).raise pg fTxlPhyRxAligned
  | [i] =>
    if ok 4 && (d.eff pg fTxlSubLinkLink).testBit 2 then
      let d := if d.rd pg fTxlPhyRxDsCarries = i then d else (d.raise pg cTxlLaneSwapped).count pg 0
      let d := d.put pg fTxlPhyRxFailed (Nat.lor failed (2 ^ i))
      (d.put pg fTxlPhyRxDsCarries i).raise pg fTxlPhyRxAligned
    else d.cannotTrain l
  | _ => d.cannotTrain l

/-- DLL_LOCK: the DLL has locked, lanes are centred, aligned and checked (R212, R216, R217). -/
def dllLockBody (l : Fin 144) (o : AlignOutcome) (d : Device) : Device :=
  let pg := PageRef.txl l
  if d.rd pg fTxlPhyRxMode ≠ phyTraining ∨ (o.onSpare = true ∧ (d.eff pg fTxlSubLinkLink).testBit 3 = false) ∨
      (o.onSpare = false ∧ d.flag pg fTxlPhyRxCFailed = true) then d
  else
    let newClk := o.onSpare && d.rd pg fTxlPhyRxClkSel == 0
    let d := (d.raise pg fTxlPhyRxDllLocked).put pg fTxlPhyRxClkSel o.onSpare.toNat
    let d := if o.onSpare then d.raise pg fTxlPhyRxCFailed else d
    let d := if o.spareSeen then d else d.raise pg fTxlPhyRxCsFailed
    let d := if newClk then d.setLk l { d.lk l with clkSwapRx := true } else d
    let d := (d.put pg fTxlSkewFound o.skew.toNat).put pg fTxlCentreFound o.centre.toNat
    (if o.crossed = 0 then d else d.raise pg cTxlLaneOrder).laneMap l o

/-- TRAIN_RESTART (R216). -/
def trainRestartBody (l : Fin 144) (d : Device) : Device :=
  let pg := PageRef.txl l
  if d.rd pg fTxlPhyRxMode = phyTraining ∧ d.flag pg fTxlPhyRxAligned = false then
    ((d.lower pg fTxlPhyRxDllLocked).setLk l { d.lk l with cannot := false }).raise pg cTxlTrainFail
  else d

/-! ### Lanes in service (R220 to R225, R250) -/

/-- A receiving data lane D0 to D3, or DS, stays unchanged for 64 UI (R220, R221). -/
def dataLaneFailBody (l : Fin 144) (lane : Fin 5) (d : Device) : Device :=
  if lane.val < 4 then d.laneFailed l lane.val else d.spareFailed l

/-- MARGIN_WINDOW: a 1 ms window of a lane ends with this many samples near a threshold (R221). -/
def marginWindowBody (l : Fin 144) (lane : Fin 5) (count : Nat) (d : Device) : Device :=
  let pg := PageRef.txl l
  if d.rd pg fTxlPhyRxMode = phyData ∧ d.flag pg fTxlLinkStatusRxIdle = false ∧ d.flag pg fTxlMarginAuto = true ∧
      d.rd pg fTxlMarginLimit * 1024 < count then
    let d := (d.raise pg cTxlMarginLow).count pg 3
    if lane.val < 4 then d.laneFailed l lane.val else d.spareFailed l
  else d

/-- SPARE_LANE_FAIL: the idle check of DS has found wrong bits within 1 ms; more than 256 fail it. With a lane on DS there is no idle
check (R220). -/
def spareLaneFailBody (l : Fin 144) (wrong : Nat) (d : Device) : Device :=
  let pg := PageRef.txl l
  if d.rd pg fTxlPhyRxMode = phyData ∧ d.rd pg fTxlPhyRxDsCarries = 7 then
    let d := d.countN pg 2 wrong
    if 256 < wrong then d.spareFailed l else d
  else d

def clockLaneFailBody (l : Fin 144) (d : Device) : Device := d.clockFailed l

/-- DSWAP_MARKER: descrambled bits of DS. At most 6 zero bits are the marker, at which the receiver switches, unless DS has failed
(R223, R250). -/
def dswapMarkerBody (l : Fin 144) (ds : BitVec 132) (d : Device) : Device :=
  let pg := PageRef.txl l
  let zeros := ((List.range 132).filter fun i => !ds.getLsbD i).length
  match (d.lk l).swapReq with
  | some k =>
    if zeros ≤ 6 ∧ d.rd pg fTxlPhyRxMode = phyData ∧ (d.rd pg fTxlPhyRxFailed).testBit 4 = false then
      let d := (d.put pg fTxlPhyRxDsCarries k).setLk l { d.lk l with swapReq := none, oweDone := 4 }
      (d.raise pg cTxlLaneSwapped).count pg 0
    else d
  | none => d

def dswapTimeoutBody (l : Fin 144) (d : Device) : Device :=
  if (d.lk l).swapReq.isSome then d.linkRetrainNow l else d

/-! ### Timers of the link layer -/

def replayTimeoutBody (l : Fin 144) (d : Device) : Device :=
  if d.linkState l = linkActive ∧ (d.lk l).retry ≠ [] ∧ d.flag (.txl l) fTxlLinkStatusTxIdle = false then d.linkReplay l else d

def nakRepeatBody (l : Fin 144) (d : Device) : Device :=
  if d.linkState l = linkActive ∧ (d.lk l).wait = true then d.setLk l { d.lk l with oweNak := true } else d

def rxSilenceBody (l : Fin 144) (d : Device) : Device :=
  if d.linkState l = linkActive ∧ d.flag (.txl l) fTxlLinkStatusRxIdle = false then d.linkRetrainNow l else d

/-- The bring-up that began with LINK_ENABLE is still under way. -/
def Device.bringingUp (d : Device) (l : Fin 144) : Bool :=
  (d.linkState l == linkTraining || d.linkState l == linkHello) && !(d.lk l).noHello

def bringupLateBody (l : Fin 144) (d : Device) : Device :=
  if d.bringingUp l then d.raise (.txl l) cTxlBringupLate else d

def bringupLimitBody (l : Fin 144) (d : Device) : Device :=
  if d.bringingUp l && d.rd (.txl l) fTxlBringupLimitLimit != 0 then d.linkEnterFault l else d

/-- IDLE_ENTER (R246). -/
def idleEnterBody (l : Fin 144) (d : Device) : Device :=
  let k := d.lk l
  let pg := PageRef.txl l
  if d.linkState l = linkActive ∧ d.eff pg fTxlLlCfgIdleEn = 1 ∧ k.quiet = true ∧ k.settled = true ∧ k.owePm = 0 ∧
      k.oweNak = false ∧ d.flag pg fTxlLinkStatusTxIdle = false ∧ d.rd pg fTxlPhyTxMode = phyData then
    (((d.setLk l (k.askPm 1)).sendLink l false).raise pg fTxlLinkStatusTxIdle).put pg fTxlPhyTxMode phyParked
  else d

/-- IDLE_RESUME: at least 16 TRAIN flits and one TRAIN_END, then a LINK flit (R246). -/
def idleResumeBody (l : Fin 144) (d : Device) : Device :=
  if d.flag (.txl l) fTxlLinkStatusTxIdle ∧ d.linkState l = linkActive then (d.txResume l).sendLink l false else d

/-- RESUME_TRAIN_TIMEOUT: TRAIN was not recognised in time (R246). -/
def resumeTrainTimeoutBody (l : Fin 144) (d : Device) : Device :=
  if d.flag (.txl l) fTxlLinkStatusRxIdle && d.linkState l == linkActive then d.linkRetrainNow l else d

def sleepRetryBody (l : Fin 144) (d : Device) : Device :=
  let k := d.lk l
  if k.sleepRepeat then d.setLk l { k with sleepRepeat := false, sleepWanted := true } else d

/-- LINK_WAKE_DETECT for a link in SLEEP (R248). -/
def Device.wakeDetected (d : Device) (l : Fin 144) : Device := d.linkWake l

/-- The flits of a packet at the head of a class. -/
def LinkSt.headOf (k : LinkSt) (c : Nat) : Option Queued := k.txq.find? fun q => q.pkt.cls.toNat == c

def creditStallBody (l : Fin 144) (c : Fin 4) (d : Device) : Device :=
  let k := d.lk l
  match k.headOf c.val with
  | some q =>
    if d.linkState l = linkActive ∧ classField k.credits c.val < flitCount q.pkt.payload.length then
      (d.raise (.txl l) cTxlCreditStall).count (.txl l) 7
    else d
  | none => d

/-! ### Host commands on a link (R238, R245, R247, R248) -/

/-- PAGE_CTRL.ENABLE written 1 in DISABLED (R215, R245): bring-up starts, and the link PLL of the edge with it (R138). In DORMANT,
DOORWAY and QUIESCED the link PLLs do not run, and nothing starts (R139). -/
def linkEnable (l : Fin 144) (d : Device) : Device :=
  let pg := PageRef.txl l
  if d.linkState l ≠ linkDisabled ∨ d.meshUp = false then d
  else if (d.eff pg fTxlSubLinkLink).testBit 0 then
    let d := d.put .clk fClkSrcRunRun (Nat.lor (d.rd .clk fClkSrcRunRun) (2 ^ (5 + l.val / 36)))
    d.startTraining l linkTraining false true
  else d.raise pg cTxlTableInvalid

/-- PAGE_CTRL.ENABLE written 0 (R245). -/
def linkDisable (l : Fin 144) (d : Device) : Device :=
  if d.linkState l = linkDisabled then d
  else ((d.parkLanes l).setLk l (d.lk l).emptied).setLinkState l linkDisabled

/-- PM_CTRL.SLEEP: the request goes out once the link is ACTIVE and has nothing to send (R247). -/
def pmSleep (l : Fin 144) (d : Device) : Device :=
  let st := d.linkState l
  if st = linkActive ∨ st = linkRetrain ∨ st = linkTraining ∨ st = linkHello then
    d.setLk l { d.lk l with sleepWanted := true }
  else d

def pmWake (l : Fin 144) (d : Device) : Device :=
  let d := d.setLk l { d.lk l with sleepWanted := false, sleepRepeat := false }
  d.linkWake l

def pmRetrain (l : Fin 144) (d : Device) : Device := d.linkRetrainNow l

/-! ### The flit slot (R193, R234, R237, R239, R273) -/

/-- What the egress of a link can send now: the head packet of each input of its port router and class, with credit for all of it
(R187, R193, R239). While its shutter or its engine's is CLOSED a link carries no packet (R198, R284). -/
def Device.egressHeads (d : Device) (l : Fin 144) : List Queued :=
  let k := d.lk l
  let shut := d.rd (.txl l) fTxlShutterState == shutterClosed || d.rd (curPage l) fCurShutterState == shutterClosed
  let firstOf (q : Queued) : Bool :=
    (k.txq.find? fun r => r.input == q.input && r.pkt.cls == q.pkt.cls) == some q
  if shut then []
  else k.txq.filter fun q => firstOf q && decide (roomOf q.pkt ≤ classField k.credits q.pkt.cls.toNat)

/-- The requester that a packet at the egress belongs to: an input and a class. -/
def Queued.asking (q : Queued) : Asking := { id := 4 * q.input + q.pkt.cls.toNat, rank := q.rank, since := q.stamp }

/-- The packet that the egress grants next (R193). -/
def Device.egressGrant (d : Device) (l : Fin 144) : Option Queued :=
  let pg := PageRef.portr (portrOf l)
  let heads := d.egressHeads l
  match (d.lk l).arb.pick (d.eff pg fPortrEgressArbBurstLimit) (d.eff pg fPortrEgressArbArbN) (heads.map (·.asking)) with
  | some id => heads.find? fun q => q.asking.id == id
  | none => none

/-- The kinds of the flits of a packet of `n` flits (R231). -/
def flitKinds (n : Nat) : List FlitKind :=
  if n = 1 then [.sole] else [.head] ++ List.replicate (n - 2) .mid ++ [.tail]

/-- The first posted write of this packet, now under way, is complete once its last flit is acknowledged (R262). -/
def startPost (ps : List Posted) (p : Packet) (last : BitVec 64) : List Posted :=
  match ps with
  | [] => []
  | r :: rest => if r.pkt = p ∧ r.seq = none then { r with seq := some last } :: rest else r :: startPost rest p last

/-- Take the granted packet from its queue and charge its credits (R239). -/
def Device.startPacket (d : Device) (l : Fin 144) (q : Queued) : Device :=
  let k := d.lk l
  let fs := packetFlits q.pkt
  let c := q.pkt.cls.toNat
  let limit := d.eff (.portr (portrOf l)) fPortrEgressArbBurstLimit
  d.setLk l { k with txq := k.txq.erase q, cur := List.zip (flitKinds fs.length) fs
                     credits := k.credits.set c (classField k.credits c - fs.length)
                     posts := startPost k.posts q.pkt (k.txSeq + BitVec.ofNat 64 (fs.length - 1))
                     arb := k.arb.granted limit q.asking.id q.pkt.lock }

/-- A 128-bit atomic whose link has come up with TXL 1.0 or 1.1 is not sent (R163, R243). -/
def Device.dropAtomic (d : Device) (l : Fin 144) (q : Queued) : Device :=
  let k := d.lk l
  (d.setLk l { k with txq := k.txq.erase q, outReqs := k.outReqs.erase (q.pkt.src, q.pkt.tag) }).injectRsp (.link l.val) iniAnswer
    (rspTo q.pkt stSlave)

/-- Send the next flit of the packet under way, numbered and held; in link mode encrypted (R235, R237, R272). -/
def Device.sendPacketFlit (d : Device) (l : Fin 144) : Device :=
  let k := d.lk l
  match k.cur with
  | [] => d
  | (kind, body) :: rest =>
    let body := if d.curMode l = 2 then
        flitCrypt (d.slotKey l (d.flag (curPage l) fCurCurStatusTxPhase)) k.ownNode k.txSeq body
      else body
    let cover := if d.curMode l = 2 then k.txCover ++ [(k.txSeq, body)] else []
    let d := d.setLk l { k with cur := rest, txSeq := k.txSeq + 1, retry := k.retry ++ [⟨k.txSeq, kind, body⟩]
                                txCover := cover }
    d.sendFlit l kind body

/-- Send the TAG flit over the flits covered so far; in a rotation it names the slot that is not current (R273, R278). -/
def Device.sendTag (d : Device) (l : Fin 144) : Device :=
  let cpg := curPage l
  let k := d.lk l
  let phase := d.flag cpg fCurCurStatusTxPhase
  let next := if d.flag cpg fCurCurStatusRollBusy then !d.curCurrent l else phase
  let first := ((k.txCover.map (·.1)).head?).getD 0
  let tag := coverTag (d.slotKey l phase) k.ownNode k.txCover
  let body := BitVec.ofNat 512 (0x4 + next.toNat * 2 ^ 8 + k.txCover.length * 2 ^ 16 + first.toNat * 2 ^ 24 +
    natLEn tag * 2 ^ 96)
  let d := d.setLk l { k with txSeq := k.txSeq + 1, retry := k.retry ++ [⟨k.txSeq, .ctrl, body⟩], txCover := []
                              txCoverAge := 0 }
  (d.put cpg fCurCurStatusTxPhase next.toNat).sendFlit l .ctrl body

/-- A LINK flit is due out of cadence (R234). -/
def LinkSt.owesLink (k : LinkSt) : Bool :=
  k.oweNak || k.oweReplay || k.owePm != 0 && !k.pmSent || k.oweDone != 0 || k.oweRetrain != 0 || k.oweCswap ||
    k.swapReq.isSome && k.sinceLink ≠ 0

/-- The flits covered must have their TAG flit before a packet of `f` flits: the cover would pass 32 flits, or 32 slots with the LINK
flits that may come between (R273). -/
def LinkSt.tagFirst (k : LinkSt) (f : Nat) : Bool :=
  !k.txCover.isEmpty && (decide (32 < k.txCover.length + f) || decide (24 < k.txCoverAge + f))

/-- New sequenced flits: the packet under way goes on; between packets, the TAG flit when it is due, else the next packet, as far as
the retry buffer has room for it and for its TAG flit (R231, R237, R273). A stopped engine sends none (R281). -/
def Device.newSlot (d : Device) (l : Fin 144) : Device :=
  let k := d.lk l
  if (d.cur l).stopped then d.sendLink l false
  else if !k.cur.isEmpty then d.sendPacketFlit l
  else
    match (if k.sleepSent then none else d.egressGrant l) with
    | none => if k.txCover.isEmpty then d.sendLink l false else d.sendTag l
    | some q =>
      if d.atomicRefused l q.pkt then (d.dropAtomic l q).sendLink l false
      else if k.tagFirst (roomOf q.pkt) then d.sendTag l
      else if 64 < k.retry.length + roomOf q.pkt + (d.curMode l == 2).toNat then
        (if k.txCover.isEmpty then d.sendLink l false else d.sendTag l)
      else (d.startPacket l q).sendPacketFlit l

/-- The entry of the retry buffer that a replay comes to next. -/
def Device.replaySlot (d : Device) (l : Fin 144) (i : Nat) : Device :=
  let k := d.lk l
  match k.retry[i]? with
  | some h =>
    let d := d.setLk l { k with replayAt := if i + 1 < k.retry.length then some (i + 1) else none }
    d.sendFlit l h.kind h.body
  | none => d.setLk l { k with replayAt := none }

/-- One slot in ACTIVE. -/
def Device.activeSlot (d : Device) (l : Fin 144) : Device :=
  let k := d.lk l
  let k := if k.sleepWanted && !k.sleepSent && k.quiet && k.settled then
      { k.askPm 2 with sleepSent := true, sleepWanted := false } else k
  let k := if k.txCover.isEmpty then k else { k with txCoverAge := k.txCoverAge + 1 }
  let d := d.setLk l k
  if k.owesLink || decide (31 ≤ k.sinceLink) then d.sendLink l false
  else
    match k.replayAt with
    | some i => d.replaySlot l i
    | none => d.newSlot l

/-! ### Aborts (R225, R247, R251, R273) -/

/-- An abort of a running link begins: what is in progress ends and the retry buffer is discarded; flits that have gone out get their
TAG flit, and SLEEP is requested. A link that is not ACTIVE parks at once. Nothing wakes it (R247, R248, R251, R273). -/
def linkAbortBegin (l : Fin 144) (d : Device) : Device :=
  let st := d.linkState l
  if st = linkDisabled ∨ st = linkFault then d
  else if st = linkActive ∧ d.canSend l = true then
    let d := d.txResume l
    let d := if (d.lk l).txCover.isEmpty || (d.cur l).stopped then d else d.sendTag l
    let k := { (d.lk l).emptied with sleepAfterAbort := true, sleepSent := true, replayAt := none, owePm := 2 }
    (d.setLk l k).sendLink l false
  else ((d.parkLanes l).setLk l { (d.lk l).emptied with sleepAfterAbort := true }).setLinkState l linkSleep

/-- A link abort has completed: the link is in SLEEP, whether or not its partner has answered (R48, R247). -/
def linkAborted (l : Fin 144) (d : Device) : Device :=
  let st := d.linkState l
  if st = linkDisabled ∨ st = linkFault ∨ st = linkSleep then d
  else ((d.parkLanes l).setLk l { (d.lk l).emptied with sleepAfterAbort := true }).setLinkState l linkSleep

/-- The transmitter sends TRAIN, or, once both receivers are aligned, the one TRAIN_END (R210). -/
def Device.trainSlot (d : Device) (l : Fin 144) : Device :=
  let pg := PageRef.txl l
  let k := d.lk l
  if d.flag pg fTxlPhyRxAligned ∧ k.report.getLsbD 0 = true ∧ 1024 ≤ k.trainSent then
    let d := (d.sendTraining l true).put pg fTxlPhyTxMode phyData
    let d := if k.clkSwapTx then (d.setLk l { d.lk l with clkSwapTx := false }).clockSwapped l else d
    d.linkAdvance l
  else d.sendTraining l false

/-- One slot in HELLO (R242). -/
def Device.helloSlot (d : Device) (l : Fin 144) : Device :=
  let k := d.lk l
  if k.oweRetrain ≠ 0 ∨ k.swapReq.isSome = true ∧ 8 ≤ k.sinceLink ∨ k.oweDone ≠ 0 then d.sendLink l false
  else
    let d := d.sendFlit l .ctrl (d.helloBody l)
    (d.setLk l { d.lk l with seenSent := if k.peer.isSome then k.seenSent + 1 else k.seenSent }).helloDone l

/-- A slot in data mode while this side's receiver still trains: a LINK flit; after a training without HELLO one with REPLAY = 1 (R234,
R238). -/
def Device.earlySlot (d : Device) (l : Fin 144) : Device :=
  let k := d.lk l
  let k := if k.noHello then { k with oweReplay := true, replayAt := if k.retry.isEmpty then none else some 0 } else k
  (d.setLk l k).sendLink l false

/-- FLIT_SLOT: the transmitter's next flit slot (R209, R210, R234, R242). In data mode while the receiver still trains it sends LINK
flits (R234). Packets in the mesh that are bound for the link may reach its egress before (entry 80). -/
def flitSlotBody (l : Fin 144) (d : Device) : Device :=
  let pg := PageRef.txl l
  let d := if d.mesh.any fun f => f.dst == .link l.val then d.meshRun else d
  let st := d.linkState l
  let mode := d.rd pg fTxlPhyTxMode
  if mode = phyTraining ∧ (st = linkTraining ∨ st = linkRetrain) then d.trainSlot l
  else if mode = phyData then
    if st = linkHello then d.helloSlot l
    else if st = linkActive then d.activeSlot l
    else if st = linkTraining ∨ st = linkRetrain then d.earlySlot l
    else d
  else d

end Sys2Proof.Machine
end

