-- ==== Sys2Proof/Machine/Engines.lean ====
section
/-! DEFINITION. Engines and their spares (R281, R282); what a link or an engine that is fenced lets go of (R198, R271, R283). -/

namespace Sys2Proof.Machine

open Sys2Proof

/-- The group of an engine. -/
def engineGroup (e : Nat) : Nat := if e < 144 then e / 12 else e - 144

/-- A healthy engine of a group that serves no link: its spare (R254, R281). -/
def Device.spareOf (d : Device) (g : Nat) : Option Nat :=
  (((List.range 12).map (12 * g + ·)) ++ [144 + g]).find? fun e =>
    sget (fun _ => 0) d.engines e == 0 && !(((List.range 12).map (12 * g + ·)).any fun n =>
      d.rd (.cur (Fin.ofNat 156 n)) fCurCurStatusEngine == e)

/-- What an engine lets go of when its link is fenced: requests under way and waiting. Caches, keys and the quarantine table stay, and
so does what has to reach the partner for the caches to hold: write-backs and the lines of a page already under its new counter
(R271, R283). -/
def CurSt.fenced (c : CurSt) : CurSt :=
  let keeps (job : CurJob) : Bool := match job with
    | .rmwWrite => true
    | _ => false
  { c with
    waiting := [], reads := [], fetched := [], fetching := [], issueq := c.issueq.filter fun e => keeps e.1, poisonq := []
    arrived := [], checks := [], rmw := none
    ctrs := c.ctrs.map fun (e : Nat × Option CtrBlock) =>
      (e.1, e.2.map fun b => { b with dirty := b.dirty || b.saving, saving := false, leaving := false })
    tags := c.tags.map fun (e : Nat × Option TagLine) =>
      (e.1, e.2.map fun b => { b with dirty := b.dirty || b.saving, saving := false, leaving := false })
    reenc := match c.reenc with
      | some r => if r.writing then some { r with left := [], trigger := r.trigger.map fun t => (t.1, true) } else none
      | none => none }

/-- Posted packets among what a fenced engine lets go of. -/
def CurSt.postedLost (c : CurSt) : Nat :=
  ((c.waiting.filter fun r => r.pkt.cls == 2).length) +
    (match c.rmw with
      | some r => (r.req.pkt.cls == 2 && !r.writing).toNat
      | none => 0) +
    match c.reenc with
    | some r => (match r.trigger with
        | some (q, own) => (q.pkt.cls == 2 && !own && !r.writing).toNat
        | none => 0)
    | none => 0

/-- A page that was left half written goes on when the shutter opens (R271, R283). -/
def Device.curResume (d : Device) (n : Fin 144) : Device :=
  match (d.cur n).reenc with
  | none => d
  | some r =>
    match d.window n r.window with
    | none => d
    | some v =>
      let d := d.setCur n { d.cur n with reenc := some { r with left := r.writes.map (·.1) } }
      r.writes.foldl (fun (d : Device) (e : Nat × List Nat) =>
        d.curOwn n (.reencWrite e.1) (d.ownPacket v.node 0x01 (e.1 * 64) 63 e.2)) d

/-- Posted packets are discarded and counted. -/
def Device.postedDrops (d : Device) (n : Nat) : Device := (List.range n).foldl (fun (d : Device) _ => d.postedDrop) d

/-- A link's queues are emptied, and what its engine holds for it: the packets end in TIMEOUT at their initiators, posted ones are
counted. The packet under way goes out whole; packets held for their tag leave the receive buffer (R198, R240). -/
def Device.linkExpire (d : Device) (l : Fin 144) : Device :=
  let k := d.lk l
  let c := d.cur l
  let posted := (k.txq.filter fun q => q.pkt.cls == 2).length + (k.rxHeld.filter fun p => p.cls == 2).length +
    (c.waiting.filter fun r => r.pkt.cls == 2).length
  let posts := k.posts.filter fun r => r.seq.isSome
  let d := (d.setLk l { k with txq := [], outReqs := [], inReqs := [], rxHeld := [], posts := posts }).setCur l { c with waiting := [] }
  (k.rxHeld.foldl (fun (d : Device) (p : Packet) => d.freeCredit l p.cls.toNat (roomOf p)) d).postedDrops posted

/-- AES_PARITY_FAIL: the engine that serves link `n` stops. With no healthy spare its link is fenced, and what is undelivered is lost
(R281, R282). -/
def aesParityFailBody (n : Fin 144) (d : Device) : Device :=
  let pg := curPage n
  let e := d.rd pg fCurCurStatusEngine
  if (d.cur n).stopped then d
  else
    let d := (d.setCur n { d.cur n with stopped := true }).setEngine e 1
    match d.spareOf (engineGroup n.val) with
    | some _ => d
    | none =>
      let d := (d.raise pg cCurEngineLost).put pg fCurShutterState shutterClosed
      let d := d.linkExpire n
      let lost := (d.cur n).postedLost
      let d := (d.setCur n (d.cur n).fenced).setLk n { d.lk n with cur := [] }
      (d.postedDrops lost).signal (.faultHold 5)

/-- TAKEOVER_DONE: the spare is attached, its keys loaded; flits and data that waited for it are processed, link mode replays from the
oldest flit not acknowledged, and traffic resumes (R281). -/
def takeoverDoneBody (n : Fin 144) (d : Device) : Device :=
  let pg := curPage n
  if !(d.cur n).stopped then d
  else
    match d.spareOf (engineGroup n.val) with
    | none => d
    | some e =>
      let d := (d.put pg fCurCurStatusEngine e).setCur n { d.cur n with stopped := false }
      let d := (d.raise pg cCurTakeover).count pg 7
      let k := d.lk n
      let d := if d.curMode n = 2 ∧ k.retry ≠ [] then d.setLk n { k with replayAt := some 0, oweReplay := true } else d
      ((d.unstall n).curArrived n).curPump n

/-- ENGINE_SELF_TEST_DONE: an engine that failed becomes the group's spare, or is marked failed (R281). -/
def engineSelfTestDoneBody (e : Fin 156) (pass : Bool) (d : Device) : Device :=
  if sget (fun _ => 0) d.engines e.val = 1 then
    d.setEngine e.val (if pass then 0 else 2)
  else d

/-- SPARE_SELF_TEST: the once-a-second test of a spare (R282). A spare that fails it is not healthy: it is marked failed
(DEDUCED, entry 72). -/
def spareSelfTestBody (g : Fin 12) (pass : Bool) (d : Device) : Device :=
  match pass, d.spareOf g.val with
  | false, some e => (d.raise (.cur (Fin.ofNat 156 (144 + g.val))) cCurSpareFault).setEngine e 2
  | _, _ => d

end Sys2Proof.Machine
end

