-- ==== Sys2Proof/Machine/Clocks.lean ====
section
/-! DEFINITION. Clocks (R133 to R149, R497): the reference voter, the sill clock, the sources and their failures, gating. -/

namespace Sys2Proof.Machine

open Sys2Proof

/-! ### Modes (R16) -/

/-- The device changes mode (R453, R466, R467). -/
def Device.setMode (d : Device) (m : Nat) : Device :=
  ((d.put .sill fSillDeviceModePrev d.mode).put .sill fSillDeviceModeMode m).count .pwr 0

/-! ### Sources (R138, R139) -/

/-- A source starts; LOCKED follows with PLL_LOCK. -/
def Device.startSource (d : Device) (s : Nat) : Device :=
  d.put .clk fClkSrcRunRun (Nat.lor (d.rd .clk fClkSrcRunRun) (2 ^ s))

/-- A source stops. -/
def Device.stopSource (d : Device) (s : Nat) : Device :=
  let run := d.rd .clk fClkSrcRunRun
  (d.put .clk fClkSrcRunRun (if run.testBit s then run - 2 ^ s else run)).lower .clk fClkSrcStatusLocked s

/-- PLL_LOCK (R138). -/
def pllLockBody (s : Fin 11) (d : Device) : Device :=
  if d.running s.val && d.mode != mDormant then d.raise .clk fClkSrcStatusLocked s.val else d

/-- The core clock runs: tenant cores, porter and configuration engines (R138, R148). -/
def Device.coreClock (d : Device) : Bool := d.mode != mDormant && d.running 10

/-! ### Use of clocks (R142) -/

/-- A bay of row `r` is in service. -/
def Device.rowInService (d : Device) (r : Nat) : Bool :=
  (List.finRange 112).any fun pb => pb.val / 14 == r && d.inService pb

/-- Global clock `g` is IN_USE (R142); a bay in partial reconfiguration does not count before its outputs are released
(R335). -/
def Device.gclkInUse (d : Device) (g : Nat) : Bool :=
  ((List.finRange 112).any fun pb =>
    (sget (fun _ => BayCfg.empty) d.bayCfg pb.val).clocks.getLsbD g && d.inService pb &&
      (!d.flag (.pbay pb) fPbayBayCfgStateInPr || d.bayShutter pb == shutterOpen)) ||
  (List.range 8).any fun r => d.eff .clk fClkRowTransomGclk r == g && d.rowInService r

/-- Every bay port and every link is behind a closed shutter (R142, R151). -/
def Device.portsClosed (d : Device) : Bool :=
  ((List.finRange 112).all fun pb => d.bayShutter pb == shutterClosed) &&
    (List.finRange 144).all fun l => d.rd (.txl l) fTxlShutterState == shutterClosed

/-- The lanes of a link run (R142). -/
def Device.lanesRun (d : Device) (l : Fin 144) : Bool :=
  let st := d.linkState l
  st == linkTraining || st == linkHello || st == linkActive || st == linkRetrain

/-- A clear of SRC_RUN bit `s` is refused (R142). -/
def Device.sourceBusy (d : Device) (s : Nat) : Bool :=
  (decide (1 ≤ s ∧ s ≤ 4) && (List.range 8).any fun k => d.gclkInUse (8 * (s - 1) + k)) ||
  (s == 0 && !d.portsClosed) ||
  (decide (5 ≤ s ∧ s ≤ 8) && (List.finRange 144).any fun l => l.val / 36 == s - 5 && d.lanesRun l)

/-- The whole SRC_RUN register is written: bits go on, or off where nothing forbids it; bits 9 and 10 ignore writes (R142,
R149). In DORMANT, DOORWAY and QUIESCED none of the sources 0 to 8 runs, and none starts (R139). -/
def Device.writeSrcRun (d : Device) (w : Nat) : Device :=
  (List.range 9).foldl (fun d s =>
    if w.testBit s then (if d.meshUp then d.startSource s else d)
    else if !d.running s then d
    else if d.sourceBusy s then d.raise .clk cClkGclkBusy
    else d.stopSource s) d

/-- A COMMIT of the CLK page is refused in whole (R142): staged against committed. -/
def Device.clkRefuses (d : Device) : Bool :=
  ((List.range 11).any fun s => d.running s && d.rd .clk fClkSrcCfgMult s != d.eff .clk fClkSrcCfgMult s) ||
  ((List.range 32).any fun g => d.gclkInUse g && d.rd .clk fClkGclkDiv g != d.eff .clk fClkGclkDiv g) ||
  (List.range 8).any fun r => d.rowInService r && d.rd .clk fClkRowTransomGclk r != d.eff .clk fClkRowTransomGclk r

/-! ### The reference voter (R135, R497) -/

def Device.refGood (d : Device) (b : Bool) : Bool :=
  if b then d.flag .clk fClkRefStatusBGood else d.flag .clk fClkRefStatusAGood

def Device.selectedRef (d : Device) : Bool := d.flag .clk fClkRefStatusSelected

/-- The failure record in the sill (R148, R149). -/
def Device.lastFail (d : Device) (code source : Nat) : Device :=
  ((d.put .clk fClkLastFailCode code).put .clk fClkLastFailSource source).raise .clk fClkLastFailValid

/-- The PCIe PLL or its reference has failed: the PCI Express link goes down (R148, R397). -/
def Device.pcieClockLost (d : Device) : Device :=
  if d.running 9 && d.mode != mDormant then
    let d := (d.lastFail 6 9).stopSource 9
    ((d.raise .clk cClkPllFail).signal .pcieDown).signal (.faultHold 2)
  else d

/-- REFCLK_FAIL (R135, R148). A reference that was not judged good at the exit from DORMANT has no loss to report: its failure sets no
cause (DESIGN CHOICE, entry 79). When the second reference fails the code is 2 if it was the selected one and followed by every PLL, and 1
otherwise, so also while a switch to it is under way (DESIGN CHOICE, entry 79). -/
def refclkFailBody (r : RefClk) (d : Device) : Device :=
  if d.mode = mDormant then d
  else
    match r with
    | .pcie => if d.flag .clk fClkRefStatusPcieRefGood then (d.lower .clk fClkRefStatusPcieRefGood).pcieClockLost else d
    | .a => voted false d
    | .b => voted true d
where
  voted (b : Bool) (d : Device) : Device :=
    if !d.refGood b then d
    else
      let otherGood := d.refGood (!b)
      let d := if b then (d.lower .clk fClkRefStatusBGood).raise .clk cClkRefBLost
        else (d.lower .clk fClkRefStatusAGood).raise .clk cClkRefALost
      if otherGood then
        if d.selectedRef == b then { d with refSwitch := some (!b) }
        else if d.refSwitch == some b then { d with refSwitch := none } else d
      else ((d.lastFail (if d.selectedRef == b && d.refSwitch.isNone then 2 else 1) 0)).signal (.dormant 2)

/-- REF_SWITCH_DONE: the PLLs follow the other reference (R135). -/
def refSwitchDoneBody (d : Device) : Device :=
  match d.refSwitch with
  | none => d
  | some b =>
    let d := { d with refSwitch := none }
    ((d.put .clk fClkRefStatusSelected b.toNat).raise .clk cClkRefSwitched).count .clk 0

/-- REFCLK_RECOVER: good again; with REVERT the voter returns to the preferred reference (R135). -/
def refclkRecoverBody (r : RefClk) (d : Device) : Device :=
  if d.mode = mDormant then d
  else
    match r with
    | .pcie => d.raise .clk fClkRefStatusPcieRefGood
    | .a => voted false d
    | .b => voted true d
where
  voted (b : Bool) (d : Device) : Device :=
    if d.refGood b then d
    else
      let d := if b then d.raise .clk fClkRefStatusBGood else d.raise .clk fClkRefStatusAGood
      if d.flag .clk fClkRefCtrlRevert && d.flag .clk fClkRefCtrlPrefer == b && d.selectedRef != b then
        { d with refSwitch := some b }
      else d

/-- PREFER has been written; a change while both references are good switches at once (R135). -/
def Device.preferWritten (d : Device) (old : Bool) : Device :=
  let b := d.flag .clk fClkRefCtrlPrefer
  if b != old && d.refGood false && d.refGood true && d.mode != mDormant then
    { d with refSwitch := if d.selectedRef == b then none else some b } else d

/-! ### The sill clock (R136, R137) -/

/-- A write of SILL_CLK: AON_XIN is taken only while present; TRIM_AUTO; TRIM_GO (R136). A TRIM_GO while the selected reference is not
good has nothing to measure against, and is dropped (DESIGN CHOICE, entry 79). -/
def Device.writeSillClk (d : Device) (w : Nat) : Device :=
  let d := if w.testBit 0 && !d.flag .clk fClkSillClkXinPresent then d else d.put .clk fClkSillClkSrcSel (w.testBit 0).toNat
  let d := d.put .clk fClkSillClkTrimAuto (w.testBit 1).toNat
  if w.testBit 2 && d.refGood d.selectedRef && d.mode != mDormant then { d with trimming := true } else d

def trimPeriodicBody (d : Device) : Device :=
  if d.flag .clk fClkSillClkTrimAuto && d.refGood d.selectedRef && d.mode != mDormant then { d with trimming := true } else d

/-- TRIM_DONE: what the trim has measured is the environment's to say. -/
def trimDoneBody (code : Byte) (d : Device) : Device :=
  if d.trimming then
    let d := { d with trimming := false }
    (d.put .clk fClkSillClkTrimCode code.toNat).raise .clk cClkTrimDone
  else d

/-- SILL_CLK_FAIL: the sill goes on with the other source (R137, R148, R500). -/
def sillClkFailBody (d : Device) : Device :=
  let d := d.lastFail 3 0
  let d :=
    if d.flag .clk fClkSillClkSrcSel then
      let d := d.lower .clk fClkSillClkXinPresent
      if d.rcDead then d.raise .clk fClkSillClkDead else d.lower .clk fClkSillClkSrcSel
    else
      let d := { d with rcDead := true }
      if d.flag .clk fClkSillClkXinPresent then d.raise .clk fClkSillClkSrcSel else d.raise .clk fClkSillClkDead
  if d.mode = mDormant then d.raise .sill cSillForcedDormant else d.signal (.dormant 2)

/-! ### Failures of sources (R140, R148) -/

/-- TWIN_SWITCH: the driving twin of a pair loses lock (R140). -/
def twinSwitchBody (s : Fin 11) (d : Device) : Device :=
  if s.val ≤ 4 ∧ d.running s.val = true ∧ d.flag .clk fClkSrcStatusLocked s.val = true ∧
      d.flag .clk fClkSrcStatusTwinDegraded s.val = false then
    let d := d.put .clk fClkSrcStatusTwinActive (1 - d.rd .clk fClkSrcStatusTwinActive s.val) s.val
    ((d.raise .clk fClkSrcStatusTwinDegraded s.val).raise .clk cClkTwinSwitched).count .clk 1
  else d

def twinPairFailBody (s : Fin 11) (d : Device) : Device :=
  if s.val ≤ 4 ∧ d.running s.val = true ∧ d.mode ≠ mDormant then (d.lastFail 4 s.val).signal (.dormant 2) else d

/-- LINK_PLL_FAIL: the links of the edge enter fault; no transmitter of the edge can send (R148, R249). -/
def linkPllFailBody (e : Fin 4) (d : Device) : Device :=
  if d.running (5 + e.val) && d.mode != mDormant then
    let d := (d.lastFail 5 (5 + e.val)).stopSource (5 + e.val)
    let d := (List.finRange 144).foldl (fun d l =>
      if l.val / 36 = e.val ∧ d.linkState l ≠ linkDisabled ∧ d.linkState l ≠ linkFault then
        (d.put (.txl l) fTxlPhyTxMode phyParked).linkEnterFault l
      else d) d
    (d.raise .clk cClkPllFail).signal (.faultHold 1)
  else d

def pciePllFailBody (d : Device) : Device := d.pcieClockLost

/-- CORE_PLL_FAIL: tenant cores, porter and configuration engines stop (R148). -/
def corePllFailBody (d : Device) : Device :=
  if d.running 10 && d.mode != mDormant then
    (((d.lastFail 7 10).stopSource 10).raise .clk cClkPllFail).signal (.faultHold 3)
  else d

/-! ### Drowsy gating (R146, R147) -/

/-- A bay's inbound buffers are empty. -/
def Device.inboundEmpty (d : Device) (n : Fin 104) : Bool :=
  ((List.range 8).all fun ch => (sget chanDflt d.hinges (n.val * 8 + ch)) == Channel.empty) &&
    (List.range 4).all fun ch => (sget chanDflt d.stiles (n.val * 4 + ch)) == Channel.empty

/-- Non-posted requests of a logical bay outstanding (BP_STATUS.OUTSTANDING). -/
def Device.bayOutstanding (d : Device) (n : Fin 104) : Nat :=
  ((List.range 32).filter fun i => match d.req .fabric (32 * n.val + i) with
    | some r => r.phase != .quarantined
    | none => false).length

/-- Packets that wait at a bay port. -/
def Device.bayQueued (d : Device) (n : Fin 104) : Bool :=
  (List.range 4).any fun c => !(sget (fun _ => []) d.bayHeld (n.val * 4 + c)).isEmpty

/-- A migration moves this physical bay: it is the source or the target of its row's migration (R146, R358). -/
def Device.migrating (d : Device) (pb : Fin 112) : Bool :=
  let r := pb.val / 14
  d.rd .repair fRepairMigStatePhase r != 0 &&
    (d.rd .repair fRepairMigStateSource r == pb.val || d.rd .repair fRepairMigStateTarget r == pb.val)

/-- DROWSY_GATE: the bay has been idle for IDLE_TIME (R146). -/
def drowsyGateBody (n : Fin 104) (d : Device) : Device :=
  let pb := d.physOf n
  if d.flag .clk fClkDrowsyEn ∧ (d.mode = mService ∨ d.mode = mDrowse) ∧ (d.cfgOf n).drowsyCapable = true ∧
      d.inboundEmpty n = true ∧ d.bayOutstanding n = 0 ∧ d.bayQueued n = false ∧
      d.flag (.pbay pb) fPbayCaptureStatusBusy = false ∧ d.flag (.pbay pb) fPbayBayCfgStateInPr = false ∧
      d.migrating pb = false then
    d.raise (.pbay pb) fPbayHingeStatusDrowsyGated
  else d

/-- DROWSY_WAKE: a wake event of R147. -/
def drowsyWakeBody (n : Fin 104) (d : Device) : Device := d.wakeBay n

end Sys2Proof.Machine
end

