-- ==== Sys2Proof/Machine/Stream.lean ====
section
/-! DEFINITION. The configuration stream as a language (R285 to R304): stored words, frame addresses, the HEADER and what
accepts it, keys and segments, the layout of body records. Nothing here touches the device; Machine/Loader.lean applies it,
and the warden services check a stream of their own with it. -/

namespace Sys2Proof.Machine

open Sys2Proof

/-! ### Stored words (R285) -/

/-- Check bits c0 to c7 of 65 covered bits, ESS being d64 (R285). -/
def cfgCheck (v : Nat) : Nat :=
  let c := (List.range 65).foldl (fun s j => if v.testBit j then Nat.xor s (eccPos j) else s) 0
  c + (if parityOf 65 v != parityOf 7 c then 128 else 0)

/-- A stored word with its check bits. -/
def cfgWord (data : DWord) (ess : Bool) : BitVec 73 :=
  let v := data.toNat + (if ess then 2 ^ 64 else 0)
  BitVec.ofNat 73 (v + cfgCheck v * 2 ^ 65)

/-- Syndrome s and parity p of a stored word. -/
def cfgSyndrome (w : BitVec 73) : Nat × Bool :=
  let v := w.toNat
  let c := (List.range 65).foldl (fun s j => if v.testBit j then Nat.xor s (eccPos j) else s) 0
  (Nat.xor c (natBits v 65 7), parityOf 73 v)

/-- What a read of a stored word finds: a syndrome above 72 is uncorrectable (R285). -/
def cfgVerdict (w : BitVec 73) : EccVerdict :=
  let sp := cfgSyndrome w
  if sp.1 = 0 then (if sp.2 then .corrected else .good)
  else if sp.2 && decide (sp.1 ≤ 72) then .corrected else .bad

/-- The word with a single error put right; every other word as it stands. -/
def cfgFix (w : BitVec 73) : BitVec 73 :=
  match cfgVerdict w with
  | .corrected =>
    let v := w.toNat % 2 ^ 65
    let v := match (List.range 65).find? fun j => eccPos j == (cfgSyndrome w).1 with
      | some j => Nat.xor v (2 ^ j)
      | none => v
    cfgWord (BitVec.ofNat 64 v) (v.testBit 64)
  | _ => w

/-! ### Frame addresses (R286, R300) -/

/-- A frame address taken apart. -/
structure FrameAddr where
  bay : Nat
  typ : Nat
  major : Nat
  minor : Nat
  deriving DecidableEq, Repr

def frameAddrOf (a : Nat) : FrameAddr :=
  { bay := natBits a 25 7, typ := natBits a 22 3, major := natBits a 14 8, minor := natBits a 0 14 }

/-- The 32 bits of a frame address. -/
def FrameAddr.bits (a : FrameAddr) : Nat := a.bay * 2 ^ 25 + a.typ * 2 ^ 22 + a.major * 2 ^ 14 + a.minor

/-- The capture shadow's major (R286). -/
def shadowMajor : Nat := 0xFF

/-- Minors of a type and major (R286); 0: no such combination. -/
def minorsOf (typ major : Nat) : Nat :=
  match typ with
  | 0 => if major < 96 then 88 else 0
  | 1 => if major < 128 then 9 else 0
  | 2 => if major = 0 then 16 else 0
  | 3 => if major = 0 then 48 else 0
  | 4 => if major = 0 then 16 else if major = shadowMajor then 1648 else 0
  | 5 => if major < 4 then 256 else 0
  | _ => 0

/-- The address exists, in a relative or an absolute stream (R286, R300). -/
def FrameAddr.exists_ (a : FrameAddr) (absolute : Bool) : Bool :=
  decide (a.minor < minorsOf a.typ a.major) &&
    (if a.typ = 5 then a.bay == 0 else decide (a.bay < if absolute then 112 else 104))

/-- The address after this one; none past the last major (R300, R305). -/
def FrameAddr.next (a : FrameAddr) : Option FrameAddr :=
  if a.minor + 1 < minorsOf a.typ a.major then some { a with minor := a.minor + 1 }
  else if a.major = shadowMajor then none
  else if 0 < minorsOf a.typ (a.major + 1) then some { a with major := a.major + 1, minor := 0 }
  else none

/-! ### HEADER (R291) -/

/-- Words of a byte list, little-endian (R288). -/
def wordAt (bs : List Byte) (i : Nat) : Nat := natLE ((bs.drop (4 * i)).take 4)

/-- The fields of a HEADER record of 36 bytes. -/
def hdrOf (bs : List Byte) : StreamHdr :=
  let w1 := wordAt bs 2
  let w6 := wordAt bs 7
  { minStepping := natBits w1 0 8, cls := natBits w1 8 2, absolute := w1.testBit 10, kind := natBits w1 11 2
    slot := natBits w1 16 4, segLog2 := natBits w1 20 4, nonce := (bs.drop 12).take 8, bodyBytes := wordAt bs 5
    frames := wordAt bs 6, wraps := natBits w6 0 5, broadcast := w6.testBit 8 }

/-- R291, with the permitted stream forms. -/
def hdrAccepted (stepping : Nat) (bs : List Byte) : Bool :=
  let h := hdrOf bs
  let w0 := wordAt bs 1
  let w1 := wordAt bs 2
  let form := (h.cls, h.kind, h.absolute)
  natBits w0 16 16 == 0x7144 && natBits w0 8 8 == 1 && decide (h.minStepping ≤ stepping) &&
    [(1, 0, false), (1, 1, false), (1, 1, true), (2, 1, false), (0, 2, false), (0, 2, true)].contains form &&
    (h.cls == 0 || decide (2 ≤ h.segLog2 ∧ h.segLog2 ≤ 6)) &&
    (if h.cls == 2 then decide (h.slot ≤ 11) else h.slot == 0) &&
    (if h.cls == 1 then decide (1 ≤ h.wraps ∧ h.wraps ≤ 16) else h.wraps == 0) &&
    (!h.broadcast || form == (1, 1, false)) &&
    natBits w1 13 3 == 0 && natBits w1 24 8 == 0 && natBits (wordAt bs 7) 5 3 == 0 && natBits (wordAt bs 7) 9 23 == 0 &&
    wordAt bs 8 == 0

/-! ### Abort reasons (R307, R329) -/

def abSync : Nat := 1
def abHeader : Nat := 2
def abKey : Nat := 3
def abAuth : Nat := 4
def abOveruse : Nat := 5
def abRecord : Nat := 6
def abAddr : Nat := 7
def abOutside : Nat := 8
def abCrc : Nat := 9
def abBusy : Nat := 10
def abReadback : Nat := 11
def abCore : Nat := 12
def abLate : Nat := 16
def abLimit : Nat := 17
def abSource : Nat := 18
def abLock : Nat := 19
def abLatch : Nat := 20
def abHost : Nat := 21
def abMode : Nat := 22
def abFaultHold : Nat := 23

/-! ### Keys and segments (R292 to R296) -/

/-- The stream key of a GENERAL stream from its KEY_WRAP bodies (R294). -/
def streamKey (serial : BitVec 64) (dieKey : BitVec 256) (wraps : List (List Byte)) : Option (BitVec 256) :=
  match wraps.filter fun w => natLE (w.take 8) == serial.toNat with
  | [w] => keyUnwrap dieKey ((w.drop 8).map (·.toNat))
  | _ => none

/-- Ciphertext bytes of segment `s` (R292). -/
def segBytes (h : StreamHdr) (s : Nat) : Nat := min (2 ^ (h.segLog2 + 10)) (h.bodyBytes - s * 2 ^ (h.segLog2 + 10))

/-- Open segment `s`: its plaintext if its tag verifies (R292, R293). -/
def openSegment (key : BitVec 256) (h : StreamHdr) (s : Nat) (aad cipher tag : List Byte) : Option (List Byte) :=
  let iv := BitVec.ofNat 96 (natBE (h.nonce.map (·.toNat) ++ bytesBE 4 s))
  let c := cipher.map (·.toNat)
  if natBE (tag.map (·.toNat)) = (gcmTag key iv (aad.map (·.toNat)) c).toNat then
    some ((gcmCrypt key iv c).map (BitVec.ofNat 8))
  else none

/-- R295: the next segment would bring its key above 1 MiB. -/
def keyOverused (h : StreamHdr) (used s : Nat) : Bool := h.cls == 1 && decide (2 ^ 20 < used + segBytes h s)

/-! ### Body records (R288, R289) -/

def rtSubstrate : Nat := 0x02
def rtKeyRoll : Nat := 0x04
def rtWindow : Nat := 0x05
def rtFrameAddr : Nat := 0x06
def rtFrameData : Nat := 0x07
def rtFrameRepeat : Nat := 0x08
def rtCrcCheck : Nat := 0x0A
def rtStartSeq : Nat := 0x0B
def rtReadback : Nat := 0x0C
def rtPad : Nat := 0x0D
def rtEnd : Nat := 0x0F

/-- A record type the format defines. -/
def recordKnown (t : Nat) : Bool := decide (1 ≤ t ∧ t ≤ 0x0F) && t != 0x0E

/-- A body record that the stream's class and kind allow (R288, R289, R305). -/
def recordAllowed (h : StreamHdr) (t : Nat) : Bool :=
  t == rtPad || t == rtEnd ||
    (if h.kind == 2 then t == rtReadback
     else [rtSubstrate, rtFrameAddr, rtFrameData, rtFrameRepeat, rtCrcCheck, rtStartSeq].contains t ||
       (t == rtWindow && h.kind == 1) || (t == rtKeyRoll && h.cls == 1))

/-- BODY_LEN is one that the record's layout gives (R288, R289). -/
def recordLenOk (t len : Nat) : Bool :=
  if t == rtPad then true
  else if t == rtSubstrate then decide (1 ≤ len) && (len - 1) % 16 == 0
  else if t == rtFrameData then decide (129 ≤ len) && ((len - 1) % 128 == 0 || (len - 1) % 130 == 0)
  else if t == rtKeyRoll then len == 8
  else if t == rtWindow || t == rtReadback then len == 4
  else len == 1

/-- The first words of a START_SEQ or STARTUP_ORDER: its step codes, up to the first 0 (R303). -/
def stepsOf (v : Nat) : List Nat := ((List.range 5).map fun i => natBits v (3 * i) 3).takeWhile (· != 0)

/-- R303: codes 1 to 4 exactly once, code 5 at most once, nothing after the first 0. -/
def stepsLegal (v : Nat) : Bool :=
  let ss := stepsOf v
  decide (v < 2 ^ 15) && natBits v (3 * ss.length) 15 == 0 && ss.all (fun s => decide (s ≤ 5)) &&
    [1, 2, 3, 4].all (fun c => (ss.filter (· == c)).length == 1) && decide ((ss.filter (· == 5)).length ≤ 1)

/-- The logical or physical bays a WINDOW body names (R298). -/
def windowBays (body : List Byte) : List Nat := (List.range 128).filter fun b => (natLE body).testBit b

/-- Frame words of 512 bytes (R288). -/
def frameWords (bs : List Byte) : List DWord := (List.range 64).map fun k => BitVec.ofNat 64 (natLE ((bs.drop (8 * k)).take 8))

/-- The CRC-32C of R304, taken on over the data of one frame. -/
def crcFrame (crc : Nat) (data : List DWord) : Nat :=
  data.foldl (fun c w => (bytesLE 8 w.toNat).foldl (fun c b => crc32cByte c b.toNat) c) crc

def crcStart : Nat := 0xFFFFFFFF

/-- The value CRC_CHECK and END carry for a running CRC (R304). -/
def crcValue (crc : Nat) : Nat := Nat.xor crc 0xFFFFFFFF

end Sys2Proof.Machine
end

