-- ==== Sys2Proof/Machine/CfgMem.lean ====
section
/-! DEFINITION. Configuration memory of the device (R285 to R287, R300, R340, R416): epochs of pages, frames written and read,
the settings that the stored words put in force, the marks and the golden list of R344 and R345. -/

namespace Sys2Proof.Config

open Sys2Proof.Machine

/-- Entry 12. What the words of a bay's frames set in the bay: the manual gives the frames and not the place of every bit in
them. The words are listed by their place in the bay (`bayWords`). -/
opaque bayLayout : List (Nat × BitVec 73) → BayCfg
@[inherit_doc bayLayout] opaque memLayout : Nat → List (Nat × BitVec 73) → BramCfg

/-- Entry 12. What the eight words of a slice set in it (R126). -/
opaque sliceLayout : List DWord → SliceCfg

end Sys2Proof.Config

namespace Sys2Proof.Machine

open Sys2Proof

/-! ### Epochs (R33, R34) -/

/-- COL_STEER, whose Reset value is that of its bay: an epoch increment leaves it (R34, R57; entry 13). -/
def liveReg : PageRef → Nat → Bool
  | .pbay _, o => o == 0x060
  | _, _ => false

/-- Every register of a page from `lo` on, but the live ones and the epoch, reloads its Reset value; staged and copied values
go too (R34). -/
def Device.reloadPage (d : Device) (pg : PageRef) (lo : Nat) : Device :=
  let b := pageBase pg
  let hit (k : Nat) : Bool := decide (b + lo ≤ k) && decide (k < b + 0x1000) && k != b + 0x020 && !liveReg pg (k - b)
  { d with regs := sclear hit d.regs, committed := sclear hit d.committed, copied := sclear hit d.copied }

/-- PAGE_EPOCH of a page increments (R33, R34). For a BAY page the block registers seen through it reload too (R331). -/
def Device.newEpoch (d : Device) (pg : PageRef) : Device :=
  let e := d.word (pageBase pg + 0x020)
  let d := d.reloadPage pg 0
  let d := match pg with
    | .bay n => d.reloadPage (.pbay (d.physOf n)) 0x040
    | _ => d
  (d.setWord (pageBase pg + 0x020) (e + 1)).raise pg hdrReturned

/-! ### Places of stored words (R286, R287) -/

/-- The place of a frame of types 0, 2, 3 and 4 in a physical bay. -/
def framePlace (pb typ major minor : Nat) : Nat := ((pb * 8 + typ) * 128 + major) * 128 + minor

/-- The key of a stored word: its frame's place and its column. -/
def cfgKey (pb typ major minor col : Nat) : Nat := framePlace pb typ major minor * 128 + col

def cfgDflt : Nat → BitVec 73 := fun _ => 0

def Device.cfgRead (d : Device) (key : Nat) : BitVec 73 := sget cfgDflt d.cfgMem key

/-- Write a stored word; its stuck bits keep their values (R343). -/
def Device.cfgWrite (d : Device) (key : Nat) (w : BitVec 73) : Device :=
  let mask := sget cfgDflt d.stuck key
  let v := (d.cfgRead key &&& mask) ||| (w &&& ~~~mask)
  { d with cfgMem := sset cfgDflt d.cfgMem key v }

/-- The bypassed position of a bay's L chain (even columns) or M chain (odd columns) (R55, R56). -/
def Device.bypass (d : Device) (pb : Fin 112) (m : Bool) : Nat :=
  if m then d.rd (.pbay pb) fPbayColSteerMBypass else d.rd (.pbay pb) fPbayColSteerLBypass

/-- The physical column of logical column `k` of a type 0 frame (R55, R287). -/
def Device.physCol (d : Device) (pb : Fin 112) (k : Nat) : Nat :=
  let j := k / 2
  2 * (if j < d.bypass pb (k % 2 == 1) then j else j + 1) + k % 2

/-- A physical column of a type 0 frame is one of the two bypassed ones. -/
def Device.bypassedCol (d : Device) (pb : Fin 112) (col : Nat) : Bool := col / 2 == d.bypass pb (col % 2 == 1)

/-- The column that word `k` of a frame is stored in. -/
def Device.colOf (d : Device) (pb : Fin 112) (typ k : Nat) : Nat := if typ = 0 then d.physCol pb k else k

/-! ### Block-memory content frames (R95) -/

/-- Bits of a frame as one number, word 0 lowest. -/
def frameBits (data : List DWord) : Nat := data.foldr (fun w s => w.toNat + 2 ^ 64 * s) 0

/-- The rows that a content frame holds bits of. -/
def contentRows (minor : Nat) : List Nat :=
  (List.range 512).filter fun r => decide (72 * r < 4096 * (minor + 1)) && decide (4096 * minor < 72 * (r + 1))

/-- Row `r` after its bits in the content frame `minor` take the frame's values (R95). -/
def contentRow (minor : Nat) (bits : Nat) (r : Nat) (old : BitVec 72) : BitVec 72 :=
  BitVec.ofNat 72 ((List.range 72).foldl (fun s b =>
    let i := 72 * r + b
    let v := if i / 4096 = minor then bits.testBit (i % 4096) else old.getLsbD b
    if v then s + 2 ^ b else s) 0)

def Device.writeContent (d : Device) (pb : Fin 112) (m minor : Nat) (data : List DWord) : Device :=
  let bits := frameBits data
  (contentRows minor).foldl (fun d r => d.setRow pb m r (contentRow minor bits r (d.row pb m r))) d

/-- The 64 words of a content frame: rows raw (R95, R96). -/
def Device.readContent (d : Device) (pb : Fin 112) (m minor : Nat) : List DWord :=
  (List.range 64).map fun k => BitVec.ofNat 64 ((List.range 64).foldl (fun s b =>
    let i := 4096 * minor + 64 * k + b
    if (d.row pb m (i / 72)).getLsbD (i % 72) then s + 2 ^ b else s) 0)

/-! ### Frames of a physical bay -/

/-- Write one frame: data and ESS mask; the bypassed columns of a type 0 frame take 0; the scrubber copies an exclusion map
(R287, R300, R340). -/
def Device.writeFrame (d : Device) (pb : Fin 112) (typ major minor : Nat) (data : List DWord) (ess : DWord) : Device :=
  if typ = 1 then d.writeContent pb major minor data
  else
    let d := (List.zip (List.range 64) data).foldl (fun (d : Device) (e : Nat × DWord) =>
      d.cfgWrite (cfgKey pb.val typ major minor (d.colOf pb typ e.1)) (cfgWord e.2 (ess.getLsbD e.1))) d
    let d := if typ = 0 then
        (List.range 66).foldl (fun (d : Device) (c : Nat) =>
          if d.bypassedCol pb c then d.cfgWrite (cfgKey pb.val 0 major minor c) 0 else d) d
      else d
    if typ = 4 ∧ major = 0 ∧ minor = 3 then
      (List.zip (List.range 48) data).foldl (fun (d : Device) (e : Nat × DWord) =>
        { d with exclMap := sset (fun _ => 0) d.exclMap (pb.val * 64 + e.1) e.2 }) d
    else d

/-- The stored words of a frame in logical column order. -/
def Device.storedFrame (d : Device) (pb : Fin 112) (typ major minor : Nat) : List (BitVec 73) :=
  (List.range 64).map fun k => d.cfgRead (cfgKey pb.val typ major minor (d.colOf pb typ k))

def dataOf (w : BitVec 73) : DWord := w.extractLsb' 0 64

/-- A frame as readback returns it: data, ESS, words corrected, an uncorrectable word among them (R306). -/
def Device.readFrame (d : Device) (pb : Fin 112) (typ major minor : Nat) : List DWord × DWord × Nat × Bool :=
  if typ = 1 then (d.readContent pb major minor, 0, 0, false)
  else
    let ws := d.storedFrame pb typ major minor
    let fixed := ws.map cfgFix
    let ess := (List.zip (List.range 64) fixed).foldl (fun s e => if e.2.getLsbD 64 then s + 2 ^ e.1 else s) 0
    (fixed.map dataOf, BitVec.ofNat 64 ess, (ws.filter fun w => cfgVerdict w == .corrected).length,
      ws.any fun w => cfgVerdict w == .bad)

/-! ### Settings in force (R60, R65, R67, R71, R87, R126) -/

/-- The logical column that a design sees a physical column of a type 0 frame as; none: it is bypassed (R11, R55). -/
def Device.logicalCol (d : Device) (pb : Fin 112) (col : Nat) : Option Nat :=
  let b := d.bypass pb (col % 2 == 1)
  if col / 2 = b then none else some (2 * (if col / 2 < b then col / 2 else col / 2 - 1) + col % 2)

/-- The stored words of a bay by their place in it as a design sees it, whatever the column steering (R11). -/
def Device.bayWords (d : Device) (pb : Fin 112) : List (Nat × BitVec 73) :=
  scanon cfgDflt (d.cfgMem.filterMap fun e =>
    let k := e.1 % 2 ^ 24
    if e.1 / 2 ^ 24 ≠ pb.val then none
    else if k / 2 ^ 21 ≠ 0 then some (k, e.2)
    else (d.logicalCol pb (k % 128)).map fun c => (k / 128 * 128 + c, e.2))

/-- The settings of a bay become those of its stored words. -/
def Device.applySettings (d : Device) (pb : Fin 112) : Device :=
  let ws := d.bayWords pb
  let mems := (List.range 128).foldl (fun m i => sset (fun _ => BramCfg.empty) m (memKey pb i) (Config.memLayout i ws)) d.bramCfg
  let sls := (List.range 128).foldl (fun m i =>
    let frame := d.storedFrame pb 2 0 (4 * (i / 32) + i % 32 / 8)
    sset (fun _ => SliceCfg.empty) m (memKey pb i) (Config.sliceLayout (((frame.drop (8 * (i % 8))).take 8).map dataOf)))
    d.sliceCfg
  { d with bayCfg := sset (fun _ => BayCfg.empty) d.bayCfg pb.val (Config.bayLayout ws), bramCfg := mems, sliceCfg := sls }

/-- The settings of several bays, and the disagreements that follow (R65, R70). -/
def Device.applyAll (d : Device) (pbs : List Nat) : Device :=
  (pbs.foldl (fun (acc : Device) (p : Nat) => acc.applySettings (Fin.ofNat 112 p)) d).hingeCheck d pbs

/-- A stored word of a bay has changed outside a load: settings follow, and so do disagreements and what set-reset holds (R61, R65,
R70). -/
def Device.wordChanged (d : Device) (pb : Fin 112) : Device :=
  let d := (d.applySettings pb).hingeCheck d []
  if d.inReset pb then d.holdReset pb else d

/-- Frames that a load has written come into force: settings, the contents of M-pane cells, and, in a bay that set-reset holds, the
values that the new settings give everything it holds (R54, R61, R94, R120, R130). -/
def Device.putInForce (d : Device) (pbs : List Nat) : Device :=
  pbs.foldl (fun (d : Device) (p : Nat) =>
    let pb := Fin.ofNat 112 p
    let d := d.loadCells pb
    if d.inReset pb then d.holdReset pb else d) (d.applyAll pbs)

/-! ### Marks of a bay (R344, R345) -/

/-- Golden-list entries of a logical bay. -/
def Device.goldenOf (d : Device) (n : Nat) : List Nat := d.golden.filter fun a => a / 2 ^ 25 == n

/-- DEGRADED clears, and the bay's golden-list entries go (R344). -/
def Device.clearDegraded (d : Device) (pb : Fin 112) : Device :=
  let d := d.lower (.pbay pb) fPbayBayCfgStateDegraded
  match d.logicalOf pb with
  | some n => { d with golden := d.golden.filter fun a => a / 2 ^ 25 != n.val }
  | none => d

/-! ### Tightly coupled memories (R404, R416) -/

def tcmDflt : Nat → BitVec 72 := fun _ => 0

/-- The key of word `w` of TCM `m` of core `c`: m = 0 instructions, 1 data. -/
def tcmKey (c m w : Nat) : Nat := (2 * c + m) * 2 ^ 14 + w

/-- Words of a type 5 frame go into their TCM with fresh check bits (R416). -/
def Device.writeTcmFrame (d : Device) (major minor : Nat) (data : List DWord) : Device :=
  { d with tcm := ssetAll tcmDflt d.tcm (major * 2 ^ 14 + 64 * minor) (data.map fun w => eccRow w.toNat) }

/-- The words of a type 5 frame. -/
def Device.readTcmFrame (d : Device) (major minor : Nat) : List DWord :=
  (sgetAll tcmDflt d.tcm (major * 2 ^ 14 + 64 * minor) 64).map fun r => BitVec.ofNat 64 (eccFix r).toNat

/-- Both TCMs of a core become zero (R417). -/
def Device.clearTcm (d : Device) (c : Nat) : Device :=
  { d with tcm := sclear (fun k => decide (k / 2 ^ 15 = c)) d.tcm }

end Sys2Proof.Machine
end

