-- ==== Sys2Proof/Machine/Commit.lean ====
section
/-! DEFINITION. Staged fields and COMMIT (R30 to R32, R35), with what refuses a COMMIT on each page (R142, R151, R186, R202,
R215, R255, R383). -/

namespace Sys2Proof.Machine

open Sys2Proof

/-! ### The staged fields of a page -/

/-- The RWS fields of a page, but the route table's, which are no register of their own (R202). -/
def rwsFields (pg : PageRef) : List Fld :=
  (fieldsBlock pg).filter fun f => f.ty == .rws && !(pg == .mesh && f.off == fMeshRouteDataValid.off)

/-- The keys of the registers that hold RWS fields of a page. -/
def rwsKeys (pg : PageRef) : List Nat :=
  (rwsFields pg).flatMap fun f => (List.range f.count).map fun i => fldKey pg f i

/-- The pages that have RWS fields (PAGE_CAPS.HAS_STAGED). -/
def hasStaged (pg : PageRef) : Bool := !(rwsFields pg).isEmpty

/-- A staged field differs from the one in effect. -/
def Device.staged (d : Device) (pg : PageRef) (f : Fld) (i : Nat := 0) : Bool := d.rd pg f i != d.eff pg f i

/-- Every staged value is copied (R30). -/
def Device.copyStaged (d : Device) (pg : PageRef) : Device :=
  let d := (rwsKeys pg).foldl (fun (d : Device) (k : Nat) => { d with copied := sset regReset d.copied k (d.word k) }) d
  if pg = .mesh then { d with routeCopied := d.routeStaged } else d

/-- The copied set comes into effect. -/
def Device.applyCopied (d : Device) (pg : PageRef) : Device :=
  let d := (rwsKeys pg).foldl (fun (d : Device) (k : Nat) =>
    { d with committed := sset regReset d.committed k (sget regReset d.copied k) }) d
  if pg = .mesh then { d with routeCommitted := d.routeCopied } else d

/-- The value that the last accepted COMMIT gave a field: the copy while it waits to take effect, then the value in effect. -/
def Device.lastCommitted (d : Device) (pg : PageRef) (f : Fld) (i : Nat) : Nat :=
  if d.flag pg hdrCommitBusy then bitsOf (sget regReset d.copied (fldKey pg f i)) f.lo f.width else d.eff pg f i

/-- R35: every staged value goes, and each RWS field reads back its committed value; while a COMMIT waits to take effect, the value
that it commits (DESIGN CHOICE, entry 78). With no COMMIT under way nothing is staged any more and STAGED_PENDING falls; R26 does not
speak of a discard (DESIGN CHOICE, entry 78). -/
def Device.discardStaged (d : Device) (pg : PageRef) : Device :=
  let busy := d.flag pg hdrCommitBusy
  let d := (rwsFields pg).foldl (fun (d : Device) (f : Fld) =>
    (List.range f.count).foldl (fun (d : Device) (i : Nat) => d.put pg f (d.lastCommitted pg f i) i) d) d
  let d := if pg = .mesh then { d with routeStaged := if busy then d.routeCopied else d.routeCommitted } else d
  if busy then { d with restaged := sset (fun _ => false) d.restaged (pageOrdinal pg) false }
  else d.lower pg hdrStagedPending

/-! ### What refuses a COMMIT -/

/-- The mesh is quiesced (R186). -/
def Device.meshQuiesced (d : Device) : Bool :=
  d.mesh.isEmpty && d.portsClosed && d.rd .hdma fHdmaShutterState == shutterClosed

/-- The four node registers (R150). -/
def nodeFields : List Fld := [fMeshNodeFabricId, fMeshNodeMgmtId, fMeshNodeCoreId, fMeshNodeHostId]

/-- Two of the staged node IDs are the same and assigned (R151). -/
def Device.nodesClash (d : Device) : Bool :=
  let ids := (nodeFields.map fun f => d.rd .mesh f).filter (· != 0x3FF)
  ids.length != ids.eraseDups.length

/-- A valid route entry would change (R186). -/
def Device.routeChange (d : Device) : Bool :=
  d.routeCommitted.any fun e => e.2.getLsbD 31 && sget routeDflt d.routeStaged e.1 != e.2

/-- R142, R151, R186: causes a COMMIT of the MESH page sets when it is refused. -/
def Device.meshRefuses (d : Device) : List Fld :=
  let nodes := (nodeFields.any fun f => d.staged .mesh f) && (!d.portsClosed || d.nodesClash)
  let seed := d.staged .mesh fMeshHashSeedSeed && !d.meshQuiesced
  let route := d.routeChange && !d.meshQuiesced
  (if nodes then [cMeshNodeBusy] else []) ++ (if seed then [cMeshSeedBusy] else []) ++
    (if route then [cMeshRouteBusy] else [])

/-- A lane word is invalid, by its low 32 bits (R215). -/
def laneInvalid (lo : Nat) : Bool :=
  decide (64 < natBits lo 0 4 + natBits lo 4 6 + natBits lo 10 5) || decide (natBits lo 4 6 < 24)

/-- Reserved bits of a lane word, in its low 32 bits (R214). -/
def laneReserved (lo : Nat) : Bool := natBits lo 15 1 != 0 || natBits lo 26 6 != 0

/-- R215; `extra`: the record or service that supplied the words set a reserved bit that no register holds. -/
def Device.substrateRefuses (d : Device) (l : Fin 144) (extra : Bool) : List Fld :=
  let pg := PageRef.txl l
  let lanes := (List.range 7).map fun i => d.rd pg fTxlSubLaneLoLo i
  let valid := (d.rd pg fTxlSubLinkLink).testBit 0
  let changed := d.staged pg fTxlSubLinkLink ||
    (List.range 7).any fun i => d.staged pg fTxlSubLaneLoLo i || d.staged pg fTxlSubLaneHiDeskew i
  (if lanes.any laneInvalid || (valid && (extra || lanes.any laneReserved)) then [cTxlTableInvalid] else []) ++
    (if changed && d.linkState l != linkDisabled && d.linkState l != linkSleep then [cTxlTableBusy] else [])

/-- The window registers of an engine. -/
def curWinFields : List Fld :=
  [fCurWinBaseLoBase, fCurWinBaseHiBase, fCurWinPagesPages, fCurWinCtrLoCtr, fCurWinCtrHiCtr, fCurWinTagLoTag,
   fCurWinTagHiTag, fCurWinCtrlNode, fCurWinCtrlValid]

/-- R255. -/
def Device.curRefuses (d : Device) (n : Fin 144) : List Fld :=
  let pg := curPage n
  let mode := d.staged pg fCurCurCfgMode
  let changed := mode || curWinFields.any fun f => (List.range 4).any fun i => d.staged pg f i
  let still := d.rd pg fCurShutterState == shutterClosed && (d.linkState n == linkDisabled || d.linkState n == linkSleep)
  (if changed && !still then [cCurCfgBusy] else []) ++
    (if mode && d.rd pg fCurCurCfgMode != 0 && !(d.cur n).slotLoaded (d.curCurrent n) then [cCurModeRefused] else [])

/-- Size of the BAR0 of an owner, as PF1 became ready; before that, as PF1_CFG stands (R381 DEDUCED, entry 14). -/
def Device.barBytes (d : Device) (owner : Nat) : Nat :=
  let sizes := if d.pf1Ready then d.barLog2 else (d.rd .pcie fPciePf1CfgBar0Log2, d.rd .pcie fPciePf1CfgVfBar0Log2)
  2 ^ (if owner = 0 then sizes.1 else sizes.2)

/-- R383: a valid window would break its limits. -/
def Device.winBad (d : Device) (i : Nat) : Bool :=
  let size := d.rd .pcie fPcieWinCtrlSizeLog2 i
  let base := d.rd .pcie fPcieWinBaseLoBase i * 2 ^ 20 + d.rd .pcie fPcieWinBaseHiBase i * 2 ^ 32
  let target := d.rd .pcie fPcieWinTargetLoTarget i * 2 ^ 12 + d.rd .pcie fPcieWinTargetHiTarget i * 2 ^ 32
  d.flag .pcie fPcieWinCtrlValid i &&
    (decide (size < 20) || decide (38 < size) || base % 2 ^ size != 0 ||
      decide (d.barBytes (d.rd .pcie fPcieWinCtrlOwner i) < base + 2 ^ size) ||
      decide (2 ^ 54 < target % 2 ^ 54 + 2 ^ size))

/-- The causes that refuse a COMMIT of a page; none: it is accepted. -/
def Device.commitRefuses (d : Device) : PageRef → List Fld
  | .clk => if d.clkRefuses then [cClkGclkBusy] else []
  | .mesh => d.meshRefuses
  | .txl l => d.substrateRefuses l false
  | .cur n => if h : n.val < 144 then d.curRefuses ⟨n.val, h⟩ else []
  | .pcie => if (List.range 64).any fun i => d.winBad i then [cPcieWinInvalid] else []
  | _ => []

/-! ### COMMIT -/

/-- Every page but SILL, CLK, … has its abort or not (R48): PAGE_CAPS.HAS_ABORT. -/
def hasAbort : PageRef → Bool
  | .bay _ => true | .txl _ => true | .cur _ => true | .cfg => true | .hdma => true | .tcore _ => true
  | .porter => true | .scrub => true | .repair => true
  | .sill => false | .clk => false | .pwr => false | .keys => false | .dbg => false | .pcie => false | .mesh => false
  | .tally => false | .jamb => false | .pbay _ => false | .portr _ => false | .warden _ => false

/-- STAGED_SET_APPLY: the copied set takes effect at the block's safe point (R30, R31). -/
def stagedSetApplyBody (pg : PageRef) (d : Device) : Device :=
  if !d.flag pg hdrCommitBusy then d
  else
    let d := (d.applyCopied pg).lower pg hdrCommitBusy
    let d := if sget (fun _ => false) d.restaged (pageOrdinal pg) then d else d.lower pg hdrStagedPending
    if pg = .mesh then d.meshRelease else d

/-- LL_CFG of a link takes effect at COMMIT; where the rest of the set changes nothing, the whole COMMIT has taken effect with it
(R253). -/
def Device.linkCfgTaken (d : Device) (l : Fin 144) : Device :=
  let k := fldKey (.txl l) fTxlLlCfgReplayLimit 0
  let d := { d with committed := sset regReset d.committed k (sget regReset d.copied k) }
  if (rwsKeys (.txl l)).all fun k => sget regReset d.copied k == sget regReset d.committed k then stagedSetApplyBody (.txl l) d else d

/-- A COMMIT is accepted: every staged value is copied, and the copy waits to take effect (R30). -/
def Device.commitTaken (d : Device) (pg : PageRef) : Device :=
  let d := d.copyStaged pg
  let d := { d with restaged := sset (fun _ => false) d.restaged (pageOrdinal pg) false }.raise pg hdrCommitBusy
  match pg with
  | .txl l => d.linkCfgTaken l
  | _ => d

/-- The causes of a refused COMMIT are set. -/
def Device.commitDenied (d : Device) (pg : PageRef) (refused : List Fld) : Device :=
  refused.foldl (fun (d : Device) (f : Fld) => d.raise pg f) d

/-- A write of COMMIT = 1 (R30, R31). -/
def Device.commitWith (d : Device) (pg : PageRef) (refused : List Fld) : Device :=
  if d.flag pg hdrCommitBusy then d.raise pg hdrOverrun
  else if refused.isEmpty then d.commitTaken pg
  else d.commitDenied pg refused

def Device.commitPage (d : Device) (pg : PageRef) : Device := d.commitWith pg (d.commitRefuses pg)

/-- A shutter is about to open: a COMMIT that only takes effect while the mesh is quiesced does so first (R186; DESIGN CHOICE, entry
80). -/
def Device.commitBeforeOpen (d : Device) : Device := if d.commitHolds then stagedSetApplyBody .mesh d else d

/-- A write to an RWS field has been stored (R31). -/
def Device.markStaged (d : Device) (pg : PageRef) : Device :=
  let d := d.raise pg hdrStagedPending
  if d.flag pg hdrCommitBusy then { d with restaged := sset (fun _ => false) d.restaged (pageOrdinal pg) true } else d

end Sys2Proof.Machine
end

