-- ==== Sys2Proof/Machine/Loader.lean ====
section
/-! DEFINITION. The load sequencer (R288 to R336): where a load may start, its sources, the prologue, segments, body records,
frames, readback, and how a load aborts. -/

namespace Sys2Proof.Machine

open Sys2Proof

/-! ### Small readers -/

def Device.setLoad (d : Device) (l : LoadSt) : Device := { d with load := l }

/-- LOAD_STATUS.STATE. -/
def Device.loadState (d : Device) : Nat := d.rd .cfg fCfgLoadStatusState

def lsIdle : Nat := 0
def lsLoading : Nat := 1
def lsStartup : Nat := 2
def lsDone : Nat := 3
def lsFenced : Nat := 4

def Device.setLoadState (d : Device) (s : Nat) : Device := d.put .cfg fCfgLoadStatusState s

/-- A load reads its stream: END has not been verified. -/
def LoadSt.loading (l : LoadSt) : Bool :=
  match l.phase with
  | .idle => false
  | .steps _ => false
  | _ => true

/-- A start-up runs. -/
def LoadSt.starting (l : LoadSt) : Bool :=
  match l.phase with
  | .steps _ => true
  | _ => false

/-- A function's number in the stores of configuration space. -/
def fnIndex : PcieFn → Nat
  | .pf0 => 0
  | .pf1 => 1
  | .vf v => 2 + v.val

/-- A configuration register's number there. -/
def cfgRegCode : CfgReg → Nat
  | .ids => 0 | .command => 1 | .classRev => 2 | .subsystem => 3 | .bar i => 4 + i.val | .deviceControl => 10
  | .deviceControl2 => 11 | .msixControl => 12 | .sriovControl => 13 | .numVfs => 14 | .pmcsr => 15 | .dvsec w => 16 + w.val

/-- A stored configuration register; every one is 0 after reset. -/
def Device.pciWord (d : Device) (fn : PcieFn) (r : CfgReg) : Word := sget (fun _ => 0) d.pciCfg (fnIndex fn * 64 + cfgRegCode r)

/-- Bus Master Enable of a function. -/
def Device.busMaster (d : Device) (fn : PcieFn) : Bool := (d.pciWord fn .command).getLsbD 2

/-- The sealed key of a slot (R296). -/
def Device.sealedKey (d : Device) (slot : Nat) : Option (BitVec 256) :=
  if slot < 4 then Config.fusedKey slot else sget (fun _ => none) d.keyRam slot

/-- DIE_SERIAL. -/
def dieSerial : BitVec 64 := Config.dieSerial

/-- The stepping of the model: A0 (R329). -/
def stepping : Nat := 0xA0

/-! ### Reads of host memory (R311, R375) -/

/-- A free tag for a Non-Posted Request; none: 1,024 are outstanding (R375). -/
def Device.freeHostTag (d : Device) : Option Nat :=
  (List.range 1024).find? fun t => (sget (fun _ => (none : Option HostReq)) d.hostReqs t).isNone

def Device.setHostReq (d : Device) (t : Nat) (r : Option HostReq) : Device :=
  { d with hostReqs := sset (fun _ => none) d.hostReqs t r }

/-- Issue a Memory Read; false: no tag is free. -/
def Device.hostRead (d : Device) (fn : PcieFn) (addr len : Nat) (use : HostUse) : Device × Bool :=
  match d.freeHostTag with
  | none => (d, false)
  | some t => ((d.setHostReq t (some { fn := fn, addr := addr, len := len, use := use })).emit (.hostRead fn t addr len), true)

/-- The reads of a PULL load under way: offset in the region, tag, request. -/
def Device.pullReads (d : Device) : List (Nat × Nat × HostReq) :=
  d.hostReqs.filterMap fun e => match e.2 with
    | some r => (match r.use with
      | .pull off => some (off, e.1, r)
      | _ => none)
    | none => none

/-- The oldest of them. -/
def Device.oldestPull (d : Device) : Option (Nat × Nat × HostReq) :=
  d.pullReads.foldl (fun (best : Option (Nat × Nat × HostReq)) (e : Nat × Nat × HostReq) => match best with
    | some b => if e.1 < b.1 then some e else some b
    | none => some e) none

/-- The whole length of the stream, from its first byte delivered, once HEADER is known. -/
def LoadSt.streamBytes (l : LoadSt) : Option Nat :=
  l.hdr.map fun h =>
    let pro := 8 + 36 + (if h.broadcast then 4 * (2 + 15) else 0) + 52 * h.wraps
    let segs := if h.cls = 0 then 0 else (h.bodyBytes + 2 ^ (h.segLog2 + 10) - 1) / 2 ^ (h.segLog2 + 10)
    l.offset + pro + h.bodyBytes + 16 * segs

/-- Keep up to 512 reads of at most 512 bytes under way (R311). -/
def Device.pullPump : Nat → Device → Device
  | 0, d => d
  | fuel + 1, d =>
    let l := d.load
    let size := d.rd .cfg fCfgPullBytesBytes
    let size := match l.streamBytes with
      | some n => min size n
      | none => size
    if l.src ≠ 2 ∨ l.loading = false ∨ size ≤ l.asked ∨ d.busMaster .pf0 = false ∨ 512 ≤ d.pullReads.length then d
    else
      let base := d.rd .cfg fCfgPullBaseBaseLo + 2 ^ 32 * d.rd .cfg fCfgPullBaseBaseHi
      let n := min 512 (size - l.asked)
      match d.hostRead .pf0 (base + l.asked) n (.pull l.asked) with
      | (_, false) => d
      | (d, true) => Device.pullPump fuel (d.setLoad { d.load with asked := l.asked + n })

/-! ### Aborts (R307, R320, R325, R333, R498) -/

/-- A bay of the window enters HELD (R333). -/
def Device.holdBay (d : Device) (reason : Nat) (p : Nat) : Device :=
  let pg := PageRef.pbay (Fin.ofNat 112 p)
  ((d.raise pg fPbayBayCfgStateHeld).lower pg fPbayBayCfgStateInPr).put pg fPbayBayCfgStateHeldCause
    (if reason = abOutside then 1 else 2)

/-- The kind of the stream under way: 0 FULL, 1 PARTIAL, 2 READBACK; 3 while HEADER has not been accepted. -/
def LoadSt.kind (l : LoadSt) : Nat :=
  match l.hdr with
  | some h => h.kind
  | none => 3

/-- Reads and writes for the load that are still to come are for nothing. -/
def Device.dropReads (d : Device) : Device :=
  let reqs := d.reqs.map fun (e : Nat × Option Req) => match e.2 with
    | some r => if r.cont == .readback then (e.1, some { r with cont := .stale }) else e
    | none => e
  let host := d.hostReqs.map fun (e : Nat × Option HostReq) => match e.2 with
    | some r => (match r.use with
      | .pull _ => (e.1, some { r with use := .dropped })
      | _ => e)
    | none => e
  { d with reqs := reqs, hostReqs := host }

/-- Undo what a start-up has taken: set-reset back, writes off, bay ports shut (R325). -/
def Device.undoStartup (d : Device) (region : List Nat) (full : Bool) : Device :=
  let d := if full then { d with gsr := true } else d
  region.foldl (fun (d : Device) (p : Nat) =>
    let pb := Fin.ofNat 112 p
    let d := { d with bayReset := if full then d.bayReset else sset (fun _ => false) d.bayReset p true
                      writesOn := sset (fun _ => false) d.writesOn p false }
    (d.holdReset pb).signal (.closeNow p)) d

/-- The physical bays a load or start-up acts on. -/
def LoadSt.region (l : LoadSt) : List Nat :=
  match l.window with
  | some w => w
  | none => if l.kind = 0 then List.range 112 else []

/-- A load or start-up aborts with a reason: its state and its region as R307, R320, R325, R333 and R498 say. -/
def Device.loadAbort (d : Device) (reason : Nat) : Device :=
  let l := d.load
  let d := (d.put .cfg fCfgLoadStatusReason reason).raise .cfg cCfgLoadFailed
  let d := d.put .cfg fCfgLoadStatusStep 0
  let d := if l.starting then d.undoStartup l.region (l.kind = 0) else d
  let d := match l.window with
    | some w => (w.foldl (fun (d : Device) (p : Nat) => d.holdBay reason p) d).raise .cfg cCfgPrHeld
    | none => d
  let fenced := l.kind = 0 ∨ (l.kind ≥ 2 ∧ d.mode = mLoad)
  let d := d.setLoadState (if fenced then lsFenced else lsIdle)
  let d := if fenced then d.count .cfg 1 else d
  let d := if l.starting ∧ l.kind = 0 ∧ d.mode = mStartup then d.setMode mLoad else d
  let d := d.dropReads
  let d := { d with readingShadow := none }
  -- STARTUP_GO may rerun the start-up of this load (R322): what it needs stays.
  if l.starting then d.setLoad { l with phase := .idle, key := none, nextKey := none }
  else d.setLoad { LoadSt.fresh with first := l.first, hdr := none, peers := l.peers }

/-! ### Bytes of the stream -/

/-- Bytes leave the buffer: BYTES_IN and PUSH_HEAD advance, and a lead forwards them (R310, R316). -/
def Device.takeBytes (d : Device) (n : Nat) : List Byte × Device :=
  let l := d.load
  let bs := l.buf.take n
  let d := d.put .cfg fCfgBytesInBytes (d.rd .cfg fCfgBytesInBytes + bs.length)
  let d := if l.src = 1 then d.put .cfg fCfgPushHeadHead (d.rd .cfg fCfgPushHeadHead + bs.length) else d
  (bs, d.setLoad { l with buf := l.buf.drop n
                          peers := l.peers.map fun p => if p.stopped then p else { p with bytes := p.bytes ++ bs } })

/-! ### Forwarding to peers (R316, R317) -/

/-- Forwarding to peer `i` stops (R317). -/
def Device.fwdStop (d : Device) (i : Nat) : Device :=
  let l := d.load
  let d := d.setLoad { l with peers := l.peers.modify i fun p => { p with stopped := true, bytes := [] } }
  (d.put .cfg fCfgFwdStatusFailed (Nat.lor (d.rd .cfg fCfgFwdStatusFailed) (2 ^ i))).raise .cfg cCfgFwdFail

/-- The first of the 64 tags of peer `i` (R316). -/
def peerTag (i : Nat) : Nat := 128 * (i / 2) + 64 * (i % 2)

/-- Send the words that wait for peer `i`: one MWR each, on the link the BROADCAST word named (R316). One to a node
without an ID, or from one, ends in DECODE_ERROR (R150, R151). -/
def Device.fwdPeer : Nat → Nat → Device → Device
  | 0, _, d => d
  | fuel + 1, i, d =>
    match d.load.peers[i]? with
    | none => d
    | some p =>
      if p.stopped || decide (p.bytes.length < 4) then d
      else
        match d.freeTag .mgmt (peerTag i) 64 with
        | none => d
        | some t =>
          let l := Fin.ofNat 144 p.link
          let pkt := sealHeader { dst := p.node, src := d.nodeId .mgmt, cls := 3, op := 0x21, len := 3, tag := BitVec.ofNat 12 t
                                  laddr := 0x4084, ord := false, prio := 0, ch := false, v := true, lock := false, rsv := 0
                                  hcrc := 0, payload := p.bytes.take 4, flits := flitCount 4 }
          if p.node == 0x3FF || d.nodeId .mgmt == 0x3FF || d.linkRefuses l pkt then d.fwdStop i
          else
            let req : Req := { dst := p.node, op := 0x21, laddr := 0x4084, len := 3, phase := .active, cont := .forward i }
            let d := (d.setReq .mgmt t (some req)).linkQueue l 0 9 pkt
            Device.fwdPeer fuel i (d.setLoad { d.load with
              peers := d.load.peers.modify i fun p => { p with bytes := p.bytes.drop 4 } })

/-- Send what the peers can take. -/
def Device.fwdPump (d : Device) : Device :=
  (List.range d.load.peers.length).foldl (fun (d : Device) (i : Nat) => Device.fwdPeer 64 i d) d

/-! ### Readback writes (R305) -/

/-- Send the readback writes that a tag is free for. -/
def Device.readbackPump : Nat → Device → Device
  | 0, d => d
  | fuel + 1, d =>
    match d.load.writes with
    | [] => if d.load.readLeft = 0 then { d with readingShadow := none } else d
    | (g, bs) :: rest =>
      -- A node without an ID can send nothing: the write ends in DECODE_ERROR at once (R151).
      if d.nodeId .mgmt == 0x3FF then d.loadAbort abReadback
      else
      match d.freeTag .mgmt 0 1024 with
      | none => d
      | some t =>
        let pkt := sealHeader { dst := BitVec.ofNat 10 (g / 2 ^ 54), src := d.nodeId .mgmt, cls := 0, op := 0x01
                                len := BitVec.ofNat 8 (bs.length - 1), tag := BitVec.ofNat 12 t
                                laddr := BitVec.ofNat 54 g, ord := false, prio := 0, ch := false, v := true, lock := false
                                rsv := 0, hcrc := 0, payload := bs, flits := flitCount bs.length }
        let req : Req := { dst := pkt.dst, op := 0x01, laddr := pkt.laddr, len := pkt.len, phase := .active, cont := .readback }
        let d := d.setLoad { d.load with writes := rest, writesOut := d.load.writesOut + 1 }
        Device.readbackPump fuel ((d.setReq .mgmt t (some req)).inject .mgmt 0 pkt)

/-- The pieces of a readback write: at most 256 bytes each, none across a 4 KiB boundary (R305). -/
def cutWrites : Nat → Nat → List Byte → List (Nat × List Byte)
  | 0, _, _ => []
  | fuel + 1, g, bs =>
    if bs.isEmpty then []
    else
      let n := min (min 256 bs.length) (4096 - g % 4096)
      (g, bs.take n) :: cutWrites fuel (g + n) (bs.drop n)

/-! ### The next body record -/

/-- Type and BODY_LEN of the next record, once its header word has been verified. -/
def LoadSt.next (l : LoadSt) : Option (Nat × Nat) :=
  if l.framesLeft ≠ 0 ∨ l.repeatLeft ≠ 0 ∨ l.readLeft ≠ 0 ∨ l.body.length < 4 then none
  else some (wordAt l.body 0 / 2 ^ 24, wordAt l.body 0 % 2 ^ 24)

/-- Bytes of one frame in FRAME_DATA. -/
def LoadSt.frameBytes (l : LoadSt) : Nat := if l.essMode = 2 then 520 else 512

/-- The sequencer has a whole record, or a whole frame of a record under way, to take. -/
def LoadSt.ready (l : LoadSt) : Bool :=
  if l.framesLeft ≠ 0 then decide (l.frameBytes ≤ l.body.length)
  else if l.repeatLeft ≠ 0 ∨ l.readLeft ≠ 0 then true
  else
    match l.next with
    | none => false
    -- A FRAME_DATA record is taken frame by frame, from its first word on (R293).
    | some (t, len) => if t = rtFrameData then decide (8 ≤ l.body.length) else decide (4 + 4 * len ≤ l.body.length)

/-- What R289, R295, R298 and R304 forbid of the next record, by its header word alone. -/
def LoadSt.recordBad (l : LoadSt) (h : StreamHdr) : Bool :=
  match l.next with
  | none =>
    -- The body ends without END, or with less than a record.
    l.framesLeft == 0 && l.repeatLeft == 0 && l.readLeft == 0 && decide (h.bodyBytes < l.used + 4)
  | some (t, len) =>
    decide (h.bodyBytes < l.used + 4 + 4 * len) || (l.used < l.rollEnd && t != rtPad) ||
      (if recordKnown t then
        !recordAllowed h t || !recordLenOk t len || (h.kind == 1 && !l.started && t != rtWindow && t != rtPad) ||
          (t == rtWindow && l.started) || (t == rtStartSeq && l.order.isSome)
      else decide (t < 128))

/-- Bytes the sequencer needs of the source before it can go on; none: it has them or needs none. -/
def LoadSt.need (l : LoadSt) : Nat :=
  match l.phase with
  | .sync => 8
  | .header => 36
  | .broadcast => if 4 ≤ l.buf.length then 4 + 4 * (wordAt l.buf 0 % 2 ^ 24) else 4
  | .wraps => 52
  | .body =>
    match l.hdr with
    | some h => if l.verified < h.bodyBytes then (if h.cls = 0 then 1 else segBytes h l.seg + 16) else 0
    | none => 0
  | _ => 0

/-- After each piece of work: a PLAIN body needs no verification; a record that may not stand where it stands, or a source
that is exhausted, aborts the stream (R289, R292, R304, R311). -/
def Device.loadCheck (d : Device) : Device :=
  let l := d.load
  if !l.loading then d
  else
    let d := match l.phase, l.hdr with
      | .body, some h =>
        if h.cls = 0 then
          let r := d.takeBytes (h.bodyBytes - l.verified)
          r.2.setLoad { r.2.load with body := r.2.load.body ++ r.1, verified := l.verified + r.1.length }
        else d
      | _, _ => d
    let l := d.load
    match l.phase, l.hdr with
    | .body, some h =>
      if !l.relay && l.recordBad h then d.loadAbort abRecord
      else if l.src = 2 ∧ l.ready = false ∧ d.rd .cfg fCfgPullBytesBytes ≤ l.delivered ∧ l.buf.length < l.need then
        d.loadAbort abSource
      else d
    | _, _ =>
      if l.src = 2 ∧ d.rd .cfg fCfgPullBytesBytes ≤ l.delivered ∧ l.buf.length < l.need then d.loadAbort abSource else d

/-- What every load command ends with: checks, forwarding, and more reads. -/
def Device.loadStep (d : Device) : Device := Device.pullPump 512 d.loadCheck.fwdPump

/-! ### GO (R309, R313) -/

/-- A load may start in this mode and state (R313). -/
def Device.loadAllowed (d : Device) : Bool :=
  let s := d.loadState
  let m := d.mode
  (m == mDoorway && s == lsIdle) || (m == mLoad && s == lsFenced) ||
    ((m == mService || m == mDrowse) && (s == lsIdle || s == lsDone))

/-- LOAD_CMD.GO (R309, R310, R313, R318). -/
def Device.loadGo (d : Device) : Device :=
  let src := d.rd .cfg fCfgLoadSrcSource
  if src = 0 ∨ 4 < src ∨ d.load.loading ∨ d.load.starting ∨ d.loadAllowed = false ∨ d.coreClock = false then
    d.raise .cfg cCfgLoadBusy
  else
    let l : LoadSt := { LoadSt.fresh with phase := .sync, src := src, before := d.loadState, first := false, bound := d.load.first }
    let d := d.setLoadState lsLoading
    let d := ((d.put .cfg fCfgBytesInBytes 0).put .cfg fCfgFramesWrittenFrames 0).put .cfg fCfgFwdStatusFailed 0
    let d := ((d.put .cfg fCfgPushHeadHead 0).put .cfg fCfgPushTailTail 0).put .cfg fCfgLoadStatusStep 0
    let d := { d with pushWindow := [], load := l }
    let d := if src = 3 then d.emit (.flashRead (d.rd .cfg fCfgFlashBaseBase)) else d
    d.loadStep

/-! ### Sources (R310 to R312, R317) -/

/-- Bytes arrive for the load. -/
def Device.deliver (d : Device) (bs : List Byte) : Device :=
  let l := d.load
  (d.setLoad { l with buf := l.buf ++ bs, delivered := l.delivered + bs.length }).loadStep

/-- PUSH_WRITE: bytes into the window; discarded while no PUSH load runs (R310), and a second source's data sets LOAD_BUSY
(R313). -/
def pushWriteBody (off : BitVec 24) (bytes : List Byte) (d : Device) : Device :=
  if d.load.loading ∧ d.load.src = 1 then
    { d with pushWindow := (List.zip (List.range bytes.length) bytes).foldl (fun m (e : Nat × Byte) =>
        sset (fun _ => 0) m ((off.toNat + e.1) % 2 ^ 24) e.2) d.pushWindow }
  else if d.load.loading then d.raise .cfg cCfgLoadBusy
  else d

/-- A write of PUSH_TAIL (R310). The register itself takes the value in every case. -/
def Device.pushTail (d : Device) (tail : Nat) : Device :=
  let tail := tail % 2 ^ 25
  let old := d.rd .cfg fCfgPushTailTail
  let d := d.put .cfg fCfgPushTailTail tail
  if d.load.loading = false ∨ d.load.src ≠ 1 then d
  else
    let head := d.rd .cfg fCfgPushHeadHead
    if 2 ^ 24 < (tail + 2 ^ 25 - head) % 2 ^ 25 then (d.raise .cfg cCfgPushOverrun).loadAbort abSource
    else
      let n := (tail + 2 ^ 25 - old) % 2 ^ 25
      d.deliver ((List.range n).map fun i => sget (fun _ => 0) d.pushWindow ((old + i) % 2 ^ 24))

/-- PULL_COMPLETION: the completion of the oldest read of the load (R311). -/
def pullCompletionBody (st : CplStatus) (bytes : List Byte) (d : Device) : Device :=
  match d.oldestPull with
  | none => d
  | some (_, t, r) =>
    if st == .ok then
      if bytes.length = r.len then (d.setHostReq t none).deliver bytes else d
    else (d.setHostReq t none).loadAbort abSource

/-- A FORWARD load runs: a forwarded word is accepted (R317). -/
def Device.fwdReady (d : Device) : Bool := d.load.loading && d.load.src == 4

/-- A write of FWD_DATA: the next word of a FORWARD load (R317); while another load runs it is a second source's, and sets
LOAD_BUSY (R313). -/
def fwdDataBody (w : Word) (d : Device) : Device :=
  if d.fwdReady then d.deliver (bytesLE 4 w.toNat) else if d.load.loading then d.raise .cfg cCfgLoadBusy else d

/-- FLASH_RESPONSE (R312). -/
def flashResponseBody (a : FlashAnswer) (d : Device) : Device :=
  if d.load.loading ∧ d.load.src = 3 then
    match a with
    | .data bytes => d.deliver bytes
    | .silent => d.loadAbort abSource
    | .pastEnd => d.loadAbort abSource
  else d

/-! ### Deadlines (R318, R319) -/

/-- The deadline binds a load (DEADLINE_STATUS.ARMED). -/
def Device.deadlineArmed (d : Device) : Bool :=
  d.load.loading && d.load.bound && d.rd .cfg fCfgDeadlineStatusDeadline != 0

def loadLateBody (d : Device) : Device :=
  if d.deadlineArmed then (d.raise .cfg cCfgLoadLate).loadAbort abLate else d

def loadLimitBody (d : Device) : Device :=
  if d.load.loading && !d.load.bound && d.rd .cfg fCfgLoadLimitLimit != 0 then d.loadAbort abLimit else d

/-! ### The prologue (R289 to R291, R294, R299) -/

def sync0 : Nat := 0x5A3C7144
def sync1 : Nat := 0xC3A5E1D0

/-- Search for SYNC from the offset reached; `some true` found, `some false` lost, none: more bytes are needed (R290). -/
def syncSearch : Nat → Nat → List Byte → Nat × List Byte × Option Bool
  | 0, o, bs => (o, bs, none)
  | fuel + 1, o, bs =>
    if 4092 < o then (o, bs, some false)
    else if bs.length < 8 then (o, bs, none)
    else if wordAt bs 0 = sync0 ∧ wordAt bs 1 = sync1 then (o, bs, some true)
    else syncSearch fuel (o + 4) (bs.drop 4)

/-- SYNC (R290). -/
def syncBody (d : Device) : Device :=
  if d.load.phase ≠ .sync then d
  else
    let l := d.load
    let r := syncSearch 1025 l.offset l.buf
    let d := (d.takeBytes (l.buf.length - r.2.1.length)).2
    let d := d.setLoad { d.load with offset := r.1 }
    match r.2.2 with
    | none => d
    | some false => d.loadAbort abSync
    | some true =>
      let t := d.takeBytes 8
      (t.2.setLoad { t.2.load with phase := .header, prologue := t.1 }).loadStep

/-- The mode accepts a stream of this kind (R313). -/
def Device.kindAllowed (d : Device) (kind : Nat) : Bool :=
  if kind = 2 then true
  else if kind = 0 then d.mode == mDoorway || d.mode == mLoad
  else d.mode == mService || d.mode == mDrowse

/-- Entry to LOAD for a FULL load, and the fabric under it: set-reset held, writes off, no setting in force, LATCH_N driven
(R313, R320, R321, R326). -/
def Device.enterLoad (d : Device) : Device :=
  let d := { d with gsr := true, writesOn := [], fabricOn := true, bayCfg := [], bramCfg := [], sliceCfg := [], scrubAt := none }
  let d := (List.finRange 112).foldl (fun (d : Device) (pb : Fin 112) => d.holdReset pb) d
  let d := (d.raise .cfg fCfgLatchDriving).lower .cfg fCfgLatchLevel
  (if d.running 0 then d else d.startSource 0).setMode mLoad

/-- HEADER (R291, R313). -/
def headerBody (d : Device) : Device :=
  if d.load.phase ≠ .header ∨ d.load.buf.length < 36 then d
  else
    let t := d.takeBytes 36
    let d := t.2
    let rec_ := t.1
    let h := hdrOf rec_
    if wordAt rec_ 0 ≠ 0x01000008 then d.loadAbort abRecord
    else if hdrAccepted stepping rec_ = false then d.loadAbort abHeader
    else
      let d := (d.put .cfg fCfgLoadStatusKind h.kind).put .cfg fCfgLoadStatusClass h.cls
      if d.kindAllowed h.kind = false then d.loadAbort abMode
      else
        let l := d.load
        let d := d.setLoad { l with hdr := some h, head := rec_, prologue := l.prologue ++ rec_ }
        let d := if h.kind = 0 then d.enterLoad else d
        if h.cls = 2 then
          if 2 ^ 26 < h.bodyBytes then d.loadAbort abOveruse
          else
            match d.sealedKey h.slot with
            | none => ((d.raise .keys cKeysSealEmpty).count .keys 3).loadAbort abKey
            | some k => (d.setLoad { d.load with key := some k, phase := .body }).loadStep
        else if h.broadcast then d.setLoad { d.load with phase := .broadcast }
        else if h.cls = 1 then d.setLoad { d.load with phase := .wraps }
        else (d.setLoad { d.load with phase := .body }).loadStep

/-- BROADCAST (R289, R299). A device that receives the stream through forwarding ignores it. -/
def broadcastBody (d : Device) : Device :=
  let l := d.load
  if l.phase ≠ .broadcast ∨ l.buf.length < 4 then d
  else
    let head := wordAt l.buf 0
    let len := head % 2 ^ 24
    if head / 2 ^ 24 ≠ 0x09 ∨ len < 2 ∨ 16 < len then d.loadAbort abRecord
    else if l.buf.length < 4 + 4 * len then d
    else
      let t := d.takeBytes (4 + 4 * len)
      let d := t.2
      let w0 := wordAt t.1 1
      let n := w0 % 16
      let self := w0.testBit 8
      let ws := (List.range n).map fun i => wordAt t.1 (2 + i)
      if n = 0 ∨ len ≠ 1 + n ∨ (l.hdr.map (·.wraps)) ≠ some (n + self.toNat) ∨ ws.any (fun w => decide (143 < w % 256)) then
        d.loadAbort abRecord
      else
        let pro := l.prologue ++ t.1
        let peers := if l.src = 4 then [] else
          ws.map fun w => { link := w % 256, node := BitVec.ofNat 10 (natBits w 8 10), bytes := pro, stopped := false : Peer }
        (d.setLoad { d.load with prologue := pro, peers := peers, relay := l.src != 4 && !self, phase := .wraps }).loadStep

/-- KEY_WRAP: the next of the records; after the last, the stream key is unwrapped (R294). -/
def keyWrapBody (d : Device) : Device :=
  let l := d.load
  if l.phase ≠ .wraps ∨ l.buf.length < 52 then d
  else
    let t := d.takeBytes 52
    let d := t.2
    if wordAt t.1 0 ≠ 0x0300000C then d.loadAbort abRecord
    else
      let wraps := l.wraps ++ [t.1.drop 4]
      let d := d.setLoad { d.load with wraps := wraps, prologue := l.prologue ++ t.1 }
      if some wraps.length ≠ l.hdr.map (·.wraps) then d
      else if l.relay then (d.setLoad { d.load with phase := .body }).loadStep
      else
        match streamKey dieSerial Config.dieKey wraps with
        | none => d.loadAbort abKey
        | some k => (d.setLoad { d.load with key := some k, phase := .body }).loadStep

/-! ### Segments (R292, R293, R295) -/

/-- A lead that does not load itself ends when the whole stream has passed (R299 DESIGN CHOICE, entry 15). -/
def Device.relayDone (d : Device) : Device :=
  let l := d.load
  match l.hdr with
  | some h => if h.bodyBytes ≤ l.verified then
      (d.setLoadState l.before).setLoad { LoadSt.fresh with first := l.first, peers := l.peers }
    else d
  | none => d

/-- SEGMENT_VERIFY: the next segment, once every record before it has been taken (R289, R293, R295). -/
def segmentVerifyBody (d : Device) : Device :=
  let l := d.load
  match l.phase, l.hdr with
  | .body, some h =>
    if h.cls = 0 ∨ h.bodyBytes ≤ l.verified ∨ (l.ready = true ∧ l.relay = false) then d
    else
      let n := segBytes h l.seg
      -- The next key applies from the segment after the one that holds KEY_ROLL.
      let l := match l.nextKey with
        | some k => { l with key := some k, nextKey := none, keyUsed := 0 }
        | none => l
      let d := d.setLoad l
      if l.relay = false ∧ keyOverused h l.keyUsed l.seg = true then d.loadAbort abOveruse
      else if l.buf.length < n + 16 then d
      else
        let t := d.takeBytes (n + 16)
        let d := t.2
        let l := { d.load with seg := l.seg + 1, verified := l.verified + n }
        if l.relay then (d.setLoad l).loadStep.relayDone
        else
          let aad := if l.seg = 1 then l.prologue else l.head
          match l.key.bind fun k => openSegment k h (l.seg - 1) aad (t.1.take n) (t.1.drop n) with
          | none => (d.count .cfg 2).loadAbort abAuth
          | some plain => (d.setLoad { l with body := l.body ++ plain, keyUsed := l.keyUsed + n }).loadStep
  | _, _ => d

/-! ### Body records -/

/-- Take the next record if it is of type `t` and whole: its body, and the device after it. -/
def Device.takeRecord (d : Device) (t : Nat) : Option (List Byte × Device) :=
  let l := d.load
  match l.phase, l.next with
  | .body, some (ty, len) =>
    if ty = t ∧ l.relay = false ∧ 4 + 4 * len ≤ l.body.length then
      let n := 4 + 4 * len
      some ((l.body.take n).drop 4, d.setLoad { l with
        body := l.body.drop n, used := l.used + n, started := l.started || (t != rtPad && recordKnown t) })
    else none
  | _, _ => none

/-- PAD (R288). -/
def padBody (d : Device) : Device :=
  match d.takeRecord rtPad with
  | some (_, d) => d.loadStep
  | none => d

/-- SKIPPABLE_RECORD: of an unknown type with bit 31 set (R288). -/
def skippableRecordBody (d : Device) : Device :=
  match d.load.next with
  | some (t, _) => if 128 ≤ t then
      (match d.takeRecord t with
        | some (_, d) => d.loadStep
        | none => d)
    else d
  | none => d

/-- KEY_ROLL (R295): the end, in body bytes, of the segment that holds its last byte. -/
def keyRollRecordBody (d : Device) : Device :=
  match d.takeRecord rtKeyRoll, d.load.hdr with
  | some (body, d), some h =>
    let size := 2 ^ (h.segLog2 + 10)
    let l := d.load
    let stop := (l.used + size - 1) / size * size
    (d.setLoad { l with nextKey := some (BitVec.ofNat 256 (natBE (body.map (·.toNat)))), rollEnd := stop }).loadStep
  | _, _ => d

/-- FRAME_ADDR (R300). -/
def frameAddrBody (d : Device) : Device :=
  match d.takeRecord rtFrameAddr with
  | some (body, d) => (d.setLoad { d.load with addr := some (wordAt body 0) }).loadStep
  | none => d

/-- CRC_CHECK (R304). -/
def crcCheckBody (d : Device) : Device :=
  match d.takeRecord rtCrcCheck with
  | some (body, d) => if wordAt body 0 = crcValue d.load.crc then d.loadStep else d.loadAbort abCrc
  | none => d

/-- START_SEQ (R303). -/
def startSeqBody (d : Device) : Device :=
  match d.takeRecord rtStartSeq with
  | some (body, d) =>
    if stepsLegal (wordAt body 0) then (d.setLoad { d.load with order := some (wordAt body 0) }).loadStep
    else d.loadAbort abRecord
  | none => d

/-- One link of a SUBSTRATE_TABLE: its fields are staged and committed; a refusal sets its cause (R302, R215). -/
def Device.substrateLink (d : Device) (l : Fin 144) (body : List Byte) : Device :=
  let pg := PageRef.txl l
  let word (i : Nat) : Nat := wordAt body i
  let d := (d.put pg fTxlSubLinkLink (natBits (word 0) 0 4)).markStaged pg
  let d := (List.range 7).foldl (fun (d : Device) (i : Nat) =>
    (d.put pg fTxlSubLaneLoLo (word (2 + 2 * i)) i).put pg fTxlSubLaneHiDeskew (natBits (word (3 + 2 * i)) 0 8) i) d
  let extra := natBits (word 0) 4 28 != 0 || word 1 != 0 || (List.range 7).any fun i => natBits (word (3 + 2 * i)) 8 24 != 0
  d.commitWith pg (d.substrateRefuses l extra)

/-- The links of a substrate table of whole words (R302). -/
def Device.substrateTable (d : Device) (first count : Nat) (body : List Byte) : Device :=
  (List.range count).foldl (fun (d : Device) (i : Nat) => d.substrateLink (Fin.ofNat 144 (first + i)) (body.drop (64 * i))) d

/-- SUBSTRATE_TABLE (R302). -/
def substrateTableBody (d : Device) : Device :=
  match d.takeRecord rtSubstrate with
  | some (body, d) =>
    let first := natBits (wordAt body 0) 0 8
    let count := natBits (wordAt body 0) 8 8
    if body.length ≠ 4 * (1 + 16 * count) ∨ 144 < first + count then d.loadAbort abRecord
    else (d.substrateTable first count (body.drop 4)).loadStep
  | none => d

/-! ### WINDOW (R298, R330, R331) -/

/-- Set-reset and the rest of R331, once the shutter of a window bay is CLOSED. The registers that the BAY page shows reload; the
bay is still in partial reconfiguration. -/
def Device.windowShut (d : Device) (pb : Fin 112) : Device :=
  let d := { d with bayReset := sset (fun _ => false) d.bayReset pb.val true
                    writesOn := sset (fun _ => false) d.writesOn pb.val false }
  match d.logicalOf pb with
  | some n => (((d.emptyInbound n).newEpoch (.bay n)).raise (.pbay pb) fPbayBayCfgStateInPr).holdReset pb
  | none => d.holdReset pb

/-- The bay named in a WINDOW is in migration, in a call that holds it, or carries a logical bay in an absolute stream (R18,
R298). -/
def Device.windowBusy (d : Device) (absolute : Bool) (b : Nat) : Bool :=
  if absolute then (d.logicalOf (Fin.ofNat 112 b)).isSome || d.migrating (Fin.ofNat 112 b)
  else d.migrating (d.physOf (Fin.ofNat 104 b))

/-- WINDOW (R298, R330, R336, R464). -/
def windowBody (d : Device) : Device :=
  match d.takeRecord rtWindow, d.load.hdr with
  | some (body, d), some h =>
    let bays := windowBays body
    if bays.isEmpty || bays.any (fun b => decide (if h.absolute then 112 ≤ b else 104 ≤ b)) then d.loadAbort abRecord
    else if bays.any fun b => d.windowBusy h.absolute b then (d.raise .cfg cCfgPrBusy).loadAbort abBusy
    else
      let phys := bays.map fun b => if h.absolute then b else (d.physOf (Fin.ofNat 104 b)).val
      let d := d.setLoad { d.load with window := some phys }
      (phys.foldl (fun (d : Device) (p : Nat) =>
        let pb := Fin.ofNat 112 p
        let pg := PageRef.pbay pb
        -- A bay of the pool that was switched off is switched on for the stream that names it (R464).
        let d := if sget (fun _ => false) d.bayOff p then
            { d.newEpoch pg with bayOff := sset (fun _ => false) d.bayOff p false } else d
        let d := (d.raise pg fPbayBayCfgStateInPr).lower pg fPbayHingeStatusDrowsyGated
        if d.bayShutter pb = shutterOpen then d.put pg fPbayShutterState shutterClosing
        else if d.bayShutter pb = shutterClosed then d.windowShut pb
        else d) d).loadStep
  | _, _ => d

/-! ### The frame write port (R315) -/

/-- The migration of a row. -/
def Device.mig (d : Device) (r : Nat) : Option MigSt := sget (fun _ => none) d.migs r

def Device.setMig (d : Device) (r : Nat) (m : Option MigSt) : Device := { d with migs := sset (fun _ => none) d.migs r m }

def Device.migPhase (d : Device) (r : Nat) : Nat := d.rd .repair fRepairMigStatePhase r
def Device.migSource (d : Device) (r : Nat) : Fin 112 := Fin.ofNat 112 (d.rd .repair fRepairMigStateSource r)
def Device.migTarget (d : Device) (r : Nat) : Fin 112 := Fin.ofNat 112 (d.rd .repair fRepairMigStateTarget r)

def Device.testOf (d : Device) (pb : Fin 112) : Option TestFor := sget (fun _ => none) d.tests pb.val


/-- Frames of a clone: types 0, 2, 3 and 4, then the rows of the memories (R286, R359). -/
def cloneFrames : Nat := 9680

/-- The migration of a row has a frame at the frame write port: its clone is under way. -/
def Device.cloning (d : Device) (r : Nat) : Bool :=
  match d.mig r with
  | some m => d.migPhase r == 1 && (d.testOf (d.migTarget r)).isNone && decide (m.cloned < cloneFrames)
  | none => false

/-- What stands at the frame write port: a frame of the load sequencer, requester 0, if it has one, and of each migration that clones,
requester 1 + row. PRIO is 0 for every one. -/
def Device.portAsks (d : Device) (load : Bool) : List Asking :=
  (if load then [{ id := 0, rank := 0, since := d.cfgTime }] else []) ++
    (List.range 8).filterMap fun r => if d.cloning r then (d.mig r).map fun m => { id := r + 1, rank := 0, since := m.since } else none

/-- The port has granted a frame to a requester. A requester that has another frame ready keeps the grant up to BURST_LIMIT frames
(DESIGN CHOICE, entry 82). -/
def Device.portGranted (d : Device) (id : Nat) : Device :=
  let d := { d with cfgArb := d.cfgArb.granted (d.eff .cfg fCfgCfgArbBurstLimit) id true, cfgTime := d.cfgTime + 1 }
  if id = 0 then d
  else
    match d.mig (id - 1) with
    | some m => (d.setMig (id - 1) (some { m with cloned := m.cloned + 1, since := d.cfgTime })).signal (.cloneFrame (id - 1) m.cloned)
    | none => d

/-- The port grants frames until requester `who` has had its next one: the frames of migrations that come before it are cloned. -/
def Device.portFor : Nat → Bool → Nat → Device → Device
  | 0, _, _, d => d
  | fuel + 1, load, who, d =>
    match d.cfgArb.pick (d.eff .cfg fCfgCfgArbBurstLimit) (d.eff .cfg fCfgCfgArbArbN) (d.portAsks load) with
    | none => d
    | some id =>
      let d := d.portGranted id
      if id = who then d else Device.portFor fuel load who d

/-- At most so many frames of others come before one: nine requesters, each grant of BURST_LIMIT frames, an aged grant every ARB_N
(R194). -/
def Device.portBound (d : Device) : Nat :=
  9 * (d.eff .cfg fCfgCfgArbArbN + 1) * (d.eff .cfg fCfgCfgArbBurstLimit + 1)

/-- The load sequencer writes a frame. -/
def Device.loadPort (d : Device) : Device := Device.portFor d.portBound true 0 d

/-! ### Frames (R287, R300, R301, R332) -/

/-- The physical bay of a frame address of types 0 to 4. -/
def Device.frameBay (d : Device) (h : StreamHdr) (a : FrameAddr) : Fin 112 :=
  if h.absolute then Fin.ofNat 112 a.bay else d.physOf (Fin.ofNat 104 a.bay)

/-- The bay of a frame that a load has written (R297, R344). -/
def Device.bayWritten (d : Device) (h : StreamHdr) (pb : Fin 112) : Device :=
  let d := d.put (.pbay pb) fPbayBayCfgStateSealed (if h.cls = 2 then 1 else 0)
  if d.load.written.contains pb.val then d
  else (d.clearDegraded pb).setLoad { d.load with written := d.load.written ++ [pb.val] }

/-- The TCM frame of a core: sealing and clearing (R416, R417). -/
def Device.tcmFrame (d : Device) (h : StreamHdr) (a : FrameAddr) (data : List DWord) : Device :=
  let c := a.major / 2
  let pg := PageRef.tcore (Fin.ofNat 2 c)
  let d := if h.cls = 2 then d.raise pg fTcoreCoreStatusSealed
    else if d.flag pg fTcoreCoreStatusSealed then (d.clearTcm c).lower pg fTcoreCoreStatusSealed else d
  d.writeTcmFrame a.major a.minor data

/-- What writing the next frame comes to. -/
inductive FrameVerdict where
  /-- The bay's shutter is not CLOSED yet (R331). -/
  | wait
  | abort (reason : Nat)
  | written
  deriving DecidableEq, Repr

/-- Write one frame at the current address, and advance it (R300, R331, R332). -/
def Device.putFrame (d : Device) (h : StreamHdr) (data : List DWord) (ess : DWord) : FrameVerdict × Device :=
  match d.load.addr with
  | none => (.abort abAddr, d)
  | some bits =>
    let a := frameAddrOf bits
    let l := d.load
    let done (d : Device) : FrameVerdict × Device :=
      let d := d.loadPort
      (.written, (d.put .cfg fCfgFramesWrittenFrames (d.rd .cfg fCfgFramesWrittenFrames + 1)).setLoad { d.load with
        addr := a.next.map (·.bits), last := some (data, ess), crc := crcFrame l.crc data, frames := l.frames + 1
        caught := if l.watch.contains bits then l.caught ++ [(bits, data, ess)] else l.caught })
    if a.typ = 4 ∧ a.major = shadowMajor then (.abort abOutside, d)
    else if a.exists_ h.absolute = false then (.abort abAddr, d)
    else if a.typ = 5 then
      if d.flag (.tcore (Fin.ofNat 2 (a.major / 2))) fTcoreCoreCtrlHold then done (d.tcmFrame h a data)
      else (.abort abCore, d)
    else
      let pb := d.frameBay h a
      match l.window with
      | some w =>
        if !w.contains pb.val then (.abort abOutside, d)
        else if d.bayShutter pb ≠ shutterClosed then (.wait, d)
        else done ((d.bayWritten h pb).writeFrame pb a.typ a.major a.minor data ess)
      | none => done ((d.bayWritten h pb).writeFrame pb a.typ a.major a.minor data ess)

/-- Abort for a frame: outside its window, PR_WINDOW is set as well (R332). -/
def Device.frameAbort (d : Device) (reason : Nat) : Device :=
  let d := if reason = abOutside ∧ d.load.kind = 1 then d.raise .cfg cCfgPrWindow else d
  d.loadAbort reason

/-- Write the frames of the FRAME_DATA record under way that have been verified. -/
def Device.frameRun : Nat → StreamHdr → Device → Device
  | 0, _, d => d
  | fuel + 1, h, d =>
    let l := d.load
    let n := l.frameBytes
    if l.framesLeft = 0 ∨ l.body.length < n then d
    else
      let ess : DWord := if l.essMode = 1 then BitVec.allOnes 64
        else if l.essMode = 2 then BitVec.ofNat 64 (natLE ((l.body.drop 512).take 8)) else 0
      match d.putFrame h (frameWords (l.body.take 512)) ess with
      | (.wait, _) => d
      | (.abort r, _) => d.frameAbort r
      | (.written, d) =>
        let l := d.load
        Device.frameRun fuel h (d.setLoad { l with body := l.body.drop n, used := l.used + n, framesLeft := l.framesLeft - 1 })

/-- FRAME_DATA: its first word, and then every frame that has been verified (R293, R300). -/
def frameDataBody (d : Device) : Device :=
  let l := d.load
  match l.phase, l.hdr with
  | .body, some h =>
    if l.relay then d
    else if l.framesLeft ≠ 0 then (Device.frameRun l.framesLeft h d).loadStep
    else
      match l.next with
      | some (t, len) =>
        if t ≠ rtFrameData ∨ l.body.length < 8 then d
        else
          let w := wordAt l.body 1
          let count := w % 2 ^ 16
          let mode := natBits w 16 2
          let typ := (l.addr.map fun a => (frameAddrOf a).typ).getD 0
          if count = 0 ∨ w / 2 ^ 18 ≠ 0 ∨ len ≠ 1 + count * (if mode = 2 then 130 else 128) ∨ mode = 3 ∨
              (mode ≠ 0 ∧ (typ = 1 ∨ typ = 5)) then d.loadAbort abRecord
          else
            let d := d.setLoad { l with body := l.body.drop 8, used := l.used + 8, framesLeft := count, essMode := mode
                                        started := true }
            (Device.frameRun count h d).loadStep
      | none => d
  | _, _ => d

/-- Repeat the last frame at the addresses that follow. -/
def Device.repeatRun : Nat → StreamHdr → Device → Device
  | 0, _, d => d
  | fuel + 1, h, d =>
    match d.load.last with
    | none => d
    | some (data, ess) =>
      if d.load.repeatLeft = 0 then d
      else
        match d.putFrame h data ess with
        | (.wait, _) => d
        | (.abort r, _) => d.frameAbort r
        | (.written, d) => Device.repeatRun fuel h (d.setLoad { d.load with repeatLeft := d.load.repeatLeft - 1 })

/-- FRAME_REPEAT (R301). -/
def frameRepeatBody (d : Device) : Device :=
  match d.load.hdr with
  | none => d
  | some h =>
    if d.load.repeatLeft ≠ 0 then (Device.repeatRun d.load.repeatLeft h d).loadStep
    else
      match d.takeRecord rtFrameRepeat with
      | some (body, d) =>
        let count := wordAt body 0 % 2 ^ 16
        if count = 0 ∨ d.load.last.isNone then d.loadAbort abRecord
        else (Device.repeatRun count h (d.setLoad { d.load with repeatLeft := count })).loadStep
      | none => d

/-! ### READBACK (R305, R306) -/

/-- One frame as readback returns it: 512 data bytes and the trailer's ESS and status; none: the bay's frame is read when the
activity that holds it ends (R306). -/
def Device.readbackFrame (d : Device) (h : StreamHdr) (addr : Option Nat) : Option (List DWord × DWord × Nat) :=
  let zeros : List DWord := List.replicate 64 0
  match addr with
  | none => some (zeros, 0, 8)
  | some bits =>
    let a := frameAddrOf bits
    if a.exists_ h.absolute = false then some (zeros, 0, 8)
    else if a.typ = 5 then
      if d.flag (.tcore (Fin.ofNat 2 (a.major / 2))) fTcoreCoreStatusSealed then some (zeros, 0, 4)
      else some (d.readTcmFrame a.major a.minor, 0, 0)
    else
      let pb := d.frameBay h a
      if !d.fabricOn || sget (fun _ => false) d.bayOff pb.val then some (zeros, 0, 8)
      else if d.flag (.pbay pb) fPbayBayCfgStateInPr then none
      else if d.flag (.pbay pb) fPbayBayCfgStateSealed then some (zeros, 0, 4)
      else if a.major = shadowMajor ∧ a.typ = 4 then
        if d.rd (.pbay pb) fPbayCaptureStatusShadowFrames ≤ a.minor then some (zeros, 0, 8)
        else
          match sget (fun _ => none) d.shadow pb.val with
          | some h => some ((List.range 64).map (fun k => h.word a.minor k), 0, 0)
          | none => some (zeros, 0, 8)
      else
        let r := d.readFrame pb a.typ a.major a.minor
        some (r.1, r.2.1, (if r.2.2.1 = 0 then 0 else 1) + (if r.2.2.2 then 2 else 0) + 256 * r.2.2.1)

/-- The physical bay whose shadow frames a frame address names. -/
def Device.shadowBay (d : Device) (h : StreamHdr) (addr : Option Nat) : Option Nat :=
  addr.bind fun bits =>
    let a := frameAddrOf bits
    if a.typ = 4 ∧ a.major = shadowMajor ∧ a.exists_ h.absolute = true then some (d.frameBay h a).val else none

/-- Read back the frames of the record under way. The engine counts as reading a bay's shadow frames until every word that it has
read has left it (R76; DESIGN CHOICE, entry 79). -/
def Device.readRun : Nat → StreamHdr → Device → Device
  | 0, _, d => d
  | fuel + 1, h, d =>
    let l := d.load
    if l.readLeft = 0 then d
    else
      match d.readbackFrame h l.readAddr with
      | none => d
      | some (data, ess, status) =>
        let bytes := data.flatMap fun w => bytesLE 8 w.toNat
        let trailer := bytesLE 8 ess.toNat ++ bytesLE 4 (l.readAddr.getD 0xFFFFFFFF) ++ bytesLE 4 status
        let all := if l.trailer then bytes ++ trailer else bytes
        let next := l.readAddr.bind fun b =>
          let a := frameAddrOf b
          if a.exists_ h.absolute then a.next.map (·.bits) else none
        let d := match d.shadowBay h l.readAddr with
          | some pb => { d with readingShadow := some pb }
          | none => d
        Device.readRun fuel h (d.setLoad { l with
          readLeft := l.readLeft - 1, readAddr := next, readDest := l.readDest + all.length
          writes := l.writes ++ cutWrites 4 l.readDest all })

/-- READBACK (R305). -/
def readbackBody (d : Device) : Device :=
  match d.load.hdr with
  | none => d
  | some h =>
    if d.load.readLeft ≠ 0 then (Device.readbackPump 1024 (Device.readRun (d.load.readLeft + 1) h d)).loadStep
    else
      match d.takeRecord rtReadback with
      | some (body, d) =>
        let w := wordAt body 1
        let count := w % 2 ^ 16
        let dest := natLE ((body.drop 8).take 8)
        if count = 0 ∨ w / 2 ^ 17 ≠ 0 then d.loadAbort abRecord
        else
          let d := d.setLoad { d.load with readLeft := count, readAddr := some (wordAt body 0), readDest := dest
                                           trailer := w.testBit 16 }
          (Device.readbackPump 1024 (Device.readRun (count + 1) h d)).loadStep
      | none => d

/-- A readback write has been answered (R305). -/
def Device.readbackDone (d : Device) (status : Nat) : Device :=
  let l := d.load
  if l.writesOut = 0 then d
  else
    let d := d.setLoad { l with writesOut := l.writesOut - 1 }
    if status ≠ stOk ∧ l.loading then d.loadAbort abReadback else (Device.readbackPump 1024 d)

/-- A forwarded word has been answered (R317). -/
def Device.forwardDone (d : Device) (i status : Nat) : Device :=
  match d.load.peers[i]? with
  | some p => if status ≠ stOk then (if p.stopped then d else d.fwdStop i) else d.fwdPump
  | none => d

end Sys2Proof.Machine
end

