-- ==== Sys2Proof/Machine/Startup.lean ====
section
/-! DEFINITION. END and the start-up (R304, R321 to R327, R335, R336): the steps in their order, the latch line, and what a
start-up ends in. -/

namespace Sys2Proof.Machine

open Sys2Proof

/-- LOAD_STATUS.STEP: 0 none. -/
def Device.step (d : Device) : Nat := d.rd .cfg fCfgLoadStatusStep

def stLock : Nat := 1
def stGsr : Nat := 2
def stWrites : Nat := 3
def stLatch : Nat := 5

/-- A full start-up, not one of a window. -/
def Device.fullStartup (d : Device) : Bool := d.load.kind == 0

/-- The settings in force that the region's bays select their clocks by. -/
def Device.bayClocks (d : Device) (p : Nat) : BitVec 32 := (sget (fun _ => BayCfg.empty) d.bayCfg p).clocks

/-- Fabric pair `s` (1 to 4) has a global clock that a bay of the region selects (R323). -/
def Device.pairNeeded (d : Device) (region : List Nat) (s : Nat) : Bool :=
  region.any fun p => (List.range 8).any fun k => (d.bayClocks p).getLsbD (8 * (s - 1) + k)

/-- What a step does as it begins: LOCK starts the pairs the region needs (R323). -/
def Device.beginStep (d : Device) (code : Nat) : Device :=
  let d := d.put .cfg fCfgLoadStatusStep code
  if code = stLock then
    [1, 2, 3, 4].foldl (fun (d : Device) (s : Nat) =>
      if d.pairNeeded d.load.region s && !d.running s then d.startSource s else d) d
  else d

/-- The drive of LATCH_N ends (R326). -/
def Device.latchRelease (d : Device) : Device := d.lower .cfg fCfgLatchDriving

/-- A bay of a finished window is released: out of partial reconfiguration and out of HELD (R334, R335). -/
def Device.releaseBay (d : Device) (p : Nat) : Device :=
  let pg := PageRef.pbay (Fin.ofNat 112 p)
  ((d.lower pg fPbayBayCfgStateInPr).lower pg fPbayBayCfgStateHeld).put pg fPbayBayCfgStateHeldCause 0

/-- The last step has completed (R323, R326, R335, R498). Under an abort the load does not complete: its region stays fenced
(R48). -/
def Device.startupDone (d : Device) : Device :=
  if d.rd .cfg hdrAbortState = 1 then d.loadAbort abHost else
  let l := d.load
  let d := (d.put .cfg fCfgLoadStatusStep 0).setLoadState lsDone
  let d := (d.raise .cfg cCfgStartupDone).count .cfg 0
  let d := d.setLoad { LoadSt.fresh with first := l.first, peers := l.peers }
  match l.window with
  | some w => (w.foldl (fun (d : Device) (p : Nat) => d.releaseBay p) d).raise .cfg cCfgPrDone
  | none => (d.latchRelease.setMode mService).signal .service

/-- The step in progress has completed: the next begins, LATCH being skipped in a partial start-up (R323, R335). -/
def Device.nextStep (d : Device) : Device :=
  match d.load.phase with
  | .steps rest =>
    let rest := if d.fullStartup then rest else rest.filter (· != stLatch)
    match rest with
    | [] => d.startupDone
    | c :: cs => (d.setLoad { d.load with phase := .steps cs }).beginStep c
  | _ => d

/-- The start-up sequence begins (R323). -/
def Device.startSteps (d : Device) : Device :=
  let order := d.load.order.getD (d.rd .cfg fCfgStartupOrderOrder)
  let d := if d.fullStartup then d.setMode mStartup else d
  let d := d.setLoadState lsStartup
  (d.setLoad { d.load with phase := .steps (stepsOf order) }).nextStep

/-! ### END (R304, R321) -/

/-- What follows END is PAD records up to the end of the body (R304). -/
def padsOnly : Nat → List Byte → Bool
  | 0, bs => bs.isEmpty
  | fuel + 1, bs =>
    if bs.isEmpty then true
    else
      let n := 4 + 4 * (wordAt bs 0 % 2 ^ 24)
      decide (4 ≤ bs.length) && wordAt bs 0 / 2 ^ 24 == rtPad && decide (n ≤ bs.length) && padsOnly fuel (bs.drop n)

/-- The load has ended without a start-up: a READBACK stream (R498). -/
def Device.readbackEnd (d : Device) : Device :=
  let l := d.load
  ((d.setLoadState l.before).raise .cfg cCfgLoadDone).setLoad { LoadSt.fresh with first := l.first, peers := l.peers }

/-- END: CRC and frame count, then the start-up; the whole body has been verified, and a readback's writes have been answered
(R304, R305, R321). -/
def endRecordBody (d : Device) : Device :=
  let before := d
  match d.takeRecord rtEnd, d.load.hdr with
  | some (body, d), some h =>
    if d.load.verified < h.bodyBytes ∨ d.load.writesOut ≠ 0 ∨ d.load.writes ≠ [] then before
    else if padsOnly d.load.body.length d.load.body = false then d.loadAbort abRecord
    else if wordAt body 0 ≠ crcValue d.load.crc ∨ d.load.frames ≠ h.frames then
      d.loadAbort abCrc
    else if h.kind = 2 then d.readbackEnd
    else
      let d := d.raise .cfg cCfgLoadDone
      let d := d.dropReads
      (d.putInForce d.load.written).startSteps
  | _, _ => d

/-! ### The steps (R323, R324, R336) -/

/-- LOCK completes: every pair the region needs reports LOCKED. -/
def lockBody (d : Device) : Device :=
  if d.load.starting ∧ d.step = stLock ∧
      ([1, 2, 3, 4].all fun s => !d.pairNeeded d.load.region s || d.flag .clk fClkSrcStatusLocked s) = true then d.nextStep
  else d

/-- LOCK_FAIL: not locked within 100 µs. -/
def lockFailBody (d : Device) : Device :=
  if d.load.starting ∧ d.step = stLock ∧
      ([1, 2, 3, 4].all fun s => !d.pairNeeded d.load.region s || d.flag .clk fClkSrcStatusLocked s) = false then
    d.loadAbort abLock
  else d

/-- RELEASE_GSR completes: global set-reset, or bay-level set-reset of the window, is released (R62, R323). -/
def releaseGsrBody (d : Device) : Device :=
  if d.load.starting ∧ d.step = stGsr then
    let d := if d.fullStartup then { d with gsr := false, bayReset := [] }
      else { d with bayReset := d.load.region.foldl (fun m (p : Nat) => sset (fun _ => false) m p false) d.bayReset }
    d.nextStep
  else d

/-- ENABLE_WRITES completes (R323, R324). -/
def enableWritesBody (d : Device) : Device :=
  if d.load.starting ∧ d.step = stWrites then
    let on := d.load.region.foldl (fun m (p : Nat) => sset (fun _ => false) m p true) d.writesOn
    { d with writesOn := on }.nextStep
  else d

/-- RELEASE_OUTPUTS completes: the bay ports of the region's logical bays open (R199, R323, R336). -/
def releaseOutputsBody (d : Device) : Device :=
  if d.load.starting ∧ d.step = stOutputs then
    (d.load.region.foldl (fun (d : Device) (p : Nat) =>
      let pb := Fin.ofNat 112 p
      if (d.logicalOf pb).isSome ∧ d.bayShutter pb = shutterClosed then
        d.commitBeforeOpen.put (.pbay pb) fPbayShutterState shutterOpen
      else d) d).nextStep
  else d

/-! ### The latch line (R326, R327) -/

/-- LATCH: the step releases this die's drive. -/
def latchBody (d : Device) : Device := if d.load.starting ∧ d.step = stLatch then d.latchRelease else d

/-- LATCH_N_HIGH: the line reads high, which it cannot while this die drives it low. -/
def latchNHighBody (d : Device) : Device :=
  if d.flag .cfg fCfgLatchDriving then d
  else
    let d := d.raise .cfg fCfgLatchLevel
    if d.load.starting ∧ d.step = stLatch then d.nextStep else d

/-- LATCH_TIMEOUT (R326). -/
def latchTimeoutBody (d : Device) : Device :=
  if d.load.starting ∧ d.step = stLatch ∧ d.flag .cfg fCfgLatchDriving = false ∧ d.rd .cfg fCfgLatchLimit ≠ 0 then
    d.loadAbort abLatch
  else d

/-! ### STARTUP_GO (R322, R334) -/

/-- STARTUP_GO: only after a full start-up that failed past END (R322). -/
def Device.startupGo (d : Device) : Device :=
  let reason := d.rd .cfg fCfgLoadStatusReason
  if d.loadState = lsFenced ∧ d.mode = mLoad ∧ (reason = abLock ∨ reason = abLatch) ∧ d.load.phase = .idle ∧
      d.load.hdr.isSome = true ∧ d.fullStartup = true then d.startSteps
  else d.raise .cfg cCfgLoadBusy

end Sys2Proof.Machine
end

