-- ==== Sys2Proof/Machine/Scrub.lean ====
section
/-! DEFINITION. The scrubber (R337 to R349, R101): passes, what it does with an error, the golden list, its three copies, and
the upsets that test it. -/

namespace Sys2Proof.Machine

open Sys2Proof

/-! ### When it runs (R338) -/

/-- The scrubber may read: its mode, ENABLE, and no abort under way or done (R48, R338). -/
def Device.scrubRuns (d : Device) : Bool :=
  (d.mode == mService || d.mode == mDrowse || d.mode == mQuiesced) && d.flag .scrub hdrEnable &&
    d.rd .scrub hdrAbortState == 0

/-- SCRUB_STATUS.STATE: 0 OFF, 1 IDLE, 2 RUNNING, 3 GAP, 4 STOPPED. -/
def Device.scrubState (d : Device) : Nat :=
  if d.mode = mDormant ∨ d.mode = mDoorway then 0
  else if d.mode = mLoad ∨ d.mode = mStartup then 1
  else if d.scrubRuns = false then 4
  else if d.scrubAt.isSome then 2 else 3

/-- The first frame of a pass (R339). -/
def passFirst : Nat := 0

/-- A new pass begins. -/
def Device.passBegin (d : Device) : Device := { d with scrubAt := some passFirst }

/-- PASS_START: the gap after a pass is over (R339). -/
def passStartBody (d : Device) : Device := if d.scrubRuns ∧ d.scrubAt.isNone then d.passBegin else d

/-- A pass skips this physical bay (R18, R339). -/
def Device.scrubSkips (d : Device) (pb : Fin 112) : Bool :=
  let pg := PageRef.pbay pb
  d.flag pg fPbayBayCfgStateInPr || d.flag pg fPbayBayCfgStateHeld || sget (fun _ => false) d.bayOff pb.val ||
    d.flag pg fPbayHealthFailed || d.steerCode pb.val == 15 || (d.migPhase (pb.val / 14) == 3 && d.migSource (pb.val / 14) == pb) ||
    -- R18: coded 0xE are the spare of a migration until the cut, and the source from then until it has been retired.
    d.steerCode pb.val == 14

/-- The next frame after `a` in a pass, whatever is skipped (R339): types 0 to 4 of a bay, then the next bay. -/
def passNext (a : FrameAddr) : Option FrameAddr :=
  if a.minor + 1 < minorsOf a.typ a.major then some { a with minor := a.minor + 1 }
  else if a.typ < 2 ∧ 0 < minorsOf a.typ (a.major + 1) then some { a with major := a.major + 1, minor := 0 }
  else if a.typ < 4 then some { a with typ := a.typ + 1, major := 0, minor := 0 }
  else if a.bay < 111 then some { bay := a.bay + 1, typ := 0, major := 0, minor := 0 }
  else none

/-- The first frame at or after `a` of a bay that is not skipped. -/
def Device.scrubFrom : Nat → Device → FrameAddr → Option FrameAddr
  | 0, _, _ => none
  | fuel + 1, d, a =>
    if d.scrubSkips (Fin.ofNat 112 a.bay) then
      if a.bay < 111 then Device.scrubFrom fuel d { bay := a.bay + 1, typ := 0, major := 0, minor := 0 } else none
    else some a

/-! ### Reports (R342, R343, R345, R349) -/

/-- The first-event log: `kind` 1 essential corrected, 2 uncorrectable, 3 stuck. -/
def Device.scrubLog (d : Device) (kind : Nat) (a : FrameAddr) (word : Nat) (w : BitVec 73) : Device :=
  if d.flag .scrub fScrubErrLog0Valid then d
  else
    let sp := cfgSyndrome w
    let d := ((d.put .scrub fScrubErrLog0Kind kind).put .scrub fScrubErrLog0Pbay a.bay).put .scrub fScrubErrLog1Frame a.bits
    let d := (d.put .scrub fScrubErrLog2Word word).put .scrub fScrubErrLog2Syndrome sp.1
    (d.put .scrub fScrubErrLog2Parity sp.2.toNat).raise .scrub fScrubErrLog0Valid

/-- A frame of a bay that carries a logical bay enters the golden list (R345). -/
def Device.goldenEnter (d : Device) (a : FrameAddr) : Device :=
  match d.logicalOf (Fin.ofNat 112 a.bay) with
  | none => d
  | some n =>
    let g := ({ a with bay := n.val } : FrameAddr).bits
    if d.golden.contains g then d
    else if 64 ≤ d.golden.length then d.raise .scrub cScrubGoldenFull
    else ({ d with golden := d.golden ++ [g], goldenPop := d.goldenPop ++ [g] }).raise .scrub cScrubGoldenRequest

/-- An uncorrectable word (R342, R344). -/
def Device.scrubBad (d : Device) (a : FrameAddr) (word : Nat) (w : BitVec 73) : Device :=
  let pg := PageRef.pbay (Fin.ofNat 112 a.bay)
  let d := if d.flag pg fPbayBayCfgStateDegraded then d else d.signal (.degraded a.bay)
  let d := (d.raise pg fPbayBayCfgStateDegraded).count pg 2
  let d := (d.raise pg cPbayScrubDegraded).raise .scrub cScrubEssUncorrectable
  (d.scrubLog 2 a word w).goldenEnter a

/-- Rewrite a word in place and read it again: one that still shows an error is stuck (R343). -/
def Device.scrubRewrite (d : Device) (a : FrameAddr) (word key : Nat) (v : BitVec 73) : Device :=
  let pg := PageRef.pbay (Fin.ofNat 112 a.bay)
  let d := d.cfgWrite key v
  let d := d.wordChanged (Fin.ofNat 112 a.bay)
  let w := d.cfgRead key
  if cfgVerdict w = .good then d
  else
    let d := { d with stuckSeen := sset (fun _ => false) d.stuckSeen key true }
    ((d.count pg 3).raise pg cPbayScrubStuck).scrubLog 3 a word w

/-- A single error, corrected in place (R342). -/
def Device.scrubFixWord (d : Device) (a : FrameAddr) (word key : Nat) (w : BitVec 73) : Device :=
  let pg := PageRef.pbay (Fin.ofNat 112 a.bay)
  let v := cfgFix w
  let d := d.count pg 0
  let d := if v.getLsbD 64 then
      ((d.count pg 1).raise pg cPbayScrubEssFixed |>.raise .scrub cScrubEssCorrected).scrubLog 1 a word w
    else d
  d.scrubRewrite a word key v

/-- The scrubber leaves a word of a marked pane alone (R340): logical column `k` of a frame of minors 0 to 31. -/
def Device.scrubExcludes (d : Device) (pb : Fin 112) (major minor k : Nat) : Bool :=
  decide (minor < 32) && k % 2 == 1 &&
    (let i := 96 * (k / 2) + major
     (sget (fun _ => (0 : DWord)) d.exclMap (pb.val * 64 + i / 64)).getLsbD (i % 64))

/-- One word of a frame of types 0, 2, 3 and 4 (R342). -/
def Device.scrubWord (d : Device) (a : FrameAddr) (word key : Nat) : Device :=
  let w := d.cfgRead key
  match cfgVerdict w with
  | .good => d
  | .corrected => d.scrubFixWord a word key w
  | .bad => d.scrubBad a word w

/-- One frame of types 0, 2, 3 and 4, its bypassed columns included (R342). -/
def Device.scrubWords (d : Device) (a : FrameAddr) : Device :=
  let pb := Fin.ofNat 112 a.bay
  let d := (List.range 64).foldl (fun (d : Device) (k : Nat) =>
    if a.typ = 0 ∧ d.scrubExcludes pb a.major a.minor k = true then d
    else d.scrubWord a k (cfgKey pb.val a.typ a.major a.minor (d.colOf pb a.typ k))) d
  if a.typ ≠ 0 then d
  else (List.range 66).foldl (fun (d : Device) (c : Nat) =>
    let key := cfgKey pb.val 0 a.major a.minor c
    if d.bypassedCol pb c && cfgVerdict (d.cfgRead key) != .good then (d.cfgWrite key 0).count .scrub 3 else d) d

/-- The family in which a memory is scrubbed: ECC with ECC_EN and a 512x72 port, else as its port A (R83, R101). -/
def memFamily (c : BramCfg) : Family :=
  if familyOf c c.a.shape = .ecc ∨ familyOf c c.b.shape = .ecc then .ecc else familyOf c c.a.shape

/-- One row of a memory (R101): a single error of the ECC family is corrected and written back, a parity error reported. -/
def Device.scrubRow (d : Device) (pb : Fin 112) (m r : Nat) : Device :=
  let c := d.memCfg pb m
  let row := d.row pb m r
  match memFamily c with
  | .ecc =>
    match eccVerdict row with
    | .good => d
    | .corrected => ((d.memError pb m r 1 2 0 (syndromeByte row)).setRow pb m r (eccFix row)).dropWriteback pb m r
    | .bad => d.memError pb m r 3 2 0 (syndromeByte row)
  | f =>
    let checked := f == .narrow || c.parityEn
    let errs := if checked then (List.range 8).filter fun k => parityBad f row k else []
    if errs.isEmpty then d else d.memError pb m r 2 2 (errs.foldl (fun s k => s + 2 ^ k) 0) 0

/-- The rows that begin in a content frame. -/
def rowsBegun (minor : Nat) : List Nat := (List.range 512).filter fun r => 72 * r / 4096 == minor

/-- One frame of a pass. -/
def Device.scrubAddr (d : Device) (a : FrameAddr) : Device :=
  if a.typ = 1 then
    (rowsBegun a.minor).foldl (fun (d : Device) (r : Nat) => d.scrubRow (Fin.ofNat 112 a.bay) a.major r) d
  else d.scrubWords a

/-- A pass has ended (R339). How long it took is a free value: the model keeps no time. -/
def Device.passEnd (d : Device) : Device :=
  let d := { d with scrubAt := none, free := d.free + 1 }
  let d := (d.put .scrub fScrubPassCountPasses (d.rd .scrub fScrubPassCountPasses + 1)).count .scrub 0
  (d.put .scrub fScrubLastPassTime (Config.freeWord d.free).toNat).raise .scrub cScrubPassDone

/-- SCRUB_FRAME: the next frame of the pass (R339 to R343). -/
def scrubFrameBody (d : Device) : Device :=
  if d.scrubRuns = false then d
  else
    match d.scrubAt with
    | none => d
    | some p =>
      match Device.scrubFrom 113 d (frameAddrOf p) with
      | none => d.passEnd
      | some a =>
        let d := (d.put .scrub fScrubScrubStatusBay a.bay).scrubAddr a
        match passNext a with
        | none => d.passEnd
        | some n => { d with scrubAt := some n.bits }

/-- PAGE_CTRL.ENABLE of the SCRUB page has been written: 0 stops at the frame boundary, 1 begins a new pass (R338). -/
def Device.scrubEnabled (d : Device) (en : Bool) : Device :=
  if en then (if d.scrubRuns then d.passBegin else d) else { d with scrubAt := none }

/-! ### Golden writes (R346) -/

/-- Write one listed frame in place, and take its entry away; the last of a bay clears DEGRADED (R344, R346). -/
def Device.goldenWrite (d : Device) (g : Nat) (data : List DWord) (ess : DWord) : Device :=
  let a := frameAddrOf g
  let n := Fin.ofNat 104 a.bay
  let pb := d.physOf n
  let d := d.writeFrame pb a.typ a.major a.minor data ess
  let d := (d.applySettings pb).hingeCheck d [pb.val]
  let d := { d with golden := d.golden.erase g }.count .scrub 2
  if (d.goldenOf n.val).isEmpty then d.lower (.pbay pb) fPbayBayCfgStateDegraded else d

/-! ### The three copies (R347) -/

/-- VOTE_FIX: copy `c` dissents. -/
def voteFixBody (c : Fin 3) (d : Device) : Device :=
  (((d.put .scrub fScrubVoteStatusDissent (2 ^ c.val)).raise .scrub cScrubVoteFix)).count .scrub 1

/-- The exclusion maps as the bay-control frames hold them, with correction. -/
def Device.rebuildMaps (d : Device) : Device :=
  (List.finRange 112).foldl (fun (d : Device) (pb : Fin 112) =>
    (List.zip (List.range 48) (d.storedFrame pb 4 0 3)).foldl (fun (d : Device) (e : Nat × BitVec 73) =>
      { d with exclMap := sset (fun _ => 0) d.exclMap (pb.val * 64 + e.1) (dataOf (cfgFix e.2)) }) d) d

/-- VOTE_LOST: the pass ends, settings reload, maps are rebuilt, the list is emptied, a new pass begins. -/
def voteLostBody (d : Device) : Device :=
  let d := (d.put .scrub fScrubVoteStatusDissent 7).raise .scrub cScrubVoteLost
  let d := (d.put .scrub fScrubScrubCtrlPassGap 0).put .scrub hdrEnable 1
  let d := ((d.put .scrub fScrubInjectAddrFrame 0).put .scrub fScrubInjectWord 0).put .scrub fScrubInjectBit 0
  let d := { d.rebuildMaps with golden := [], scrubAt := none }
  if d.scrubRuns then d.passBegin else d

/-! ### Upsets of configuration words (R349, R367) -/

/-- Flip one stored bit; the settings follow. -/
def Device.flipCfg (d : Device) (pb : Fin 112) (key bit : Nat) : Device :=
  let d := { d with cfgMem := sset cfgDflt d.cfgMem key (d.cfgRead key ^^^ BitVec.ofNat 73 (2 ^ bit)) }
  d.wordChanged pb

/-- A frame address that names stored words of types 0, 2, 3 or 4 of a physical bay. -/
def storedAddr (a : FrameAddr) : Bool :=
  a.exists_ true && (a.typ == 0 || a.typ == 2 || a.typ == 3 || a.typ == 4) && a.major != shadowMajor

/-- INJECT.GO: one bit of the word that INJECT_ADDR and INJECT name, without changing the check bits (R349). -/
def Device.injectGo (d : Device) : Device :=
  let a := frameAddrOf (d.rd .scrub fScrubInjectAddrFrame)
  let pb := Fin.ofNat 112 a.bay
  if storedAddr a && d.fabricOn then
    d.flipCfg pb (cfgKey pb.val a.typ a.major a.minor (d.colOf pb a.typ (d.rd .scrub fScrubInjectWord)))
      (d.rd .scrub fScrubInjectBit)
  else d

/-- CONFIG_UPSET: a bit of the word in physical column `col` of a stored frame of bay `pb` (R367). -/
def configUpsetBody (pb : Fin 112) (addr : Word) (col : Fin 66) (bit : Fin 73) (d : Device) : Device :=
  let a := { frameAddrOf addr.toNat with bay := pb.val }
  if storedAddr a && d.fabricOn && (a.typ == 0 || decide (col.val < 64)) then
    d.flipCfg pb (cfgKey pb.val a.typ a.major a.minor col.val) bit.val
  else d

end Sys2Proof.Machine
end

