-- ==== Sys2Proof/Machine/Pcie.lean ====
section
/-! DEFINITION. The PCI Express attach (R375 to R389): functions and owners, MSI-X, configuration space, windows, doorbells, host
memory as a target. -/

namespace Sys2Proof.Machine

open Sys2Proof

/-! ### Functions and owners (R376, R377, R382) -/

/-- The OWNER code of a function; PF0 owns nothing. -/
def ownerCode : PcieFn → Option Nat
  | .pf0 => none
  | .pf1 => some 0
  | .vf v => some (v.val + 1)

/-- The function an OWNER code names. -/
def fnOfOwner (c : Nat) : Option PcieFn :=
  if c = 0 then some .pf1
  else if h : c - 1 < 32 then some (.vf ⟨c - 1, h⟩) else none

/-- NumVFs while VF Enable is 1, else 0 (PF1_STATUS.NUM_VFS); TotalVFs is 32. -/
def Device.vfsOn (d : Device) : Nat :=
  if (d.pciWord .pf1 .sriovControl).getLsbD 0 then min 32 (bitsOf (d.pciWord .pf1 .numVfs) 0 16) else 0

/-- AtomicOp Requester Enable of PF1. -/
def Device.atomicsOn (d : Device) : Bool := (d.pciWord .pf1 .deviceControl2).getLsbD 6

/-- A function is ready, and enabled where it is a VF (R377). -/
def Device.fnReady (d : Device) : PcieFn → Bool
  | .pf0 => d.mode != mDormant
  | .pf1 => d.pf1Ready
  | .vf v => d.pf1Ready && decide (v.val < d.vfsOn)

/-- The owner that a code names is ready and enabled. -/
def Device.ownerReady (d : Device) (c : Nat) : Bool :=
  match fnOfOwner c with
  | some fn => d.fnReady fn
  | none => false

/-- A function reached a resource that it does not own (R382). -/
def Device.ownerViolation (d : Device) : Device := (d.raise .pcie cPcieOwnerViolation).count .pcie 2

/-! ### MSI-X (R42, R43, R388) -/

def msixKey (fn : PcieFn) (vec : Nat) : Nat := fnIndex fn * 64 + vec

/-- MSI-X Enable and Function Mask in Message Control. -/
def Device.msixOn (d : Device) (fn : PcieFn) : Bool := (d.pciWord fn .msixControl).getLsbD 15
def Device.fnMasked (d : Device) (fn : PcieFn) : Bool := (d.pciWord fn .msixControl).getLsbD 14

/-- Every entry's Mask bit is 1 after reset. -/
def Device.vecMasked (d : Device) (fn : PcieFn) (vec : Nat) : Bool := sget (fun _ => true) d.msixMask (msixKey fn vec)
def Device.vecPending (d : Device) (fn : PcieFn) (vec : Nat) : Bool := sget (fun _ => false) d.msixPend (msixKey fn vec)

def Device.setPending (d : Device) (fn : PcieFn) (vec : Nat) (b : Bool) : Device :=
  { d with msixPend := sset (fun _ => false) d.msixPend (msixKey fn vec) b }

/-- The PCI Express link is in L1 or below. -/
def Device.linkAsleep (d : Device) : Bool := decide (2 ≤ d.rd .pcie fPcieLinkStatusPm)

/-- Send a message, or hold it until the link is in L0 (R43). -/
def Device.sendMsix (d : Device) (fn : PcieFn) (vec : Nat) : Device :=
  if d.linkAsleep then { d with msixWait := d.msixWait ++ [(fn, vec)] } else d.emit (.msix fn vec)

/-- Raise a vector (R42). -/
def Device.raiseMsix (d : Device) (fn : PcieFn) (vec : Nat) : Device :=
  if !d.fnReady fn || !d.msixOn fn || !d.busMaster fn then d
  else if d.vecMasked fn vec || d.fnMasked fn then d.setPending fn vec true
  else d.sendMsix fn vec

/-- Send the messages whose mask has been cleared. -/
def Device.flushPending (d : Device) (fn : PcieFn) : Device :=
  if !d.fnReady fn || !d.msixOn fn || !d.busMaster fn || d.fnMasked fn then d
  else
    (List.range 64).foldl (fun (d : Device) (v : Nat) =>
      if d.vecPending fn v && !d.vecMasked fn v then (d.setPending fn v false).sendMsix fn v else d) d

/-- The owner of a vector. -/
def Device.vectorOwner (d : Device) (v : Nat) : Nat :=
  let f := match v % 4 with
    | 0 => fPcieVecOwnerOwner0
    | 1 => fPcieVecOwnerOwner1
    | 2 => fPcieVecOwnerOwner2
    | _ => fPcieVecOwnerOwner3
  d.eff .pcie f (v / 4)

/-- MSIX_UNMASK: a write of an entry's Mask bit. PF0 has one vector; every other function writes only the vectors it owns
(R42, R382). -/
def msixUnmaskBody (fn : PcieFn) (vec : Fin 64) (mask : Bool) (d : Device) : Device :=
  if d.fnReady fn = false ∨ (fn = .pf0 ∧ vec.val ≠ 0) then d
  else if fn ≠ .pf0 ∧ ownerCode fn ≠ some (d.vectorOwner vec.val) then d.ownerViolation
  else { d with msixMask := sset (fun _ => true) d.msixMask (msixKey fn vec.val) mask }.flushPending fn

/-- The link has reached L0: what waited for it goes out. -/
def Device.linkAwake (d : Device) : Device :=
  let ms := d.msixWait
  let d := { d.put .pcie fPcieLinkStatusPm 0 with msixWait := [] }
  ms.foldl (fun (d : Device) (m : PcieFn × Nat) => d.emit (.msix m.1 m.2)) d

/-- ALERT_MSIX_SEND: the link has left L1.2 for a message (R43). -/
def alertMsixSendBody (d : Device) : Device := if d.msixWait.isEmpty then d else d.linkAwake

/-! ### Requests of the window initiator and the channels (R165, R384, R390) -/

/-- A host DMA or window request is turned away from step 1 of a shutter close on (R198, R395). -/
def Device.hdmaShut (d : Device) : Bool := d.rd .hdma fHdmaShutterState != shutterOpen

/-- A packet of the HOST node to a global address; `attr` holds ORD, PRIO and CH. -/
def Device.hostPacket (d : Device) (cls op addr len attr : Nat) (data : List Byte) : Packet :=
  { dst := BitVec.ofNat 10 (addr / 2 ^ 54), src := d.nodeId .host, cls := BitVec.ofNat 2 cls, op := BitVec.ofNat 6 op
    len := BitVec.ofNat 8 (len - 1), tag := 0, laddr := BitVec.ofNat 54 addr, ord := attr.testBit 0
    prio := BitVec.ofNat 2 (attr / 2), ch := attr.testBit 3, v := true, lock := false, rsv := 0, hcrc := 0, payload := data
    flits := flitCount data.length }

/-- Issue a posted packet; with NODE_HOST unassigned it is discarded (R151). -/
def Device.hostPosted (d : Device) (ini : Nat) (p : Packet) : Device :=
  if d.nodeId .host == 0x3FF then d.postedDrop else d.inject .host ini (sealHeader p)

/-- Issue a non-posted packet with a tag of its initiator's range; none: no tag is free. -/
def Device.hostNonPosted (d : Device) (ini lo cnt : Nat) (cont : Cont) (p : Packet) : Option Device :=
  (d.freeTag .host lo cnt).map fun t =>
    let p := sealHeader { p with tag := BitVec.ofNat 12 t }
    (d.setReq .host t (some { dst := p.dst, op := p.op, laddr := p.laddr, len := p.len, phase := .active
                              cont := cont })).inject .host ini p

/-- Requests whose activity has ended: their responses will be late, and their tags stay out of use (R164, R378). -/
def Device.dropReqs (d : Device) (gone : Cont → Bool) : Device :=
  { d with reqs := d.reqs.map fun (e : Nat × Option Req) => match e.2 with
      | some r => if gone r.cont then (e.1, some { r with cont := .stale, phase := .quarantined }) else e
      | none => e }

/-! ### Windows (R383 to R386) -/

/-- The lowest-numbered window of an owner that holds an offset (R383). -/
def Device.hostWindow (d : Device) (owner off : Nat) : Option Nat :=
  (List.range 64).find? fun i =>
    let base := d.eff .pcie fPcieWinBaseLoBase i * 2 ^ 20 + d.eff .pcie fPcieWinBaseHiBase i * 2 ^ 32
    d.eff .pcie fPcieWinCtrlValid i == 1 && d.eff .pcie fPcieWinCtrlOwner i == owner &&
      decide (base ≤ off) && decide (off < base + 2 ^ d.eff .pcie fPcieWinCtrlSizeLog2 i)

/-- The global address that window `i` gives an offset (R383). -/
def Device.windowTarget (d : Device) (i off : Nat) : Nat :=
  let base := d.eff .pcie fPcieWinBaseLoBase i * 2 ^ 20 + d.eff .pcie fPcieWinBaseHiBase i * 2 ^ 32
  d.eff .pcie fPcieWinTargetLoTarget i * 2 ^ 12 + d.eff .pcie fPcieWinTargetHiTarget i * 2 ^ 32 + (off - base)

/-- ORD, PRIO and CH of a window. -/
def Device.windowAttr (d : Device) (i : Nat) : Nat :=
  d.eff .pcie fPcieWinCtrlOrd i + 2 * d.eff .pcie fPcieWinCtrlPrio i + 8 * d.eff .pcie fPcieWinCtrlCh i

/-- Spans of at most 256 bytes, none across a 4 KiB boundary (R384, R390). -/
def cutSpans : Nat → Nat → Nat → List (Nat × Nat)
  | 0, _, _ => []
  | fuel + 1, addr, len =>
    if len = 0 then []
    else
      let n := min (min 256 len) (4096 - addr % 4096)
      (addr, n) :: cutSpans fuel (addr + n) (len - n)

/-- The runs of contiguous enabled bytes, each with its offset (R384). -/
def enabledRuns : Nat → List (Byte × Bool) → List (Nat × List Byte)
  | _, [] => []
  | o, (_, false) :: rest => enabledRuns (o + 1) rest
  | o, (b, true) :: rest =>
    match enabledRuns (o + 1) rest with
    | [] => [(o, [b])]
    | (o', bs) :: more => if o' = o + 1 then (o, b :: bs) :: more else (o, [b]) :: (o', bs) :: more

/-- A window packet was answered other than OK (R385). -/
def Device.windowError (d : Device) (op : WinOp) (addr status : Nat) : Device :=
  let d := (d.raise .pcie cPcieWinError).count .pcie 1
  if d.flag .pcie fPcieWinLog0Valid then d
  else
    let d := (d.put .pcie fPcieWinLog0Status status).put .pcie fPcieWinLog0Window op.window
    let d := (d.put .pcie fPcieWinLog0Function op.owner).put .pcie fPcieWinLog1AddrLo addr
    (d.put .pcie fPcieWinLog2AddrHi (addr / 2 ^ 32)).raise .pcie fPcieWinLog0Valid

/-- How a window read completes once every packet has ended: the first packet, in address order, that did not return OK
decides (R385). -/
def WinOp.result (op : WinOp) : CplStatus × List Byte :=
  match op.pieces.find? fun p => p.status != 0 with
  | none => (.ok, op.pieces.flatMap fun p => p.data)
  | some p => (if p.status = stPoison then .poisoned else if p.status = stDecode then .unsupported else .abort, [])

/-- A window access with no packet left to end leaves; a read is completed. -/
def Device.windowSettle (d : Device) (id : Nat) : Device :=
  match d.winOps.find? fun o => o.id == id with
  | none => d
  | some op =>
    if op.pieces.all fun p => p.phase == 4 then
      let d := { d with winOps := d.winOps.filter fun o => o.id != id }
      match op.read with
      | some ht => d.emit (.completion ht op.result.1 op.result.2)
      | none => d
    else d

def Device.setPiece (d : Device) (id i : Nat) (f : Piece → Piece) : Device :=
  { d with winOps := d.winOps.map fun o => if o.id == id then { o with pieces := o.pieces.modify i f } else o }

/-- Packet `i` of a window access ends with a status (R384, R385). -/
def Device.windowDone (d : Device) (id i status : Nat) (data : List Byte) : Device :=
  match d.winOps.find? fun o => o.id == id with
  | none => d
  | some op =>
    match op.pieces[i]? with
    | none => d
    | some p =>
      let d := d.setPiece id i fun p => { p with phase := 4, status := status, data := data }
      let d := if status = stOk then d else d.windowError op p.addr status
      d.windowSettle id

/-- Send the waiting packets of one access, from packet `i` on. -/
def Device.windowIssue (id : Nat) : Nat → Nat → Device → Device
  | 0, _, d => d
  | fuel + 1, i, d =>
    match d.winOps.find? fun o => o.id == id with
    | none => d
    | some op =>
      match op.pieces[i]? with
      | none => d
      | some p =>
        if p.phase ≠ 0 then Device.windowIssue id fuel (i + 1) d
        else if d.hdmaShut then Device.windowIssue id fuel (i + 1) (d.windowDone id i stFenced [])
        else if d.nodeId .host == 0x3FF then Device.windowIssue id fuel (i + 1) (d.windowDone id i stDecode [])
        else
          let pkt := match op.read with
            | some _ => d.hostPacket 0 0x00 p.addr p.len op.attr []
            | none => d.hostPacket 0 0x01 p.addr p.len op.attr p.data
          let d' := d.setPiece id i fun p => { p with phase := 3 }
          match d'.hostNonPosted iniWindow 0x400 3072 (.window id i) pkt with
          | none => d
          | some d => Device.windowIssue id fuel (i + 1) d

/-- Send what window accesses have waiting. -/
def Device.windowPump (d : Device) : Device :=
  (d.winOps.map fun o => o.id).foldl (fun (d : Device) (id : Nat) => Device.windowIssue id 4097 0 d) d

/-- Enter an access of non-posted packets. -/
def Device.windowBegin (d : Device) (read : Option Nat) (owner window attr : Nat) (pieces : List Piece) : Device :=
  let op : WinOp := { id := d.winNext, read := read, owner := owner, window := window, attr := attr, pieces := pieces }
  let d := { d with winOps := d.winOps ++ [op], winNext := d.winNext + 1 }
  (Device.windowIssue op.id 4097 0 d).windowSettle op.id

def pieceOf (addr len : Nat) (data : List Byte) : Piece := { addr := addr, len := len, data := data, phase := 0, status := 0 }

/-- WINDOW_READ (R383 to R385, R395). -/
def windowReadBody (fn : PcieFn) (off : BitVec 64) (len ht : Nat) (d : Device) : Device :=
  match ownerCode fn with
  | none => d
  | some owner =>
    if d.fnReady fn = false then d.emit (.completion ht .unsupported [])
    else if d.hdmaShut then d.emit (.completion ht .abort [])
    else
      match d.hostWindow owner off.toNat with
      | none => d.emit (.completion ht .unsupported [])
      | some i => d.windowBegin (some ht) owner i (d.windowAttr i)
          ((cutSpans 4097 (d.windowTarget i off.toNat) (min len 4096)).map fun s => pieceOf s.1 s.2 [])

/-- WINDOW_WRITE (R383, R384, R395). -/
def windowWriteBody (fn : PcieFn) (off : BitVec 64) (bytes : List Byte) (be : List Bool) (d : Device) : Device :=
  match ownerCode fn with
  | none => d
  | some owner =>
    if d.fnReady fn = false ∨ d.hdmaShut then d
    else
      match d.hostWindow owner off.toNat with
      | none => (d.raise .pcie cPcieWinMiss).count .pcie 0
      | some i =>
        let target := d.windowTarget i off.toNat
        let attr := d.windowAttr i
        let cuts := (enabledRuns 0 ((bytes.zip be).take 4096)).flatMap fun r => cutWrites 4097 (target + r.1) r.2
        if d.eff .pcie fPcieWinCtrlNp i = 1 then
          d.windowBegin none owner i attr (cuts.map fun c => pieceOf c.1 c.2.length c.2)
        else
          cuts.foldl (fun (d : Device) (c : Nat × List Byte) =>
            d.hostPosted iniWindow (d.hostPacket 2 0x10 c.1 c.2.length attr c.2)) d

/-! ### Doorbells (R387) -/

/-- The payload of a doorbell's MSG. -/
def doorbellBytes (w : Word) (owner dbl : Nat) : List Byte :=
  bytesLE 4 w.toNat ++ [BitVec.ofNat 8 owner, BitVec.ofNat 8 dbl, 0, 0]

/-- DOORBELL: a write through BAR2 of a function to a doorbell page. -/
def doorbellBody (fn : PcieFn) (n : Fin 64) (off : BitVec 12) (size : Nat) (w : Word) (d : Device) : Device :=
  match ownerCode fn with
  | none => d
  | some owner =>
    if d.fnReady fn = false then d
    else if d.eff .pcie fPcieDbCtrlOwner n.val ≠ owner then d.ownerViolation
    else if off ≠ 0 ∨ size ≠ 4 ∨ d.hdmaShut then d
    else if d.eff .pcie fPcieDbCtrlValid n.val = 0 then (d.raise .pcie cPcieWinMiss).count .pcie 0
    else
      let target := d.eff .pcie fPcieDbLoTarget n.val * 8 + d.eff .pcie fPcieDbHiTarget n.val * 2 ^ 32
      d.hostPosted iniWindow (d.hostPacket 2 0x11 target 8 0 (doorbellBytes w owner n.val))

/-! ### The HOST node as a target (R388, R389) -/

/-- An MSG to NODE_HOST (R388). -/
def Device.hostMsg (d : Device) (p : Packet) : Device :=
  let a := p.laddr.toNat
  let v := a % 64
  let owner := a / 64 % 64
  match fnOfOwner owner with
  | none => d.postedDrop
  | some fn => if a / 4096 = 0 ∧ crosses4K p = false ∧ d.vectorOwner v = owner ∧ d.fnReady fn then d.raiseMsix fn v else d.postedDrop

/-- Answer a request at the HOST node, and turn it away where it is posted. -/
def Device.hostAnswer (d : Device) (p : Packet) (status : Nat) : Device :=
  if p.cls == 2 then d.postedDrop else d.inject .host iniAnswer (rspTo p status)

/-- The operand size of an atomic (R159, R162). -/
def atomicSize (op : Nat) : Nat := if op ≤ 4 then 8 else 16

/-- Send a request to host memory that needs a completion; false: no tag is free. -/
def Device.hostFetch (d : Device) (e : Edge) (p : Packet) : Device × Bool :=
  let op := p.op.toNat
  if op = 0 then d.hostRead .pf1 p.laddr.toNat (p.len.toNat + 1) (.fabric e p)
  else
    match d.freeHostTag with
    | none => (d, false)
    | some t =>
      let r : HostReq := { fn := .pf1, addr := p.laddr.toNat, len := atomicSize op, use := .fabric e p }
      ((d.setHostReq t (some r)).emit (.hostAtomic .pf1 t p.laddr.toNat op p.payload), true)

/-- Perform a request of class 0 at the HOST node; false: it needs a tag and none is free. -/
def Device.hostPerform (d : Device) (e : Edge) (p : Packet) : Device × Bool :=
  if p.op == 0x01 then ((d.emit (.hostWrite .pf1 p.laddr.toNat p.payload)).hostAnswer p stOk, true) else d.hostFetch e p

/-- A request waits for a tag, and this one is of its flow: it is performed after it (R173). -/
def Device.hostBehind (d : Device) (e : Edge) (p : Packet) : Bool :=
  d.hostWait.any fun w => w.1 == e && w.2.src == p.src && w.2.cls == p.cls

/-- A request to the HOST node, MSG excepted (R161, R162, R163, R173, R389). -/
def Device.hostTarget (d : Device) (e : Edge) (p : Packet) : Device :=
  let op := p.op.toNat
  let a := p.laddr.toNat
  let atomic := decide (2 ≤ op ∧ op ≤ 7)
  if !d.pf1Ready || !d.busMaster .pf1 || (atomic && !d.atomicsOn) || op == 5 || op == 6 ||
      crosses4K p || (atomic && a % atomicSize op != 0) then
    d.hostAnswer p stSlave
  else if op = 0x10 then d.emit (.hostWrite .pf1 a p.payload)
  else
    match (if d.hostBehind e p then (d, false) else d.hostPerform e p) with
    | (d, true) => d
    | (d, false) => { d with hostWait := d.hostWait ++ [(e, p)] }

/-- Requests that waited for a tag go on, oldest first. -/
def Device.hostWaitPump : Nat → Device → Device
  | 0, d => d
  | fuel + 1, d =>
    match d.hostWait with
    | [] => d
    | (e, p) :: rest =>
      if !d.pf1Ready || !d.busMaster .pf1 then Device.hostWaitPump fuel ({ d with hostWait := rest }.hostAnswer p stSlave)
      else
        match d.hostPerform e p with
        | (_, false) => d
        | (d, true) => Device.hostWaitPump fuel { d with hostWait := rest }

/-- The status that a completion gives the fabric (R167). -/
def statusOf : CplStatus → Nat
  | .ok => stOk
  | .unsupported => stSlave
  | .abort => stSlave
  | .poisoned => stPoison

/-- A fabric request to host memory is answered (R389). -/
def Device.fabricAnswer (d : Device) (p : Packet) (status : Nat) (bytes : List Byte) : Device :=
  d.inject .host iniAnswer (if status = stOk then rspDataTo p bytes true else rspTo p status)

/-! ### Configuration space (R376, R377, R380) -/

/-- BAR sizes and flags (R379, R381): log2 of the size and the low bits of the register; none: no BAR. -/
def Device.barOf (d : Device) (fn : PcieFn) (i : Nat) : Option (Nat × Nat) :=
  match fn with
  | .pf0 => if i = 0 then some (26, 4) else if i = 2 then some (24, 4) else if i = 4 then some (16, 4) else none
  | .pf1 => if i = 0 then some (d.barLog2.1, 0xC) else if i = 2 then some (20, 4) else none
  | .vf _ => if i = 0 then some (d.barLog2.2, 0xC) else if i = 2 then some (20, 4) else none

/-- The bits of a BAR register that software sets. -/
def Device.barMask (d : Device) (fn : PcieFn) (i : Nat) : Word :=
  match d.barOf fn (i / 2 * 2) with
  | none => 0
  | some (lg, _) => BitVec.ofNat 32 ((2 ^ 64 - 2 ^ lg) / 2 ^ (32 * (i % 2)))

/-- A register of the doorway DVSEC (R380). -/
def Device.dvsecWord (d : Device) (w : Nat) : Word :=
  match w with
  | 0 => 0x0023 + Config.capLink.setWidth 32 * 0x10000
  | 1 => Config.vendorId.setWidth 32 + BitVec.ofNat 32 (0x20 * 2 ^ 20)
  | 2 => 0x0001 + BitVec.ofNat 32 (d.rd .cfg fCfgDeadlineStatusDeadline * 2 ^ 16)
  | 3 => BitVec.ofNat 32 (d.mode + (if d.pf1Ready then 8 else 0) + d.loadState % 8 * 16 +
      d.rd .cfg fCfgLoadStatusReason % 256 * 2 ^ 8 + stepping * 2 ^ 24)
  | 4 => dieSerial.setWidth 32
  | 5 => (dieSerial >>> 32).setWidth 32
  | _ => 0

/-- A configuration register as read. -/
def Device.pciRead (d : Device) (fn : PcieFn) : CfgReg → Word
  | .ids => 0x71440000 + Config.vendorId.setWidth 32
  | .classRev => BitVec.ofNat 32 ((if fn = .pf0 then 0x088000 else 0x120000) * 256 + stepping)
  | .subsystem => Config.vendorId.setWidth 32
  | .bar i =>
    let flags := match d.barOf fn i.val with
      | some (_, f) => BitVec.ofNat 32 f
      | none => 0
    d.pciWord fn (.bar i) ||| flags
  | .dvsec w => if fn = .pf0 then d.dvsecWord w.val else 0
  | .msixControl => d.pciWord fn .msixControl ||| (if fn = .pf0 then 0 else 63)
  | .command => d.pciWord fn .command
  | .deviceControl => d.pciWord fn .deviceControl
  | .deviceControl2 => d.pciWord fn .deviceControl2
  | .sriovControl => d.pciWord fn .sriovControl
  | .numVfs => d.pciWord fn .numVfs
  | .pmcsr => d.pciWord fn .pmcsr

/-- Clear the configuration state of a function, its MSI-X table included. -/
def Device.clearFn (d : Device) (i : Nat) : Device :=
  { d with pciCfg := sclear (fun k => k / 64 == i) d.pciCfg, msixMask := sclear (fun k => k / 64 == i) d.msixMask
           msixPend := sclear (fun k => k / 64 == i) d.msixPend
           msixWait := d.msixWait.filter fun m => fnIndex m.1 != i }

/-- Clear every VF. -/
def Device.clearVfs (d : Device) : Device := (List.range 32).foldl (fun (d : Device) (v : Nat) => d.clearFn (2 + v)) d

/-- Window accesses of the functions that `gone` names end; no completion follows. -/
def Device.dropWindows (d : Device) (gone : Nat → Bool) : Device :=
  let ids := (d.winOps.filter fun o => gone o.owner).map fun o => o.id
  let d := { d with winOps := d.winOps.filter fun o => !gone o.owner }
  d.dropReqs fun c => match c with
    | .window id _ => ids.contains id
    | _ => false

def Device.pciStore (d : Device) (fn : PcieFn) (r : CfgReg) (w : Word) : Device :=
  { d with pciCfg := sset (fun _ => 0) d.pciCfg (fnIndex fn * 64 + cfgRegCode r) w }

/-- The bits of a register that a configuration write stores. -/
def Device.pciMask (d : Device) (fn : PcieFn) : CfgReg → Word
  | .command => 0x0546
  | .bar i => d.barMask fn i.val
  | .deviceControl => 0xFFFF
  | .deviceControl2 => 0xFFFF
  | .msixControl => 0xC000
  | .sriovControl => if fn = .pf1 then 0x001F else 0
  | .numVfs => if fn = .pf1 && !(d.pciWord .pf1 .sriovControl).getLsbD 0 then 0xFFFF else 0
  | .pmcsr => 3
  | .ids => 0
  | .classRev => 0
  | .subsystem => 0
  | .dvsec _ => 0

/-- A configuration write. -/
def Device.pciWrite (d : Device) (fn : PcieFn) (r : CfgReg) (w : Word) : Device :=
  let m := d.pciMask fn r
  let d1 := d.pciStore fn r ((d.pciWord fn r &&& ~~~m) ||| (w &&& m))
  match r with
  | .dvsec i =>
    if fn = .pf0 ∧ i.val = 2 then d.put .cfg fCfgDeadlineStatusDeadline (bitsOf w 16 16) else d
  | .sriovControl =>
    if fn = .pf1 ∧ (d.pciWord .pf1 .sriovControl).getLsbD 0 ∧ w.getLsbD 0 = false then
      (d1.clearVfs).dropWindows fun o => o != 0
    else d1
  | .msixControl => d1.flushPending fn
  | .command => d1.flushPending fn
  | _ => d1

/-! ### Link state (R397) -/

/-- PCIE_LINK_UP: the link trains to L0 (R375, R397). -/
def pcieLinkUpBody (rate : BitVec 3) (width : BitVec 5) (flit : Bool) (d : Device) : Device :=
  let r := rate.toNat
  let w := width.toNat
  if r = 0 ∨ 6 < r ∨ ¬ [1, 2, 4, 8, 16].contains w ∨ (r = 6 ∧ flit = false) ∨ d.mode = mDormant then d
  else
    let d := ((d.put .pcie fPcieLinkStatusRate r).put .pcie fPcieLinkStatusWidth w).put .pcie fPcieLinkStatusFlit flit.toNat
    let d := if w < 16 ∨ r < 6 then d.raise .pcie cPcieLinkDegraded else d
    d.linkAwake

end Sys2Proof.Machine
end

