-- ==== Sys2Proof/Machine/Hdma.lean ====
section
/-! DEFINITION. Host DMA (R390 to R395): rings, descriptors, their pieces, completion in ring order, channel control; the
completions of requests to host memory; resets short of PERST_N (R378). -/

namespace Sys2Proof.Machine

open Sys2Proof

/-! ### Channels -/

def chIdle : Nat := 0
def chRunning : Nat := 1
def chError : Nat := 2
def chAborted : Nat := 3

/-- CH_STATUS[c].STATE. -/
def Device.chState (d : Device) (c : Nat) : Nat := d.rd .hdma fHdmaChStatusState c

def Device.setChState (d : Device) (c s : Nat) : Device := d.put .hdma fHdmaChStatusState s c

def Device.chan (d : Device) (c : Nat) : ChanSt := sget (fun _ => ChanSt.fresh) d.chans c

def Device.setChan (d : Device) (c : Nat) (s : ChanSt) : Device :=
  { d with chans := sset (fun _ => ChanSt.fresh) d.chans c s }

/-- The function that a channel issues its PCI Express requests for, when it may issue any (R382, R390). -/
def Device.chanFn (d : Device) (c : Nat) : Option PcieFn :=
  match fnOfOwner (d.rd .hdma fHdmaRingCfgOwner c) with
  | some fn => if d.fnReady fn && d.busMaster fn then some fn else none
  | none => none

/-- Descriptors in a channel's ring (R392). -/
def Device.ringSize (d : Device) (c : Nat) : Nat := 2 ^ d.rd .hdma fHdmaRingCfgSizeLog2 c

/-- Host address of descriptor `i`. -/
def Device.ringAddr (d : Device) (c i : Nat) : Nat :=
  d.rd .hdma fHdmaRingLoRing c * 2 ^ 6 + d.rd .hdma fHdmaRingHiRing c * 2 ^ 32 + 32 * i

/-! ### Descriptor fields (R391) -/

/-- A little-endian field of a descriptor. -/
def dField (bs : List Byte) (byte n : Nat) : Nat := natLE ((bs.drop byte).take n)

def dHost (bs : List Byte) : Nat := dField bs 0 8
def dGlobal (bs : List Byte) : Nat := dField bs 8 8
def dLength (bs : List Byte) : Nat := dField bs 16 3 + 1
def dFlags (bs : List Byte) : Nat := dField bs 20 2
def dUser (bs : List Byte) : Nat := dField bs 22 2
def dIrq (bs : List Byte) : Bool := (dFlags bs).testBit 0
def dFence (bs : List Byte) : Bool := (dFlags bs).testBit 1
def dNp (bs : List Byte) : Bool := (dFlags bs).testBit 2

/-- ORD, PRIO and CH of the channel's packets, as `hostPacket` takes them. -/
def dAttr (bs : List Byte) : Nat := dFlags bs / 8 % 16

/-- A reserved bit is set (CODE 9). -/
def dReserved (bs : List Byte) : Bool := dField bs 19 1 != 0 || decide (128 ≤ dFlags bs)

def codeHostErr : Nat := 8
def codeBadDesc : Nat := 9

/-! ### Updating one descriptor of a channel -/

def Device.descOf (d : Device) (c idx : Nat) : Option Descriptor := (d.chan c).descs.find? fun x => x.idx == idx

def Device.setDesc (d : Device) (c idx : Nat) (f : Descriptor → Descriptor) : Device :=
  let s := d.chan c
  d.setChan c { s with descs := s.descs.map fun x => if x.idx == idx then f x else x }

/-- The first failure of a descriptor gives its CODE (R393). -/
def Descriptor.fail (x : Descriptor) (code : Nat) : Descriptor := if x.code = 0 then { x with code := code } else x

def Descriptor.setPiece (x : Descriptor) (off : Nat) (f : Piece → Piece) : Descriptor :=
  { x with pieces := x.pieces.map fun e => if e.1 == off then (e.1, f e.2) else e }

def Descriptor.endPiece (x : Descriptor) (off : Nat) : Descriptor :=
  { x with pieces := x.pieces.filter fun e => e.1 != off }

/-- All its bytes have been moved, or it has failed. -/
def Descriptor.over (x : Descriptor) : Bool :=
  x.begun && (x.code != 0 || (x.pieces.isEmpty && match x.bytes with
    | some bs => decide (dLength bs ≤ x.next)
    | none => false))

/-! ### Fetching and beginning descriptors (R392) -/

/-- Fetch up to 8 descriptors ahead. -/
def Device.chanFetch (c : Nat) : Nat → Device → Device
  | 0, d => d
  | fuel + 1, d =>
    let s := d.chan c
    match d.chanFn c with
    | none => d
    | some fn =>
      let n := d.ringSize c
      let nxt := match s.descs.getLast? with
        | some x => (x.idx + 1) % n
        | none => d.rd .hdma fHdmaHead c % n
      if s.stopping ∨ 8 ≤ s.descs.length ∨ nxt = d.rd .hdma fHdmaTail c % n ∨ s.descs.any (fun x => x.code != 0) then d
      else
        match d.hostRead fn (d.ringAddr c nxt) 32 (.descriptor c nxt) with
        | (_, false) => d
        | (d, true) =>
          let x : Descriptor := { idx := nxt, bytes := none, begun := false, next := 0, pieces := [], code := 0 }
          Device.chanFetch c fuel (d.setChan c { d.chan c with descs := (d.chan c).descs ++ [x] })

/-- Begin the descriptors that may begin, in order: those fetched, unless FENCE waits for an earlier one. -/
def beginDescs (stopping first : Bool) : List Descriptor → List Descriptor
  | [] => []
  | x :: rest =>
    if x.begun then x :: beginDescs stopping false rest
    else if stopping then x :: rest
    else
      match x.bytes with
      | none => x :: rest
      | some bs =>
        if dReserved bs then ({ x with begun := true }.fail codeBadDesc) :: rest
        else if dFence bs && !first then x :: rest
        else { x with begun := true } :: beginDescs stopping false rest

/-! ### Moving data (R390) -/

/-- The next piece of a descriptor: at most 256 bytes, none across a 4 KiB boundary of host or local address. -/
def nextPiece (bs : List Byte) (off : Nat) : Nat :=
  min (min 256 (dLength bs - off)) (min (4096 - (dHost bs + off) % 4096) (4096 - (dGlobal bs + off) % 4096))

/-- Pieces of a channel under way. -/
def Device.chanPieces (d : Device) (c : Nat) : Nat := (d.chan c).descs.foldl (fun s x => s + x.pieces.length) 0

/-- Send a host-to-fabric piece whose data has arrived. -/
def Device.chanSend (d : Device) (c : Nat) (x : Descriptor) (off : Nat) (p : Piece) (bs : List Byte) : Device :=
  let addr := dGlobal bs + off
  if d.hdmaShut then d.setDesc c x.idx fun x => (x.fail stFenced).endPiece off
  else if dNp bs then
    if d.nodeId .host == 0x3FF then d.setDesc c x.idx fun x => (x.fail stDecode).endPiece off
    else
      let d' := d.setDesc c x.idx fun x => x.setPiece off fun p => { p with phase := 3 }
      (d'.hostNonPosted c (16 * c) 16 (.channel c x.idx off) (d.hostPacket 0 0x01 addr p.len (dAttr bs) p.data)).getD d
  else
    (d.setDesc c x.idx fun x => x.endPiece off).hostPosted c (d.hostPacket 2 0x10 addr p.len (dAttr bs) p.data)

/-- Begin piece `off` of a descriptor: a read of host memory, or an RD; none: it has to wait. -/
def Device.chanPiece (d : Device) (c : Nat) (fn : PcieFn) (x : Descriptor) (bs : List Byte) : Option Device :=
  let off := x.next
  let n := nextPiece bs off
  let enter (phase : Nat) (d : Device) : Device := d.setDesc c x.idx fun x =>
    { x with next := off + n, pieces := x.pieces ++ [(off, { addr := dHost bs + off, len := n, data := [], phase := phase, status := 0 })] }
  if c < 32 then
    match d.hostRead fn (dHost bs + off) n (.dmaData c x.idx off) with
    | (_, false) => none
    | (d, true) => some (enter 1 d)
  else if d.hdmaShut then some (d.setDesc c x.idx fun x => x.fail stFenced)
  else if d.nodeId .host == 0x3FF then some (d.setDesc c x.idx fun x => x.fail stDecode)
  else (enter 3 d).hostNonPosted c (16 * c) 16 (.channel c x.idx off) (d.hostPacket 0 0x00 (dGlobal bs + off) n (dAttr bs) [])

/-- Begin pieces of the begun descriptors, oldest first, at most 16 a channel at once. -/
def Device.chanMove (c : Nat) (fn : PcieFn) : Nat → Device → Device
  | 0, d => d
  | fuel + 1, d =>
    if 16 ≤ d.chanPieces c then d
    else
      match (d.chan c).descs.find? fun x => x.begun && x.code == 0 && (match x.bytes with
          | some bs => decide (x.next < dLength bs)
          | none => false) with
      | none => d
      | some x =>
        match d.chanPiece c fn x (x.bytes.getD []) with
        | none => d
        | some d => Device.chanMove c fn fuel d

/-- Send every host-to-fabric piece that has its data and waits for a tag. -/
def Device.chanFlush (d : Device) (c : Nat) : Device :=
  (d.chan c).descs.foldl (fun (d : Device) (x : Descriptor) =>
    x.pieces.foldl (fun (d : Device) (e : Nat × Piece) =>
      if e.2.phase = 2 then d.chanSend c x e.1 e.2 (x.bytes.getD []) else d) d) d

/-- What a RUNNING channel can do now. A stopped channel with nothing begun enters IDLE (R394). -/
def Device.chanPump (d : Device) (c : Nat) : Device :=
  if d.chState c ≠ chRunning then d
  else
    let s := d.chan c
    let d := d.setChan c { s with descs := beginDescs s.stopping true s.descs }
    let d := match d.chanFn c with
      | some fn => Device.chanMove c fn 64 (Device.chanFetch c 8 (d.chanFlush c))
      | none => d
    let s := d.chan c
    if s.stopping && !s.descs.any (fun x => x.begun) then
      -- Fetched descriptors that have not begun are left in the ring.
      let d := { d with hostReqs := d.hostReqs.map fun (e : Nat × Option HostReq) => match e.2 with
          | some r => (match r.use with
            | .descriptor c' _ => if c' = c then (e.1, some { r with use := .dropped }) else e
            | _ => e)
          | none => e }
      (d.setChan c ChanSt.fresh).setChState c chIdle
    else d

/-! ### How a channel's requests end -/

/-- A request that a channel issued to the mesh has ended (R392, R393). -/
def Device.channelDone (d : Device) (c idx off status : Nat) (data : List Byte) : Device :=
  match d.descOf c idx with
  | none => d
  | some x =>
    if status ≠ stOk then (d.setDesc c idx fun x => (x.fail status).endPiece off).chanPump c
    else
      let d := match d.chanFn c with
        | some fn => if c < 32 then d else d.emit (.hostWrite fn (dHost (x.bytes.getD []) + off) data)
        | none => d
      (d.setDesc c idx fun x => x.endPiece off).chanPump c

/-- A descriptor has been fetched (R391, R392). -/
def Device.descFetched (d : Device) (c idx : Nat) (st : CplStatus) (bytes : List Byte) : Device :=
  let d := if st = .ok then d.setDesc c idx fun x => { x with bytes := some bytes }
    else d.setDesc c idx fun x => { x with begun := true }.fail codeHostErr
  d.chanPump c

/-- Data of a descriptor has been read from host memory. -/
def Device.dataFetched (d : Device) (c idx off : Nat) (st : CplStatus) (bytes : List Byte) : Device :=
  match d.descOf c idx with
  | none => d
  | some x =>
    if st ≠ .ok then (d.setDesc c idx fun x => (x.fail codeHostErr).endPiece off).chanPump c
    else
      let d := d.setDesc c idx fun x => x.setPiece off fun p => { p with data := bytes, phase := 2 }
      let p : Piece := { addr := 0, len := bytes.length, data := bytes, phase := 2, status := 0 }
      (d.chanSend c x off p (x.bytes.getD [])).chanPump c

/-! ### Stopping -/

/-- A channel lets go of everything it has under way: later answers are late (R378, R394). -/
def Device.chanDrop (d : Device) (c : Nat) : Device :=
  let d := d.dropReqs fun k => match k with
    | .channel c' _ _ => c' == c
    | _ => false
  let d := { d with hostReqs := d.hostReqs.map fun (e : Nat × Option HostReq) => match e.2 with
      | some r => (match r.use with
        | .descriptor c' _ => if c' = c then (e.1, some { r with use := .dropped }) else e
        | .dmaData c' _ _ => if c' = c then (e.1, some { r with use := .dropped }) else e
        | _ => e)
      | none => e }
  d.setChan c ChanSt.fresh

/-- ABORT of a channel, in any state (R394). -/
def Device.chanAbort (d : Device) (c : Nat) : Device := (d.chanDrop c).setChState c chAborted

/-- A reset or a mode change ends a channel that is at work (R378, R396). -/
def Device.chanEnd (d : Device) (c : Nat) : Device := if d.chState c = chRunning then d.chanAbort c else d

/-- END of every channel whose owner `gone` names. -/
def Device.endChannels (d : Device) (gone : Nat → Bool) : Device :=
  (List.range 64).foldl (fun (d : Device) (c : Nat) =>
    if gone (d.rd .hdma fHdmaRingCfgOwner c) then d.chanEnd c else d) d

/-- CH_CTRL START (R394). -/
def Device.chanStart (d : Device) (c : Nat) : Device :=
  if d.chState c = chRunning then d
  else ((d.setChan c ChanSt.fresh).setChState c chRunning).chanPump c

/-- CH_CTRL STOP (R394). -/
def Device.chanStop (d : Device) (c : Nat) : Device :=
  if d.chState c = chRunning then (d.setChan c { d.chan c with stopping := true }).chanPump c else d

/-- A write of CH_CTRL[c]; ABORT prevails over STOP, and STOP over START. -/
def Device.chanCtrl (d : Device) (c : Nat) (w : Word) : Device :=
  if w.getLsbD 2 then d.chanAbort c
  else if w.getLsbD 1 then d.chanStop c
  else if w.getLsbD 0 then d.chanStart c else d

/-- RING_LO, RING_HI and RING_CFG accept writes (R394). -/
def Device.ringWritable (d : Device) (c : Nat) : Bool := d.chState c == chIdle || d.chState c == chAborted

/-! ### Completion in ring order (R392, R393) -/

/-- Records that ERR_POP holds. -/
def errPopDepth : Nat := 64

/-- Push a record to HDMA.ERR_POP. -/
def Device.pushError (d : Device) (code c idx : Nat) : Device :=
  if errPopDepth ≤ d.dmaErrs.length then d.raise .hdma cHdmaErrLost
  else { d with dmaErrs := d.dmaErrs ++ [BitVec.ofNat 32 (2 ^ 31 + code % 16 * 2 ^ 24 + c % 64 * 2 ^ 16 + idx % 2 ^ 16)] }

/-- Raise the vector of a channel (R392). -/
def Device.chanVector (d : Device) (c : Nat) : Device :=
  let v := d.rd .hdma fHdmaRingCfgVector c
  let owner := d.rd .hdma fHdmaRingCfgOwner c
  if d.vectorOwner v ≠ owner then d.ownerViolation
  else
    match fnOfOwner owner with
    | some fn => d.raiseMsix fn v
    | none => d

/-- DESCRIPTOR_DONE: the oldest descriptor of a channel is over (R392, R393). Of one that could not be fetched, USER is a
free value and no vector is raised. -/
def descriptorDoneBody (ch : Fin 64) (d : Device) : Device :=
  let c := ch.val
  match (d.chan c).descs with
  | [] => d
  | x :: rest =>
    match d.chanFn c with
    | none => d
    | some fn =>
      if d.chState c ≠ chRunning ∨ x.over = false then d
      else
        let user := match x.bytes with
          | some bs => dUser bs
          | none => (Config.freeWord d.free).toNat % 2 ^ 16
        let d := match x.bytes with
          | some _ => d
          | none => { d with free := d.free + 1 }
        let back := bytesLE 8 (2 ^ 31 + x.code * 2 ^ 24 + user)
        let d := d.emit (.hostWrite fn (d.ringAddr c x.idx + 24) back)
        let d := d.put .hdma fHdmaHead ((x.idx + 1) % d.ringSize c) c
        let irq := match x.bytes with
          | some bs => dIrq bs
          | none => false
        let d := if irq then d.chanVector c else d
        if x.code = 0 then ((d.count .hdma 0).setChan c { d.chan c with descs := rest }).chanPump c
        else
          let d := ((d.count .hdma 1).raise .hdma cHdmaChError).pushError x.code c x.idx
          (d.chanDrop c).setChState c chError

/-! ### Completions of requests to host memory (R311, R389, R393) -/

/-- A tag has become free: what waits for one goes on. -/
def Device.hostPump (d : Device) : Device :=
  let d := Device.hostWaitPump d.hostWait.length d
  let d := Device.pullPump 512 d
  (List.range 64).foldl (fun (d : Device) (c : Nat) => d.chanPump c) d

/-- HOST_COMPLETION: a completion for any request but a PULL load's, whose completions PULL_COMPLETION brings. -/
def hostCompletionBody (ht : Nat) (st : CplStatus) (bytes : List Byte) (d : Device) : Device :=
  match sget (fun _ => (none : Option HostReq)) d.hostReqs ht with
  | none => d
  | some r =>
    if st = .ok ∧ bytes.length ≠ r.len then d
    else
      match r.use with
      | .pull _ => d
      | .dropped => (d.setHostReq ht none).hostPump
      | .fabric _ p => ((d.setHostReq ht none).fabricAnswer p (statusOf st) bytes).hostPump
      | .descriptor c idx => ((d.setHostReq ht none).descFetched c idx st bytes).hostPump
      | .dmaData c idx off => ((d.setHostReq ht none).dataFetched c idx off st bytes).hostPump

/-- PCIE_COMPLETION_TIMEOUT (R311, R389, R393). -/
def pcieCompletionTimeoutBody (ht : Nat) (d : Device) : Device :=
  match sget (fun _ => (none : Option HostReq)) d.hostReqs ht with
  | none => d
  | some r =>
    let d := d.setHostReq ht none
    match r.use with
    | .pull _ => d.loadAbort abSource
    | .dropped => d.hostPump
    | .fabric _ p => (d.fabricAnswer p stSlave []).hostPump
    | .descriptor c idx => (d.descFetched c idx .abort []).hostPump
    | .dmaData c idx off => (d.dataFetched c idx off .abort []).hostPump

/-! ### Configuration requests and resets short of PERST_N (R377, R378) -/

/-- PCIE_CONFIG_REQUEST. -/
def pcieConfigRequestBody (fn : PcieFn) (q : CfgRequest) (d : Device) : Device :=
  let base := match fn with
    | .pf0 => PcieFn.pf0
    | _ => .pf1
  if d.fnReady base = false then d.emit (.configReply fn none)
  else if d.fnReady fn = false then d.emit (.configUnsupported fn)
  else
    match q with
    | .read r => d.emit (.configReply fn (some (d.pciRead fn r)))
    | .write r w => ((d.pciWrite fn r w).emit (.configReply fn (some 0))).hostPump

/-- A PUSH or PULL load ends with SOURCE_ERROR. -/
def Device.hostLoadEnds (d : Device) : Device :=
  if d.load.loading && (d.load.src == 1 || d.load.src == 2) then d.loadAbort abSource else d

/-- Configuration state of every function, every channel, a PUSH or PULL load. -/
def Device.hotReset (d : Device) : Device :=
  let d := (List.range 34).foldl (fun (d : Device) (i : Nat) => d.clearFn i) d
  let d := (d.endChannels fun _ => true).dropWindows fun _ => true
  d.hostLoadEnds

/-- The link goes down (R378, R397). -/
def Device.linkDown (d : Device) : Device :=
  if d.rd .pcie fPcieLinkStatusRate = 0 then d
  else
    let d := ((d.put .pcie fPcieLinkStatusRate 0).put .pcie fPcieLinkStatusWidth 0).put .pcie fPcieLinkStatusFlit 0
    let d := (d.put .pcie fPcieLinkStatusPm 0).raise .pcie cPcieLinkDown
    (d.count .pcie 3).hotReset

/-- HOT_RESET: Hot Reset, or Link Down. -/
def hotResetBody (down : Bool) (d : Device) : Device :=
  if d.mode = mDormant then d else if down then d.linkDown else d.hotReset

def flrPf0Body (d : Device) : Device :=
  if d.fnReady .pf0 = false then d else ((d.clearFn 0).hostLoadEnds).raise .pcie cPcieFlrDone

def flrPf1Body (d : Device) : Device :=
  if d.fnReady .pf1 = false then d
  else
    let d := (((d.clearFn 1).clearVfs).endChannels fun _ => true).dropWindows fun _ => true
    (d.raise .pcie cPcieFlrDone).emit (.frs .pf1)

def flrVfBody (v : Fin 32) (d : Device) : Device :=
  if d.fnReady (.vf v) = false then d
  else
    let d := ((d.clearFn (2 + v.val)).endChannels fun o => o == v.val + 1).dropWindows fun o => o == v.val + 1
    (d.raise .pcie cPcieFlrDone).emit (.frs (.vf v))

/-- PF1 becomes ready on entry to SERVICE (R377, R381). -/
def Device.pf1Up (d : Device) : Device :=
  let d := { d with pf1Ready := true, barLog2 := (d.rd .pcie fPciePf1CfgBar0Log2, d.rd .pcie fPciePf1CfgVfBar0Log2) }
  (d.raise .pcie cPciePf1Ready).emit (.frs .pf1)

/-- PF1 stops being ready on entry to DOORWAY or LOAD and loses its configuration state; channels stop (R377, R396). -/
def Device.pf1Down (d : Device) : Device :=
  if d.pf1Ready = false then d
  else
    let d := (((d.clearFn 1).clearVfs).endChannels fun _ => true).dropWindows fun _ => true
    { d with pf1Ready := false }

end Sys2Proof.Machine
end

