-- ==== Sys2Proof/Machine/Repair.lean ====
section
/-! DEFINITION. Repair (R350 to R368): bays out of service, self-tests, health scores, migration in its four phases, warden
policy and voting; mailbox responses, which migrations and self-tests end with. -/

namespace Sys2Proof.Machine

open Sys2Proof

/-! ### Mailboxes (R369, R371) -/

def wsOk : Nat := 0
def wsBusy : Nat := 1
def wsInvalid : Nat := 2
def wsFailed : Nat := 3
def wsAborted : Nat := 4
def wsNoSpare : Nat := 5
def wsAuth : Nat := 6
def wsDirty : Nat := 7
def wsDenied : Nat := 8

def Device.mailbox (d : Device) (n : Nat) : Mailbox := sget (fun _ => Mailbox.empty) d.mbx n

def Device.setMailbox (d : Device) (n : Nat) (m : Mailbox) : Device :=
  { d with mbx := sset (fun _ => Mailbox.empty) d.mbx n m }

/-- No two warden cores agree any more (WARDEN_STATUS.DISSENT reads 7). -/
def Device.wardenDead (d : Device) : Bool := d.rd .repair fRepairWardenStatusDissent == 7

/-- Word `i` of a request. -/
def reqWord (ws : List Word) (i : Nat) : Nat := ((ws[i]?).getD 0).toNat

def reqService (ws : List Word) : Nat := reqWord ws 0 % 256

/-- Put the response to the running request into MBX_RESP. Reads and writes of its service that are still outstanding are for nothing. -/
def Device.answerService (d : Device) (n status : Nat) (data : List Nat) : Device :=
  let m := d.mailbox n
  match m.running with
  | none => d
  | some ws =>
    let w := 2 ^ 31 + status % 16 * 2 ^ 24 + reqService ws * 2 ^ 16 + reqWord ws 0 / 2 ^ 16
    let r : Response := { word := BitVec.ofNat 32 w, data := data.map (BitVec.ofNat 32 ·) }
    let d := if m.job.isSome then d.dropReqs fun k => match k with
        | .warden m _ => m == n
        | _ => false else d
    (d.setMailbox n { m with running := none, job := none, started := false, resps := m.resps ++ [r] }).raise
      (.warden (Fin.ofNat 4 n)) cWardenRespReady

/-- Start queued requests while none runs and MBX_RESP has room; a reserved service is answered INVALID, and after WARDEN_LOST
every one FAILED (R356, R369, R370). -/
def Device.serviceNext : Nat → Nat → Device → Device
  | 0, _, d => d
  | fuel + 1, n, d =>
    let m := d.mailbox n
    match m.running, m.queue with
    | none, ws :: rest =>
      if 8 ≤ m.resps.length then d
      else
        let d := d.setMailbox n { m with queue := rest, running := some ws, started := false }
        if d.wardenDead then Device.serviceNext fuel n (d.answerService n wsFailed [])
        else if reqService ws = 0 ∨ 9 < reqService ws then Device.serviceNext fuel n (d.answerService n wsInvalid [])
        else d
    | _, _ => d

/-- End the running request of a mailbox. -/
def Device.respond (d : Device) (n status : Nat) (data : List Nat) : Device :=
  Device.serviceNext 5 n (d.answerService n status data)

/-- SUBMIT.GO (R369). -/
def Device.submitGo (d : Device) (n : Fin 4) : Device :=
  let m := d.mailbox n.val
  if 4 ≤ m.queue.length then d.raise (.warden n) cWardenMbxFull
  else
    let ws := (List.range 16).map fun i => d.word (fldKey (.warden n) fWardenReq i)
    Device.serviceNext 5 n.val (d.setMailbox n.val { m with queue := m.queue ++ [ws] })

/-- A pop of MBX_RESP: the word returned, and its data latched in RESP_DATA (R37, R38, R369). -/
def Device.popResponse (d : Device) (n : Fin 4) : Word × Device :=
  let m := d.mailbox n.val
  match m.resps with
  | [] => (0, d)
  | r :: rest =>
    let d := (List.range 4).foldl (fun (d : Device) (i : Nat) =>
      d.put (.warden n) fWardenRespDataData ((r.data[i]?).getD 0).toNat i) d
    (r.word, Device.serviceNext 5 n.val (d.setMailbox n.val { m with resps := rest }))

/-! ### Streams of golden frames, and the bays that GOLDEN calls hold (R346) -/

/-- The bytes read, from a place on. -/
def collect : Nat → Nat → List (Nat × List Byte) → List Byte
  | 0, _, _ => []
  | fuel + 1, off, got =>
    match got.find? fun e => e.1 == off with
    | some e => e.2 ++ collect fuel (off + e.2.length) got
    | none => []

/-- Take the next piece of a stream: the command that fits where its reading stands. -/
def Device.streamTurn (d : Device) : Device :=
  let l := d.load
  match l.phase with
  | .sync => syncBody d
  | .header => headerBody d
  | .broadcast => broadcastBody d
  | .wraps => keyWrapBody d
  | .body =>
    if l.ready = false then segmentVerifyBody d
    else if l.framesLeft ≠ 0 then frameDataBody d
    else if l.repeatLeft ≠ 0 then frameRepeatBody d
    else
      match l.next with
      | none => segmentVerifyBody d
      | some (t, _) =>
        if t = rtWindow then windowBody d
        else if t = rtSubstrate then substrateTableBody d
        else if t = rtFrameAddr then frameAddrBody d
        else if t = rtFrameData then frameDataBody d
        else if t = rtFrameRepeat then frameRepeatBody d
        else if t = rtKeyRoll then keyRollRecordBody d
        else if t = rtCrcCheck then crcCheckBody d
        else if t = rtStartSeq then startSeqBody d
        else if t = rtPad then padBody d
        else if t = rtEnd then
          (if l.verified < (l.hdr.map fun h => h.bodyBytes).getD 0 then segmentVerifyBody d else endRecordBody d)
        else skippableRecordBody d
  | _ => d

/-- Read a whole stream on a copy of the device, whose window bays count as shuttered. -/
def Device.streamRun : Nat → Device → Device
  | 0, d => d
  | fuel + 1, d =>
    if d.flag .cfg cCfgLoadDone || d.flag .cfg cCfgLoadFailed then d
    else
      let d := d.streamTurn
      let d := (d.load.window.getD []).foldl (fun (d : Device) (p : Nat) =>
        d.put (.pbay (Fin.ofNat 112 p)) fPbayShutterState shutterClosed) d
      Device.streamRun fuel d

/-- The copy on which a golden stream is read: a load of these bytes in SERVICE that no other source feeds. -/
def Device.streamCopy (d : Device) (bytes : List Byte) : Device :=
  let l : LoadSt := { LoadSt.fresh with phase := .sync, src := 4, buf := bytes, delivered := bytes.length, watch := d.golden }
  let d := ((d.lower .cfg cCfgLoadDone).lower .cfg cCfgLoadFailed).put .cfg fCfgLoadStatusReason 0
  { d.put .sill fSillDeviceModeMode mService with load := l, fabricOn := true }

/-- The logical bays that a stream's WINDOW named, as physical bays, once it has been taken. -/
def Device.streamWindow (c : Device) : List Nat := c.load.window.getD []

/-- The physical bays that GOLDEN calls under way hold: those that their streams have named, as far as they have been read (R346). -/
def Device.goldenCalls (d : Device) : List Nat :=
  (List.range 4).flatMap fun n => match (d.mailbox n).running, (d.mailbox n).job with
    | some ws, some j =>
      if reqService ws = 6 then
        (let bytes := collect j.got.length 0 j.got
         (Device.streamRun (4 * bytes.length + 64) (d.streamCopy bytes)).streamWindow)
      else []
    | _, _ => []

/-- A GOLDEN call runs (R346, R459). -/
def Device.goldenRunning (d : Device) : Bool :=
  (List.range 4).any fun n => match (d.mailbox n).running, (d.mailbox n).job with
    | some ws, some _ => reqService ws == 6
    | _, _ => false

/-! ### Bays out of service (R351, R372, R464) -/

def codePool : Nat := 13
def codeOut : Nat := 14
def codeFailed : Nat := 15

/-- Switch on a physical bay that POOL_OFF has switched off: its epoch increments (R464). -/
def Device.bayOn (d : Device) (pb : Fin 112) : Device :=
  if sget (fun _ => false) d.bayOff pb.val then
    { d with bayOff := sset (fun _ => false) d.bayOff pb.val false }.newEpoch (.pbay pb)
  else d

/-- A physical bay may be off: it carries no logical bay, and no self-test, absolute load or migration uses it (R464). -/
def Device.bayIdle (d : Device) (pb : Fin 112) : Bool :=
  (d.logicalOf pb).isNone && (sget (fun _ => (none : Option TestFor)) d.tests pb.val).isNone &&
    !d.flag (.pbay pb) fPbayBayCfgStateInPr &&
    !(d.rd .repair fRepairMigStatePhase (pb.val / 14) != 0 && decide (d.rd .repair fRepairMigStatePhase (pb.val / 14) < 4) &&
      d.rd .repair fRepairMigStateTarget (pb.val / 14) == pb.val)

/-- Switch off every bay that POOL_OFF covers. -/
def Device.poolOff (d : Device) : Device :=
  if d.flag .pwr fPwrPoolOff && d.fabricOn then
    (List.finRange 112).foldl (fun (d : Device) (pb : Fin 112) =>
      if d.bayIdle pb then { d with bayOff := sset (fun _ => false) d.bayOff pb.val true } else d) d
  else d

/-- Switch every bay on again when POOL_OFF has been cleared. -/
def Device.poolOn (d : Device) : Device := (List.finRange 112).foldl (fun (d : Device) (pb : Fin 112) => d.bayOn pb) d

/-- Mark a physical bay failed: its row has no spare any more (R351, R354). -/
def Device.markFailed (d : Device) (pb : Fin 112) : Device :=
  let d := (d.setSteerCode pb.val codeFailed).raise .repair cRepairBayFailed
  d.raise .repair cRepairNoSpare

/-- The bay's configuration is cleared: words, rows, settings, exclusion map (R354, R364). Stuck bits keep their values. -/
def Device.clearBay (d : Device) (pb : Fin 112) : Device :=
  let keys := d.cfgMem.filterMap fun e => if e.1 / 2 ^ 24 = pb.val then some e.1 else none
  let d := keys.foldl (fun (d : Device) (k : Nat) => d.cfgWrite k 0) d
  let d := { d with bram := sclear (fun k => k / 65536 == pb.val) d.bram
                    exclMap := sclear (fun k => k / 64 == pb.val) d.exclMap
                    ffs := sclear (fun k => k / 2 ^ 19 == pb.val) d.ffs
                    mram := sclear (fun k => k / 2 ^ 18 == pb.val) d.mram
                    bramOut := sclear (fun k => k / 256 == pb.val) d.bramOut
                    slices := sclear (fun k => k / 128 == pb.val) d.slices
                    writeback := sclear (fun k => k / 128 == pb.val) d.writeback }
  (d.clearDegraded pb).wordChanged pb

/-! ### Self-tests (R354, R359, R363) -/

def Device.setTest (d : Device) (pb : Fin 112) (t : Option TestFor) : Device :=
  { d with tests := sset (fun _ => none) d.tests pb.val t }

/-- Begin a self-test; the bay is switched on for it. -/
def Device.startTest (d : Device) (pb : Fin 112) (t : TestFor) : Device := (d.bayOn pb).setTest pb (some t)

/-- A spare is due for its self-test: never tested, or as old as PERIOD, which is not 0 (R354). -/
def Device.testDue (d : Device) (pb : Fin 112) : Bool :=
  let period := d.rd .repair fRepairSelftestPeriod
  period != 0 && (!d.flag (.pbay pb) fPbayHealthTested || decide (period ≤ d.rd (.pbay pb) fPbayHealthTestAge))

/-! ### Migration: early endings (R364) -/

/-- Dirty tracking ends: every bit is cleared (R103). -/
def Device.disarm (d : Device) (pb : Fin 112) : Device :=
  { d with dirty := sclear (fun k => k / 65536 == pb.val) d.dirty }.lower (.pbay pb) fPbayMemDirtyArmed

/-- The row has no migration any more. -/
def Device.migClear (d : Device) (r : Nat) : Device :=
  ((d.setMig r none).setWord (fldKey .repair fRepairMigStatePhase r) 0).setWord (fldKey .repair fRepairMigProgressPass r) 0

/-- A migration in prepare, mirror or cut ends early: back to the source (R364). `test` sends the spare to self-test. -/
def Device.migEnd (d : Device) (r status : Nat) (test : Bool) : Device :=
  match d.mig r with
  | none => d
  | some m =>
    let src := d.migSource r
    let dst := d.migTarget r
    let d := ((d.lower (.pbay src) fPbayHingeStatusHeld).disarm src).count .repair 1
    let d := d.clearBay dst
    let d := d.migClear r
    let d := if d.steerCode dst.val = codeFailed then d
      else if test then (d.setSteerCode dst.val codeOut).startTest dst .periodic
      else ((d.setSteerCode dst.val codePool).setTest dst none).newEpoch (.pbay dst)
    let d := if status = wsNoSpare then d.raise .repair cRepairNoSpare
      else if status = wsFailed then d.raise .repair cRepairMigrateFail
      else d.raise .repair cRepairMigrateAborted
    let d := match m.mbx with
      | some n => d.respond n status [0, 0, 0, m.goldenStatus]
      | none => d
    d.poolOff

/-- Every migration before its cut ends ABORTED (R364, R459, R499). -/
def Device.migsAbort (d : Device) : Device :=
  (List.range 8).foldl (fun (d : Device) (r : Nat) =>
    if d.migPhase r = 1 ∨ d.migPhase r = 2 ∨ d.migPhase r = 3 then d.migEnd r wsAborted false else d) d

/-- PAGE_ABORT on REPAIR (R48, R364): migrations return to their sources; a retire's self-test stops, and its source stays out
of service. -/
def Device.repairAbort (d : Device) : Device :=
  let d := d.migsAbort
  (List.range 8).foldl (fun (d : Device) (r : Nat) =>
    if d.migPhase r = 4 then ((d.setTest (d.migSource r) none).clearBay (d.migSource r)).migClear r else d) d

/-! ### Migration: request and prepare (R358, R359) -/

/-- The free bay of a row. -/
def Device.freeBay (d : Device) (r : Nat) : Option (Fin 112) :=
  ((List.range 14).find? fun p => 13 ≤ d.steerCode (14 * r + p)).map fun p => Fin.ofNat 112 (14 * r + p)

/-- The test of a spare belongs to a service or to another step, so the row is busy. -/
def TestFor.blocks : Option TestFor → Bool
  | none => false
  | some .periodic => false
  | some _ => true

/-- Judge a migration request (R358, R458): a status other than OK turns it away. -/
def Device.migJudge (d : Device) (n : Fin 104) : Nat :=
  let r := n.val / 13
  let src := d.physOf n
  if d.wardenDead then wsFailed
  else if (d.mode ≠ mService ∧ d.mode ≠ mDrowse) ∨ sget (fun _ => false) d.drowsed n.val = true then wsDenied
  else if d.migPhase r ≠ 0 ∨ d.flag (.pbay src) fPbayBayCfgStateInPr = true ∨
      d.flag (.pbay src) fPbayBayCfgStateHeld = true ∨ d.goldenCalls.contains src.val = true then wsBusy
  else
    match d.freeBay r with
    | none => wsNoSpare
    | some p =>
      if d.steerCode p.val ≠ codePool ∨ (d.flag (.pbay p) fPbayHealthTested = true ∧
          d.flag (.pbay p) fPbayHealthTestFailed = true) then wsNoSpare
      else if TestFor.blocks (d.testOf p) ∨ d.flag (.pbay p) fPbayBayCfgStateInPr = true then wsBusy else wsOk

/-- The prepare step proper: the source is kept ungated and its dirty rows are tracked (R103, R147, R359). -/
def Device.migArm (d : Device) (r : Nat) : Device :=
  let src := d.migSource r
  let d := (d.lower (.pbay src) fPbayHingeStatusDrowsyGated).raise (.pbay src) fPbayMemDirtyArmed
  let dst := (d.migTarget r).val
  -- The spare is under bay-level set-reset with its shutters CLOSED.
  { d with bayReset := sset (fun _ => false) d.bayReset dst true
           writesOn := sset (fun _ => false) d.writesOn dst false
           migs := match d.mig r with
             | some m => sset (fun _ => none) d.migs r (some { m with since := d.cfgTime })
             | none => d.migs }

/-- Begin a migration that has been judged (R358, R359). -/
def Device.migStart (d : Device) (n : Fin 104) (dst : Fin 112) (m : MigSt) : Device :=
  let r := n.val / 13
  let src := d.physOf n
  let d := (d.setMig r (some m)).setSteerCode dst.val codeOut
  let d := (d.put .repair fRepairMigStatePhase 1 r).put .repair fRepairMigStateLogical n.val r
  let d := (d.put .repair fRepairMigStateSource src.val r).put .repair fRepairMigStateTarget dst.val r
  let due := !d.flag (.pbay dst) fPbayHealthTested || d.testDue dst
  let d := d.bayOn dst
  if due || (d.testOf dst).isSome then d.startTest dst (.prepare r) else d.migArm r

/-- A policy migration is tried (R357). -/
def Device.migPolicy (d : Device) (n : Fin 104) : Device :=
  let st := d.migJudge n
  let again := { d with policy := sset (fun _ => false) d.policy n.val true }
  let done := { d with policy := sset (fun _ => false) d.policy n.val false }
  if st = wsOk then
    match d.freeBay (n.val / 13) with
    | some p => done.migStart n p { mbx := none, stream := false, golden := [], goldenStatus := 0, due := none, holding := none, cloned := 0, since := 0 }
    | none => done
  else if st = wsBusy ∨ st = wsDenied then again
  else if st = wsNoSpare then done.raise .repair cRepairNoSpare
  else done

/-- Policy asks for a migration of this physical bay: its score, or its being DEGRADED (R357). -/
def Device.policyWants (d : Device) (pb : Fin 112) : Bool :=
  (d.flag .repair fRepairPolicyAutoMigrate &&
      decide (d.rd (.pbay pb) fPbayHealthScore < d.rd .repair fRepairPolicyMigrateAt)) ||
    (d.flag .repair fRepairPolicyMigrateDegraded && d.flag (.pbay pb) fPbayBayCfgStateDegraded)

def Device.policyCheck (d : Device) (pb : Fin 112) : Device :=
  match d.logicalOf pb with
  | some n => if d.policyWants pb && !d.migrating pb then d.migPolicy n else d
  | none => d

/-- MIGRATE_RETRY: every 10 ms (R357). -/
def migrateRetryBody (row : Fin 8) (d : Device) : Device :=
  (List.range 13).foldl (fun (d : Device) (k : Nat) =>
    let n : Fin 104 := Fin.ofNat 104 (13 * row.val + k)
    if sget (fun _ => false) d.policy n.val then
      if d.policyWants (d.physOf n) then d.migPolicy n
      else { d with policy := sset (fun _ => false) d.policy n.val false }
    else d) d

/-! ### Migration: clone and mirror (R359, R360) -/

/-- Copy one row into the spare: a single error of the ECC family is corrected there, every error is logged (R104). -/
def Device.mirrorRow (d : Device) (src dst : Fin 112) (m r : Nat) : Device :=
  let c := d.memCfg src m
  let row := d.row src m r
  match memFamily c with
  | .ecc =>
    match eccVerdict row with
    | .good => d.setRow dst m r row
    | .corrected => (d.memError src m r 1 3 0 (syndromeByte row)).setRow dst m r (eccFix row)
    | .bad => (d.memError src m r 3 3 0 (syndromeByte row)).setRow dst m r row
  | f =>
    let errs := if f == .narrow || c.parityEn then (List.range 8).filter fun k => parityBad f row k else []
    let d := if errs.isEmpty then d else d.memError src m r 2 3 (errs.foldl (fun s k => s + 2 ^ k) 0) 0
    d.setRow dst m r row

/-- Copy one frame of stored words: read with correction as the scrubber does, which corrects and reports in the source; a word that
the scrubber leaves alone, and one that cannot be corrected, goes raw; type 0 words go where the spare's own column steering places
them (R18, R287, R340, R342, R359). -/
def Device.cloneFrame (d : Device) (src dst : Fin 112) (typ major minor : Nat) : Device :=
  let d := d.scrubWords { bay := src.val, typ := typ, major := major, minor := minor }
  let d := (List.range 64).foldl (fun (d : Device) (k : Nat) =>
    let w := d.cfgRead (cfgKey src.val typ major minor (d.colOf src typ k))
    let raw := typ == 0 && d.scrubExcludes src major minor k
    d.cfgWrite (cfgKey dst.val typ major minor (d.colOf dst typ k)) (if raw then w else cfgFix w)) d
  if typ = 0 then
    (List.range 66).foldl (fun (d : Device) (c : Nat) =>
      if d.bypassedCol dst c then d.cfgWrite (cfgKey dst.val 0 major minor c) 0 else d) d
  else d

/-- A copy of the entries of one range of keys in another, `per` keys a bay. -/
def scopy {α : Type} [DecidableEq α] (dflt : Nat → α) (per src dst : Nat) (m : Sparse α) : Sparse α :=
  (m.filter fun e => e.1 / per == src).foldl (fun acc e => sset dflt acc (dst * per + e.1 % per) e.2)
    (sclear (fun k => k / per == dst) m)

/-- Row `i` of the source is copied, and is clean with it (R103, R104). -/
def Device.copyRow (d : Device) (src dst : Fin 112) (i : Nat) : Device :=
  let d := d.mirrorRow src dst (i / 512) (i % 512)
  { d with dirty := sset (fun _ => false) d.dirty (src.val * 65536 + i) false }

/-- The rows of a memory that frame `k` of its nine completes: those whose last bit lies in it (R95). -/
def cloneRows (m k : Nat) : List Nat :=
  ((List.range 512).filter fun r => (72 * r + 71) / 4096 == k).map fun r => 512 * m + r

/-- Frame `i` of the clone of a source into its spare (R286, R359); `skip`: rows that stay as they are. -/
def Device.cloneNth (d : Device) (src dst : Fin 112) (skip : List Nat) (i : Nat) : Device :=
  if i < 8448 then d.cloneFrame src dst 0 (i / 88) (i % 88)
  else if i < 8464 then d.cloneFrame src dst 2 0 (i - 8448)
  else if i < 8512 then d.cloneFrame src dst 3 0 (i - 8464)
  else if i < 8528 then d.cloneFrame src dst 4 0 (i - 8512)
  else (cloneRows ((i - 8528) / 9) ((i - 8528) % 9)).foldl (fun (d : Device) (r : Nat) =>
    if skip.contains r then d else d.copyRow src dst r) d

/-- The frame write port has granted a migration frame `i` of its clone (R315). -/
def Device.cloneGranted (d : Device) (r i : Nat) : Device :=
  if d.migPhase r = 1 then d.cloneNth (d.migSource r) (d.migTarget r) [] i else d

/-- The frames of the source that have not gone into the spare yet do so (R359). -/
def Device.cloneRest (d : Device) (src dst : Fin 112) (done : Nat) (skip : List Nat) : Device :=
  let d := (List.range (cloneFrames - done)).foldl (fun (d : Device) (i : Nat) => d.cloneNth src dst skip (done + i)) d
  let d := { d with exclMap := scopy (fun _ => 0) 64 src.val dst.val d.exclMap }
  (d.lower (.pbay dst) fPbayBayCfgStateDegraded).wordChanged dst

/-! ### Migration: the cut (R361, R362) -/

/-- The period of a global clock at the lowest instantaneous frequency under its spread, in units of 1/1000 ns rounded up
(R138, R141, R143). -/
def Device.slowPeriod (d : Device) (g : Nat) : Nat :=
  let s := 1 + g / 8
  let mult := d.eff .clk fClkSrcCfgMult s
  let depth := d.eff .clk fClkSrcCfgSscDepth s
  let num := d.eff .clk fClkGclkDiv g * 100 * 2000 * 1000
  let den := mult * (2000 - depth)
  if den = 0 then 0 else (num + den - 1) / den

/-- T of R361, in 1/1000 ns. -/
def Device.cutPeriod (d : Device) (n : Fin 104) : Nat :=
  let own := (List.range 32).foldl (fun t g => if (d.cfgOf n).clocks.getLsbD g then max t (d.slowPeriod g) else t) 0
  max own (d.slowPeriod (d.eff .clk fClkRowTransomGclk (n.val / 13)))

/-- H of R362 in ns, rounded up. -/
def holdNs (t s dirty : Nat) : Nat := (12 * t + 999) / 1000 + 1000 + s + (dirty + 31) / 32

/-- Words on their way to a bay land in its inbound buffers (R361 step 3). -/
def landWords (m : Sparse Channel) (lo n : Nat) : Sparse Channel :=
  (List.range n).foldl (fun m i =>
    let c := sget chanDflt m (lo + i)
    sset chanDflt m (lo + i) { buf := c.buf ++ c.flight, flight := [] }) m

/-- What a bay's design holds moves to the spare: the capture image, and the rows that are dirty at the hold edge, raw; the mirror
has copied the others (R361 steps 5 to 7). -/
def Device.moveBay (d : Device) (src dst : Fin 112) : Device :=
  let s := src.val
  let t := dst.val
  let d := (d.dirtyRows src).foldl (fun (d : Device) (i : Nat) =>
    d.setRow dst (i / 512) (i % 512) (d.row src (i / 512) (i % 512))) d
  { d with
    ffs := scopy (fun _ => false) (2 ^ 19) s t d.ffs
    mram := scopy (fun _ => 0) (2 ^ 18) s t d.mram
    bramOut := scopy (fun _ => PortOut.zero) 256 s t d.bramOut
    writeback := scopy (fun _ => []) 128 s t d.writeback
    slices := scopy (fun _ => SliceSt.zero) 128 s t d.slices
    bayReset := sset (fun _ => false) d.bayReset t (sget (fun _ => false) d.bayReset s)
    writesOn := sset (fun _ => false) d.writesOn t (sget (fun _ => false) d.writesOn s) }

/-- The registers that hold architectural state of a bay's columns, and the marks that go with a logical bay. -/
def Device.moveRegs (d : Device) (src dst : Fin 112) : Device :=
  let d := (List.range 8).foldl (fun (d : Device) (i : Nat) =>
    d.setWord (pageBase (.pbay dst) + 0x080 + 4 * i) (d.word (pageBase (.pbay src) + 0x080 + 4 * i))) d
  let d := d.put (.pbay dst) fPbayBayCfgStateSealed (d.rd (.pbay src) fPbayBayCfgStateSealed)
  let d := d.put (.pbay dst) fPbayBayCfgStateDegraded (d.rd (.pbay src) fPbayBayCfgStateDegraded)
  let d := d.put (.pbay dst) fPbayShutterState (d.rd (.pbay src) fPbayShutterState)
  let d := (d.lower (.pbay src) fPbayBayCfgStateSealed).lower (.pbay src) fPbayBayCfgStateDegraded
  d.put (.pbay src) fPbayShutterState shutterClosed

/-- Golden-list entries that the request's stream has repaired in the spare leave the list (R359, R361). -/
def Device.goldenMoved (d : Device) (n : Fin 104) (dst : Fin 112) (fixed : List Nat) : Device :=
  let d := { d with golden := d.golden.filter fun g => !fixed.contains g }
  if !fixed.isEmpty && (d.goldenOf n.val).isEmpty then d.lower (.pbay dst) fPbayBayCfgStateDegraded else d

/-- The hold of a cut begins: the source's clocks stop, words on their way land in its buffers, its image is in its shadow (R79, R361,
steps 1 to 4). `image`: the image check of step 5 will pass. -/
def Device.cutHold (d : Device) (r : Nat) (image : Bool) : Device :=
  match d.mig r with
  | none => d
  | some m =>
    let n := d.rd .repair fRepairMigStateLogical r
    let src := d.migSource r
    let d := { d with hinges := landWords d.hinges (8 * n) 8, stiles := landWords d.stiles (4 * n) 4 }
    let d := (d.raise (.pbay src) fPbayHingeStatusHeld).loadShadow src
    (d.put .repair fRepairMigStatePhase 3 r).setMig r (some { m with due := none, holding := some image })

/-- The hold of a cut ends: back to the source where the image check fails, else the spare goes on as the logical bay (R361, steps 5
to 8, R364). -/
def Device.cutEnd (d : Device) (r : Nat) (m : MigSt) (image : Bool) : Device :=
  let n : Fin 104 := Fin.ofNat 104 (d.rd .repair fRepairMigStateLogical r)
  let src := d.migSource r
  let dst := d.migTarget r
  if !image then d.migEnd r wsFailed true
  else
    let dirty := (d.dirtyRows src).length
    let s := d.shadowFrames src
    let h := holdNs (d.cutPeriod n) s dirty
    let d := (d.lower (.pbay src) fPbayHingeStatusHeld).newEpoch (.pbay dst)
    let d := ((d.setSteerCode dst.val (n.val % 13)).setSteerCode src.val codeOut).moveBay src dst
    let d := ((d.moveRegs src dst).disarm src).goldenMoved n dst (m.golden.map fun e => e.1)
    let d := (d.put .repair fRepairLastHoldHoldNs (min h 0xFFFF)).put .repair fRepairLastHoldRow r
    let d := ((d.raise .repair cRepairMigrateDone).count .repair 0).put .repair fRepairMigStatePhase 4 r
    let d := d.setMig r (some { m with mbx := none, golden := [], due := none, holding := none })
    let d := match m.mbx with
      | some k => d.respond k wsOk [h, dirty, s, m.goldenStatus]
      | none => d
    if d.flag .repair fRepairPolicyAutoRetire then d.startTest src (.retire r) else d

/-- The hold of a row, if one stands, comes to its end (R361). -/
def Device.holdEnd (d : Device) (r : Nat) : Device :=
  match d.mig r with
  | some m => match m.holding with
    | some image => d.cutEnd r m image
    | none => d
  | none => d

/-- Every hold that stands comes to its end. -/
def Device.holdsEnd (d : Device) : Device := (List.range 8).foldl (fun (d : Device) (r : Nat) => d.holdEnd r) d

/-- What waits for the end of a cut (a capture, R18; a write to a BAY block register, R25; a CLOSE, R199) is preceded by that end
(DESIGN CHOICE, entry 80). -/
def Device.holdOver (d : Device) (b : BayPage) : Device := d.holdEnd ((d.bayPhys b).val / 14)

/-- A capture of a physical bay has not loaded its shadow yet. -/
def Device.capturing (d : Device) (pb : Fin 112) : Bool := d.flag (.pbay pb) fPbayCaptureStatusBusy

/-- The cut of a row is due; it waits while a capture is in progress in the source bay: BUSY of that bay is what the model takes for
it, a capture of other bays holds no cut (R18; DESIGN CHOICE, entry 79). -/
def Device.cutDue (d : Device) (r : Nat) (image : Bool) : Device :=
  match d.mig r with
  | none => d
  | some m =>
    if d.capturing (d.migSource r) then (d.put .repair fRepairMigStatePhase 3 r).setMig r (some { m with due := some image })
    else d.cutHold r image

/-- Cuts that waited for a capture go on. -/
def Device.cutsWaiting (d : Device) : Device :=
  (List.range 8).foldl (fun (d : Device) (r : Nat) =>
    match d.mig r with
    | some m => match m.due with
      | some image => if d.capturing (d.migSource r) then d else d.cutHold r image
      | none => d
    | none => d) d

/-- At the end of a pass: the cut begins when few enough rows are dirty (R360). -/
def Device.passOver (d : Device) (r : Nat) (image : Bool) : Device :=
  let dirty := (d.dirtyRows (d.migSource r)).length
  if dirty ≤ d.rd .repair fRepairMigrateCfgCutDirty then d.cutDue r image
  else if d.rd .repair fRepairMigrateCfgMirrorPasses ≤ d.rd .repair fRepairMigProgressPass r then d.migEnd r wsDirty false
  else d

/-- MIRROR_PASS_END: every dirty row is copied and clean again, except the rows `left` that the pass did not reach or that a port
wrote as it copied them (R103, R360). -/
def mirrorPassEndBody (row : Fin 8) (left : List Nat) (image : Bool) (d : Device) : Device :=
  let r := row.val
  if d.migPhase r ≠ 2 then d
  else
    let src := d.migSource r
    let dst := d.migTarget r
    let rows := (d.dirtyRows src).filter fun i => !left.contains i
    let d := rows.foldl (fun (d : Device) (i : Nat) => d.copyRow src dst i) d
    (d.put .repair fRepairMigProgressPass (d.rd .repair fRepairMigProgressPass r + 1) r).passOver r image

/-! ### How self-tests end (R354, R359, R363, R364) -/

/-- The field of COL_STEER that re-steering writes (R57). -/
def Device.resteer (d : Device) (pb : Fin 112) (m : Bool) (pos : Nat) : Device :=
  let pg := PageRef.pbay pb
  if m then (d.put pg fPbayColSteerMBypass pos).raise pg fPbayColSteerMField
  else (d.put pg fPbayColSteerLBypass pos).raise pg fPbayColSteerLField

/-- A chain stands: no failed column, or one that is bypassed, or that re-steering bypasses (R55, R354). -/
def Device.chainStands (d : Device) (pb : Fin 112) (m resteer : Bool) (found : List Nat) : Bool :=
  match found with
  | [] => true
  | [p] => resteer || p == d.bypass pb m
  | _ => false

/-- A bay goes to the pool, or is marked failed, and RETIRED is set: the retire of its row's migration is over (R363). -/
def Device.placeBay (d : Device) (pb : Fin 112) (ok : Bool) : Device :=
  let d := (if ok then d.setSteerCode pb.val codePool else d.markFailed pb).raise .repair cRepairRetired
  let r := pb.val / 14
  let d := if d.migPhase r = 4 ∧ d.migSource r = pb then d.migClear r else d
  d.poolOff

/-- The same without a self-test: its epoch increments (R33, R363). -/
def Device.retireBay (d : Device) (pb : Fin 112) (ok : Bool) : Device := (d.newEpoch (.pbay pb)).placeBay pb ok

/-- What a self-test leaves in the PBAY page: the bay returns from it under a new epoch, with the result and the positions that
re-steering gives (R33, R34, R57, R354). -/
def Device.testResult (d : Device) (pb : Fin 112) (ok resteer : Bool) (lf mf : List Nat) : Device :=
  let pg := PageRef.pbay pb
  let d := ((d.setTest pb none).clearBay pb).newEpoch pg
  let d := match resteer, lf with
    | true, [p] => d.resteer pb false p
    | _, _ => d
  let d := match resteer, mf with
    | true, [p] => d.resteer pb true p
    | _, _ => d
  let d := (d.put pg fPbayColSteerLExhausted (decide (2 ≤ lf.length)).toNat).put pg fPbayColSteerMExhausted
    (decide (2 ≤ mf.length)).toNat
  let d := ((d.raise pg fPbayHealthTested).put pg fPbayHealthTestFailed (!ok).toNat).put pg fPbayHealthTestAge 0
  let d := { d with testTick := sset (fun _ => 0) d.testTick pb.val (sget (fun _ => 0) d.healthTick pb.val) }
  if ok then d else d.count .repair 3

/-- SELF_TEST_DONE: `pass` tells of memories, slices and interfaces; `lf` and `mf` are the failed positions found in the chains. -/
def selfTestDoneBody (pb : Fin 112) (pass : Bool) (lf mf : List Nat) (d : Device) : Device :=
  match d.testOf pb with
  | none => d
  | some t =>
    let lf := (lf.filter fun p => p ≤ 32).eraseDups
    let mf := (mf.filter fun p => p ≤ 32).eraseDups
    let resteer := match t with
      | .service _ b => b
      | _ => false
    let ok := pass && d.chainStands pb false resteer lf && d.chainStands pb true resteer mf
    let score := d.rd (.pbay pb) fPbayHealthScore
    let d := d.testResult pb ok resteer lf mf
    match t with
    | .prepare r => if ok then d.migArm r else (d.markFailed pb).migEnd r wsNoSpare false
    | .retire r => if d.migPhase r = 4 then d.placeBay pb (ok && decide (d.rd .repair fRepairPolicyFailAt ≤ score)) else d
    | .retireCall n => (d.placeBay pb ok).respond n wsOk []
    | .periodic =>
      (if ok then (if d.steerCode pb.val = codeOut then d.setSteerCode pb.val codePool else d) else d.markFailed pb).poolOff
    | .service n _ =>
      let pos (l : List Nat) : Nat := l.headD 63
      let data := pos lf + pos mf * 256 + (if ok then 2 ^ 31 else 0)
      let d := if !ok then d.markFailed pb
        else if d.steerCode pb.val = codeOut then d.placeBay pb true
        else d
      (d.poolOff).respond n wsOk [data]

/-- SELF_TEST_DUE: the wardens test due spares, one row at a time, in SERVICE and DROWSE (R354). -/
def selfTestDueBody (pb : Fin 112) (d : Device) : Device :=
  if (d.mode = mService ∨ d.mode = mDrowse) ∧ d.wardenDead = false ∧ d.steerCode pb.val = codePool ∧
      d.migPhase (pb.val / 14) = 0 ∧ d.testDue pb = true ∧ d.flag (.pbay pb) fPbayBayCfgStateInPr = false ∧
      (d.tests.all fun e => e.2.isNone) = true then d.startTest pb .periodic
  else d

/-! ### Health (R353, R355) -/

/-- Seconds in 24 h. -/
def dayTicks : Nat := 86400

/-- Rows of a bay with 16 or more corrected errors in the last 24 h. -/
def Device.badRows (d : Device) (pb : Fin 112) : Nat :=
  let now := sget (fun _ => 0) d.healthTick pb.val
  (d.fixes.filter fun e => e.1 / 65536 == pb.val && decide (16 ≤ e.2.length) &&
    e.2.all fun t => decide (now < t + dayTicks)).length

/-- The score of a physical bay. -/
def Device.score (d : Device) (pb : Fin 112) (drift : Nat) : Nat :=
  let pg := PageRef.pbay pb
  100 - (2 * (drift - 40) / 5 + 10 * d.badRows pb + 20 * (d.stuckSeen.filter fun e => e.1 / 2 ^ 24 == pb.val).length +
    (if d.flag pg fPbayBayCfgStateDegraded then 70 else 0) + (if d.flag pg fPbayHealthTestFailed then 100 else 0))

/-- The first place of the largest of a list. -/
def worstOf (l : List Nat) : Nat := (l.findIdx? fun x => x == l.foldl max 0).getD 0

/-- HEALTH_UPDATE: the once-a-second reading of a bay's 16 sensors. -/
def healthUpdateBody (pb : Fin 112) (drift : List Byte) (d : Device) : Device :=
  if d.fabricOn = false ∨ sget (fun _ => false) d.bayOff pb.val = true then d
  else
    let pg := PageRef.pbay pb
    let ds := (List.range 16).map fun i => ((drift[i]?).getD 0).toNat
    let d := (List.range 4).foldl (fun (d : Device) (i : Nat) =>
      d.put pg fPbayDrift (natLE (((List.range 4).map fun j => BitVec.ofNat 8 ((ds[4 * i + j]?).getD 0)))) i) d
    let tick := sget (fun _ => 0) d.healthTick pb.val + 1
    let d := { d with healthTick := sset (fun _ => 0) d.healthTick pb.val tick }
    let d := if d.flag pg fPbayHealthTested then
        d.put pg fPbayHealthTestAge (min 0xFFFF ((tick - sget (fun _ => 0) d.testTick pb.val) / 60))
      else d
    let old := d.rd pg fPbayHealthScore
    let new : Nat := d.score pb (ds.foldl max 0)
    let at_ : Nat := d.rd .repair fRepairPolicyMigrateAt
    let d := (d.put pg fPbayHealthWorst (worstOf ds)).put pg fPbayHealthScore new
    let d := if new < at_ ∧ at_ ≤ old then d.raise .repair cRepairHealthLow else d
    d.policyCheck pb

/-! ### Warden cores (R356) -/

/-- WARDEN_RESYNC: core `c` dissents. -/
def wardenResyncBody (c : Fin 3) (d : Device) : Device :=
  if d.wardenDead then d
  else ((d.put .repair fRepairWardenStatusDissent (2 ^ c.val)).raise .repair cRepairWardenResync).count .repair 2

/-- WARDEN_LOST: every service in progress ends FAILED, and the device enters FAULT_HOLD. -/
def wardenLostBody (d : Device) : Device :=
  if d.wardenDead then d
  else
    let d := (d.put .repair fRepairWardenStatusDissent 7).raise .repair cRepairWardenLost
    let d := { d with migs := d.migs.map fun (e : Nat × Option MigSt) => match e.2 with
        | some m => (e.1, some { m with mbx := none })
        | none => e }
    let d := (List.range 4).foldl (fun (d : Device) (n : Nat) => d.respond n wsFailed []) d
    d.signal (.faultHold 6)

end Sys2Proof.Machine
end

