-- ==== Sys2Proof/Machine/Services.lean ====
section
/-! DEFINITION. The warden services (R346, R352, R369 to R371, R276, R296): each runs the request at the head of its mailbox. -/

namespace Sys2Proof.Config

open Sys2Proof.Machine

/-- Entry 16. The repair record that 4 KiB of host memory spell; none: its message authentication code fails (R352). The manual
gives neither the layout nor the code. -/
opaque recordOf : List Byte → Option RepairRecord

/-- Entry 16. Byte `i` of the 4 KiB that spell a repair record. -/
opaque recordByte : RepairRecord → Nat → Byte

end Sys2Proof.Config

namespace Sys2Proof.Machine

open Sys2Proof

/-- The request of service `code` that mailbox `n` has started and not judged yet. -/
def Device.serviceReq (d : Device) (n : Fin 4) (code : Nat) : Option (List Word) :=
  let m := d.mailbox n.val
  match m.running with
  | some ws => if reqService ws = code ∧ m.started = false then some ws else none
  | none => none

/-- The request waits for an event that ends it. -/
def Device.serviceWaits (d : Device) (n : Fin 4) : Device := d.setMailbox n.val { d.mailbox n.val with started := true }

/-! ### Host memory of a service (R151, R165, R369, R372) -/

/-- The initiator number of the warden cores at the CORE node; core c has number c. -/
def iniWarden : Nat := 2

/-- What is left of a service's reads or writes is under way while tags are free; with NODE_CORE unassigned, the mesh off, or an address
that cannot be reached, the next one ends in an error at once (R151, R199, R389). -/
def Device.wardenPump : Nat → Nat → Device → Device
  | 0, _, d => d
  | fuel + 1, n, d =>
    let m := d.mailbox n
    match m.job with
    | none => d
    | some j =>
      if j.bad || decide (j.len ≤ j.asked) then d
      else if d.nodeId .core == 0x3FF || !d.meshUp || decide (2 ^ 54 < j.addr + j.len) then
        d.setMailbox n { m with job := some { j with bad := true } }
      else
        match d.freeTag .core 0x200 256 with
        | none => d
        | some t =>
          let a := j.addr + j.asked
          let size := min (min 256 (j.len - j.asked)) (4096 - a % 4096)
          let data := if j.write then (j.data.drop j.asked).take size else []
          let p := sealHeader { dst := d.nodeId .host, src := d.nodeId .core, cls := 0, op := if j.write then 0x01 else 0x00
                                len := BitVec.ofNat 8 (size - 1), tag := BitVec.ofNat 12 t, laddr := BitVec.ofNat 54 a, ord := false
                                prio := 0, ch := false, v := true, lock := false, rsv := 0, hcrc := 0, payload := data
                                flits := flitCount data.length }
          let r : Req := { dst := p.dst, op := p.op, laddr := p.laddr, len := p.len, phase := .active, cont := .warden n j.asked }
          let d := d.setMailbox n { m with job := some { j with asked := j.asked + size, out := j.out + 1 } }
          Device.wardenPump fuel n ((d.setReq .core t (some r)).inject .core iniWarden p)

/-- Every mailbox's service goes on. -/
def Device.wardensGo (d : Device) : Device := (List.range 4).foldl (fun (d : Device) (n : Nat) => Device.wardenPump 256 n d) d

/-- A request of a service has ended. -/
def Device.wardenDone (d : Device) (n off status : Nat) (data : List Byte) : Device :=
  let m := d.mailbox n
  match m.job with
  | none => d
  | some j =>
    let j := { j with out := j.out - 1, bad := j.bad || status != stOk, got := if j.write then j.got else j.got ++ [(off, data)] }
    Device.wardenPump 256 n (d.setMailbox n { m with job := some j })

/-- Every read or write of a service has ended. -/
def WardenJob.ended (j : WardenJob) : Bool := j.out == 0 && (j.bad || decide (j.len ≤ j.asked))

/-- What the reads of a service have returned; none: one ended other than with OK. -/
def WardenJob.result (j : WardenJob) : Option (List Byte) := if j.bad then none else some (collect j.got.length 0 j.got)

/-- The address in words 2 and 3 of a request. -/
def reqAddr (ws : List Word) : Nat := reqWord ws 2 + 2 ^ 32 * reqWord ws 3

/-- A service begins to read or write host memory. -/
def Device.wardenBegin (d : Device) (n : Fin 4) (write : Bool) (addr len : Nat) (data : List Byte) : Device :=
  let j : WardenJob := { write := write, addr := addr, len := len, data := data, asked := 0, out := 0, got := [], bad := false }
  Device.wardenPump 256 n.val (d.setMailbox n.val { d.mailbox n.val with started := true, job := some j })

/-- The request of service `code` that mailbox `n` has started, and what its reads or writes came to; none: it has not started, or
some have not ended. -/
def Device.serviceDone (d : Device) (n : Fin 4) (code : Nat) : Option (List Word × WardenJob) :=
  let m := d.mailbox n.val
  match m.running, m.job with
  | some ws, some j => if reqService ws = code ∧ m.started = true ∧ j.ended = true then some (ws, j) else none
  | _, _ => none

/-! ### Golden streams (R346, R359) -/

/-- What a golden stream comes to: a status of R371, the abort reason, the frames held. -/
structure GoldenResult where
  status : Nat
  reason : Nat
  frames : List (Nat × List DWord × DWord)
  deriving DecidableEq, Repr

/-- Judge a golden stream (R346): `copy` after the run, against the device as it stands. -/
def Device.goldenJudge (d : Device) (stream : List Byte) : GoldenResult :=
  let start := d.streamCopy stream
  -- WINDOW is the first record of a PARTIAL stream: the run stops being of interest where it names a busy bay.
  let c := Device.streamRun (4 * stream.length + 64) start
  let reason := c.rd .cfg fCfgLoadStatusReason
  let bays := c.load.written ++ c.streamWindow
  let busy := bays.any fun p =>
    d.flag (.pbay (Fin.ofNat 112 p)) fPbayBayCfgStateInPr || d.flag (.pbay (Fin.ofNat 112 p)) fPbayBayCfgStateHeld
  let form := match c.load.hdr with
    | some h => h.cls == 1 && h.kind == 1 && !h.absolute
    | none => true
  if busy || reason == abBusy then { status := wsBusy, reason := 0, frames := [] }
  else if c.flag .cfg cCfgLoadFailed then
    { status := if reason = abKey ∨ reason = abAuth then wsAuth else wsFailed, reason := reason, frames := [] }
  else if !c.flag .cfg cCfgLoadDone then { status := wsFailed, reason := abSource, frames := [] }
  else if !form then { status := wsFailed, reason := abHeader, frames := [] }
  else
    let has (p : Nat) : Bool := match d.logicalOf (Fin.ofNat 112 p) with
      | some n => !(d.goldenOf n.val).isEmpty
      | none => false
    if bays.any has then { status := wsOk, reason := 0, frames := c.load.caught }
    else { status := wsInvalid, reason := 0, frames := [] }

/-- GOLDEN (R346): the service begins to read its stream; at its end, when every read has ended, the stream is judged, and every held
frame is written in place. -/
def goldenBody (n : Fin 4) (ends : Bool) (d : Device) : Device :=
  match ends, d.serviceReq n 6, d.serviceDone n 6 with
  | false, some ws, _ => d.wardenBegin n false (reqAddr ws) (reqWord ws 4) []
  | true, _, some (_, j) =>
    (match j.result with
      | none => d.respond n.val wsFailed []
      | some bytes =>
        let g := d.goldenJudge bytes
        let d := g.frames.foldl (fun (d : Device) (e : Nat × List DWord × DWord) => d.goldenWrite e.1 e.2.1 e.2.2) d
        d.respond n.val g.status [g.reason])
  | _, _, _ => d

/-- WINDOW (R18, R298, R330, R346): a stream whose window names a bay of a GOLDEN call under way is rejected like one in migration. -/
def windowRecordBody (d : Device) : Device :=
  let e := windowBody d
  match d.takeRecord rtWindow with
  | some (_, t) =>
    if (e.load.window.getD []).any fun p => d.goldenCalls.contains p then (t.raise .cfg cCfgPrBusy).loadAbort abBusy else e
  | none => e

/-! ### MIGRATE, RETIRE, SELF_TEST -/

/-- A migration that a service has begun: its stream, if words 2 and 3 name one, is read during prepare (R359). -/
def Device.migrateAccept (d : Device) (n : Fin 4) (ws : List Word) (lb : Fin 104) (p : Fin 112) : Device :=
  let stream := !(reqWord ws 2 == 0 && reqWord ws 3 == 0)
  let d := (d.serviceWaits n).migStart lb p { mbx := some n.val, stream := stream, golden := [], goldenStatus := wsOk, due := none
                                              holding := none, cloned := 0, since := 0 }
  if stream then d.wardenBegin n false (reqAddr ws) (reqWord ws 4) [] else d

/-- MIGRATE of the bay that a request names (R358). -/
def migrateBody (n : Fin 4) (bay : Fin 128) (d : Device) : Device :=
  match d.serviceReq n 1 with
  | none => d
  | some ws =>
    let b := bay.val
    if reqWord ws 1 % 128 ≠ b then d
    else if h : b < 104 then
      let lb : Fin 104 := ⟨b, h⟩
      let st := d.migJudge lb
      if st ≠ wsOk then
        let d := if st = wsNoSpare then d.raise .repair cRepairNoSpare else d
        d.respond n.val st []
      else
        match d.freeBay (b / 13) with
        | none => d.respond n.val wsNoSpare []
        | some p => d.migrateAccept n ws lb p
    else d.respond n.val wsInvalid []

/-- The stream of a row's migration is still being read. -/
def Device.streamReading (d : Device) (m : MigSt) : Bool :=
  m.stream && match m.mbx.bind fun n => (d.mailbox n).job with
    | some j => !j.ended
    | none => false

/-- What the stream of a migration of logical bay `n` comes to (R346, R359): judged as a GOLDEN call would judge it, the migration itself
being no hindrance. -/
def Device.migrateStream (d : Device) (r n : Nat) (m : MigSt) : GoldenResult :=
  if !m.stream then { status := wsOk, reason := 0, frames := [] }
  else
    match (m.mbx.bind fun k => (d.mailbox k).job).bind WardenJob.result with
    | none => { status := wsFailed, reason := 0, frames := [] }
    | some bytes =>
      let g := (d.put .repair fRepairMigStatePhase 0 r).goldenJudge bytes
      { g with frames := g.frames.filter fun e => (frameAddrOf e.1).bay == n }

/-- CLONE_DONE: the clone, and pass 0 of the mirror with it; it waits for the stream that the request named. Rows `left` are those that a
port wrote after they were copied, or as they were: they stay dirty, and the cut or a later pass copies them (R103, R359, R360). -/
def cloneDoneBody (row : Fin 8) (left : List Nat) (image : Bool) (d : Device) : Device :=
  let r := row.val
  match d.mig r with
  | none => d
  | some m =>
    let src := d.migSource r
    let dst := d.migTarget r
    if d.migPhase r ≠ 1 ∨ (d.testOf dst).isSome ∨ d.streamReading m = true then d
    else
      let g := d.migrateStream r (d.rd .repair fRepairMigStateLogical r) m
      let d := d.setMig r (some { m with stream := false, golden := g.frames, goldenStatus := g.status })
      let d := d.cloneRest src dst m.cloned ((d.dirtyRows src).filter fun i => left.contains i)
      let d := g.frames.foldl (fun (d : Device) (e : Nat × List DWord × DWord) =>
        let a := frameAddrOf e.1
        d.writeFrame dst a.typ a.major a.minor e.2.1 e.2.2) d
      ((d.applySettings dst).put .repair fRepairMigStatePhase 2 r).passOver r image

/-- The physical bay that RETIRE and SELF_TEST name, or the status that turns the request away. -/
def Device.bayRequest (d : Device) (ws : List Word) : Nat ⊕ Fin 112 :=
  let p := reqWord ws 1 % 128
  if h : p < 112 then
    let pb : Fin 112 := ⟨p, h⟩
    let r := p / 14
    let target := d.migPhase r ≠ 0 && d.migPhase r < 4 && d.migTarget r == pb
    if (d.logicalOf pb).isSome || target || (d.testOf pb).isSome then .inl wsBusy
    else if d.fabricOn = false then .inl wsDenied
    else .inr pb
  else .inl wsInvalid

/-- RETIRE (R354, R363, R370). -/
def retireBody (n : Fin 4) (d : Device) : Device :=
  match d.serviceReq n 2 with
  | none => d
  | some ws =>
    match d.bayRequest ws with
    | .inl st => d.respond n.val st []
    | .inr pb =>
      if (reqWord ws 1).testBit 8 then (d.retireBay pb false).respond n.val wsOk []
      else (d.serviceWaits n).startTest pb (.retireCall n.val)

/-- SELF_TEST (R354, R370). -/
def selfTestBody (n : Fin 4) (d : Device) : Device :=
  match d.serviceReq n 3 with
  | none => d
  | some ws =>
    match d.bayRequest ws with
    | .inl st => d.respond n.val st []
    | .inr pb => (d.serviceWaits n).startTest pb (.service n.val ((reqWord ws 1).testBit 8))

/-! ### LOAD_KEY (R276, R296, R370) -/

/-- How a LOAD_KEY ends: KEYS.LAST_LOAD, the cause and the tally leaf of its outcome. -/
def Device.keyOutcome (d : Device) (n : Fin 4) (ws : List Word) (status leaf : Nat) (f : Fld) : Device :=
  let w := reqWord ws 1
  let d := (d.put .keys fKeysLastLoadIndex (w % 256)).put .keys fKeysLastLoadSlot (natBits w 8 1)
  let d := (d.put .keys fKeysLastLoadTarget (natBits w 12 1)).put .keys fKeysLastLoadSource (natBits w 16 1)
  let d := (d.put .keys fKeysLastLoadStatus status).put .keys fKeysLastLoadValid 1
  ((d.raise .keys f).count .keys leaf).respond n.val status []

/-- The link whose slots a curtain engine's number names: its own, or the one that a spare serves. -/
def Device.keyLink (d : Device) (e : Nat) : Option (Fin 144) :=
  if h : e < 144 then some ⟨e, h⟩
  else (List.finRange 144).find? fun l => d.rd (curPage l) fCurCurStatusEngine == e

/-- LOAD_KEY. -/
def loadKeyBody (n : Fin 4) (d : Device) : Device :=
  match d.serviceReq n 4 with
  | none => d
  | some ws =>
    let w := reqWord ws 1
    let e := w % 256
    let slot := w.testBit 8
    let ram := w.testBit 12
    let wrapped := w.testBit 16
    let from_ := reqWord ws 2
    let bytes := (List.range 10).flatMap fun i => (bytesLE 4 (reqWord ws (2 + i))).map (·.toNat)
    let key := if wrapped then keyUnwrap Config.wrapKey bytes else d.sealedKey from_
    if (if ram then decide (e < 4 ∨ 11 < e) else decide (155 < e)) || (!wrapped && decide (11 < from_)) then
      d.keyOutcome n ws wsInvalid 1 cKeysKeyRefused
    else
      let link := if ram then none else d.keyLink e
      let refusal : Option Nat := match link with
        | some l =>
          if d.flag (curPage l) fCurCurStatusRollBusy then some wsBusy
          else if slot = d.curCurrent l ∧ d.curMode l ≠ 0 then some wsDenied else none
        | none => none
      match refusal with
      | some st => d.keyOutcome n ws st 1 cKeysKeyRefused
      | none =>
        match key with
        | none =>
          if wrapped then d.keyOutcome n ws wsAuth 2 cKeysUnwrapFail else d.keyOutcome n ws wsFailed 3 cKeysSealEmpty
        | some k =>
          let d := if ram then { d with keyRam := sset (fun _ => none) d.keyRam e (some k) }
            else
              match link with
              | some l =>
                let c := d.cur l
                d.setCur l (if slot then { c with key1 := some k } else { c with key0 := some k })
              | none => d
          d.keyOutcome n ws wsOk 0 cKeysKeyLoaded

/-! ### LOAD_SUBSTRATE (R215, R370) -/

/-- The substrate fields of so many links are written and committed link by link; the second part counts the COMMITs refused (R215). -/
def Device.substrateService (d : Device) (first count : Nat) (bytes : List Byte) : Device × Nat :=
  (List.range count).foldl (fun (acc : Device × Nat) (i : Nat) =>
    let l : Fin 144 := Fin.ofNat 144 (first + i)
    let busy := acc.1.flag (.txl l) hdrCommitBusy
    let d := acc.1.substrateLink l (bytes.drop (64 * i))
    (d, if !busy && d.flag (.txl l) hdrCommitBusy then acc.2 else acc.2 + 1)) (d, 0)

/-- LOAD_SUBSTRATE: 16 words a link are read; at the service's end they are written and committed, and RESP_DATA0 counts the links
refused. -/
def loadSubstrateBody (n : Fin 4) (ends : Bool) (d : Device) : Device :=
  match ends, d.serviceReq n 5, d.serviceDone n 5 with
  | false, some ws, _ =>
    let first := reqWord ws 1 % 256
    let count := natBits (reqWord ws 1) 8 8
    if count = 0 ∨ 144 < first + count then d.respond n.val wsInvalid []
    else d.wardenBegin n false (reqAddr ws) (64 * count) []
  | true, _, some (ws, j) =>
    (match j.result with
      | none => d.respond n.val wsFailed []
      | some bytes =>
        let r := d.substrateService (reqWord ws 1 % 256) (natBits (reqWord ws 1) 8 8) bytes
        r.1.respond n.val wsOk [r.2])
  | _, _, _ => d

/-! ### RESTORE (R351, R370) -/

/-- The detoured outputs that concern a router: its own, and its neighbours' towards it (R190). -/
def routerOutputs (plane x y : Nat) : List Nat :=
  ((List.range 8).map fun o => outKey plane x y o) ++
    [outKey plane (x - 1) y 0, outKey plane (x + 1) y 1, outKey plane x (y - 1) 2, outKey plane x (y + 1) 3]

/-- RESTORE: `pass` is the element's self-test. -/
def restoreBody (n : Fin 4) (pass : Bool) (d : Device) : Device :=
  match d.serviceReq n 7 with
  | none => d
  | some ws =>
    let w := reqWord ws 1
    let index := natBits w 8 8
    let x := natBits w 8 4
    let y := natBits w 12 4
    let plane := natBits w 16 1
    let outs := routerOutputs plane x y
    let back : Option Device := match w % 16 with
      | 1 => if index ≤ 4 ∧ d.flag .clk fClkSrcStatusTwinDegraded index = true then
          some (d.lower .clk fClkSrcStatusTwinDegraded index) else none
      | 2 => if y ≤ 9 ∧ outs.any (fun k => sget (fun _ => false) d.detours k) = true then
          some { d with detours := outs.foldl (fun m k => sset (fun _ => false) m k false) d.detours } else none
      | 3 => if index ≤ 155 ∧ sget (fun _ => 0) d.engines index = 2 then
          some (d.setEngine index 0) else none
      | _ => none
    match back with
    | none => d.respond n.val wsInvalid []
    | some b => if pass then (b.raise .repair cRepairRestored).respond n.val wsOk [] else d.respond n.val wsFailed []

/-! ### The repair record (R352, R370) -/

/-- The offsets of the registers that the record holds: steering, column steering, health, lanes, PLL twins. -/
def recordKeys : List Nat :=
  ((List.range 16).map fun i => pageBase .repair + 0x080 + 4 * i) ++
    (List.finRange 112).flatMap (fun p => [pageBase (.pbay p) + 0x060, pageBase (.pbay p) + 0x0C0]) ++
    (List.finRange 144).flatMap (fun l => [pageBase (.txl l) + 0x080, pageBase (.txl l) + 0x084]) ++
    (List.range 5).map (fun s => fldKey .clk fClkSrcStatusTwinDegraded s)

/-- The record as the warden cores keep it. -/
def Device.record (d : Device) : RepairRecord :=
  { regs := recordKeys.map fun k => (k, d.word k), detours := d.detours, engines := d.engines }

/-- The bits of a register that a record sets: of a lane register the failed lanes and the lane map, of a source its twin. -/
def recordMask (k : Nat) : Word :=
  if k / 0x1000 < 0x300 then (if k / 0x1000 = 1 then 6 else 0xFFFFFFFF)
  else if k % 0x1000 = 0x080 then 0x177F else 0x171F

/-- Apply a record (R225, R352). -/
def Device.applyRecord (d : Device) (r : RepairRecord) : Device :=
  let d := (r.regs.filter fun e => recordKeys.contains e.1).foldl (fun (d : Device) (e : Nat × Word) =>
    let m := recordMask e.1
    d.setWord e.1 ((d.word e.1 &&& ~~~m) ||| (e.2 &&& m))) d
  { d with detours := r.detours.foldl (fun m e => sset (fun _ => false) m e.1 e.2) []
           engines := r.engines.foldl (fun m e => sset (fun _ => 0) m e.1 e.2) [] }

/-- RECORD_EXPORT: the 4 KiB of the record are written to host memory; the service ends when every write has ended. -/
def recordExportBody (n : Fin 4) (ends : Bool) (d : Device) : Device :=
  match ends, d.serviceReq n 8, d.serviceDone n 8 with
  | false, some ws, _ => d.wardenBegin n true (reqAddr ws) 4096 ((List.range 4096).map (Config.recordByte d.record))
  | true, _, some (_, j) => d.respond n.val (if j.bad then wsFailed else wsOk) []
  | _, _, _ => d

/-- RECORD_IMPORT: `bytes` is what the reads returned, none where one failed. It runs in DOORWAY, where neither the mesh nor PF1 runs: how
its reads reach the host the manual does not say, and their outcome is an operand (DESIGN CHOICE, entry 83). -/
def recordImportBody (n : Fin 4) (bytes : Option (List Byte)) (d : Device) : Device :=
  match d.serviceReq n 9 with
  | none => d
  | some _ =>
    if n.val ≠ 0 ∨ d.mode ≠ mDoorway then d.respond n.val wsDenied []
    else
      match bytes with
      | none => d.respond n.val wsFailed []
      | some bs =>
        match Config.recordOf bs with
        | none => d.respond n.val wsAuth []
        | some r =>
          let d := { d.applyRecord r with recordPending := false }
          (d.raise .repair fRepairRecordLoaded).respond n.val wsOk []

end Sys2Proof.Machine
end

