-- ==== Sys2Proof/Machine/Ram.lean ====
section
/-! DEFINITION. Memories of 64-bit words with the SECDED code of R85 that are read and written by bytes: the tightly coupled
memories (R404) and porter RAM (R420). -/

namespace Sys2Proof.Machine

open Sys2Proof

/-- An unlisted word holds 0 with valid check bits (entry 5). -/
def ramDflt : Nat → BitVec 72 := fun _ => 0

abbrev Ram := Sparse (BitVec 72)

/-- The words that `len` bytes from byte address `a` on lie in. -/
def ramSpan (a len : Nat) : List Nat := (List.range ((a % 8 + len + 7) / 8)).map (a / 8 + ·)

/-- The eight bytes of a word, a single error put right. -/
def rowBytes (r : BitVec 72) : List Byte := bytesLE 8 ((eccFix r).toNat % 2 ^ 64)

/-- The words of an access that hold a single error, and those that cannot be corrected. -/
def ramCorrected (m : Ram) (a len : Nat) : List Nat :=
  (ramSpan a len).filter fun k => eccVerdict (sget ramDflt m k) == .corrected
def ramBad (m : Ram) (a len : Nat) : List Nat :=
  (ramSpan a len).filter fun k => eccVerdict (sget ramDflt m k) == .bad

/-- The bytes of an access. -/
def ramBytes (m : Ram) (a len : Nat) : List Byte :=
  (((ramSpan a len).flatMap fun k => rowBytes (sget ramDflt m k)).drop (a % 8)).take len

/-- Write corrected words back (R404). -/
def ramFix (m : Ram) (ks : List Nat) : Ram :=
  ks.foldl (fun m k => sset ramDflt m k (eccFix (sget ramDflt m k))) m

/-- Bytes laid over the bytes of a word from byte `i` on. -/
def overlay (old : List Byte) (i : Nat) (new : List Byte) : List Byte :=
  (List.range 8).map fun j => if i ≤ j ∧ j < i + new.length then new.getD (j - i) 0 else old.getD j 0

/-- The part of an access that lies in word `k`: first byte in the word, and the bytes. -/
def ramPart (a : Nat) (bytes : List Byte) (k : Nat) : Nat × List Byte :=
  if 8 * k < a then (a - 8 * k, bytes.take (8 - (a - 8 * k))) else (0, (bytes.drop (8 * k - a)).take 8)

/-- Words of an access that it does not cover whole. -/
def ramPartial (a len : Nat) : List Nat :=
  (ramSpan a len).filter fun k => decide (8 * k < a) || decide (a + len < 8 * k + 8)

/-- A partial write meets a word that cannot be corrected (R404). -/
def ramRefuses (m : Ram) (a len : Nat) : Bool :=
  (ramPartial a len).any fun k => eccVerdict (sget ramDflt m k) == .bad

/-- Write bytes: a word that is covered whole is replaced, another is read, corrected and merged (R404). -/
def ramWrite (m : Ram) (a : Nat) (bytes : List Byte) : Ram :=
  (ramSpan a bytes.length).foldl (fun m k =>
    let p := ramPart a bytes k
    sset ramDflt m k (eccRow (natLE (overlay (rowBytes (sget ramDflt m k)) p.1 p.2)))) m

/-- Flip one bit of a word. -/
def ramFlip (m : Ram) (k bit : Nat) : Ram :=
  sset ramDflt m k (BitVec.ofNat 72 (Nat.xor (sget ramDflt m k).toNat (2 ^ bit)))

end Sys2Proof.Machine
end

