-- ==== Sys2Proof/Machine/Porter.lean ====
section
/-! DEFINITION. The porter: task descriptors in porter RAM, the moves of a task, the choice of the next one, events, the tick and
the trace (R420 to R432). -/

namespace Sys2Proof.Machine

open Sys2Proof

/-! ### Packets of the CORE node -/

/-- A packet from NODE_CORE to a global address; `attr` holds ORD, PRIO and CH as bits 0, 2:1 and 3. -/
def Device.corePacket (d : Device) (cls op addr len attr : Nat) (data : List Byte) : Packet :=
  { dst := BitVec.ofNat 10 (addr / 2 ^ 54), src := d.nodeId .core, cls := BitVec.ofNat 2 cls, op := BitVec.ofNat 6 op
    len := BitVec.ofNat 8 (len - 1), tag := 0, laddr := BitVec.ofNat 54 addr, ord := attr.testBit 0
    prio := BitVec.ofNat 2 (attr / 2), ch := attr.testBit 3, v := true, lock := false, rsv := 0, hcrc := 0, payload := data
    flits := flitCount data.length }

/-- Issue a posted packet; with NODE_CORE unassigned, or no mesh to carry it, it is discarded (R151, R459). -/
def Device.corePosted (d : Device) (ini : Nat) (p : Packet) : Device :=
  if d.nodeId .core == 0x3FF || !d.meshUp then d.postedDrop else d.inject .core ini (sealHeader p)

/-- The porter's number among the initiators behind the CORE node. -/
def iniPorter : Nat := 2

/-! ### Descriptors (R420, R422) -/

/-- Task states (R420). -/
def tFree : Nat := 0
def tBlocked : Nat := 1
def tReady : Nat := 2
def tRunning : Nat := 3
def tDelayed : Nat := 4

/-- Bytes of a descriptor, by 32-bit word `i`. -/
def Device.taskWord (d : Device) (t i : Nat) : Nat :=
  natBits (eccFix (sget ramDflt d.porterRam (8 * t + i / 2))).toNat (32 * (i % 2)) 32

/-- The porter writes 32-bit word `i` of a descriptor; a word that cannot be corrected keeps its error. -/
def Device.setTaskWord (d : Device) (t i v : Nat) : Device :=
  if eccVerdict (sget ramDflt d.porterRam (8 * t + i / 2)) = .bad then d
  else { d with porterRam := ramWrite d.porterRam (64 * t + 4 * i) (bytesLE 4 v) }

def Device.taskPrio (d : Device) (t : Nat) : Nat := natBits (d.taskWord t 0) 0 5
def Device.taskState (d : Device) (t : Nat) : Nat := natBits (d.taskWord t 0) 5 3
def Device.taskPending (d : Device) (t : Nat) : Nat := natBits (d.taskWord t 0) 16 8
def Device.taskWake (d : Device) (t : Nat) : Nat := d.taskWord t 4
def Device.readyTick (d : Device) (t : Nat) : Nat := d.taskWord t 5

/-- AFFINITY allows core `c`; 0b00 acts as 0b11. -/
def Device.taskAllows (d : Device) (t c : Nat) : Bool :=
  let a := natBits (d.taskWord t 0) 8 2
  a == 0 || a.testBit c

/-- Replace a field of the first word of a descriptor. -/
def Device.setTask (d : Device) (t lo n v : Nat) : Device :=
  d.setTaskWord t 0 (setBits (BitVec.ofNat 32 (d.taskWord t 0)) lo n v).toNat

def Device.setState (d : Device) (t v : Nat) : Device := d.setTask t 5 3 v
def Device.setTaskPending (d : Device) (t v : Nat) : Device := d.setTask t 16 8 v

def Device.tick (d : Device) : Nat := d.rd .porter fPorterTickCount

/-! ### The trace (R428, R429) -/

/-- Write a burst of eight records to the ring in memory. -/
def Device.traceBurst (d : Device) : Device :=
  let rs := d.porter.burst
  if rs.isEmpty then d
  else
    let base := d.rd .porter fPorterTraceBaseLoBase * 2 ^ 6 + d.rd .porter fPorterTraceBaseHiBase * 2 ^ 32
    let log := d.rd .porter fPorterTraceCtrlStreamLog2
    let at_ := base + d.porter.wptr % 2 ^ log / 8 * 64
    let bytes := (rs ++ List.replicate (8 - rs.length) 0).flatMap fun (r : DWord) => bytesLE 8 r.toNat
    let d := { d with porter := { d.porter with burst := [], wptr := d.porter.wptr + rs.length } }
    d.corePosted iniPorter (d.corePacket 2 0x10 at_ 64 0 bytes)

/-- Put a record into the ring or the burst. -/
def Device.putRecord (d : Device) (r : DWord) : Device :=
  if d.flag .porter fPorterTraceCtrlStream then
    let d := { d with porter := { d.porter with burst := d.porter.burst ++ [r] } }
    if d.porter.burst.length = 8 then d.traceBurst else d
  else if d.porter.ring.length < 1024 then { d with porter := { d.porter with ring := d.porter.ring ++ [r] } }
  else { d with porter := { d.porter with lost := d.porter.lost + 1 } }

/-- The parts of a record that its kind does not define: bits 35 (core), 33:19 (task and its priority) are free. -/
def recordWord (time kind : Nat) (core : Option Nat) (aged : Bool) (task : Option (Nat × Nat)) (detail free : Nat) : DWord :=
  BitVec.ofNat 64 (2 ^ 63 + time % 2 ^ 23 * 2 ^ 40 + kind * 2 ^ 36 + core.getD (natBits free 15 1) * 2 ^ 35 +
    aged.toNat * 2 ^ 34 +
    (match task with
      | some (t, p) => p * 2 ^ 29 + t * 2 ^ 19
      | none => natBits free 0 15 * 2 ^ 19) + detail)

/-- Whether records of a kind are written. -/
def Device.traces (d : Device) (kind : Nat) : Bool :=
  d.flag .porter fPorterTraceCtrlEn && (d.rd .porter fPorterTraceCtrlKindMask).testBit kind

/-- A decision of the porter (R428). -/
def Device.porterRecord (d : Device) (kind : Nat) (core : Option Nat) (aged : Bool) (task : Option Nat) (detail : Nat) : Device :=
  if d.traces kind then
    let d := { d with free := d.free + 1 }
    d.putRecord (recordWord d.tick kind core aged (task.map fun t => (t, d.taskPrio t)) detail (Config.freeWord d.free).toNat)
  else d

def kDispatch : Nat := 0
def kYield : Nat := 1
def kSleep : Nat := 2
def kEnd : Nat := 3
def kReady : Nat := 4
def kWake : Nat := 5
def kPend : Nat := 6
def kDrop : Nat := 7
def kReclaim : Nat := 8
def kLost : Nat := 9

/-- TRACE_POP_LO: bits 31:0 of the oldest record, not popped. -/
def Device.traceLo (d : Device) : Word := (d.porter.ring.headD 0).setWidth 32

/-- TRACE_POP_HI as a debug-attributed read finds it. -/
def Device.traceHi (d : Device) : Word := (d.porter.ring.headD 0).extractLsb' 32 32

/-- Pop the oldest record. The place it frees takes the LOST record when records have been discarded. -/
def Device.popTrace (d : Device) : Device :=
  match d.porter.ring with
  | [] => d
  | _ :: rest =>
    let d := { d with porter := { d.porter with ring := rest } }
    if d.porter.lost = 0 then d
    else
      let n := d.porter.lost
      let d := { d with porter := { d.porter with lost := 0 } }
      let d := d.raise .porter cPorterTraceLost
      let d := { d with free := d.free + 1 }
      -- A count beyond 19 bits has no stated DETAIL.
      let detail := if n < 2 ^ 19 then n else (Config.freeWord (d.free + 1)).toNat % 2 ^ 19
      d.porterRecord kLost none false none detail

/-- Clearing STREAM writes out a part-filled burst, padded with records of VALID 0 (R429). -/
def Device.traceFlush (d : Device) : Device := d.traceBurst

/-- TRACE_CTRL.STREAM has been set: TRACE_WPTR counts from here. -/
def Device.traceStart (d : Device) : Device := { d with porter := { d.porter with burst := [], wptr := 0 } }

/-! ### Lists -/

def Device.readyList (d : Device) (l : Nat) : List Nat := sget (fun _ => []) d.porter.ready l

def Device.setReady (d : Device) (l : Nat) (ts : List Nat) : Device :=
  { d with porter := { d.porter with ready := sset (fun _ => []) d.porter.ready l ts } }

/-- Every READY task, highest level first, each list from its head. -/
def Device.allReady (d : Device) : List Nat := (List.range 32).reverse.flatMap d.readyList

/-- Take a task out of the ready lists and the delay list. -/
def Device.unlist (d : Device) (t : Nat) : Device :=
  let p := d.porter
  let ready := p.ready.filterMap fun (e : Nat × List Nat) =>
    let l := e.2.filter (· != t)
    if l.isEmpty then none else some (e.1, l)
  { d with porter := { p with ready := ready, delay := p.delay.filter (· != t) } }

/-- The task enters READY, at the tail of its list (R423). -/
def Device.makeReady (d : Device) (t : Nat) : Device :=
  let d := (d.setState t tReady).setTaskWord t 5 d.tick
  let l := d.taskPrio t
  d.setReady l (d.readyList l ++ [t])

/-- How far a WAKE is from now, modulo 2^32: WAKE values already reached come first. -/
def wakeRank (now wake : Nat) : Nat := (wake + 2 ^ 31 + 2 ^ 32 - now) % 2 ^ 32

/-- A DELAYED task's WAKE has come (R427). -/
def Device.wakeDue (d : Device) (t : Nat) : Bool := decide (wakeRank d.tick (d.taskWake t) ≤ 2 ^ 31)

/-- Enter the delay list behind every task whose WAKE is not later (R427). -/
def Device.delayInsert (d : Device) (t : Nat) : Device :=
  let r := wakeRank d.tick (d.taskWake t)
  let before := d.porter.delay.takeWhile fun u => decide (wakeRank d.tick (d.taskWake u) ≤ r)
  { d with porter := { d.porter with delay := before ++ t :: d.porter.delay.drop before.length } }

/-! ### What a core holds, and its slot -/

/-- The task that core `c` holds: CUR_TASK. -/
def Device.heldTask (d : Device) (c : Nat) : Option Nat :=
  if d.flag .porter fPorterCurTaskValid c then some (d.rd .porter fPorterCurTaskTask c) else none

def Device.slot (d : Device) (c : Nat) : Option Nat := sget (fun _ => none) d.porter.slots c

/-- Fill or empty a slot; emptying notes when. -/
def Device.setSlot (d : Device) (c : Nat) (t : Option Nat) : Device :=
  let p := d.porter
  let p := { p with slots := sset (fun _ => none) p.slots c t }
  match t with
  | some _ => { d with porter := p }
  | none => { d with porter := { p with since := sset (fun _ => 0) p.since c (p.clock + 1), clock := p.clock + 1 } }

/-- A task leaves the slot it is in. -/
def Device.leaveSlot (d : Device) (t : Nat) : Device :=
  (List.range 2).foldl (fun (d : Device) (c : Nat) => if d.slot c == some t then d.setSlot c none else d) d

/-- An uncorrectable error in bytes 0 to 7 frees the task (R422). -/
def Device.descBad (d : Device) (t : Nat) : Device :=
  let row := (sget ramDflt d.porterRam (8 * t)).toNat % 2 ^ 64
  let d := (d.unlist t).leaveSlot t
  let d := (List.range 2).foldl (fun (d : Device) (c : Nat) =>
    if d.heldTask c == some t then
      let d := d.lower .porter fPorterCurTaskValid c
      { d with porter := { d.porter with noneNext := sset (fun _ => false) d.porter.noneNext c true } }
    else d) d
  let d := { d with porterRam := sset ramDflt d.porterRam (8 * t) (eccRow row) }
  (d.setState t tFree).raise .porter cPorterDescBad

/-- What a read of bytes 0 to 7 does: a single error is corrected, an uncorrectable one frees the task. -/
def Device.descCheck (d : Device) (t : Nat) : Device :=
  match eccVerdict (sget ramDflt d.porterRam (8 * t)) with
  | .good => d
  | .corrected => { d with porterRam := ramFix d.porterRam [8 * t] }
  | .bad => d.descBad t

/-- DESC_BAD: the porter meets the error. -/
def descBadBody (t : BitVec 10) (d : Device) : Device :=
  if eccVerdict (sget ramDflt d.porterRam (8 * t.toNat)) = .bad then d.descBad t.toNat else d

/-! ### Choosing the next task (R425) -/

/-- The porter dispatches: enabled, not aborted, its clock running (R424, R430). -/
def Device.dispatching (d : Device) : Bool :=
  d.flag .porter hdrEnable && d.rd .porter hdrAbortState == 0 && d.coreClock

/-- The next dispatch of core `c` is an aged one. -/
def Device.agedNext (d : Device) (c : Nat) : Bool :=
  (sget (fun _ => 0) d.porter.taken c + 1) % (d.rd .porter fPorterPorterCfgArbN) == 0

/-- The task with the smallest READY_TICK, the lower number on a tie. -/
def Device.oldest (d : Device) : List Nat → Option Nat
  | [] => none
  | t :: ts =>
    match d.oldest ts with
    | none => some t
    | some u =>
      let a := d.readyTick t
      let b := d.readyTick u
      some (if a < b then t else if b < a then u else min t u)

/-- What core `c`'s slot should hold. -/
def Device.choice (d : Device) (c : Nat) : Option Nat :=
  let cands := d.allReady.filter fun t => d.taskAllows t c && d.slot (1 - c) != some t
  if d.agedNext c then d.oldest cands else cands.head?

/-- Core `c`'s slot stays empty: the core is halted (R431). -/
def Device.slotShut (d : Device) (c : Nat) : Bool :=
  (sget (fun _ => CoreSt.fresh) d.cores c).mode == .halted

/-- Fill the slots. -/
def Device.fillSlots : Nat → Device → Device
  | 0, d => d
  | fuel + 1, d =>
    let want (c : Nat) : Option Nat := if d.slotShut c || !d.dispatching then none else d.choice c
    let w0 := want 0
    let w1 := want 1
    let clash := w0.isSome && w0 == w1
    -- The slot that has been empty longer wins, core 0 on a tie.
    let first1 := (d.slot 1).isNone &&
      ((d.slot 0).isSome || decide (sget (fun _ => 0) d.porter.since 1 < sget (fun _ => 0) d.porter.since 0))
    let d1 := if w0 != d.slot 0 && !(clash && first1) then d.setSlot 0 w0 else d
    let d2 := if w1 != d.slot 1 && !(clash && !first1) then d1.setSlot 1 w1 else d1
    if w0 == d.slot 0 && w1 == d.slot 1 then d else Device.fillSlots fuel d2

/-! ### TAKE, YIELD, SLEEP (R423, R424) -/

/-- End the task that core `c` holds (TAKE). -/
def Device.endHeld (d : Device) (c : Nat) : Device :=
  match d.heldTask c with
  | none => d
  | some t =>
    let d := d.descCheck t
    if d.heldTask c ≠ some t then d
    else
      let d := d.porterRecord kEnd (some c) false (some t) 0
      let d := d.lower .porter fPorterCurTaskValid c
      let n := d.taskPending t
      if n = 0 then d.setState t tBlocked else (d.setTaskPending t (n - 1)).makeReady t

/-- NONE (R424). -/
def takeNone : Word := 0x80000000

/-- Dispatch the task in core `c`'s slot. -/
def Device.dispatch (d : Device) (c t : Nat) : Word × Device :=
  let aged := d.agedNext c
  let wait := (d.tick + 2 ^ 32 - d.readyTick t) % 2 ^ 32
  let d := ((d.unlist t).setSlot c none).setState t tRunning
  let d := { d with porter := { d.porter with taken := sset (fun _ => 0) d.porter.taken c (sget (fun _ => 0) d.porter.taken c + 1) } }
  let d := d.count .porter 0
  let d := if aged then d.count .porter 1 else d
  let d := d.porterRecord kDispatch (some c) aged (some t) (min wait 0x7FFFF)
  let d := (d.put .porter fPorterCurTaskTask t c).raise .porter fPorterCurTaskValid c
  let d := (d.put .porter fPorterCurEntryEntry (d.taskWord t 1) c).put .porter fPorterCurArgArg (d.taskWord t 2) c
  let d := d.put .porter fPorterCurEventEvent (d.taskWord t 3) c
  (BitVec.ofNat 32 (t + d.taskPrio t * 2 ^ 10), d)

/-- TAKE: end the held task, take the one in the slot. -/
def Device.take (d : Device) (c : Nat) : Word × Device :=
  let d := d.endHeld c
  if sget (fun _ => false) d.porter.noneNext c then
    (takeNone, { d with porter := { d.porter with noneNext := sset (fun _ => false) d.porter.noneNext c false } })
  else if !d.dispatching then (takeNone, d)
  else
    match d.slot c with
    | none => (takeNone, d)
    | some t =>
      let d := d.descCheck t
      if d.slot c = some t then d.dispatch c t else (takeNone, d)

/-- YIELD. -/
def Device.yieldTask (d : Device) (c : Nat) : Device :=
  match d.heldTask c with
  | none => d
  | some t =>
    let d := d.descCheck t
    if d.heldTask c ≠ some t then d
    else ((d.porterRecord kYield (some c) false (some t) 0).lower .porter fPorterCurTaskValid c).makeReady t

/-- SLEEP for `n` ticks. -/
def Device.sleepTask (d : Device) (c n : Nat) : Device :=
  if n = 0 then d.yieldTask c
  else
    match d.heldTask c with
    | none => d
    | some t =>
      let d := d.descCheck t
      if d.heldTask c ≠ some t then d
      else
        let d := (d.porterRecord kSleep (some c) false (some t) (n % 2 ^ 19)).lower .porter fPorterCurTaskValid c
        ((d.setState t tDelayed).setTaskWord t 4 ((d.tick + n) % 2 ^ 32)).delayInsert t

/-- A core that is reset, or that locks up, gives its task back (R431). -/
def Device.reclaim (d : Device) (c : Nat) : Device :=
  match d.heldTask c with
  | none => d
  | some t =>
    let d := d.descCheck t
    if d.heldTask c ≠ some t then d
    else
      let d := d.porterRecord kReclaim (some c) false (some t) 0
      ((d.lower .porter fPorterCurTaskValid c).makeReady t).raise .porter cPorterTaskReclaimed

/-! ### Events (R423, R426, R427) -/

def evExpiry : Nat := 0x40000000

/-- The WAKE of a DELAYED task has come: READY at the tail (R427). -/
def Device.expire (d : Device) (t : Nat) : Device :=
  let d := ((d.unlist t).setTaskWord t 3 evExpiry).makeReady t
  (d.porterRecord kWake none false (some t) 0).count .porter 4

/-- An event held in PENDING; at 255 it is lost. -/
def Device.pend (d : Device) (t ev : Nat) : Device :=
  let n := d.taskPending t
  if n = 255 then (d.raise .porter cPorterPendingSat).porterRecord kDrop none false (some t) 0
  else ((d.setTaskPending t (n + 1)).setTaskWord t 3 ev).porterRecord kPend none false (some t) 0

/-- An event reaches a task; false: the task is FREE. An event that meets an expiry of the same tick comes second (R431). -/
def Device.event (d : Device) (t ev : Nat) : Device × Bool :=
  let d := d.descCheck t
  let st := d.taskState t
  if st = tBlocked then (((d.setTaskWord t 3 ev).makeReady t).porterRecord kReady none false (some t) 0, true)
  else if st = tReady ∨ st = tRunning then (d.pend t ev, true)
  else if st = tDelayed then
    if d.wakeDue t then ((d.expire t).pend t ev, true)
    else ((((d.unlist t).setTaskWord t 3 ev).makeReady t).porterRecord kReady none false (some t) 0, true)
  else (d.porterRecord kDrop none false (some t) 0, false)

/-- A MSG to NODE_CORE (R426). -/
def Device.coreMsg (d : Device) (p : Packet) : Device :=
  let a := p.laddr.toNat
  let drop (d : Device) : Device := (d.postedDrop).raise .porter cPorterDbDrop
  if 0x200000 ≤ a ∧ a < 0x210000 ∧ a % 64 = 0 then
    match d.event ((a - 0x200000) / 64) (natLE (p.payload.take 4)) with
    | (d, true) => d.count .porter 2
    | (d, false) => (drop d).count .porter 3
  else drop d

/-- Alert groups that have become pending send their events (R426). -/
def Device.groupEvents (d : Device) : Device :=
  let now := d.summary
  let fresh := now &&& ~~~d.porter.groups
  let d := { d with porter := { d.porter with groups := now } }
  if fresh = 0 ∨ d.coreClock = false then d
  else
    (List.range 32).foldl (fun (d : Device) (g : Nat) =>
      if fresh.getLsbD g && d.flag .porter fPorterCauseBindEn g then
        (d.event (d.rd .porter fPorterCauseBindTask g) (0x80000000 + g)).1
      else d) d

/-- PORTER_TICK (R427). -/
def porterTickBody (d : Device) : Device :=
  if d.coreClock then d.put .porter fPorterTickCount (d.tick + 1) else d

/-- DELAY_EXPIRY: the first task of the delay list whose WAKE has come (R427). -/
def delayExpiryBody (d : Device) : Device :=
  if !d.coreClock then d
  else
    match d.porter.delay.find? fun t => d.wakeDue t with
    | none => d
    | some t =>
      let d := d.descCheck t
      if d.taskState t = tDelayed then d.expire t else d

/-! ### TASK_CMD (R423) -/

def Device.cmdRefused (d : Device) : Device := d.raise .porter cPorterCmdRefused

/-- A write of TASK_CMD. -/
def Device.taskCmd (d : Device) (t prio op : Nat) : Device :=
  let d := d.descCheck t
  let st := d.taskState t
  if op = 1 then if st = tFree then d.setState t tBlocked else d.cmdRefused
  else if op = 2 then if st = tFree then d.cmdRefused else (d.event t 0).1
  else if op = 3 then
    if st = tBlocked ∨ st = tReady ∨ st = tDelayed then ((d.unlist t).leaveSlot t).setState t tFree else d.cmdRefused
  else if op = 4 then
    if st = tFree ∨ st = tRunning then d.cmdRefused
    else if st = tReady then
      let d := (d.unlist t).setTask t 0 5 prio
      d.setReady prio (d.readyList prio ++ [t])
    else d.setTask t 0 5 prio
  else d

/-! ### Porter RAM from the mesh (R420 to R422) -/

/-- Bytes of porter RAM that the CORE node reads; none: poisoned. -/
def Device.porterRead (d : Device) (a len : Nat) : Option (List Byte) × Device :=
  let bad := ramBad d.porterRam a len
  let bytes := ramBytes d.porterRam a len
  let d := { d with porterRam := ramFix d.porterRam (ramCorrected d.porterRam a len) }
  let d := bad.foldl (fun (d : Device) (k : Nat) => if k % 8 = 0 then d.descBad (k / 8) else d) d
  (if bad.isEmpty then some bytes else none, d)

/-- Byte `j` of a descriptor accepts a write only from the porter, or (bytes 0 and 1) only while the task is FREE (R421). -/
def porterOwned (j : Nat) : Bool := decide (2 ≤ j ∧ j < 4) || decide (12 ≤ j ∧ j < 24)

/-- The byte that a write leaves: PRIO and AFFINITY are written, STATE and reserved bits are not. -/
def descByte (j : Nat) (old new : Byte) : Byte :=
  if porterOwned j then old
  else if j = 0 then (old &&& 0xE0) ||| (new &&& 0x1F)
  else if j = 1 then (old &&& 0xFC) ||| (new &&& 0x03)
  else new

/-- A write to porter RAM by the CORE node; none: SLAVE_ERROR. -/
def Device.porterWrite (d : Device) (a : Nat) (bytes : List Byte) : Option Device :=
  let js := List.range bytes.length
  let touched := js.any fun i => decide ((a + i) % 64 < 2) && d.taskState ((a + i) / 64) != tFree
  if touched || ramRefuses d.porterRam a bytes.length then none
  else
    let old := ramBytes d.porterRam a bytes.length
    let new := js.map fun i => descByte ((a + i) % 64) (old.getD i 0) (bytes.getD i 0)
    some { d with porterRam := ramWrite d.porterRam a new }

/-- PORTER's epoch has increased: the queued work is discarded, and every descriptor is FREE with PENDING 0; the rest of each is
kept (R430). A word that nothing has written is such already. -/
def Device.porterEpoch (d : Device) : Device :=
  (d.porterRam.filter fun e => e.1 % 8 == 0).foldl (fun (d : Device) (e : Nat × BitVec 72) =>
    (d.setState (e.1 / 8) tFree).setTaskPending (e.1 / 8) 0) { d with porter := PorterSt.fresh }

/-- An abort of the PORTER page: both slots are emptied (R430). -/
def Device.porterAbort (d : Device) : Device := (d.setSlot 0 none).setSlot 1 none

end Sys2Proof.Machine
end

