-- ==== Sys2Proof/Machine/TenantDecode.lean ====
section
/-! DEFINITION. The instructions of the tenant cores: formats and opcodes (R400, R401), read from a word and written to one. -/

namespace Sys2Proof.Machine

open Sys2Proof

/-- Register-register operations, opcodes 0x01 to 0x0F in order. -/
inductive AluOp where
  | add | sub | and | or | xor | sll | srl | sra | slt | sltu | mul | mulh | mulhu | div | divu
  deriving DecidableEq, Repr

/-- Register-immediate operations, opcodes 0x10 to 0x18 in order. -/
inductive ImmOp where
  | addi | andi | ori | xori | slli | srli | srai | slti | sltiu
  deriving DecidableEq, Repr

/-- Comparisons of the branches, opcodes 0x22 to 0x27 in order. -/
inductive Cond where
  | eq | ne | lt | ge | ltu | geu
  deriving DecidableEq, Repr

/-- Sizes of the stores, opcodes 0x1F to 0x21. -/
inductive StoreSize where
  | b | h | w
  deriving DecidableEq, Repr

/-- Atomics, opcodes 0x2C to 0x2E. -/
inductive AtomicOp where
  | fadd | swap | cas
  deriving DecidableEq, Repr

/-- A register number. -/
abbrev RegNo := BitVec 4

/-- An instruction word of a defined opcode whose fields marked 0 are 0 (R400, R401). -/
inductive CoreInsn where
  | alu (op : AluOp) (rd ra rb : RegNo)
  | imm (op : ImmOp) (rd ra : RegNo) (v : BitVec 18)
  | lui (rd : RegNo) (v : BitVec 22)
  | load (k : LoadKind) (rd ra : RegNo) (v : BitVec 18)
  | store (k : StoreSize) (rd ra : RegNo) (v : BitVec 18)
  | branch (k : Cond) (ra rb : RegNo) (off : BitVec 18)
  | jal (off : BitVec 26)
  | jalr (rd ra : RegNo) (v : BitVec 18)
  | ldx (rd ra : RegNo)
  | stx (rd ra rb : RegNo)
  | atomic (op : AtomicOp) (rd ra rb : RegNo)
  | msg (rd ra rb : RegNo)
  | mfence
  | mfc (rd : RegNo) (cr : BitVec 6)
  | mtc (ra : RegNo) (cr : BitVec 6)
  | trap (code : BitVec 8)
  | rfe
  | wfi
  | take (rd : RegNo)
  | yield
  | sleep (ra : RegNo)
  deriving DecidableEq, Repr

/-! ### Opcode numbers -/

def AluOp.code : AluOp → BitVec 6
  | .add => 0x01 | .sub => 0x02 | .and => 0x03 | .or => 0x04 | .xor => 0x05 | .sll => 0x06 | .srl => 0x07 | .sra => 0x08
  | .slt => 0x09 | .sltu => 0x0A | .mul => 0x0B | .mulh => 0x0C | .mulhu => 0x0D | .div => 0x0E | .divu => 0x0F

def ImmOp.code : ImmOp → BitVec 6
  | .addi => 0x10 | .andi => 0x11 | .ori => 0x12 | .xori => 0x13 | .slli => 0x14 | .srli => 0x15 | .srai => 0x16
  | .slti => 0x17 | .sltiu => 0x18

def loadCode : LoadKind → BitVec 6
  | .sb => 0x1A | .ub => 0x1B | .sh => 0x1C | .uh => 0x1D | .w => 0x1E

def StoreSize.code : StoreSize → BitVec 6
  | .b => 0x1F | .h => 0x20 | .w => 0x21

def Cond.code : Cond → BitVec 6
  | .eq => 0x22 | .ne => 0x23 | .lt => 0x24 | .ge => 0x25 | .ltu => 0x26 | .geu => 0x27

def AtomicOp.code : AtomicOp → BitVec 6
  | .fadd => 0x2C | .swap => 0x2D | .cas => 0x2E

/-! ### Words -/

/-- Format R. -/
def wordR (op : BitVec 6) (rd ra rb : RegNo) : Word := op ++ rd ++ ra ++ rb ++ (0 : BitVec 14)

/-- Format I, and B with its two registers. -/
def wordI (op : BitVec 6) (r s : RegNo) (v : BitVec 18) : Word := op ++ r ++ s ++ v

/-- Format U. -/
def wordU (op : BitVec 6) (rd : RegNo) (v : BitVec 22) : Word := op ++ rd ++ v

/-- Format J. -/
def wordJ (op : BitVec 6) (off : BitVec 26) : Word := op ++ off

/-- The word of an instruction. -/
def encodeCore : CoreInsn → Word
  | .alu op rd ra rb => wordR op.code rd ra rb
  | .imm op rd ra v => wordI op.code rd ra v
  | .lui rd v => wordU 0x19 rd v
  | .load k rd ra v => wordI (loadCode k) rd ra v
  | .store k rd ra v => wordI k.code rd ra v
  | .branch k ra rb off => wordI k.code ra rb off
  | .jal off => wordJ 0x28 off
  | .jalr rd ra v => wordI 0x29 rd ra v
  | .ldx rd ra => wordR 0x2A rd ra 0
  | .stx rd ra rb => wordR 0x2B rd ra rb
  | .atomic op rd ra rb => wordR op.code rd ra rb
  | .msg rd ra rb => wordR 0x2F rd ra rb
  | .mfence => wordR 0x30 0 0 0
  | .mfc rd cr => wordI 0x31 rd 0 (cr.setWidth 18)
  | .mtc ra cr => wordI 0x32 0 ra (cr.setWidth 18)
  | .trap code => wordI 0x33 0 0 (code.setWidth 18)
  | .rfe => wordR 0x34 0 0 0
  | .wfi => wordR 0x35 0 0 0
  | .take rd => wordR 0x36 rd 0 0
  | .yield => wordR 0x37 0 0 0
  | .sleep ra => wordR 0x38 0 ra 0

/-! ### Fields of a word -/

def opOf (w : Word) : BitVec 6 := w.extractLsb' 26 6
def rdOf (w : Word) : RegNo := w.extractLsb' 22 4
def raOf (w : Word) : RegNo := w.extractLsb' 18 4
def rbOf (w : Word) : RegNo := w.extractLsb' 14 4
def immOf (w : Word) : BitVec 18 := w.extractLsb' 0 18

/-- An instruction of format R with its low field 0. -/
def readR (w : Word) (f : RegNo → RegNo → RegNo → Option CoreInsn) : Option CoreInsn :=
  if w.extractLsb' 0 14 = 0 then f (rdOf w) (raOf w) (rbOf w) else none

/-- All fields 0. -/
def readZ (w : Word) (i : CoreInsn) : Option CoreInsn := if w.extractLsb' 0 26 = 0 then some i else none

def readAlu (op : AluOp) (w : Word) : Option CoreInsn := readR w fun rd ra rb => some (.alu op rd ra rb)
def readImm (op : ImmOp) (w : Word) : Option CoreInsn := some (.imm op (rdOf w) (raOf w) (immOf w))
def readLoad (k : LoadKind) (w : Word) : Option CoreInsn := some (.load k (rdOf w) (raOf w) (immOf w))
def readStore (k : StoreSize) (w : Word) : Option CoreInsn := some (.store k (rdOf w) (raOf w) (immOf w))
def readBranch (k : Cond) (w : Word) : Option CoreInsn := some (.branch k (rdOf w) (raOf w) (immOf w))
def readAtomic (op : AtomicOp) (w : Word) : Option CoreInsn := readR w fun rd ra rb => some (.atomic op rd ra rb)

/-- MFC: `ra` and imm[17:6] are 0. -/
def readMfc (w : Word) : Option CoreInsn :=
  if raOf w = 0 ∧ w.extractLsb' 6 12 = 0 then some (.mfc (rdOf w) (w.extractLsb' 0 6)) else none

/-- MTC: `rd` and imm[17:6] are 0. -/
def readMtc (w : Word) : Option CoreInsn :=
  if rdOf w = 0 ∧ w.extractLsb' 6 12 = 0 then some (.mtc (raOf w) (w.extractLsb' 0 6)) else none

/-- TRAP: `rd`, `ra` and imm[17:8] are 0. -/
def readTrap (w : Word) : Option CoreInsn :=
  if rdOf w = 0 ∧ raOf w = 0 ∧ w.extractLsb' 8 10 = 0 then some (.trap (w.extractLsb' 0 8)) else none

/-- The instruction of a word; none: a reserved opcode, or a field marked 0 that is not 0 (R401, R402). -/
def decodeCore (w : Word) : Option CoreInsn :=
  match (opOf w).toNat with
  | 0x01 => readAlu .add w | 0x02 => readAlu .sub w | 0x03 => readAlu .and w | 0x04 => readAlu .or w
  | 0x05 => readAlu .xor w | 0x06 => readAlu .sll w | 0x07 => readAlu .srl w | 0x08 => readAlu .sra w
  | 0x09 => readAlu .slt w | 0x0A => readAlu .sltu w | 0x0B => readAlu .mul w | 0x0C => readAlu .mulh w
  | 0x0D => readAlu .mulhu w | 0x0E => readAlu .div w | 0x0F => readAlu .divu w
  | 0x10 => readImm .addi w | 0x11 => readImm .andi w | 0x12 => readImm .ori w | 0x13 => readImm .xori w
  | 0x14 => readImm .slli w | 0x15 => readImm .srli w | 0x16 => readImm .srai w | 0x17 => readImm .slti w
  | 0x18 => readImm .sltiu w
  | 0x19 => some (.lui (rdOf w) (w.extractLsb' 0 22))
  | 0x1A => readLoad .sb w | 0x1B => readLoad .ub w | 0x1C => readLoad .sh w | 0x1D => readLoad .uh w
  | 0x1E => readLoad .w w
  | 0x1F => readStore .b w | 0x20 => readStore .h w | 0x21 => readStore .w w
  | 0x22 => readBranch .eq w | 0x23 => readBranch .ne w | 0x24 => readBranch .lt w | 0x25 => readBranch .ge w
  | 0x26 => readBranch .ltu w | 0x27 => readBranch .geu w
  | 0x28 => some (.jal (w.extractLsb' 0 26))
  | 0x29 => some (.jalr (rdOf w) (raOf w) (immOf w))
  | 0x2A => readR w fun rd ra rb => if rb = 0 then some (.ldx rd ra) else none
  | 0x2B => readR w fun rd ra rb => some (.stx rd ra rb)
  | 0x2C => readAtomic .fadd w | 0x2D => readAtomic .swap w | 0x2E => readAtomic .cas w
  | 0x2F => readR w fun rd ra rb => some (.msg rd ra rb)
  | 0x30 => readZ w .mfence
  | 0x31 => readMfc w | 0x32 => readMtc w | 0x33 => readTrap w
  | 0x34 => readZ w .rfe | 0x35 => readZ w .wfi
  | 0x36 => readR w fun rd ra rb => if ra = 0 ∧ rb = 0 then some (.take rd) else none
  | 0x37 => readZ w .yield
  | 0x38 => readR w fun rd ra rb => if rd = 0 ∧ rb = 0 then some (.sleep ra) else none
  | _ => none

/-- A control register that the table of R399 lists. -/
def crListed (n : Nat) : Bool := decide (n ≤ 20) || decide (32 ≤ n ∧ n < 64)

/-- An even register other than w0: a pair (R399, R402). -/
def pairReg (r : RegNo) : Bool := r != 0 && r.toNat % 2 == 0

/-- The cases of R402 that the fields of the word decide beyond its format. -/
def insnLegal : CoreInsn → Bool
  | .imm op _ _ v => match op with
    | .slli => v.toNat < 32
    | .srli => v.toNat < 32
    | .srai => v.toNat < 32
    | .addi => true | .andi => true | .ori => true | .xori => true | .slti => true | .sltiu => true
  | .atomic _ rd _ rb => pairReg rd && pairReg rb
  | .mfc _ cr => crListed cr.toNat
  | .mtc _ cr => crListed cr.toNat
  | .alu _ _ _ _ => true | .lui _ _ => true | .load _ _ _ _ => true | .store _ _ _ _ => true | .branch _ _ _ _ => true
  | .jal _ => true | .jalr _ _ _ => true | .ldx _ _ => true | .stx _ _ _ => true | .msg _ _ _ => true | .mfence => true
  | .trap _ => true | .rfe => true | .wfi => true | .take _ => true | .yield => true | .sleep _ => true

/-- A comparison of a branch. -/
def condHolds (k : Cond) (a b : Word) : Bool :=
  match k with
  | .eq => a == b | .ne => a != b | .lt => a.slt b | .ge => !a.slt b | .ltu => a.ult b | .geu => !a.ult b

/-- A quotient rounded towards zero; the fixed results of R401. -/
def divSigned (a b : Word) : Word :=
  if b = 0 then 0xFFFFFFFF else if a = 0x80000000 ∧ b = 0xFFFFFFFF then 0x80000000
  else BitVec.ofInt 32 (a.toInt.tdiv b.toInt)

/-- R401, format R. -/
def aluValue (op : AluOp) (a b : Word) : Word :=
  match op with
  | .add => a + b | .sub => a - b | .and => a &&& b | .or => a ||| b | .xor => a ^^^ b
  | .sll => a <<< (b.toNat % 32) | .srl => a >>> (b.toNat % 32) | .sra => a.sshiftRight (b.toNat % 32)
  | .slt => if a.slt b then 1 else 0
  | .sltu => if a.ult b then 1 else 0
  | .mul => a * b
  | .mulh => BitVec.ofInt 32 ((a.toInt * b.toInt) / 2 ^ 32)
  | .mulhu => BitVec.ofNat 32 (a.toNat * b.toNat / 2 ^ 32)
  | .div => divSigned a b
  | .divu => if b = 0 then 0xFFFFFFFF else BitVec.ofNat 32 (a.toNat / b.toNat)

/-- R401, format I. -/
def immValue (op : ImmOp) (a : Word) (v : BitVec 18) : Word :=
  let z := v.setWidth 32
  let s := v.signExtend 32
  match op with
  | .addi => a + s | .andi => a &&& z | .ori => a ||| z | .xori => a ^^^ z
  | .slli => a <<< (v.toNat % 32) | .srli => a >>> (v.toNat % 32) | .srai => a.sshiftRight (v.toNat % 32)
  | .slti => if a.slt s then 1 else 0
  | .sltiu => if a.ult s then 1 else 0

/-- Bytes of a load, and its result in a register. -/
def loadSize : LoadKind → Nat
  | .sb => 1 | .ub => 1 | .sh => 2 | .uh => 2 | .w => 4

def loadValue (k : LoadKind) (n : Nat) : Word :=
  match k with
  | .sb => (BitVec.ofNat 8 n).signExtend 32
  | .ub => (BitVec.ofNat 8 n).setWidth 32
  | .sh => (BitVec.ofNat 16 n).signExtend 32
  | .uh => (BitVec.ofNat 16 n).setWidth 32
  | .w => BitVec.ofNat 32 n

def StoreSize.bytes : StoreSize → Nat
  | .b => 1 | .h => 2 | .w => 4

end Sys2Proof.Machine
end

