-- ==== Sys2Proof/Machine/Tenant.lean ====
section
/-! DEFINITION. A tenant core: registers (R399), tightly coupled memories (R404), exceptions (R408 to R410), interrupts (R411),
watchdog (R412, R413), reset (R414), halt, comparators and trace (R440 to R447), the peephole (R449). -/

namespace Sys2Proof.Machine

open Sys2Proof

/-! ### The core and its pages -/

def coreDflt : Nat → CoreSt := fun _ => CoreSt.fresh

def Device.core (d : Device) (c : Fin 2) : CoreSt := sget coreDflt d.cores c.val

def Device.setCore (d : Device) (c : Fin 2) (k : CoreSt) : Device := { d with cores := sset coreDflt d.cores c.val k }

/-- A DBG field of core `c` (R451). -/
def dbgF (c : Fin 2) (f : Fld) : Fld := { f with off := f.off + 0x100 + 0x100 * c.val }

def Device.dbgRd (d : Device) (c : Fin 2) (f : Fld) (i : Nat := 0) : Nat := d.rd .dbg (dbgF c f) i
def Device.dbgFlag (d : Device) (c : Fin 2) (f : Fld) (i : Nat := 0) : Bool := d.flag .dbg (dbgF c f) i
def Device.dbgPut (d : Device) (c : Fin 2) (f : Fld) (v : Nat) (i : Nat := 0) : Device := d.put .dbg (dbgF c f) v i

/-! ### General registers (R399): the one place that knows w0 -/

def CoreSt.reg (k : CoreSt) (r : RegNo) : Word := if r = 0 then 0 else sget (fun _ => 0) k.regs r.toNat

def CoreSt.setReg (k : CoreSt) (r : RegNo) (v : Word) : CoreSt :=
  if r = 0 then k else { k with regs := sset (fun _ => 0) k.regs r.toNat v }

/-- A pair: bits 31:0 in the even register, bits 63:32 in the next. -/
def CoreSt.pair (k : CoreSt) (r : RegNo) : Nat := (k.reg r).toNat + (k.reg (r + 1)).toNat * 2 ^ 32

def CoreSt.setPair (k : CoreSt) (r : RegNo) (v : Nat) : CoreSt :=
  (k.setReg r (BitVec.ofNat 32 v)).setReg (r + 1) (BitVec.ofNat 32 (v / 2 ^ 32))

/-! ### Control registers (R399) -/

def crStatus : Nat := 0
def crEpc : Nat := 1
def crEcause : Nat := 2
def crEinfo : Nat := 3
def crEvbase : Nat := 4
def crBerr : Nat := 5
def crIrqPrio : Nat := 7
def crAlertEn : Nat := 8
def crLocalEn : Nat := 9
def crLocalPend : Nat := 11

/-- Reset values of the control registers. -/
def crReset : Nat → Word := fun n => if n = 14 ∨ n = 15 then 0xFFFFFFFF else 0

def CoreSt.cr (k : CoreSt) (n : Nat) : Word := sget crReset k.crs n
def CoreSt.setCr (k : CoreSt) (n : Nat) (w : Word) : CoreSt := { k with crs := sset crReset k.crs n w }

/-- STATUS.IE, PIE and EXL. -/
def CoreSt.ie (k : CoreSt) : Bool := (k.cr crStatus).getLsbD 0
def CoreSt.pie (k : CoreSt) : Bool := (k.cr crStatus).getLsbD 1
def CoreSt.exl (k : CoreSt) : Bool := (k.cr crStatus).getLsbD 2

def statusWord (ie pie exl : Bool) : Word := BitVec.ofNat 32 (ie.toNat + 2 * pie.toNat + 4 * exl.toNat)

/-- IRQ_LOCAL_PEND (R399). -/
def Device.localPend (d : Device) (c : Fin 2) : Word :=
  let k := d.core c
  let cmp := (k.cr 14).toNat + (k.cr 15).toNat * 2 ^ 32
  BitVec.ofNat 32 ((decide (cmp ≤ k.cycle.toNat)).toNat + 2 * (d.slot c.val).isSome.toNat + 4 * (!k.peepRx.isEmpty).toNat +
    8 * k.fail.isSome.toNat) ||| (k.cr crLocalPend &&& 0x10)

/-- MFC: what a control register reads as. -/
def Device.readCr (d : Device) (c : Fin 2) (n : Nat) : Word :=
  let k := d.core c
  if n = 10 then d.summary
  else if n = 11 then d.localPend c
  else if n = 12 then k.cycle.setWidth 32
  else if n = 13 then k.cycle.extractLsb' 32 32
  else if n = 16 then 0
  else if n = 17 then BitVec.ofNat 32 c.val
  else if n = 18 then BitVec.ofNat 32 (16 - k.peepTx.length)
  else if n = 19 then k.peepRx.headD 0
  else k.cr n

/-- The bits of a control register that MTC writes. -/
def crMask (n : Nat) : Word :=
  if n = 0 then 0x7 else if n = 4 then 0xFFFFFF00 else if n = 7 then 0xFFF else if n = 9 then 0x1F
  else if n = 11 then 0x10
  else if n = 1 ∨ n = 6 ∨ n = 8 ∨ n = 14 ∨ n = 15 ∨ n = 20 then 0xFFFFFFFF
  else if 32 ≤ n then (if n % 2 = 0 then 0xF800003F else 0xFFFFFFFF)
  else 0

/-- A word that a full queue refuses (R449). -/
def Device.peepOverrun (d : Device) (c : Fin 2) : Device := d.raise (.tcore c) cTcorePeepOverrun

/-- MTC: a control register's own effect. -/
def Device.writeCr (d : Device) (c : Fin 2) (n : Nat) (w : Word) : Device :=
  let k := d.core c
  if n = 16 then d.put (.tcore c) fTcoreWdCount (d.rd (.tcore c) fTcoreWdLoad)
  else if n = 18 then
    if k.peepTx.length < 16 then d.setCore c { k with peepTx := k.peepTx ++ [(w &&& 0x03FFFFFF) ||| 0x80000000] }
    else d.peepOverrun c
  else if n = 19 then d.setCore c { k with peepRx := k.peepRx.drop 1 }
  else
    let m := crMask n
    d.setCore c (k.setCr n ((k.cr n &&& ~~~m) ||| (w &&& m)))

/-! ### Tightly coupled memories (R403, R404): local addresses 0 to 0x3FFFF -/

/-- The byte address in the store of both cores' memories of a local address below 0x40000. -/
def tcmByte (c : Fin 2) (a : Nat) : Nat := 0x40000 * c.val + a

/-- Corrected and uncorrectable words are counted and set their causes. -/
def Device.tcmFound (d : Device) (c : Fin 2) (fixed bad : List Nat) : Device :=
  let d := if fixed.isEmpty then d
    else ((d.raise (.tcore c) cTcoreTcmCorrected).countN (.tcore c) 0 fixed.length)
  if bad.isEmpty then d else (d.raise (.tcore c) cTcoreTcmUncorrectable).countN (.tcore c) 1 bad.length

/-- Read bytes of a core's memories; none: a word cannot be corrected. -/
def Device.tcmRead (d : Device) (c : Fin 2) (a len : Nat) : Option (List Byte) × Device :=
  let x := tcmByte c a
  let fixed := ramCorrected d.tcm x len
  let bad := ramBad d.tcm x len
  let bytes := ramBytes d.tcm x len
  (if bad.isEmpty then some bytes else none, { d with tcm := ramFix d.tcm fixed }.tcmFound c fixed bad)

/-- Write bytes of a core's memories; false: refused, for a partial write of a word that cannot be corrected. -/
def Device.tcmWrite (d : Device) (c : Fin 2) (a : Nat) (bytes : List Byte) : Bool × Device :=
  let x := tcmByte c a
  let part := ramPartial x bytes.length
  let fixed := part.filter fun k => eccVerdict (sget ramDflt d.tcm k) == .corrected
  let bad := part.filter fun k => eccVerdict (sget ramDflt d.tcm k) == .bad
  if bad.isEmpty then (true, { d with tcm := ramWrite d.tcm x bytes }.tcmFound c fixed [])
  else (false, d.tcmFound c [] bad)

/-- The CORE node or a frame writes: a reservation on the granule is cleared (R407). -/
def Device.breakReservation (d : Device) (c : Fin 2) (a len : Nat) : Device :=
  let k := d.core c
  match k.resv with
  | some g => if a / 8 ≤ g ∧ g ≤ (a + len - 1) / 8 then d.setCore c { k with resv := none } else d
  | none => d

/-- TCM_SWEEP: one word is read and corrected (R404, R420). -/
def tcmSweepBody (mem : TcmRef) (word : BitVec 14) (d : Device) : Device :=
  if !d.coreClock then d
  else
    match mem with
    | .tcm c m => (d.tcmRead c (0x20000 * m.val + 8 * word.toNat) 8).2
    | .porter => if word.toNat < 8192 then (d.porterRead (8 * word.toNat) 8).2 else d

/-- TCM_UPSET: one bit flips. -/
def tcmUpsetBody (mem : TcmRef) (word : BitVec 14) (bit : Fin 72) (d : Device) : Device :=
  match mem with
  | .tcm c m => { d with tcm := ramFlip d.tcm (tcmByte c (0x20000 * m.val) / 8 + word.toNat) bit.val }
  | .porter => if word.toNat < 8192 then { d with porterRam := ramFlip d.porterRam word.toNat bit.val } else d

/-! ### The trace buffer (R447) -/

/-- Kinds of records. -/
def traceBranch : Nat := 0
def traceExc : Nat := 1
def traceRfe : Nat := 2
def traceTrigger : Nat := 3

def traceWord (kind : Nat) (src : Word) (dst : Nat) : DWord :=
  BitVec.ofNat 64 (kind + src.toNat / 4 * 4 + dst % 2 ^ 32 * 2 ^ 32)

/-- A record while tracing: MODE 0 keeps the latest 256 and stops POST records after a trigger, MODE 1 stops when full. -/
def Device.traceRecord (d : Device) (c : Fin 2) (r : DWord) : Device :=
  let k := d.core c
  if !k.tracing then d
  else if d.dbgFlag c fDbgcTraceCtrlMode then
    let t := k.trace ++ [r]
    d.setCore c { k with trace := t, tracing := decide (t.length < 256) }
  else
    let t := k.trace ++ [r]
    let t := t.drop (t.length - 256)
    match k.post with
    | none => d.setCore c { k with trace := t }
    | some n => d.setCore c { k with trace := t, post := some (n - 1), tracing := decide (1 < n) }

/-- A trigger record: tracing stops POST records later (MODE 0), or starts (MODE 1). -/
def Device.traceTriggered (d : Device) (c : Fin 2) (comp : Nat) (pc : Word) : Device :=
  if !d.dbgFlag c fDbgcTraceCtrlEn then d
  else
    let r := traceWord traceTrigger pc comp
    let k := d.core c
    if d.dbgFlag c fDbgcTraceCtrlMode then
      if k.tracing then d.traceRecord c r
      else if k.trace.isEmpty then (d.setCore c { k with tracing := true }).traceRecord c r else d
    else if !k.tracing then d
    else
      let d := d.traceRecord c r
      let k := d.core c
      let n := d.dbgRd c fDbgcTraceCtrlPost
      if k.post.isSome then d else d.setCore c { k with post := some n, tracing := decide (0 < n) }

/-- TRACE_CTRL has been written: EN from 0 to 1 empties the buffer (R447). -/
def Device.traceEnabled (d : Device) (c : Fin 2) (before : Bool) : Device :=
  let k := d.core c
  if !d.dbgFlag c fDbgcTraceCtrlEn then d.setCore c { k with tracing := false }
  else if before then d
  else d.setCore c { k with trace := [], tracing := !d.dbgFlag c fDbgcTraceCtrlMode, post := none }

/-! ### Halt (R440, R441) -/

def haltReq : Nat := 0
def haltStep : Nat := 1
def haltComp : Nat := 2
def haltReset : Nat := 3
def haltCatch : Nat := 4
def haltOther : Nat := 5

/-- The request a core waits for is abandoned: its response will be late (R441, R415). -/
def Device.abandonWait (d : Device) (c : Fin 2) : Device :=
  let k := d.core c
  match k.waitTag with
  | some t =>
    let d := match d.req .core t with
      | some r => d.setReq .core t (some { r with cont := .stale, phase := .quarantined })
      | none => d
    d.setCore c { k with wait := none, waitTag := none }
  | none => d.setCore c { k with wait := none }

/-- The local address a wait is for; the manual gives MFENCE none (a free value). -/
def waitAddr (w : CoreWait) (free : Word) : Option Word :=
  match w with
  | .load _ _ a => some a
  | .atomic _ a => some a
  | .fence => some free
  | .freeTag _ => none

/-- Halt one core. -/
def Device.haltOne (d : Device) (c : Fin 2) (cause comp : Nat) : Device :=
  let k := d.core c
  if k.mode = .reset ∨ k.mode = .halted ∨ k.mode = .lockup then d
  else
    let d := { d with free := d.free + 1 }
    let gone := match k.wait with
      | some w => waitAddr w (Config.freeWord d.free)
      | none => none
    let d := d.abandonWait c
    let k := { d.core c with mode := .halted, resv := none, abandoned := gone, stepping := false }
    let d := d.setCore c k
    let d := ((d.dbgPut c fDbgcRunStatusHalted 1).dbgPut c fDbgcRunStatusCause cause).dbgPut c fDbgcRunStatusComp comp
    (d.raise .dbg (if c = 0 then cDbgHalted0 else cDbgHalted1)).count .dbg 0

def otherCore (c : Fin 2) : Fin 2 := if c = 0 then 1 else 0

/-- Halt a core, and the other one with it where HALT_BOTH is set. -/
def Device.halt (d : Device) (c : Fin 2) (cause comp : Nat) : Device :=
  let was := (d.core c).mode
  let d := d.haltOne c cause comp
  if was ≠ .halted ∧ (d.core c).mode = .halted ∧ d.dbgFlag c fDbgcRunCtrlHaltBoth = true then
    d.haltOne (otherCore c) haltOther 0
  else d

/-! ### Exceptions (R408 to R410) -/

def excIllegal : Nat := 1
def excMisaligned : Nat := 2
def excBus : Nat := 3
def excTrap : Nat := 4
def excIrq : Nat := 5
def excMonitor : Nat := 6

/-- Offset of a vector from EVBASE. -/
def vectorOf (code : Nat) : Nat := 0x20 * code

/-- Kinds of bus error (R410). -/
def busUnmapped : Nat := 1
def busTcm : Nat := 2
def busMesh : Nat := 3
def busMgmt : Nat := 4
def busDeferred : Nat := 5
def busAbandoned : Nat := 6

/-- BERR (R410). -/
def berrWord (aperture : Nat) (fetch : Bool) (status kind : Nat) : Word :=
  BitVec.ofNat 32 (aperture * 2 ^ 24 + fetch.toNat * 2 ^ 16 + status * 2 ^ 8 + kind)

/-- An exception as an instruction raises it: code, EINFO, BERR for a bus error. -/
structure Exc where
  code : Nat
  einfo : Word
  berr : Word
  deriving DecidableEq, Repr

def exIllegal (w : Word) : Exc := { code := excIllegal, einfo := w, berr := 0 }
def exMisaligned (a : Word) : Exc := { code := excMisaligned, einfo := a, berr := 0 }
def exBus (a : Word) (kind : Nat) : Exc := { code := excBus, einfo := a, berr := berrWord 0 false 0 kind }
def exMesh (a : Word) (ap status : Nat) : Exc := { code := excBus, einfo := a, berr := berrWord ap false status busMesh }

/-- Taking an exception other than reset: R409 in one step, then tracing, monitor depth and CATCH (R446, R447, R440). An exception
of code 1 to 4 while EXL is 1 locks the core up (R410). -/
def Device.takeExc (d : Device) (c : Fin 2) (e : Exc) (epc : Word) : Device :=
  let k := d.core c
  let pg := PageRef.tcore c
  if k.exl && decide (1 ≤ e.code ∧ e.code ≤ 4) then
    ((d.setCore c { k with mode := .lockup, resv := none, wait := none, waitTag := none, stepping := false }).raise pg
      cTcoreLockup).reclaim c.val
  else
    let k := ((k.setCr crEpc epc).setCr crEcause (BitVec.ofNat 32 e.code)).setCr crEinfo e.einfo
    let k := if e.code = excBus then k.setCr crBerr e.berr else k
    let k := k.setCr crStatus (statusWord false k.ie true)
    let target := k.cr crEvbase + BitVec.ofNat 32 (vectorOf e.code)
    let from_ := k.pc
    let d := d.setCore c { k with resv := none, pc := target, mode := .running, wait := none, waitTag := none }
    let d := ((d.put pg fTcoreLastExc0Epc epc.toNat).put pg fTcoreLastExc1Code e.code).put pg fTcoreLastExc2Einfo e.einfo.toNat
    let d := if e.code = excBus then d.count pg 4 else d
    let d := d.traceRecord c (traceWord traceExc from_ target.toNat)
    let d := if d.dbgFlag c fDbgcMonCtrlMonActive then
        d.dbgPut c fDbgcMonCtrlMonDepth (d.dbgRd c fDbgcMonCtrlMonDepth + 1) else d
    if 1 ≤ e.code ∧ e.code ≤ 4 ∧ (d.dbgRd c fDbgcRunCtrlCatch).testBit (e.code - 1) = true then d.halt c haltCatch 0 else d

/-- Return from exception (R409, R446). -/
def Device.returnExc (d : Device) (c : Fin 2) : Device :=
  let k := d.core c
  let target := k.cr crEpc
  let from_ := k.pc
  let k := k.setCr crStatus (statusWord k.pie k.pie false)
  let d := d.setCore c { k with pc := target, resv := none }
  let d := d.traceRecord c (traceWord traceRfe from_ target.toNat)
  if !d.dbgFlag c fDbgcMonCtrlMonActive then d
  else
    let n := d.dbgRd c fDbgcMonCtrlMonDepth - 1
    let d := d.dbgPut c fDbgcMonCtrlMonDepth n
    if n = 0 then (d.dbgPut c fDbgcMonCtrlMonActive 0).setCore c { d.core c with quiet := true } else d

/-- The monitor exception (R446). -/
def Device.takeMonitor (d : Device) (c : Fin 2) (comp : Nat) (epc : Word) : Device :=
  let info := BitVec.ofNat 32 (comp + (if 4 ≤ comp then 256 else 0))
  let d := d.takeExc c { code := excMonitor, einfo := info, berr := 0 } epc
  (d.dbgPut c fDbgcMonCtrlMonActive 1).dbgPut c fDbgcMonCtrlMonDepth 1

/-! ### Interrupts (R411) -/

/-- The enabled pending sources with their priorities, best first among equals: EINFO and IRQ_PRIO. -/
def Device.irqSources (d : Device) (c : Fin 2) : List (Nat × Nat) :=
  let k := d.core c
  let lp := d.localPend c &&& k.cr crLocalEn
  let ap := d.summary &&& k.cr crAlertEn
  let prio := k.cr crIrqPrio
  ((List.range 5).filterMap fun i => if lp.getLsbD i then some (32 + i, bitsOf prio (2 * i + 2) 2) else none) ++
    (List.range 32).filterMap fun g => if ap.getLsbD g then some (g, bitsOf prio 0 2) else none

/-- The sources that a monitor handler lets through (R446). -/
def Device.irqOpen (d : Device) (c : Fin 2) : List (Nat × Nat) :=
  let xs := d.irqSources c
  if d.dbgFlag c fDbgcMonCtrlMonActive then xs.filter fun s => decide (d.dbgRd c fDbgcMonCtrlMonThreshold ≤ s.2) else xs

/-- The source of highest priority, the first of equals. -/
def bestSource : List (Nat × Nat) → Option (Nat × Nat)
  | [] => none
  | s :: ss =>
    match bestSource ss with
    | none => some s
    | some t => if t.2 ≤ s.2 then some s else some t

/-- The interrupt a core would take now. -/
def Device.irqNow (d : Device) (c : Fin 2) : Option Nat :=
  if (d.core c).ie then (bestSource (d.irqOpen c)).map (·.1) else none

/-- A pending enabled interrupt ends WFI. -/
def Device.wfiEnds (d : Device) (c : Fin 2) : Device :=
  let k := d.core c
  if k.mode = .wfi ∧ (d.irqSources c).isEmpty = false then d.setCore c { k with mode := .running } else d

/-- INTERRUPT: at an instruction boundary. -/
def interruptBody (c : Fin 2) (d : Device) : Device :=
  let d := d.wfiEnds c
  let k := d.core c
  if k.mode ≠ .running then d
  else
    match d.irqNow c with
    | some s => d.takeExc c { code := excIrq, einfo := BitVec.ofNat 32 s, berr := 0 } k.pc
    | none => d

/-- TIMER_MATCH: CYCLE has come to TIMECMP. -/
def timerMatchBody (c : Fin 2) (d : Device) : Device :=
  let k := d.core c
  let cmp := (k.cr 14).toNat + (k.cr 15).toNat * 2 ^ 32
  if k.mode = .reset ∨ d.coreClock = false then d
  else if k.cycle.toNat < cmp then d.setCore c { k with cycle := BitVec.ofNat 64 cmp } else d

/-- Some cycles pass: how many the manual does not say. -/
def Device.coreCycles (d : Device) (c : Fin 2) : Device :=
  let k := d.core c
  let d := { d with free := d.free + 1 }
  d.setCore c { k with cycle := k.cycle + 1 + (Config.freeWord d.free).setWidth 64 }

/-! ### Comparators (R444 to R446) -/

/-- The bits of an address that comparator `i` compares agree. -/
def Device.compAddr (d : Device) (c : Fin 2) (i a : Nat) : Bool :=
  let m := d.dbgRd c fDbgcCompCtrlMaskBits i
  a % 2 ^ 32 / 2 ^ m == d.dbgRd c fDbgcCompAddrAddr i / 2 ^ m

/-- Data comparator `i` matches an access, MON_ACTIVE apart (R444). -/
def Device.dataMatch (d : Device) (c : Fin 2) (i : Nat) (x : CompAccess) : Bool :=
  let kinds := d.dbgRd c fDbgcCompCtrlAccess i
  d.dbgFlag c fDbgcCompCtrlEn i &&
    ((x.read && kinds.testBit 0) || (x.write && kinds.testBit 1)) &&
    ((List.range x.size).any fun j => d.compAddr c i (x.addr.toNat + j)) &&
    (!d.dbgFlag c fDbgcCompCtrlValueEn i ||
      (match x.value with
        | some v => (v ^^^ BitVec.ofNat 32 (d.dbgRd c fDbgcCompValueValue i)) &&&
            BitVec.ofNat 32 (d.dbgRd c fDbgcCompVmaskVmask i) == 0
        | none => false))

/-- Instruction comparator `i` matches the instruction at `pc` (R444). -/
def Device.insnMatch (d : Device) (c : Fin 2) (i : Nat) (pc : Word) : Bool :=
  d.dbgFlag c fDbgcCompCtrlEn i && d.compAddr c i pc.toNat

/-- ACTION of comparator `i`: 0 HALT, 1 MONITOR, 2 TRACE, 3 CAPTURE. -/
def Device.compAction (d : Device) (c : Fin 2) (i : Nat) : Nat := d.dbgRd c fDbgcCompCtrlAction i

/-- CAPTURE: GO, or ALL, in CAPTURE_CMD of the bay named (R445). -/
def Device.compCapture (d : Device) (c : Fin 2) (i : Nat) : Device :=
  let n := d.dbgRd c fDbgcCompCtrlBay i
  if h : n < 104 then
    if d.dbgFlag c fDbgcCompCtrlCapAll i then captureAllBody d.holdsEnd else captureBody (.bay ⟨n, h⟩) (d.holdOver (.bay ⟨n, h⟩))
  else d

/-- The matches of one instruction act: every trace and capture, then one halt or monitor exception with the lowest number
(R444). `epc` is what a monitor exception saves. True: the core has halted or entered its monitor. -/
def Device.compAct (d : Device) (c : Fin 2) (hits : List Nat) (epc : Word) : Bool × Device :=
  let quiet := d.dbgFlag c fDbgcMonCtrlMonActive
  let d := hits.foldl (fun (d : Device) (i : Nat) =>
    if d.compAction c i = 2 then d.traceTriggered c i (d.core c).pc
    else if d.compAction c i = 3 then d.compCapture c i
    else if d.compAction c i = 1 && quiet then d.count .dbg 1 else d) d
  let d := d.setCore c { d.core c with acted := (d.core c).acted ++ hits }
  match hits.find? fun i => d.compAction c i = 0 || (d.compAction c i = 1 && !quiet) with
  | none => (false, d)
  | some i => (true, if d.compAction c i = 0 then d.halt c haltComp i else d.takeMonitor c i epc)

/-- COMP_MATCH: comparator `i` judges an access of the core. What the core's latest instruction has already set off is not set
off again. -/
def compMatchBody (c : Fin 2) (i : Fin 8) (x : CompAccess) (d : Device) : Device :=
  let k := d.core c
  if k.mode ≠ .running ∧ k.mode ≠ .waiting then d
  else if k.acted.contains i.val then d
  else
    let hit := if i.val < 4 then !k.quiet && x.addr == k.pc && d.insnMatch c i.val x.addr else d.dataMatch c i.val x
    if hit then (d.compAct c [i.val] k.pc).2 else d

/-! ### Reset, release, watchdog (R412 to R414) -/

/-- Every request of the core becomes late (R414). -/
def Device.dropCoreReqs (d : Device) (c : Fin 2) : Device :=
  d.dropReqs fun x => match x with
    | .core c' => c' == c.val
    | .coreStore c' _ _ => c' == c.val
    | _ => false

/-- Reset a core: registers and waits go, the memories stay (R414). -/
def Device.coreReset (d : Device) (c : Fin 2) : Device :=
  let k := d.core c
  let d := d.dropCoreReqs c
  let d := d.setCore c { CoreSt.fresh with trace := k.trace, tracing := k.tracing, post := k.post, peepTx := k.peepTx
                                           peepRx := k.peepRx }
  ((d.dbgPut c fDbgcRunStatusHalted 0).dbgPut c fDbgcFeedStatusBusy 0).reclaim c.val

/-- The core starts at RESET_PC. -/
def Device.coreStart (d : Device) (c : Fin 2) : Device :=
  d.setCore c { d.core c with mode := .running, pc := BitVec.ofNat 32 (d.rd (.tcore c) fTcoreResetPc * 4) }

/-- A write of CORE_CTRL.HOLD, the register holding its new value. -/
def Device.holdWritten (d : Device) (c : Fin 2) (before : Bool) : Device :=
  let now := d.flag (.tcore c) fTcoreCoreCtrlHold
  if now && !before then d.coreReset c
  else if before && !now then
    let d := d.coreStart c
    if d.dbgFlag c fDbgcRunCtrlHaltOnReset then d.halt c haltReset 0 else d
  else d

/-- A write of WD_CTRL, the register holding its new value: EN from 0 to 1 reloads the count (R412). -/
def Device.wdWritten (d : Device) (c : Fin 2) (before : Bool) : Device :=
  if d.flag (.tcore c) fTcoreWdCtrlEn && !before then d.put (.tcore c) fTcoreWdCount (d.rd (.tcore c) fTcoreWdLoad) else d

/-- WD_EXPIRE (R412, R413). -/
def wdExpireBody (c : Fin 2) (d : Device) : Device :=
  let pg := PageRef.tcore c
  if d.flag pg fTcoreWdCtrlEn = false ∨ d.coreClock = false then d
  else if (d.core c).mode = .halted ∧ d.flag pg fTcoreWdCtrlWdDebugPolicy = false then d
  else
    let d := ((d.raise pg cTcoreWdExpired).count pg 5).coreReset c
    let d := d.put pg fTcoreWdCount (d.rd pg fTcoreWdLoad)
    if d.flag pg fTcoreCoreCtrlHold then d else d.coreStart c

/-- Halt ends: with PAUSE the watchdog gets its grace (R413). -/
def Device.haltEnds (d : Device) (c : Fin 2) : Device :=
  let pg := PageRef.tcore c
  let d := d.dbgPut c fDbgcRunStatusHalted 0
  let d := if d.flag pg fTcoreWdCtrlEn && !d.flag pg fTcoreWdCtrlWdDebugPolicy then
      d.put pg fTcoreWdCount (max (d.rd pg fTcoreWdCount) (d.rd pg fTcoreWdGrace)) else d
  d.setCore c { d.core c with mode := .running }

/-- An abandoned wait takes its bus error on resume (R415). -/
def Device.resumeAbandoned (d : Device) (c : Fin 2) : Device :=
  let k := d.core c
  match k.abandoned with
  | some a => (d.setCore c { k with abandoned := none }).takeExc c (exBus a busAbandoned) k.pc
  | none => d

/-- Execution goes on at PC: RESUME (whose first instruction no instruction comparator matches) and CLEAR of a force halt. -/
def Device.coreResume (d : Device) (c : Fin 2) (quiet : Bool) : Device :=
  if (d.core c).mode ≠ .halted ∨ d.dbgFlag c fDbgcFeedStatusBusy = true then d
  else
    let d := d.haltEnds c
    (d.setCore c { d.core c with quiet := quiet }).resumeAbandoned c

/-- Force halt by PAGE_ABORT (R48, R415): RUN_STATUS.CAUSE has no code for it, so the value is free. -/
def Device.forceHalt (d : Device) (c : Fin 2) : Device :=
  let d := { d with free := d.free + 1 }
  d.halt c ((Config.freeWord d.free).toNat % 8) 0

/-- CORE_STATUS.STATE. -/
def coreStateCode : CoreMode → Nat
  | .reset => 0 | .running => 1 | .wfi => 2 | .waiting => 3 | .halted => 4 | .lockup => 5

/-- Non-posted requests of a core that have not ended. -/
def Device.coreOutstanding (d : Device) (c : Fin 2) : Nat :=
  (d.reqs.filter fun (e : Nat × Option Req) => match e.2 with
    | some r => (match r.cont with
        | .core c' => c' == c.val
        | .coreStore c' _ _ => c' == c.val
        | _ => false) && (match r.phase with
        | .quarantined => false
        | _ => true)
    | none => false).length

/-! ### The peephole from outside (R449) -/

/-- A write to TCORE.PEEP_RX. -/
def Device.peepRxWrite (d : Device) (c : Fin 2) (w : Word) : Device :=
  let k := d.core c
  let w := (w &&& 0x03FFFFFF) ||| 0x80000000
  let w := if w.extractLsb' 24 2 = 0 then w ||| 0x01000000 else w
  if k.peepRx.length < 16 then d.setCore c { k with peepRx := k.peepRx ++ [w] } else d.peepOverrun c

/-- The oldest word for the debugger, and its removal (R37, R449). -/
def Device.peepTxWord (d : Device) (c : Fin 2) : Word := (d.core c).peepTx.headD 0
def Device.peepTxPop (d : Device) (c : Fin 2) : Device :=
  let k := d.core c
  d.setCore c { k with peepTx := k.peepTx.drop 1 }

/-! ### REG_DATA (R442) -/

/-- What REG_DATA reads of a halted core; an unlisted selector reads 0. -/
def Device.regData (d : Device) (c : Fin 2) : Word :=
  let s := d.dbgRd c fDbgcRegSel
  let k := d.core c
  if s < 16 then k.reg (BitVec.ofNat 4 s)
  else if s = 16 then k.pc
  else if 32 ≤ s ∧ crListed (s - 32) = true then d.readCr c (s - 32)
  else 0

/-- A write of REG_DATA. -/
def Device.regDataWrite (d : Device) (c : Fin 2) (w : Word) : Device :=
  let s := d.dbgRd c fDbgcRegSel
  let k := d.core c
  if s < 16 then d.setCore c (k.setReg (BitVec.ofNat 4 s) w)
  else if s = 16 then d.setCore c { k with pc := w }
  else if 32 ≤ s ∧ crListed (s - 32) = true then d.writeCr c (s - 32) w
  else d

/-- A core that is sealed loses its comparators, HALT_ON_RESET, CATCH and trace (R448). -/
def Device.sealDebug (d : Device) (c : Fin 2) : Device :=
  let d := (d.dbgPut c fDbgcRunCtrlHaltOnReset 0).dbgPut c fDbgcRunCtrlCatch 0
  let d := (List.range 8).foldl (fun (d : Device) (i : Nat) =>
    (List.range 4).foldl (fun (d : Device) (j : Nat) =>
      d.setWord (pageBase .dbg + 0x120 + 0x100 * c.val + 0x10 * i + 4 * j) 0) d) d
  d.setCore c { d.core c with trace := [], tracing := false, post := none }

end Sys2Proof.Machine
end

