-- ==== Sys2Proof/Machine/Shutter.lean ====
section
/-! DEFINITION. Shutters (R198, R199): closing, draining, the drain limit, opening, for bays, links, curtains and the HOST node. -/

namespace Sys2Proof.Machine

open Sys2Proof

/-! ### Where a shutter's register is -/

/-- The link that a curtain page describes: its own, or the one that a spare engine serves (R281, R284). -/
def Device.curLinkOf (d : Device) (n : Fin 156) : Option (Fin 144) :=
  if h : n.val < 144 then some ⟨n.val, h⟩
  else (List.finRange 144).find? fun l => d.rd (curPage l) fCurCurStatusEngine == n.val

/-- The page that holds a shutter and its STATE and EXPIRED fields; none: a spare engine that serves no link. -/
def Device.shutterAt (d : Device) : ShutterRef → Option (PageRef × Fld × Fld)
  | .bay b => some (.pbay (d.bayPhys b), fPbayShutterState, fPbayShutterExpired)
  | .txl l => some (.txl l, fTxlShutterState, fTxlShutterExpired)
  | .cur n => (d.curLinkOf n).map fun l => (curPage l, fCurShutterState, fCurShutterExpired)
  | .hdma => some (.hdma, fHdmaShutterState, fHdmaShutterExpired)

/-- STATE of a shutter. -/
def Device.shutterState (d : Device) (sh : ShutterRef) : Nat :=
  match d.shutterAt sh with
  | some (pg, st, _) => d.rd pg st
  | none => shutterClosed

/-! ### Outstanding traffic (R198) -/

/-- A bay port has nothing under way: no request of its own, none accepted and unanswered, none waiting, and no packet of its own that
has still to enter the mesh. -/
def Device.bayDrained (d : Device) (pb : Fin 112) : Bool :=
  match d.logicalOf pb with
  | some n =>
    d.bayOutstanding n == 0 && !d.bayQueued n && (d.accepted.all fun a => a.bay != n.val) &&
      !(d.mesh.any fun f => f.src == .bay n.val && f.here.isNone && f.pkt.cls != 1)
  | none => true

/-- A link's egress has nothing under way, its engine's queues for it included, and neither has its receive side. -/
def Device.linkDrained (d : Device) (l : Fin 144) : Bool :=
  let k := d.lk l
  let c := d.cur l
  k.txq.isEmpty && k.cur.isEmpty && k.outReqs.isEmpty && k.inReqs.isEmpty && k.rxHeld.isEmpty && c.issueq.isEmpty && c.waiting.isEmpty

/-- A request of engine `n` itself is outstanding. -/
def Device.curAsking (d : Device) (n : Fin 144) : Bool :=
  d.reqs.any fun (e : Nat × Option Req) => match e.2 with
    | some r => (match r.cont with
        | .curtain m _ => m == n.val
        | _ => false) && r.phase != .quarantined
    | none => false

/-- The engine and the egress of its link have nothing under way. A sweep in progress pauses at a page boundary and does not hold the
close (R283, R284). -/
def Device.curDrained (d : Device) (n : Fin 144) : Bool :=
  let c := d.cur n
  d.curClean n && !d.curAsking n && c.waiting.isEmpty && c.reads.isEmpty && c.arrived.isEmpty && c.checks.isEmpty &&
    c.rmw.isNone && c.reenc.isNone && d.linkDrained n

/-- Requests of the HOST node, and requests it has accepted from the mesh. -/
def Device.hdmaDrained (d : Device) : Bool :=
  (d.reqs.all fun (e : Nat × Option Req) => match e.2 with
    | some r => (match r.cont with
        | .window _ _ => false
        | .channel _ _ _ => false
        | .debugMem => false
        | _ => true) || r.phase == .quarantined
    | none => true) && d.hostWait.isEmpty && !d.memWait &&
    d.hostReqs.all fun (e : Nat × Option HostReq) => match e.2 with
      | some r => (match r.use with
          | .fabric _ _ => false
          | _ => true)
      | none => true

def Device.drained (d : Device) (sh : ShutterRef) : Bool :=
  match sh with
  | .bay b => d.bayDrained (d.bayPhys b)
  | .txl l => d.linkDrained l
  | .cur n => match d.curLinkOf n with
    | some l => d.curDrained l
    | none => true
  | .hdma => d.hdmaDrained

/-! ### Ends of requests at a bay port (R181, R195, R198) -/

/-- Hand the design of a logical bay the answer to its request: a packet as it would have come over the mesh. -/
def Device.designAnswer (d : Device) (n : Nat) (tag : Nat) (r : Req) (status : Nat) : Device :=
  let req : Packet := { dst := r.dst, src := d.nodeId .fabric, cls := 0, op := r.op, len := r.len, tag := BitVec.ofNat 12 tag
                        laddr := r.laddr, ord := false, prio := 0, ch := false, v := true, lock := false, rsv := 0, hcrc := 0
                        payload := [], flits := 1 }
  d.emit (.toDesign n (rspTo req status))

/-- A request of a bay ends in TIMEOUT (R195, R196): its tag stays out of use (R164). -/
def Device.bayTimeout (d : Device) (n : Fin 104) (tag : Nat) : Device :=
  match d.req .fabric tag with
  | none => d
  | some r =>
    if r.phase = .quarantined then d
    else
      let d := d.setReq .fabric tag (some { r with phase := .quarantined })
      ((d.raise (.bay n) cBayBpTimeout).count (.bay n) 5).designAnswer n.val tag r stTimeout

/-- A packet that waits at a bay port ends in TIMEOUT, or is discarded when posted (R198, step 3). -/
def Device.dropQueued (d : Device) (n : Fin 104) (p : Packet) : Device :=
  if p.cls == 0 || p.cls == 3 then
    ((d.raise (.bay n) cBayBpTimeout).count (.bay n) 5).emit (.toDesign n.val (rspTo p stTimeout))
  else if p.cls == 2 then d.postedDrop else d

/-- What is left of a bay's traffic ends (R198, step 3; R48). -/
def Device.bayExpire (d : Device) (pb : Fin 112) : Device :=
  match d.logicalOf pb with
  | none => d
  | some n =>
    let d := (List.range 32).foldl (fun (d : Device) (i : Nat) => d.bayTimeout n (32 * n.val + i)) d
    let held := (List.range 4).flatMap fun c => sget (fun _ => []) d.bayHeld (n.val * 4 + c)
    let d := { d with bayHeld := sclear (fun k => decide (k / 4 = n.val)) d.bayHeld
                      accepted := d.accepted.filter fun a => a.bay != n.val }
    held.foldl (fun (d : Device) (p : Packet) => d.dropQueued n p) d

/-- An engine lets go of everything but its caches, and its link of its queues: requests from links and bays time out at their
initiators, posted packets are counted (R198, R271, R283, R284). -/
def Device.curExpire (d : Device) (n : Fin 144) : Device :=
  let d := d.dropReqs fun x => match x with
    | .curtain m _ => m == n.val
    | _ => false
  let c := d.cur n
  ((d.setCur n c.fenced).postedDrops c.postedLost).linkExpire n

/-- An access of the debugger's MEM port has ended (R438, R451). -/
def Device.memDone (d : Device) (status : Nat) (data : List Byte) : Device :=
  let d := if data.isEmpty then d else d.put .dbg fDbgMemData (natLE data)
  (d.put .dbg fDbgMemCtrlStatus status).raise .dbg fDbgMemCtrlDone

/-- A request of the HOST node that its initiator sees end in TIMEOUT. -/
def Device.hostEnds (d : Device) (k : Cont) : Device :=
  match k with
  | .window id i => (d.count .pcie 4).windowDone id i stTimeout []
  | .channel c idx off => (d.count .hdma 2).channelDone c idx off stTimeout []
  | .debugMem => (d.count .pcie 4).memDone stTimeout []
  | _ => d

/-- What is left of the HOST node's traffic ends: windows, channels and the MEM port see TIMEOUT, accepted requests go unanswered. -/
def Device.hdmaExpire (d : Device) : Device :=
  let open_ := d.reqs.filterMap fun (e : Nat × Option Req) => match e.2 with
    | some r => if r.phase = .quarantined then none else
        (match r.cont with
          | .window _ _ => some (e.1, r)
          | .channel _ _ _ => some (e.1, r)
          | .debugMem => some (e.1, r)
          | _ => none)
    | none => none
  let d := { d with hostWait := [], hostReqs := d.hostReqs.map fun (e : Nat × Option HostReq) => match e.2 with
      | some r => (match r.use with
          | .fabric _ _ => (e.1, some { r with use := HostUse.dropped })
          | _ => e)
      | none => e }
  let d := open_.foldl (fun (d : Device) (e : Nat × Req) =>
    { d with reqs := sset (fun _ => none) d.reqs e.1 (some { e.2 with phase := .quarantined, cont := .stale }) }.hostEnds e.2.cont) d
  if d.memWait then { d with memWait := false }.memDone stTimeout [] else d

/-! ### Closing -/

/-- STATE reaches CLOSED; for a bay of a partial load's window, the rest of R331 in the same cycle, also when the load has
aborted meanwhile and the bay is HELD (R333, R348). What an engine still holds for its link is refused with it (R183). -/
def Device.shutterReached (d : Device) (sh : ShutterRef) : Device :=
  match d.shutterAt sh with
  | none => d
  | some (pg, st, _) =>
    let d := d.put pg st shutterClosed
    match sh with
    | .bay b =>
      let pb := d.bayPhys b
      if d.flag (.pbay pb) fPbayBayCfgStateInPr && (d.load.window.getD []).contains pb.val && d.load.loading ||
          d.flag (.pbay pb) fPbayBayCfgStateHeld && !sget (fun _ => false) d.bayReset pb.val then
        d.windowShut pb
      else d
    | .txl l => d.curPump l
    | _ => d

/-- Step 1: CLOSE written to an OPEN shutter. An engine begins to write its caches back (R271). -/
def Device.shutterClose (d : Device) (sh : ShutterRef) : Device :=
  match d.shutterAt sh with
  | none => d
  | some (pg, st, ex) =>
    if d.rd pg st ≠ shutterOpen then d
    else
      let d := (d.put pg st shutterClosing).put pg ex 0
      match sh with
      | .cur n => match d.curLinkOf n with
        | some l => d.curFlush l
        | none => d
      | _ => d

/-- Step 2: outstanding traffic has drained. -/
def Device.shutterDrained (d : Device) (sh : ShutterRef) : Device :=
  if d.shutterState sh = shutterClosing ∧ d.drained sh = true then d.shutterReached sh else d

/-- Step 3: the drain limit. -/
def Device.shutterExpire (d : Device) (sh : ShutterRef) : Device :=
  match d.shutterAt sh with
  | none => d
  | some (pg, st, ex) =>
    if d.rd pg st ≠ shutterClosing then d
    else if d.drained sh then d.shutterReached sh
    else
      let d := match sh with
        | .bay b => (d.bayExpire (d.bayPhys b)).bayCause (d.bayPhys b) cBayDrainExpired
        | .txl l => d.linkExpire l
        | .cur n => match d.curLinkOf n with
          | some l => d.curExpire l
          | none => d
        | .hdma => d.hdmaExpire.raise .hdma cHdmaDrainExpired
      (d.put pg ex 1).shutterReached sh

/-- A close with a drain limit of zero (R48, R325, R456, R460): an engine keeps its dirty entries (R271). -/
def Device.shutterCut (d : Device) (sh : ShutterRef) : Device :=
  match d.shutterAt sh with
  | none => d
  | some (pg, st, ex) =>
    let d := if d.rd pg st = shutterOpen then (d.put pg st shutterClosing).put pg ex 0 else d
    d.shutterExpire sh

/-- SHUTTER_CLOSED and SHUTTER_DRAIN_EXPIRE: what waited for the window's bays goes on. -/
def shutterClosedBody (sh : ShutterRef) (d : Device) : Device := d.shutterDrained sh
def shutterDrainExpireBody (sh : ShutterRef) (d : Device) : Device := d.shutterExpire sh

/-! ### Opening (R199) -/

/-- The function's abort has left it fenced: it resumes only after CLEAR (R49, R199). -/
def Device.abortFenced (d : Device) (pg : PageRef) : Bool := d.rd pg hdrAbortState != 0

/-- The domain of a shutter has its clock and power: the mesh pair runs, and for a bay the pair of the clock that its bay port selects. -/
def Device.domainRuns (d : Device) (sh : ShutterRef) : Bool :=
  d.running 0 &&
    match sh with
    | .bay b =>
      let pb := d.bayPhys b
      let c := sget (fun _ => BayCfg.empty) d.bayCfg pb.val
      decide (mLoad ≤ d.mode ∧ d.mode ≤ mDrowse) && d.fabricOn && !sget (fun _ => false) d.bayOff pb.val &&
        (!c.clocks.getLsbD c.portClk || d.running (c.portClk / 8 + 1)) &&
        (match d.logicalOf pb with
          | some n => !sget (fun _ => false) d.drowsed n.val
          | none => false)
    | .txl _ => d.meshUp
    | .cur _ => d.meshUp
    | .hdma => d.meshUp

/-- The function that a shutter belongs to has been fenced by its abort; an engine of a link is fenced with its page. -/
def Device.shutterFenced (d : Device) (sh : ShutterRef) : Bool :=
  match sh with
  | .bay b => match d.logicalOf (d.bayPhys b) with
    | some n => d.abortFenced (.bay n)
    | none => true
  | .txl l => d.abortFenced (.txl l)
  | .cur n => d.abortFenced (.cur n)
  | .hdma => false

/-- OPEN written. A COMMIT of the MESH page that waits for quiet takes effect first (R186, DESIGN CHOICE, entry 80). A link that an abort
put to sleep wakes with it (R248); an engine writes back what an abort kept, and goes on with what it was at (R271, R283). -/
def Device.shutterOpenUp (d : Device) (sh : ShutterRef) : Device :=
  match d.shutterAt sh with
  | none => d
  | some (pg, st, _) =>
    if d.rd pg st ≠ shutterClosed ∨ d.shutterFenced sh = true ∨ d.domainRuns sh = false then d
    else
      let d := d.commitBeforeOpen.put pg st shutterOpen
      match sh with
      | .txl l =>
        if (d.lk l).sleepAfterAbort then (d.setLk l { d.lk l with sleepAfterAbort := false }).linkWake l else d
      | .cur n => match d.curLinkOf n with
        | some l => ((d.curFlush l).curResume l).curPump l
        | none => d
      | _ => d

end Sys2Proof.Machine
end

