-- ==== Sys2Proof/Machine/Modes.lean ====
section
/-! DEFINITION. Operating modes (R139, R452 to R461, R465, R497, R499 to R501), device reset, temperature (R485, R486). -/

namespace Sys2Proof.Machine

open Sys2Proof

/-! ### Device reset (R16, R27, R33, R34, R455) -/

/-- Registers that a device reset leaves: the SILL and DBG pages, SILL_CLK and LAST_FAIL (R149), FLASH_BOOT (R312), RECORD (R372), the level of
THERM_TRIP_N (R486), and, while the link is held in L1.2, LINK_STATUS (R455). -/
def resetKeeps (link : Bool) (k : Nat) : Bool :=
  k / 0x1000 == 0x0 || k / 0x1000 == 0xA ||
    k == pageBase .clk + 0x048 || k == pageBase .clk + 0x0B8 || k == fldKey .cfg fCfgFlashBoot 0 ||
    k == fldKey .repair fRepairRecordFlash 0 ||
    k == fldKey .pwr fPwrTripStatusTripped 0 || (link && k == fldKey .pcie fPcieLinkStatusPm 0)

/-- The pages whose epoch a device reset increments: every page but SILL and DBG (R33). -/
def resetPages : List PageRef :=
  ((List.range 584).filterMap pageOfOrdinal).filter fun pg => pg != .sill && pg != .dbg

/-- The spare of a migration that has not reached step 7 of its cut returns to the pool at a device reset (R499). -/
def Device.sparesBack (d : Device) : Device :=
  (List.range 8).foldl (fun (d : Device) (r : Nat) =>
    if d.migPhase r = 1 ∨ d.migPhase r = 2 ∨ d.migPhase r = 3 then d.setSteerCode (d.migTarget r).val codePool else d) d

/-- A device reset: everything but what lies outside its domain takes its value after sill power-on, the record is applied, and
every epoch increments (R33, R352, R430, R439). `link`: the PCI Express link is held in L1.2. -/
def Device.deviceReset (d : Device) (link : Bool) : Device :=
  let core (c : Fin 2) : CoreSt :=
    let k := d.core c
    { CoreSt.fresh with trace := k.trace, tracing := k.tracing, post := k.post, peepTx := k.peepTx, peepRx := k.peepRx }
  let n : Device :=
    { Device.fresh with
      regs := d.regs.filter (fun e => resetKeeps link e.1), out := d.out, free := d.free, rcDead := d.rcDead
      keyRam := d.keyRam, stuck := d.stuck, stuckSeen := d.stuckSeen, healthTick := d.healthTick, testTick := d.testTick
      recordPending := d.recordPending, tap := d.tap, perst := d.perst, vbatLow := d.vbatLow
      pciCfg := if link then d.pciCfg.filter (fun e => e.1 / 64 == 0) else []
      cores := [(0, core 0), (1, core 1)], porterRam := d.porterEpoch.porterRam }
  let n := n.applyRecord d.sparesBack.record
  resetPages.foldl (fun (n : Device) (pg : PageRef) =>
    (n.setWord (pageBase pg + 0x020) (d.word (pageBase pg + 0x020) + 1)).raise pg hdrReturned) n

/-! ### Wake (R455, R465, R497) -/

def wakePerst : Nat := 1
def wakePcie : Nat := 2
def wakeLink : Nat := 3
def wakePin : Nat := 4
def wakeTimer : Nat := 5

/-- A wake source is enabled. -/
def Device.wakeEnabled (d : Device) (source link : Nat) : Bool :=
  if source = wakePerst then true
  else if source = wakePcie then d.flag .sill fSillWakeEnPcie
  else if source = wakeLink then
    d.flag .sill fSillWakeEnLink && (d.rd .sill fSillLinkWakeEnLinks (link / 32)).testBit (link % 32)
  else if source = wakePin then d.flag .sill fSillWakeEnWakeN
  else d.flag .sill fSillWakeEnTimer

/-- A wake event: it is held, and the voter judges the references afresh (R497). While PERST_N is asserted only its deassertion
acts; an event during the entry to DORMANT acts after it (R465). -/
def Device.wake (d : Device) (source link : Nat) : Device :=
  if (source ≠ wakePerst ∧ d.perst = true) ∨ d.wakeEnabled source link = false then d
  else if d.mode ≠ mDormant then
    if d.modeStep.isSome ∧ d.rd .pwr fPwrModeStatusTarget = mDormant ∧ d.lateWake.isNone then
      { d with lateWake := some (source, link) }
    else d
  else if d.heldWake.isSome then d
  else
    let d := if d.rd .sill fSillWakeSrcSource = 0 then
        (d.put .sill fSillWakeSrcSource source).put .sill fSillWakeSrcLink link else d
    let d := ((d.lower .clk fClkRefStatusAGood).lower .clk fClkRefStatusBGood).lower .clk fClkRefStatusPcieRefGood
    { d with heldWake := some (source, link), judging := [.a, .b, .pcie] }

/-- FLASH_BOOT acts at each entry to DOORWAY (R312). -/
def Device.flashBoot (d : Device) : Device :=
  if d.flag .cfg fCfgFlashBoot then (d.put .cfg fCfgLoadSrcSource 3).loadGo else d

/-- The device leaves DORMANT on reference `b`: the core PLL and the PCIe PLL start (R139, R453, R497). The return is a device
reset for the tally (R45, R454). -/
def Device.leaveDormant (d : Device) (b : Bool) : Device :=
  let d := { d with heldWake := none, tally := [], tallyBroken := [] }
  let d := (((d.put .clk fClkRefStatusSelected b.toNat).startSource 9).startSource 10).setMode mDoorway
  let d := d.raise .sill cSillWoke
  let d := if d.flag .clk fClkSillClkTrimAuto then { d with trimming := true } else d
  (d.emit .drs).flashBoot

/-- REFERENCE_JUDGED_GOOD (R497). -/
def referenceJudgedGoodBody (r : RefClk) (d : Device) : Device :=
  if d.judging.contains r = false then d
  else
    let d := { d with judging := d.judging.erase r }
    match r with
    | .pcie => d.raise .clk fClkRefStatusPcieRefGood
    | .a => judged false (d.raise .clk fClkRefStatusAGood)
    | .b => judged true (d.raise .clk fClkRefStatusBGood)
where
  judged (b : Bool) (d : Device) : Device :=
    if d.heldWake.isSome then d.leaveDormant b
    else if d.mode ≠ mDormant ∧ d.flag .clk fClkRefCtrlPrefer = b ∧ d.selectedRef ≠ b then { d with refSwitch := some b }
    else d

/-! ### Entering DORMANT (R453, R456, R457, R500) -/

/-- A transition under way is over or lost (R465). -/
def Device.endStep (d : Device) : Device := ({ d with modeStep := none }).lower .pwr fPwrModeStatusBusy

/-- DORMANT is entered. -/
def Device.enterDormant (d : Device) (cause : Nat) : Device :=
  let d := d.put .sill fSillResetCauseCause cause
  let d := if cause = 2 then d.raise .sill cSillForcedDormant else d
  let held := d.rd .pcie fPcieLinkStatusPm == 4 && cause == 3
  let late := d.lateWake
  let d := (d.deviceReset held).setMode mDormant
  let d := (((d.put .sill fSillWakeSrcSource 0).put .sill fSillWakeSrcLink 0).put .sill fSillTimerCount 0)
  match late with
  | some (s, l) => d.wake s l
  | none => d

/-- A requested mode is reached (R452). -/
def Device.finishMode (d : Device) (m : Nat) : Device :=
  if m = mDormant then d.enterDormant 3
  else (d.endStep.setMode m).raise .pwr cPwrModeDone

/-! ### Shutters of a transition -/

def bayShutters : List ShutterRef := (List.finRange 112).map fun pb => .bay (.pbay pb)
def linkShutters (l : Fin 144) : List ShutterRef := [.txl l, .cur (curOfLink l)]
def allShutters : List ShutterRef := bayShutters ++ (List.finRange 144).flatMap linkShutters ++ [.hdma]

/-- Every one of these is CLOSED. -/
def Device.shut (d : Device) (l : List ShutterRef) : Bool := l.all fun sh => d.shutterState sh == shutterClosed

/-- Those that are OPEN. -/
def Device.openOf (d : Device) (l : List ShutterRef) : List ShutterRef := l.filter fun sh => d.shutterState sh == shutterOpen

def Device.closeAll (d : Device) (l : List ShutterRef) : Device :=
  l.foldl (fun (d : Device) (sh : ShutterRef) => d.shutterClose sh) d

/-- What has drained is CLOSED. -/
def Device.drainAll (d : Device) (l : List ShutterRef) : Device :=
  l.foldl (fun (d : Device) (sh : ShutterRef) => d.shutterDrained sh) d

def Device.openAll (d : Device) (l : List ShutterRef) : Device :=
  l.foldl (fun (d : Device) (sh : ShutterRef) => d.shutterOpenUp sh) d

/-! ### Links of a transition -/

/-- The lanes of a link still run, or it may yet become ACTIVE. -/
def Device.linkAwakeNow (d : Device) (l : Fin 144) : Bool :=
  let s := d.linkState l
  s != linkSleep && s != linkDisabled && s != linkFault

/-- Ask an ACTIVE link to sleep (R247). -/
def Device.askSleep (d : Device) (l : Fin 144) : Device := if (d.lk l).sleepWanted then d else pmSleep l d

def Device.disableLinks (d : Device) : Device :=
  (List.finRange 144).foldl (fun (d : Device) (l : Fin 144) => linkDisable l d) d

/-! ### DOORWAY (R453) -/

/-- A load or start-up that runs ends with no reason: the manual gives none for it. -/
def Device.loadLeaves (d : Device) : Device :=
  let d := { d.dropReads with readingShadow := none, load := LoadSt.fresh }
  (d.put .cfg fCfgLoadStatusStep 0).setLoadState lsIdle

/-- Self-tests end: the silicon under test loses power. -/
def Device.testsLost (d : Device) : Device :=
  let d := d.tests.foldl (fun (d : Device) (e : Nat × Option TestFor) => match e.2 with
    | some (.service n _) => d.respond n wsFailed []
    | some (.retireCall n) => d.respond n wsFailed []
    | _ => d) d
  { d with tests := [] }

/-- The fabric, mesh and link domains lose power: configuration and user state, and with it IN_PR, HELD, DEGRADED and the golden
list; TCM contents too (R414, R453). -/
def Device.fabricPowerOff (d : Device) : Device :=
  let d := d.testsLost
  let d := { d with
    fabricOn := false, fabricLost := d.fabricOn || d.fabricLost, bayOff := [], bayCfg := [], bramCfg := [], sliceCfg := []
    bayReset := [], writesOn := [], ffs := [], hinges := [], hingeCredits := [], hingeOutReg := [], stiles := []
    stileCredits := [], stileOutReg := [], sbOut := [], shadow := [], captureAll := [], bram := [], bramOut := []
    writeback := [], dirty := [], slices := [], mesh := [], meshHeld := [], arbs := [], mram := []
    rowWas := [], bayHeld := [], cfgMem := [], exclMap := [], golden := []
    goldenPop := [], scrubAt := none, tcm := [], drowsed := [], drowsedLinks := [], reopen := [], faultShut := []
    stopped := [], policy := [] }
  let d := (List.finRange 112).foldl (fun (d : Device) (pb : Fin 112) =>
    let pg := PageRef.pbay pb
    let d := ((d.lower pg fPbayBayCfgStateInPr).lower pg fPbayBayCfgStateHeld).put pg fPbayBayCfgStateHeldCause 0
    (((d.lower pg fPbayBayCfgStateDegraded).lower pg fPbayHingeStatusDrowsyGated).lower pg fPbayHingeStatusHeld).lower pg
      fPbayCaptureStatusBusy) d
  (List.range 9).foldl (fun (d : Device) (s : Nat) => d.stopSource s) d

/-- Every shutter is CLOSED: what is left of the entry to DOORWAY. -/
def Device.doorwayReached (d : Device) : Device :=
  let d := d.disableLinks.fabricPowerOff.pf1Down
  (d.finishMode mDoorway).flashBoot

/-- The pages of the fabric, mesh and link domains (R453). -/
def fabricPages : List PageRef :=
  ((List.range 584).filterMap pageOfOrdinal).filter fun pg => match pg with
    | .bay _ => true | .pbay _ => true | .mesh => true | .txl _ => true | .cur _ => true | .portr _ => true
    | _ => false

/-- LOAD has been entered after a MODE_REQ DOORWAY had switched the fabric, mesh and link domains off: they return from power-off
(R33), every link and engine starts afresh, and the record is applied again (R225, R352). -/
def Device.fabricReturned (d : Device) : Device :=
  if d.fabricLost then
    let d := { d with fabricLost := false, links := [], curs := [], routeStaged := [], routeCommitted := [], routeCopied := []
                      bayHeld := [], accepted := [] }
    (fabricPages.foldl (fun (d : Device) (pg : PageRef) => d.newEpoch pg) d).applyRecord d.record
  else d

/-! ### DROWSE (R458) -/

/-- Logical bays and links that the bitmaps name. -/
def Device.namedBays (d : Device) : List (Fin 104) :=
  (List.finRange 104).filter fun n => (d.rd .pwr fPwrDrowseBaysBays (n.val / 32)).testBit (n.val % 32)

def Device.namedLinks (d : Device) : List (Fin 144) :=
  (List.finRange 144).filter fun l => (d.rd .pwr fPwrDrowseLinksLinks (l.val / 32)).testBit (l.val % 32)

def Device.isDrowsed (d : Device) (n : Fin 104) : Bool := sget (fun _ => false) d.drowsed n.val

/-- The shutter of a bay as transitions name it. -/
def Device.bayShutterRef (d : Device) (n : Fin 104) : ShutterRef := .bay (.pbay (d.physOf n))

/-- Bays return from drowse: clocks restart, shutters that DROWSE closed open. -/
def Device.baysReturn (d : Device) (l : List (Fin 104)) : Device :=
  l.foldl (fun (d : Device) (n : Fin 104) =>
    let sh := d.bayShutterRef n
    let d := { d with drowsed := sset (fun _ => false) d.drowsed n.val false }
    let d := d.lower (.pbay (d.physOf n)) fPbayHingeStatusDrowsyGated
    if d.reopen.contains sh then ({ d with reopen := d.reopen.filter (· != sh) }).shutterOpenUp sh else d) d

/-- Links return from drowse: their shutters open and they wake (R248). -/
def Device.linksReturn (d : Device) (l : List (Fin 144)) : Device :=
  l.foldl (fun (d : Device) (l : Fin 144) =>
    let shs := (linkShutters l).filter fun sh => d.reopen.contains sh
    let d := { d with drowsedLinks := d.drowsedLinks.filter (fun k => k != l.val), reopen := d.reopen.filter fun sh => !shs.contains sh }
    pmWake l (d.openAll shs)) d

/-- MODE_REQ DROWSE has been accepted: the bitmaps apply afresh. -/
def Device.beginDrowse (d : Device) : Device :=
  let bays := d.namedBays
  let links := d.namedLinks
  let d := d.baysReturn ((List.finRange 104).filter fun n => d.isDrowsed n && !bays.contains n)
  let d := d.linksReturn ((List.finRange 144).filter fun l => d.drowsedLinks.contains l.val && !links.contains l)
  let shs := ((bays.filter fun n => !d.isDrowsed n).map d.bayShutterRef) ++
    (links.filter fun l => !d.drowsedLinks.contains l.val).flatMap linkShutters
  let d := { d with reopen := d.reopen ++ d.openOf shs, drowsedLinks := links.map fun (l : Fin 144) => l.val }
  { d.closeAll shs with modeStep := some .closing }

/-- Every named bay is behind its shutter: its clocks stop. -/
def Device.drowseReached (d : Device) : Device :=
  let d := d.namedBays.foldl (fun (d : Device) (n : Fin 104) =>
    ({ d with drowsed := sset (fun _ => false) d.drowsed n.val true }).raise (.pbay (d.physOf n)) fPbayHingeStatusDrowsyGated) d
  d.finishMode mDrowse

/-- A link named by DROWSE, in settle: its shutters close as they drain; it is asked to sleep behind them; a refusal is
DROWSE_PARTIAL. -/
def Device.drowsyLinks (d before : Device) : Device :=
  ((List.finRange 144).filter fun l => d.drowsedLinks.contains l.val).foldl (fun (d : Device) (l : Fin 144) =>
    let d := d.drainAll (linkShutters l)
    let d := if d.shut (linkShutters l) && d.mode == mDrowse then d.askSleep l else d
    if (d.lk l).sleepRepeat && !(before.lk l).sleepRepeat then d.raise .pwr cPwrDrowsePartial else d) d

/-- A drowsed bay in partial reconfiguration has its clocks; after the start-up it is stopped again while it stays named
(R465). -/
def Device.drowsyBays (d : Device) : Device :=
  if d.mode ≠ mDrowse then d
  else
    ((List.finRange 104).filter d.isDrowsed).foldl (fun (d : Device) (n : Fin 104) =>
      let pg := PageRef.pbay (d.physOf n)
      let sh := d.bayShutterRef n
      if d.flag pg fPbayBayCfgStateInPr then d.lower pg fPbayHingeStatusDrowsyGated
      else
        let d := if d.shutterState sh = shutterOpen then
            { d with reopen := d.reopen ++ [sh] }.shutterClose sh else d
        let d := d.shutterDrained sh
        if d.shutterState sh = shutterClosed then d.raise pg fPbayHingeStatusDrowsyGated else d) d

/-! ### QUIESCED (R459) -/

/-- A partial load, a golden call or a start-up runs. -/
def Device.loadBusy (d : Device) : Bool :=
  d.load.loading || d.load.starting ||
    (List.range 4).any fun n => match (d.mailbox n).running with
      | some ws => reqService ws == 6
      | none => false

/-- Step 4: clocks and sources stop. -/
def Device.quiescedReached (d : Device) : Device :=
  let run := (List.range 9).filter fun s => d.running s
  let d := (List.finRange 104).foldl (fun (d : Device) (n : Fin 104) =>
    if d.isDrowsed n then d.lower (.pbay (d.physOf n)) fPbayHingeStatusDrowsyGated else d) d
  let d := run.foldl (fun (d : Device) (s : Nat) => d.stopSource s)
    { d with stopped := run, drowsed := [], drowsedLinks := [] }
  d.finishMode mQuiesced

/-- The stopped sources have locked: everything that QUIESCED closed returns (R459). -/
def Device.quiescedLeft (d : Device) : Device :=
  let shs := d.reopen
  let d := ({ d with reopen := [], stopped := [] }).finishMode mService
  let d := d.openAll shs
  (List.finRange 144).foldl (fun (d : Device) (l : Fin 144) => if d.linkState l = linkSleep then pmWake l d else d) d

/-! ### Progress of a transition -/

/-- A migration is in its cut (phase 3). -/
def Device.cutting (d : Device) : Bool := (List.range 8).any fun r => d.migPhase r == 3

/-- Migrations in prepare or mirror end ABORTED (R364, R459). -/
def Device.migsStop (d : Device) : Device :=
  (List.range 8).foldl (fun (d : Device) (r : Nat) =>
    if d.migPhase r = 1 ∨ d.migPhase r = 2 then d.migEnd r wsAborted false else d) d

/-- One step of the transition under way, as far as what it waits for allows. -/
def Device.advanceOnce (d : Device) : Device :=
  let target := d.rd .pwr fPwrModeStatusTarget
  match d.modeStep with
  | none => d
  | some .flush =>
    if target = mQuiesced then
      if d.cutting then d
      else { ({ d with reopen := d.reopen ++ d.openOf allShutters }).closeAll allShutters with modeStep := some .closing }
    else if (List.finRange 144).any fun n => !d.curClean n then d
    else if target = mDormant then
      let d := allShutters.foldl (fun (d : Device) (sh : ShutterRef) => d.shutterCut sh) d
      { d.disableLinks with modeStep := some .pcie }
    else { d.closeAll allShutters with modeStep := some .closing }
  | some .closing =>
    if target = mDrowse then
      let shs := d.namedBays.map d.bayShutterRef
      let d := d.drainAll shs
      if d.shut shs then d.drowseReached else d
    else
      let d := d.drainAll allShutters
      if d.shut allShutters = false then d
      else if target = mQuiesced then { d with modeStep := some .asleep }
      else d.doorwayReached
  | some .asleep =>
    let awake := (List.finRange 144).filter d.linkAwakeNow
    if awake.isEmpty then d.quiescedReached
    else awake.foldl (fun (d : Device) (l : Fin 144) => d.askSleep l) d
  | some .pcie =>
    if d.rd .pcie fPcieLinkStatusPm = 4 ∨ d.rd .pcie fPcieLinkStatusRate = 0 then d.finishMode mDormant else d
  | some .locking =>
    if d.stopped.all fun s => d.flag .clk fClkSrcStatusLocked s then d.quiescedLeft else d

/-- As many steps as one command allows. -/
def Device.advanceMode : Nat → Device → Device
  | 0, d => d
  | fuel + 1, d => if d.modeStep.isNone then d else Device.advanceMode fuel d.advanceOnce

/-! ### Requests (R452, R453, R461) -/

/-- The mode that resumes what FAULT_HOLD left. -/
def Device.resumeMode (d : Device) : Nat :=
  let f := d.rd .sill fSillFaultFrom
  if f = mStartup then mLoad else f

/-- The transition table allows the request. -/
def Device.modeAllowed (d : Device) (t : Nat) : Bool :=
  let m := d.mode
  let seen := d.rd .sill fSillFaultSeen
  if d.flag .pwr fPwrModeStatusBusy || t == mStartup || t == mFaultHold then false
  else if m = mFaultHold then
    t == mDormant || t == mDoorway || (t == d.resumeMode && !seen.testBit 2 && !seen.testBit 5)
  else if t = mLoad then false
  else if t = mDormant then m != mDormant
  else if t = mDoorway then m == mLoad || m == mService || m == mDrowse || m == mQuiesced
  else if t = mDrowse then m == mService || m == mDrowse
  else if t = mService then m == mDrowse || m == mQuiesced
  else (m == mService || m == mDrowse) && !d.loadBusy && !d.goldenRunning

/-- A shutter that the mode left holds closed: of a drowsed bay or link. -/
def Device.drowsyShutter (d : Device) (sh : ShutterRef) : Bool :=
  ((List.finRange 104).any fun n => d.isDrowsed n && d.bayShutterRef n == sh) ||
    (List.finRange 144).any fun l => d.drowsedLinks.contains l.val && (linkShutters l).contains sh

/-- Resume from FAULT_HOLD (R461): the shutters that the entry closed open, and those that a transition which the fault ended
had closed; what is drowsed stays so in DROWSE, and nothing is drowsed in SERVICE. -/
def Device.resumeFault (d : Device) (t : Nat) : Device :=
  let shut := d.faultShut.map fun p => ShutterRef.bay (.pbay (Fin.ofNat 112 p))
  let d := ({ d with faultShut := [] }).finishMode t
  if t = mLoad then d.setLoadState lsFenced
  else if t = mService then
    { d with reopen := [], drowsedLinks := [] }.openAll (shut ++ d.reopen)
  else if t = mDrowse then
    { d with reopen := d.reopen.filter d.drowsyShutter }.openAll (shut ++ d.reopen.filter fun sh => !d.drowsyShutter sh)
  else d

/-- A request that has been accepted begins. -/
def Device.beginMode (d : Device) (t : Nat) : Device :=
  let d := (d.put .pwr fPwrModeStatusTarget t).raise .pwr fPwrModeStatusBusy
  if d.mode = mFaultHold ∧ t ≠ mDormant ∧ t ≠ mDoorway then d.resumeFault t
  else if t = mDormant ∨ t = mDoorway then
    let d := d.repairAbort
    let d := if t = mDoorway then d.loadLeaves else d
    let d := (List.finRange 144).foldl (fun (d : Device) (n : Fin 144) => d.curFlush n) d
    { d with modeStep := some .flush }
  else if t = mDrowse then d.beginDrowse
  else if t = mQuiesced then { d.migsStop with modeStep := some .flush }
  else if d.mode = mDrowse then
    let d := d.finishMode mService
    (d.baysReturn ((List.finRange 104).filter d.isDrowsed)).linksReturn
      ((List.finRange 144).filter fun l => d.drowsedLinks.contains l.val)
  else
    let d := d.stopped.foldl (fun (d : Device) (s : Nat) => if d.running s then d else d.startSource s) d
    { d with modeStep := some .locking }

/-- MODE_REQ with GO = 1 (R452). -/
def Device.modeRequest (d : Device) (t : Nat) : Device :=
  if d.modeAllowed t then d.beginMode t else (d.raise .pwr cPwrModeRefused).count .pwr 1

/-- QUIESCE_LIMIT: links still awake are disabled (R459). -/
def quiesceLimitBody (d : Device) : Device :=
  if d.modeStep = some .asleep then
    let awake := (List.finRange 144).filter d.linkAwakeNow
    if awake.isEmpty then d
    else (awake.foldl (fun (d : Device) (l : Fin 144) => linkDisable l d) d).raise .pwr cPwrLinkForced
  else d

/-! ### FAULT_HOLD (R460, R465, R501) -/

/-- An uncovered fault. -/
def Device.enterFaultHold (d : Device) (code : Nat) : Device :=
  let bit := 2 ^ (code - 1)
  if d.mode = mDormant then d
  else if d.mode = mFaultHold then d.put .sill fSillFaultSeen (Nat.lor (d.rd .sill fSillFaultSeen) bit)
  else
    let d := ((d.put .sill fSillFaultSeen bit).put .sill fSillFaultCause code).put .sill fSillFaultFrom d.mode
    let d := d.raise .sill fSillFaultValid
    let d := if (List.finRange 112).any fun pb => d.inService pb then captureAllBody d else d
    let shut := (List.range 112).filter fun p => d.bayShutter (Fin.ofNat 112 p) != shutterClosed
    let d := { d.endStep.setMode mFaultHold with faultShut := shut }
    let d := shut.foldl (fun (d : Device) (p : Nat) => d.shutterCut (.bay (.pbay (Fin.ofNat 112 p)))) d
    let d := d.repairAbort
    let d := if d.load.loading || d.load.starting then d.loadAbort abFaultHold else d
    (d.raise .pwr cPwrFaultEntered).count .pwr 2

/-! ### Pins and wake events -/

/-- THERM_TRIP_N is released (R486): `low`, every running sensor reads below 100 °C. -/
def Device.tripRelease (d : Device) (low : Bool) : Device :=
  if d.perst && low then d.lower .pwr fPwrTripStatusTripped else d

/-- 100 °C and 115 °C in 0.25 °C units. -/
def tempRelease : Int := 400
def tempTrip : Int := 460

/-- PERST_N_ASSERT (R453, R455, R500). In DORMANT only the sill's sensor runs, and the device is not reset again unless its
behaviour has become undefined: a device reset always returns it to defined behaviour (R7). -/
def perstNAssertBody (d : Device) : Device :=
  let low := d.flag .pwr fPwrTempValid 15 && decide ((BitVec.ofNat 12 (d.rd .pwr fPwrTemp 15)).toInt < tempRelease)
  let d := { d with perst := true, heldWake := none, lateWake := none, judging := [] }
  (if d.mode = mDormant ∧ d.lost = false then d else d.enterDormant 1).tripRelease low

/-- PERST_N_DEASSERT. -/
def perstNDeassertBody (d : Device) : Device :=
  if d.perst then { d with perst := false }.wake wakePerst 0 else d

/-- LINK_WAKE_DETECT (R248, R455). -/
def linkWakeDetectBody (l : Fin 144) (d : Device) : Device :=
  if d.mode = mDormant ∨ d.modeStep = some .pcie then d.wake wakeLink l.val else d.wakeDetected l

/-- WAKE_N. -/
def wakeNBody (d : Device) : Device := d.wake wakePin 0

/-- SILL_TIMER: TIMER_COUNT reaches TIMER_CMP; without a sill clock it does not count (R137). -/
def sillTimerBody (d : Device) : Device :=
  if d.mode = mDormant ∧ d.rd .sill fSillTimerCmp ≠ 0 ∧ d.flag .clk fClkSillClkDead = false then
    (d.put .sill fSillTimerCount (d.rd .sill fSillTimerCmp)).wake wakeTimer 0
  else d

/-- PCIE_L12_ENTRY: the link reaches L1.2, or goes down; a DORMANT entry that waits goes on in settle (R456). -/
def pcieL12EntryBody (down : Bool) (d : Device) : Device :=
  if d.mode = mDormant then d
  else if down then d.linkDown
  else if d.rd .pcie fPcieLinkStatusRate = 0 then d
  else d.put .pcie fPcieLinkStatusPm 4

/-- PCIE_L12_EXIT: the Downstream Port starts an exit (R455). -/
def pcieL12ExitBody (d : Device) : Device :=
  if d.rd .pcie fPcieLinkStatusPm = 4 then
    if d.mode = mDormant ∨ d.modeStep = some .pcie then d.wake wakePcie 0 else d.linkAwake
  else d

/-! ### Sill power (R368, R471, R473) -/

/-- VBAT_LOW: the fall is latched. -/
def vbatLowBody (d : Device) : Device := { d with vbatLow := true }

/-- SILL_POWER_ON: sill power-on reset ends, every epoch 0. Slots 4 to 11 are cleared where VBAT has fallen (R473). -/
def sillPowerOnBody (d : Device) : Device :=
  let n : Device := { Device.fresh with out := d.out, free := d.free + 1, stuck := d.stuck
                                        keyRam := if d.vbatLow then [] else d.keyRam }
  let n := if Config.freeBool d.free then n.raise .clk fClkSillClkXinPresent else n
  if d.vbatLow then n.raise .sill cSillKeyramLost else n

/-- SUPPLY_LOSS: the device resets, losing its state; the key RAM runs on from VBAT (R368, R473). -/
def supplyLossBody (d : Device) : Device :=
  { Device.fresh with out := d.out, free := d.free, stuck := d.stuck, keyRam := d.keyRam, vbatLow := d.vbatLow }

/-! ### Temperature (R485, R486) -/

/-- TEMP_MAX holds a reading since it was cleared: its SENSOR and value are set by the first. -/
def Device.tempMax (d : Device) (s : Nat) (t : Temp) : Device :=
  if decide ((BitVec.ofNat 12 (d.rd .pwr fPwrTempMaxTemp)).toInt < t.toInt) || !d.maxSeen then
    { (d.put .pwr fPwrTempMaxTemp t.toNat).put .pwr fPwrTempMaxSensor s with maxSeen := true }
  else d

/-- THERM_READ: the running sensors are read; in DORMANT only sensor 15. -/
def thermReadBody (temps : List Temp) (d : Device) : Device :=
  let rd := (List.range 16).filterMap fun s =>
    if d.mode ≠ mDormant ∨ s = 15 then (temps[s]?).map fun t => (s, t) else none
  let d := (List.range 16).foldl (fun (d : Device) (s : Nat) =>
    d.put .pwr fPwrTempValid (if d.mode ≠ mDormant ∨ s = 15 then 1 else 0) s) d
  let d := rd.foldl (fun (d : Device) (e : Nat × Temp) => (d.put .pwr fPwrTemp e.2.toNat e.1).tempMax e.1 e.2) d
  let warn := (BitVec.ofNat 12 (d.rd .pwr fPwrTempWarn)).toInt
  let d := if rd.any fun e => decide (warn ≤ e.2.toInt) then d.raise .pwr cPwrTempHigh else d
  let d := if (rd.any fun e => decide (tempTrip ≤ e.2.toInt)) && !d.flag .pwr fPwrTripStatusTripped then
    (d.raise .pwr fPwrTripStatusTripped).raise .pwr cPwrThermTrip else d
  d.tripRelease (rd.all fun e => decide (e.2.toInt < tempRelease))

/-- A write of TEMP_MAX.CLEAR: the maximum starts again with the next reading. -/
def Device.tempMaxClear (d : Device) : Device :=
  { (d.put .pwr fPwrTempMaxTemp 0).put .pwr fPwrTempMaxSensor 0 with maxSeen := false }

end Sys2Proof.Machine
end

