-- ==== Sys2Proof/Machine/Pages.lean ====
section
/-! DEFINITION. Reading a register (R19 to R23, R25 to R28, R37 to R39): the header, the fields that show other state, the pop
ports, and which pages answer. -/

namespace Sys2Proof.Machine

open Sys2Proof

/-! ### Pages and their domains -/

/-- The page that holds the block registers seen through a page; none: a spare engine that serves no link (R25, R284). -/
def Device.blockPage (d : Device) : PageRef → Option PageRef
  | .bay n => some (.pbay (d.physOf n))
  | .cur n => (d.curLinkOf n).map curPage
  | pg => some pg

/-- The block's power or clock domain is off (R27). MODE_REQ DOORWAY switches the fabric, mesh and link domains off; after DORMANT the
fabric alone waits for LOAD, since R151 sets node IDs in DOORWAY (R16, R453; DEDUCED, entry 34). -/
def Device.domainOff (d : Device) : PageRef → Bool
  | .pbay pb => !d.fabricOn || sget (fun _ => false) d.bayOff pb.val
  | .bay n => !d.fabricOn || sget (fun _ => false) d.bayOff (d.physOf n).val
  | .tcore _ => !d.coreClock
  | .porter => !d.coreClock
  | .cfg => !d.coreClock
  | .scrub => !d.coreClock
  | .mesh => d.fabricLost
  | .txl _ => d.fabricLost
  | .cur _ => d.fabricLost
  | .portr _ => d.fabricLost
  | _ => false

/-- The block of a page runs, where its chapter gives it a way not to: the scrubber in a mode that stops it or under an abort
(R338), a link that ENABLE has not started or that is in fault (R245), the porter (R420). -/
def Device.blockRuns (d : Device) : PageRef → Bool
  | .scrub => d.scrubRuns
  | .txl l => d.linkState l != linkDisabled && d.linkState l != linkFault
  | .porter => d.dispatching
  | _ => true

/-- The shutter of a page is closed (PAGE_STATUS). -/
def Device.shutterIsClosed (d : Device) : PageRef → Bool
  | .pbay pb => d.bayShutter pb == shutterClosed
  | .bay n => d.bayShutter (d.physOf n) == shutterClosed
  | .txl l => d.rd (.txl l) fTxlShutterState == shutterClosed
  | .cur n => d.shutterState (.cur n) == shutterClosed
  | .hdma => d.rd .hdma fHdmaShutterState == shutterClosed
  | _ => false

/-- A page answers the requester: in DORMANT only SILL and DBG do, to the debug port (R27). -/
def Device.answers (d : Device) (rq : Requester) (pg : PageRef) : Bool :=
  d.mode != mDormant || (rq == .debugPort && (pg == .sill || pg == .dbg))

/-! ### The header (R26) -/

/-- BLOCK_TYPE and INSTANCE of a page. -/
def pageKind : PageRef → Nat × Nat
  | .sill => (0x01, 0) | .clk => (0x02, 0) | .pwr => (0x03, 0) | .repair => (0x04, 0) | .cfg => (0x05, 0)
  | .scrub => (0x06, 0) | .keys => (0x07, 0) | .porter => (0x08, 0) | .tcore c => (0x09, c.val) | .dbg => (0x0A, 0)
  | .pcie => (0x0B, 0) | .hdma => (0x0C, 0) | .mesh => (0x0D, 0) | .tally => (0x0E, 0) | .jamb => (0x0F, 0)
  | .pbay n => (0x10, n.val) | .bay n => (0x11, n.val) | .txl n => (0x12, n.val) | .cur n => (0x13, n.val)
  | .portr n => (0x14, n.val) | .warden n => (0x15, n.val)

/-- PAGE_ID at stepping A0: version 1.0. -/
def pageId (pg : PageRef) : Nat := (pageKind pg).1 * 2 ^ 24 + (pageKind pg).2 * 2 ^ 12 + 0x100

/-- PAGE_CAPS; the KEYS page has twelve BLOCK_CAPS bits (R280). -/
def pageCaps (pg : PageRef) : Nat :=
  (if hasAbort pg then 2 ^ 31 else 0) + (if hasStaged pg then 2 ^ 30 else 0) + (if hasTally pg then 2 ^ 29 else 0) +
    (if pg = .keys then 0xFFF else 0)

/-- PAGE_STATUS. -/
def Device.pageStatus (d : Device) (pg : PageRef) : Nat :=
  let off := d.domainOff pg
  let block := if pg = .mesh then (if d.mesh.isEmpty then 1 else 0) + (if d.meshQuiesced then 2 else 0) else 0
  block * 2 ^ 16 + (if off then 16 else 0) + 8 * d.rd pg hdrStagedPending + (if d.shutterIsClosed pg then 4 else 0) +
    2 * d.rd pg hdrCommitBusy + (if d.flag pg hdrEnable && !off && d.rd pg hdrAbortState == 0 && d.blockRuns pg then 1 else 0)

/-- A header register. -/
def Device.headerRead (d : Device) (pg : PageRef) (o : Nat) : Nat :=
  let b := pageBase pg
  if o = 0x000 then pageId pg
  else if o = 0x004 then pageCaps pg
  else if o = 0x008 then d.rd pg hdrEnable
  else if o = 0x00C then d.pageStatus pg
  else if o = 0x010 then 4 * d.rd pg hdrAbortState
  else if o = 0x014 ∨ o = 0x018 ∨ o = 0x020 then (d.word (b + o)).toNat
  else 0

/-! ### Block registers -/

/-- The bits of an offset that a read shows as stored: no field, or a WO field, reads 0. -/
def readMask (pg : PageRef) (o : Nat) : Word :=
  (fieldsAt pg o).foldl (fun m f => if f.ty = .wo then m else setBits m f.lo f.width (2 ^ f.width - 1)) 0

/-- The register as stored. -/
def Device.stored (d : Device) (pg : PageRef) (o : Nat) : Nat := (d.word (pageBase pg + o) &&& readMask pg o).toNat

/-- A number for a truth value. -/
def bit (b : Bool) : Nat := if b then 1 else 0

/-- GOLDEN_POP of a frame address with its logical bay (R345). -/
def goldenWord (a : Nat) : Nat :=
  let f := frameAddrOf a
  2 ^ 31 + f.bay % 128 * 2 ^ 24 + f.typ % 8 * 2 ^ 21 + f.major % 256 * 2 ^ 13 + f.minor % 128

/-- What a port reads of a QUAR entry. -/
def Device.quarEntry (d : Device) (l : Fin 144) : Option (Nat × Nat) :=
  sget (fun _ => none) (d.cur l).quar (d.rd (curPage l) fCurQuarSelIndex)

/-- BP_STATUS.OUTSTANDING of a physical bay. -/
def Device.portOutstanding (d : Device) (pb : Fin 112) : Nat :=
  match d.logicalOf pb with
  | some n => d.bayOutstanding n
  | none => 0

/-- Block registers of a bay that show other state. -/
def Device.pbayRead (d : Device) (pb : Fin 112) (o v : Nat) : Nat :=
  if o = fPbayHingeStatusOutMismatch.off then
    v / 2 ^ 24 * 2 ^ 24 + (match d.logicalOf pb with
      | some n => d.mismatch n.val
      | none => 0)
  else if o = fPbayMemDirtyDirtyRows.off then v / 2 ^ 17 * 2 ^ 17 + (d.dirtyRows pb).length
  else if o = fPbayBpStatusOutstanding.off then d.portOutstanding pb
  else if o = fPbayBayCfgStateGoldenPending.off then
    v % 2 ^ 16 + 2 ^ 16 * (match d.logicalOf pb with
      | some n => (d.goldenOf n.val).length
      | none => 0)
  else if o = fPbayHealthPool.off then
    v - natBits v 14 2 * 2 ^ 14 + 2 ^ 14 * bit (d.steerCode pb.val == codeFailed) + 2 ^ 15 * bit (d.steerCode pb.val == codePool)
  else v

/-- TXL registers that show other state. -/
def Device.txlRead (d : Device) (l : Fin 144) (o v : Nat) : Nat :=
  let k := d.lk l
  if o = fTxlLinkStatusRetryUsed.off then v - natBits v 16 7 * 2 ^ 16 + k.retry.length % 128 * 2 ^ 16
  else if o = fTxlTxSeqLo.off then k.txSeq.toNat % 2 ^ 32
  else if o = fTxlTxSeqHi.off then k.txSeq.toNat / 2 ^ 32
  else if o = fTxlRxSeqLo.off then k.expect.toNat % 2 ^ 32
  else if o = fTxlRxSeqHi.off then k.expect.toNat / 2 ^ 32
  else v

/-- CUR registers that show other state. -/
def Device.curRead (d : Device) (l : Fin 144) (o v : Nat) : Nat :=
  let c := d.cur l
  if o = fCurCurStatusSlot0Valid.off then v - natBits v 8 2 * 2 ^ 8 + 2 ^ 8 * bit c.key0.isSome + 2 ^ 9 * bit c.key1.isSome
  else if o = fCurQuarStatusCount.off then (c.quar.filter fun (e : Nat × Option (Nat × Nat)) => e.2.isSome).length
  else if o = fCurQuarLoValid.off then
    match d.quarEntry l with
    | some (w, line) => 1 + 2 * (w % 4) + 64 * (line % 2 ^ 26)
    | none => 0
  else if o = fCurQuarHiLine.off then
    match d.quarEntry l with
    | some (_, line) => line / 2 ^ 26 % 2 ^ 22
    | none => 0
  else v

/-- Edges and node ports of the port routers (R178, R179). -/
def portrRead (m : Nat) : Nat :=
  let (x, y) := portRouterAt m
  let port := if m = 0 then 1 else if m = 1 then 2 else if m = 30 then 3 else 0
  x + 16 * y + 2 ^ 8 * (m / 12) + 2 ^ 10 * port + 2 ^ 16 * (3 * m)

/-- SEAL_STATUS: which sealed slots hold a key; whether VBAT stands at 1.5 V is the supply's to say (R280). -/
def Device.sealStatus (d : Device) : Nat :=
  bitsNat ((List.range 12).map fun s => (d.sealedKey s).isSome) + 2 ^ 16 * bit (Config.freeBool d.free)

/-- TCORE registers that show other state; WD_COUNT counts with time (R412). -/
def Device.tcoreRead (d : Device) (c : Fin 2) (o v : Nat) : Nat :=
  let k := d.core c
  if o = fTcoreCoreStatusState.off then
    coreStateCode k.mode + 8 * bit k.exl + v / 16 % 2 * 16 + 32 * (d.coreOutstanding c % 512)
  else if o = fTcoreWdCount.off then
    if d.flag (.tcore c) fTcoreWdCtrlEn then (Config.freeWord d.free).toNat % (d.rd (.tcore c) fTcoreWdLoad + 1) else v
  else if o = fTcorePeepTxWord.off then (d.peepTxWord c).toNat
  else if o = fTcorePeepRxWord.off then 16 - k.peepRx.length
  else v

/-- PORTER registers that show other state. -/
def Device.porterRegRead (d : Device) (o v : Nat) : Nat :=
  if o = fPorterReadyMap.off then bitsNat ((List.range 32).map fun l => !(d.readyList l).isEmpty)
  else if o = fPorterCountsReady.off then
    d.allReady.length % 2048 + 2 ^ 16 * (d.porter.delay.length % 2048)
  else if o = fPorterTraceStatusCount.off then d.porter.ring.length % 2048
  else if o = fPorterTracePopLo.off then d.traceLo.toNat
  else if o = fPorterTracePopHi.off then d.traceHi.toNat
  else if o = fPorterTraceWptrWptrLo.off then d.porter.wptr % 2 ^ 32
  else if o = fPorterTraceWptrWptrHi.off then d.porter.wptr / 2 ^ 32 % 2 ^ 32
  else v

/-- IDCODE (R435). -/
def idcode : Nat := 1 + 2 * Config.jedec.toNat + 2 ^ 12 * 0x7144

/-- DBG registers of core `c` that show other state; `o` from the core's base. -/
def Device.dbgCoreRead (d : Device) (c : Fin 2) (o v : Nat) : Nat :=
  let k := d.core c
  let r := (k.trace[d.dbgRd c fDbgcTraceSel]?).getD 0
  if o = fDbgcRegData.off then (if k.mode = .halted ∧ d.flag (.tcore c) fTcoreCoreStatusSealed = false then (d.regData c).toNat else 0)
  else if o = fDbgcTraceDataLo.off then r.toNat % 2 ^ 32
  else if o = fDbgcTraceDataHi.off then r.toNat / 2 ^ 32
  else if o = fDbgcTraceStatusCount.off then k.trace.length + 2 ^ 9 * bit k.tracing
  else v

/-- A block register of a page whose domain is on. `v`: as stored. -/
def Device.blockRead (d : Device) (pg : PageRef) (o v : Nat) : Nat :=
  match pg with
  | .sill =>
    if o = fSillSummaryGroup.off then d.summary.toNat
    else if 0x100 ≤ o ∧ o < 0x300 then (d.groupWord ((o - 0x100) / 16) ((o - 0x100) % 16 / 4)).toNat
    else if o = fSillTimerCount.off then (Config.freeWord d.free).toNat
    else v
  | .clk => if 0x0C0 ≤ o ∧ o < 0x140 then v % 2 ^ 16 + 2 ^ 16 * bit (d.gclkInUse ((o - 0x0C0) / 4)) else v
  | .pwr => v
  | .repair =>
    if 0x0C0 ≤ o ∧ o < 0x100 ∧ o % 8 = 4 then
      v / 2 ^ 24 * 2 ^ 24 + (if d.migPhase ((o - 0x0C0) / 8) = 0 then 0
        else (d.dirtyRows (d.migSource ((o - 0x0C0) / 8))).length)
    else v
  | .cfg =>
    if o = fCfgDeadlineStatusArmed.off then v % 2 ^ 16 + 2 ^ 16 * bit d.deadlineArmed
    else if o = fCfgSerialLo.off then dieSerial.toNat % 2 ^ 32
    else if o = fCfgSerialHi.off then dieSerial.toNat / 2 ^ 32
    else v
  | .scrub =>
    if o = fScrubScrubStatusState.off then v / 8 * 8 + d.scrubState
    else if o = fScrubGoldenPopValid.off then (match d.goldenPop with
      | [] => 0
      | a :: _ => goldenWord a)
    else if o = fScrubGoldenStatusCount.off then d.golden.length
    else v
  | .keys => if o = fKeysSealStatusFused.off then d.sealStatus else v
  | .porter => d.porterRegRead o v
  | .tcore c => d.tcoreRead c o v
  | .dbg =>
    if o = fDbgIdcode.off then idcode
    else if 0x100 ≤ o ∧ o < 0x300 then d.dbgCoreRead (Fin.ofNat 2 ((o - 0x100) / 0x100)) (o % 0x100) v
    else v
  | .pcie =>
    if o = fPciePf1StatusReady.off then
      bit d.pf1Ready + 2 * bit (d.busMaster .pf1) + 4 * bit d.atomicsOn + 2 ^ 8 * (if d.pf1Ready then d.vfsOn else 0)
    else v
  | .hdma => if o = fHdmaErrPopValid.off then (d.dmaErrs.headD 0).toNat else v
  | .mesh =>
    if o = fMeshRouteDataValid.off then (sget routeDflt d.routeStaged (d.rd .mesh fMeshRouteSelNode)).toNat
    else if o = fMeshDetourStatusActive.off then (d.detours.filter fun (e : Nat × Bool) => e.1 % 8 != 7).length % 512
    else v
  | .tally =>
    if 0x040 ≤ o ∧ o < 0x080 ∧ (o % 16 = 4 ∨ o % 16 = 8) then
      let e := d.tallyEntry (d.rd .tally fTallyPortSelectSelect ((o - 0x040) / 16))
      if o % 16 = 4 then e.count else e.status.toNat
    else v
  | .jamb =>
    let js := fun (lo n : Nat) (f : Bool × Bool → Bool) => bitsNat ((List.range n).map fun j => f (d.jambOut (lo + j)))
    if o = fJambOeLo.off then js 0 32 (·.1)
    else if o = fJambOeHi.off then js 32 16 (·.1)
    else if o = fJambOutLo.off then js 0 32 (·.2)
    else if o = fJambOutHi.off then js 32 16 (·.2)
    else v
  | .pbay pb => d.pbayRead pb o v
  | .bay _ => v
  | .txl l => d.txlRead l o v
  | .cur n => match d.curLinkOf n with
    | some l => d.curRead l o v
    | none => 0
  | .portr m => if o = fPortrPositionX.off then portrRead m.val else v
  | .warden n =>
    let m := d.mailbox n.val
    if o = fWardenMbxStatusQueued.off then
      m.queue.length % 8 + 8 * bit m.running.isSome + 16 * (m.resps.length % 16)
    else if o = fWardenMbxRespValid.off then (match m.resps with
      | [] => 0
      | r :: _ => r.word.toNat)
    else v

/-- What a register of a page reads, without popping (R21, R27, R37). -/
def Device.pageRead (d : Device) (pg : PageRef) (o : Nat) : Word :=
  if o < 0x040 then BitVec.ofNat 32 (d.headerRead pg o)
  else if d.domainOff pg then 0
  else
    match d.blockPage pg with
    | none => 0
    | some b => if (fieldsAt b o).isEmpty then 0 else BitVec.ofNat 32 (d.blockRead b o (d.stored b o))

/-! ### Pop ports (R37 to R39) -/

/-- The register of a pop port. -/
def popOffset : PopPort → PageRef × Nat
  | .peepTx c => (.tcore c, fTcorePeepTxWord.off)
  | .traceHi => (.porter, fPorterTracePopHi.off)
  | .golden => (.scrub, fScrubGoldenPopValid.off)
  | .err => (.hdma, fHdmaErrPopValid.off)
  | .mbx n => (.warden n, fWardenMbxRespValid.off)

/-- A read of the register pops its port. -/
def popAt (pg : PageRef) (o : Nat) : Option PopPort :=
  match pg with
  | .tcore c => if o = fTcorePeepTxWord.off then some (.peepTx c) else none
  | .porter => if o = fPorterTracePopHi.off then some .traceHi else none
  | .scrub => if o = fScrubGoldenPopValid.off then some .golden else none
  | .hdma => if o = fHdmaErrPopValid.off then some .err else none
  | .warden n => if o = fWardenMbxRespValid.off then some (.mbx n) else none
  | _ => none

/-- The oldest entry of a port is removed; an empty port does not change (R38). -/
def Device.pop (d : Device) : PopPort → Device
  | .peepTx c => d.peepTxPop c
  | .traceHi => if d.porter.ring.isEmpty then d else d.popTrace
  | .golden => { d with goldenPop := d.goldenPop.drop 1 }
  | .err => { d with dmaErrs := d.dmaErrs.drop 1 }
  | .mbx n => (d.popResponse n).2

/-! ### Reads -/

/-- Reads that the debugger makes peek at pop ports (R39). -/
def debugRead : Requester → Bool
  | .debugPort => true
  | .debugWindow => true
  | _ => false

/-- A channel's registers as a function's BAR2 shows them: its offset in the HDMA page names a channel the function owns, and one
that does nothing while its owner is not enabled (R382, R398). -/
def Device.bar2Channel (d : Device) (owner : Fin 33) (off : Nat) : Option Nat :=
  let o := off - pageBase .hdma
  if pageBase .hdma + 0x100 ≤ off ∧ off < pageBase .hdma + 0x900 then
    let c := (o - 0x100) / 0x20
    if d.rd .hdma fHdmaRingCfgOwner c = owner.val then some c else none
  else none

/-- A read through BAR2. -/
def Device.bar2Read (d : Device) (owner : Fin 33) (off : Nat) : Word × Device :=
  if pageBase .hdma + 0x100 ≤ off ∧ off < pageBase .hdma + 0x900 then
    match d.bar2Channel owner off with
    | some _ => if d.ownerReady owner.val then (d.pageRead .hdma (off - pageBase .hdma), d) else (0, d)
    | none => (0, d.ownerViolation)
  else (0, d)

/-- An aligned 32-bit read at a management offset, performed (R19, R21). `peek`: debug-attributed. A register that counts with time
takes a fresh free value. -/
def Device.mgmtRead (d : Device) (rq : Requester) (peek : Bool) (off : Nat) : Word × Device :=
  match rq with
  | .bar2 owner => d.bar2Read owner off
  | _ =>
    match pageOf off with
    | none => (0, d)
    | some pg =>
      if d.answers rq pg = false then (0, d)
      else
        let o := off % 0x1000
        let w := d.pageRead pg o
        let d := { d with free := d.free + 1 }
        match popAt pg o with
        | some p => if peek || debugRead rq || d.domainOff pg then (w, d) else (w, d.pop p)
        | none => (w, d)

end Sys2Proof.Machine
end

