-- ==== Sys2Proof/Machine/Mgmt.lean ====
section
/-! DEFINITION. Writing a register (R6, R19 to R25, R29 to R35, R42, R47 to R49): who may write, the fields of an offset, what a write
sets off, COMMIT, ENABLE and abort. The block registers of the DBG page are written in Machine/Debug.lean. -/

namespace Sys2Proof.Machine

open Sys2Proof

/-! ### The fields of a register -/

/-- A field takes `v`: W1C clears, W1S sets, RW and RWS store a listed value (R4, R6). -/
def Device.fieldWrite (d : Device) (pg : PageRef) (f : Fld) (i v : Nat) : Device :=
  match f.ty with
  | .rw => if f.minV ≤ v ∧ v ≤ f.maxV then d.put pg f v i else d.signal (.undefined .reservedEncoding)
  | .rws => if f.minV ≤ v ∧ v ≤ f.maxV then d.put pg f v i else d.signal (.undefined .reservedEncoding)
  | .w1c => d.put pg f ((BitVec.ofNat 32 (d.rd pg f i) &&& ~~~BitVec.ofNat 32 v)).toNat i
  | .w1s => d.put pg f (Nat.lor (d.rd pg f i) v) i
  | .ro => d
  | .wo => d

/-- Every field at an offset takes its bits of `w`. -/
def Device.fieldsWrite (d : Device) (pg : PageRef) (o : Nat) (w : Word) (skip : Fld → Bool) : Device :=
  let fs := (fieldsAt pg o).filter fun f => !skip f
  let d := fs.foldl (fun (d : Device) (f : Fld) => d.fieldWrite pg f ((o - f.off) / f.stride) (bitsOf w f.lo f.width)) d
  if fs.any fun f => f.ty == .rws then d.markStaged pg else d

/-! ### What a write of a block register sets off -/

/-- The shutter register: bit 0 closes, bit 1 opens; each acts in its own STATE alone (R199). -/
def Device.shutterWrite (d : Device) (sh : ShutterRef) (w : Word) : Device :=
  let d := if w.getLsbD 0 then d.shutterClose sh else d
  if w.getLsbD 1 then d.shutterOpenUp sh else d

/-- ALERT_REARM (R42). -/
def Device.alertRearm (d : Device) : Device := if d.alertHolds then d.raiseMsix .pf0 0 else d

def Device.sillWrite (d : Device) (o : Nat) (w : Word) : Device :=
  if o = fSillAlertRearmRearm.off ∧ w.getLsbD 0 = true then d.alertRearm else d

/-- R135, R136, R142, R145. The PCIe PLL counts among the sources whose MULT is fixed, whose writes are ignored (DESIGN CHOICE, entry 79).
The spread fields of the sources that do not modulate hold what is written and do nothing (DESIGN CHOICE, entry 79). -/
def Device.clkWrite (d : Device) (o : Nat) (w : Word) : Device :=
  if o = fClkRefCtrlPrefer.off then
    let old := d.flag .clk fClkRefCtrlPrefer
    (d.fieldsWrite .clk o w fun _ => false).preferWritten old
  else if o = fClkSillClkSrcSel.off then d.writeSillClk w.toNat
  else if o = fClkSrcRunRun.off then d.writeSrcRun w.toNat
  else if o = fClkRatioLlDiv.off then
    let d := d.fieldsWrite .clk o w fun _ => false
    if d.stored .clk o = 0 then d else d.signal (.undefined .clockRatio)
  else if 0x050 ≤ o ∧ o < 0x07C then
    let s := (o - 0x050) / 4
    let d := d.fieldsWrite .clk o w fun f => f == fClkSrcCfgMult && decide (5 ≤ s ∧ s ≤ 9)
    if d.flag .clk fClkSrcCfgSscCentre s && decide (5 < d.rd .clk fClkSrcCfgSscDepth s) then
      d.signal (.undefined .reservedEncoding) else d
  else d.fieldsWrite .clk o w fun _ => false

def Device.pwrWrite (d : Device) (o : Nat) (w : Word) : Device :=
  let d := d.fieldsWrite .pwr o w fun _ => false
  if o = fPwrModeReqTarget.off then (if w.getLsbD 3 then d.modeRequest (bitsOf w 0 3) else d)
  else if o = fPwrPoolOff.off then (if w.getLsbD 0 then d.poolOff else d.poolOn)
  else if o = fPwrTempMaxTemp.off ∧ w.getLsbD 31 = true then d.tempMaxClear
  else d

/-- R303: a STARTUP_ORDER that is no order is an unlisted encoding, and so is a PULL_BASE off its 4 KiB (R6). FWD_DATA is the next
word of a FORWARD load (R317). -/
def Device.cfgWriteReg (d : Device) (o : Nat) (w : Word) : Device :=
  if o = fCfgStartupOrderOrder.off ∧ stepsLegal (bitsOf w 0 15) = false then d.signal (.undefined .reservedEncoding)
  else if o = fCfgPullBaseBaseLo.off ∧ bitsOf w 0 12 ≠ 0 then d.signal (.undefined .reservedEncoding)
  else if o = fCfgPushTailTail.off then d.pushTail (bitsOf w 0 25)
  else
    let d := d.fieldsWrite .cfg o w fun _ => false
    if o = fCfgLoadCmdGo.off then
      let d := if w.getLsbD 0 then d.loadGo else d
      if w.getLsbD 1 then d.startupGo else d
    else if o = fCfgFwdData.off then fwdDataBody w d
    else d

/-- INJECT_ADDR lists the addresses of frames of types 0, 2, 3 and 4 (R6). -/
def Device.scrubWrite (d : Device) (o : Nat) (w : Word) : Device :=
  let d := d.fieldsWrite .scrub o w fun _ => false
  if o = fScrubInjectAddrFrame.off ∧ [0, 2, 3, 4].contains (frameAddrOf w.toNat).typ = false then
    d.signal (.undefined .reservedEncoding)
  else if o = fScrubInjectWord.off ∧ w.getLsbD 31 = true then
    (if bitsOf w 8 7 ≤ 72 then d.injectGo else d) else d

/-- TASK_CMD with an unlisted OP is reserved (R6, R432). Clearing STREAM writes out the burst; setting it starts a new ring
(R429). -/
def Device.porterRegWrite (d : Device) (o : Nat) (w : Word) : Device :=
  if o = fPorterTaskCmdTask.off then
    let op := bitsOf w 16 3
    if 1 ≤ op ∧ op ≤ 4 then d.taskCmd (bitsOf w 0 10) (bitsOf w 10 5) op else d.signal (.undefined .reservedEncoding)
  else if o = fPorterTraceCtrlEn.off then
    let stream := d.flag .porter fPorterTraceCtrlStream
    let d := if stream && !w.getLsbD 1 then d.traceFlush else d
    let d := d.fieldsWrite .porter o w fun _ => false
    if !stream && w.getLsbD 1 then d.traceStart else d
  else d.fieldsWrite .porter o w fun _ => false

/-- WD_CTRL and WD_LOAD ignore writes while LOCK is 1 (R412). -/
def Device.tcoreWrite (d : Device) (c : Fin 2) (o : Nat) (w : Word) : Device :=
  let pg := PageRef.tcore c
  if o = fTcorePeepRxWord.off then d.peepRxWrite c w
  else if o = fTcoreCoreCtrlHold.off then
    let before := d.flag pg fTcoreCoreCtrlHold
    (d.fieldsWrite pg o w fun _ => false).holdWritten c before
  else if o = fTcoreWdCtrlEn.off ∨ o = fTcoreWdLoad.off then
    if d.flag pg fTcoreWdCtrlLock then d
    else
      let before := d.flag pg fTcoreWdCtrlEn
      let d := d.fieldsWrite pg o w fun _ => false
      if o = fTcoreWdCtrlEn.off then d.wdWritten c before else d
  else d.fieldsWrite pg o w fun _ => false

/-- RING_LO, RING_HI and RING_CFG are taken only while the channel is IDLE or ABORTED (R395, R396). `guest`: through BAR2, where OWNER
and TIMEOUT are read-only (R398). -/
def Device.channelWrite (d : Device) (c r : Nat) (w : Word) (guest : Bool) : Device :=
  let o := 0x100 + 0x20 * c + r
  if r < 0x0C then
    if d.ringWritable c then d.fieldsWrite .hdma o w fun f => guest && f == fHdmaRingCfgOwner else d
  else if r = 0x0C then (d.fieldsWrite .hdma o w fun _ => false).chanPump c
  else if r = 0x18 then (if guest then d else d.fieldsWrite .hdma o w fun _ => false)
  else if r = 0x1C then d.chanCtrl c w
  else d

def Device.hdmaWrite (d : Device) (o : Nat) (w : Word) : Device :=
  if o = fHdmaShutterState.off then d.shutterWrite .hdma w
  else if 0x100 ≤ o ∧ o < 0x900 then d.channelWrite ((o - 0x100) / 0x20) ((o - 0x100) % 0x20) w false
  else d.fieldsWrite .hdma o w fun _ => false

/-- ROUTE_DATA writes the staged entry that ROUTE_SEL names (R202). -/
def Device.meshWrite (d : Device) (o : Nat) (w : Word) : Device :=
  if o = fMeshRouteDataValid.off then
    let n := d.rd .mesh fMeshRouteSelNode
    let count := bitsOf w 12 4
    if count < 1 ∨ 12 < count ∨ 143 < bitsOf w 0 8 then d.signal (.undefined .reservedEncoding)
    else { d with routeStaged := sset routeDflt d.routeStaged n (w &&& 0x8000F0FF) }.markStaged .mesh
  else d.fieldsWrite .mesh o w fun _ => false

/-- The entries above one. -/
def Device.tallyAbove (d : Device) (i : Nat) : List Nat :=
  let p := (d.tallyEntry i).parent
  [p, (d.tallyEntry p).parent, 0]

/-- R47: what is cleared, and the totals above and below, are recomputed; a total that an error had hit is repaired by it (R46).
An index that is not listed, or a total without SUBTREE, changes nothing (R44). -/
def Device.tallyClear (d : Device) (i : Nat) (subtree : Bool) : Device :=
  let e := d.tallyEntry i
  if e.leaf = true ∨ (subtree = true ∧ e.valid = true) then
    let hit (j : Nat) : Bool := j == i || (d.tallyAbove i).contains j || (subtree && (d.tallyAbove j).contains i)
    let t := { d with tally := sclear (tallyBelow i) d.tally, tallyBroken := d.tallyBroken.filter fun j => !hit j }
    if d.tallyBroken.any hit then t.raise .tally cTallyTallyFixed else t
  else d

def Device.tallyWrite (d : Device) (o : Nat) (w : Word) : Device :=
  if o = fTallyClearIndex.off then d.tallyClear (bitsOf w 0 13) (w.getLsbD 31)
  else d.fieldsWrite .tally o w fun _ => false

/-- CAPTURE with GO, of one bay or of all: one that meets a cut begins when the cut ends (R18, R72, R75). -/
def Device.captureWrite (d : Device) (b : BayPage) (w : Word) : Device :=
  if w.getLsbD 0 then (if w.getLsbD 1 then captureAllBody d.holdsEnd else captureBody b (d.holdOver b)) else d

def Device.pbayWrite (d : Device) (pb : Fin 112) (o : Nat) (w : Word) : Device :=
  let pg := PageRef.pbay pb
  let d := d.fieldsWrite pg o w fun _ => false
  if o = fPbayCaptureCmdGo.off then d.captureWrite (.pbay pb) w
  else if o = fPbayShutterState.off then (if w.getLsbD 0 then d.holdOver (.pbay pb) else d).shutterWrite (.bay (.pbay pb)) w
  else d

/-- SWAP_TEST (R226). -/
def Device.swapTest (d : Device) (l : Fin 144) (w : Word) : Device :=
  let d := if w.getLsbD 2 then d.laneFailed l (bitsOf w 0 2) else d
  if w.getLsbD 3 then d.clockFailed l else d

/-- PM_CTRL (R238, R247). -/
def Device.pmWrite (d : Device) (l : Fin 144) (w : Word) : Device :=
  let d := if w.getLsbD 0 then pmSleep l d else d
  let d := if w.getLsbD 1 then pmWake l d else d
  if w.getLsbD 2 then pmRetrain l d else d

def Device.txlWrite (d : Device) (l : Fin 144) (o : Nat) (w : Word) : Device :=
  let d := d.fieldsWrite (.txl l) o w fun _ => false
  if o = fTxlSwapTestLane.off then d.swapTest l w
  else if o = fTxlShutterState.off then d.shutterWrite (.txl l) w
  else if o = fTxlPmCtrlSleep.off then d.pmWrite l w
  else d

def Device.curRegWrite (d : Device) (l : Fin 144) (o : Nat) (w : Word) : Device :=
  let d := d.fieldsWrite (curPage l) o w fun _ => false
  if o = fCurShutterState.off then d.shutterWrite (.cur (curOfLink l)) w
  else if o = fCurKeyCtrlRoll.off then (if bitsOf w fCurKeyCtrlRoll.lo 1 = 1 then keyRoll l d else d)
  else if o = fCurWinCmdInit.off then
    (if bitsOf w fCurWinCmdInit.lo 1 = 1 then winInit l (bitsOf w fCurWinCmdWindow.lo fCurWinCmdWindow.width) d else d)
  else if o = fCurQuarReleaseGo.off then
    (if w.getLsbD 6 then quarRelease l (bitsOf w 0 5) (w.getLsbD 5) d else d)
  else d

def Device.wardenWrite (d : Device) (n : Fin 4) (o : Nat) (w : Word) : Device :=
  let d := d.fieldsWrite (.warden n) o w fun _ => false
  if o = fWardenSubmitGo.off ∧ w.getLsbD 0 = true then d.submitGo n else d

/-- A write of a block register of the page that holds it, its domain on. The DBG page takes none here (R437). -/
def Device.blockWrite (d : Device) (pg : PageRef) (o : Nat) (w : Word) : Device :=
  match pg with
  | .sill => (d.fieldsWrite .sill o w fun _ => false).sillWrite o w
  | .clk => d.clkWrite o w
  | .pwr => d.pwrWrite o w
  | .repair => d.fieldsWrite .repair o w fun _ => false
  | .cfg => d.cfgWriteReg o w
  | .scrub => d.scrubWrite o w
  | .keys => d
  | .porter => d.porterRegWrite o w
  | .tcore c => d.tcoreWrite c o w
  | .dbg => d.raise .dbg cDbgDbgConflict
  | .pcie => d.fieldsWrite .pcie o w fun _ => false
  | .hdma => d.hdmaWrite o w
  | .mesh => d.meshWrite o w
  | .tally => d.tallyWrite o w
  | .jamb => d
  | .pbay pb => d.pbayWrite pb o w
  | .bay _ => d
  | .txl l => d.txlWrite l o w
  | .cur n => match d.curLinkOf n with
    | some l => d.curRegWrite l o w
    | none => d
  | .portr _ => d.fieldsWrite pg o w fun _ => false
  | .warden n => d.wardenWrite n o w

/-! ### ENABLE and COMMIT (R30 to R32, R35) -/

/-- What ENABLE means on the pages that give it a meaning: the link enable, the scrubber, the porter. -/
def Device.enableEffect (d : Device) (pg : PageRef) (before en : Bool) : Device :=
  match pg with
  | .txl l => if en then linkEnable l d else linkDisable l d
  | .scrub => if en == before then d else d.scrubEnabled en
  | .porter => if en then d else d.porterAbort
  | _ => d

/-- An epoch tag matches (R35). -/
def Device.tagMatches (d : Device) (pg : PageRef) (w : Word) : Bool :=
  bitsOf w 24 8 == bitsOf (d.word (pageBase pg + 0x020)) 0 8

/-- PAGE_CTRL (R32, R35): with both set, the block starts with the set in effect. -/
def Device.ctrlWrite (d : Device) (pg : PageRef) (w : Word) : Device :=
  if d.tagMatches pg w = false then
    let d := d.raise pg hdrStale
    if w.getLsbD 1 then d.discardStaged pg else d
  else
    let before := d.flag pg hdrEnable
    let en := w.getLsbD 0
    let d := if w.getLsbD 1 then d.commitPage pg else d
    let d := if w.getLsbD 1 && en && !before then stagedSetApplyBody pg d else d
    (d.put pg hdrEnable (bit en)).enableEffect pg before en

/-! ### Abort (R48, R49) -/

/-- An engine works: traffic, an initialisation, a sweep, or flits under link mode that are still to be covered or acknowledged. -/
def Device.curWorks (d : Device) (n : Fin 144) : Bool :=
  let c := d.cur n
  let k := d.lk n
  !d.curDrained n || c.init.isSome || (d.curMode n == 1 && d.flag (curPage n) fCurCurStatusRollBusy && !c.swept) ||
    (d.curMode n == 2 && (!k.txCover.isEmpty || !k.rxCover.isEmpty || !k.retry.isEmpty))

/-- An initialisation under way ends: INIT_BUSY falls, and the window is left half written (DESIGN CHOICE, entry 80). -/
def Device.initStop (d : Device) (n : Fin 144) : Device :=
  (d.setCur n { d.cur n with init := none }).lower (curPage n) fCurCurStatusInitBusy

/-- Something runs that an abort would stop. -/
def Device.abortActive (d : Device) : PageRef → Bool
  | .bay n => !d.bayDrained (d.physOf n)
  | .txl l => d.lanesRun l || !d.linkDrained l
  | .cur n => match d.curLinkOf n with
    | some l => d.curWorks l
    | none => false
  | .cfg => d.load.loading || d.load.starting
  | .hdma => (List.range 64).any fun c => d.chState c == chRunning
  | .tcore c => (d.core c).mode == .running || (d.core c).mode == .wfi || (d.core c).mode == .waiting
  | .porter => d.dispatching
  | .scrub => d.scrubAt.isSome
  | .repair => (List.range 8).any fun r => d.migPhase r != 0
  | _ => false

/-- The function stops; whether it is fenced (R48). -/
def Device.abortStop (d : Device) : PageRef → Device × Bool
  | .bay n => (d.shutterCut (.bay (.bay n)), true)
  | .txl l => (linkAborted l d, true)
  | .cur n => (match d.curLinkOf n with
      | some l => (d.initStop l).shutterCut (.cur n)
      | none => d, true)
  | .cfg => (if d.load.loading || d.load.starting then d.loadAbort abHost else d, true)
  | .hdma => ((List.range 64).foldl (fun (d : Device) (c : Nat) => if d.chState c = chRunning then d.chanAbort c else d) d, false)
  | .tcore c => (d.forceHalt c, false)
  | .porter => (d.porterAbort, false)
  | .scrub => ({ d with scrubAt := none }, false)
  | .repair => (d.repairAbort, false)
  | _ => (d, false)

/-- STATE takes its DONE value. -/
def Device.abortEnd (d : Device) (pg : PageRef) (fenced : Bool) : Device :=
  (d.put pg hdrAbortState (if fenced then 3 else 2)).raise pg hdrAbortDone

/-- What an abort does as it begins: a link closes its shutter with a drain limit of zero and asks its partner for SLEEP (R48, R247). -/
def Device.abortBegin (d : Device) : PageRef → Device
  | .txl l => linkAbortBegin l (d.shutterCut (.txl l))
  | _ => d

/-- REQUEST: at once where nothing runs; a COMMIT in progress completes first. -/
def Device.abortRequest (d : Device) (pg : PageRef) : Device :=
  if d.rd pg hdrAbortState ≠ 0 then d
  else
    let d := stagedSetApplyBody pg d
    if d.abortActive pg then (d.put pg hdrAbortState 1).abortBegin pg else d.abortEnd pg false

/-- ABORT_DONE: the abort under way ends as the table of R48 says, also where the activity has ended by itself meanwhile. -/
def abortDoneBody (pg : PageRef) (d : Device) : Device :=
  if hasAbort pg ∧ d.rd pg hdrAbortState = 1 then
    let (d, fenced) := d.abortStop pg
    d.abortEnd pg fenced
  else d

/-- CLEAR: the scrubber begins a pass, a force-halted core goes on (R48, R450). -/
def Device.abortClear (d : Device) (pg : PageRef) : Device :=
  if d.rd pg hdrAbortState < 2 then d
  else
    let d := d.put pg hdrAbortState 0
    match pg with
    | .scrub => if d.scrubRuns then d.passBegin else d
    | .tcore c => d.coreResume c false
    | _ => d

/-- PAGE_ABORT. A request made in a DONE state has no effect, even with CLEAR. -/
def Device.abortWrite (d : Device) (pg : PageRef) (w : Word) : Device :=
  if hasAbort pg = false then d
  else if d.tagMatches pg w = false then d.raise pg hdrStale
  else if d.rd pg hdrAbortState = 0 then (if w.getLsbD 0 then d.abortRequest pg else d)
  else if w.getLsbD 1 then d.abortClear pg
  else d

/-! ### A write -/

/-- A header register (R26, R29). -/
def Device.headerWrite (d : Device) (pg : PageRef) (o : Nat) (w : Word) : Device :=
  let b := pageBase pg
  if o = 0x008 then d.ctrlWrite pg w
  else if o = 0x010 then d.abortWrite pg w
  else if o = 0x014 then d.setWord (b + 0x014) (d.word (b + 0x014) &&& ~~~w)
  else if o = 0x018 then d.setWord (b + 0x018) w
  else if o = 0x01C then d.setWord (b + 0x014) (d.word (b + 0x014) ||| (w &&& 0xF0FFFFFF))
  else d

/-- A mailbox page takes writes from its requester alone (R24). -/
def mayWrite (rq : Requester) : PageRef → Bool
  | .warden n => match rq with
    | .pf0 => n == 0
    | .core c => n.val == c.val + 1
    | .mesh => n == 3
    | _ => false
  | _ => true

/-- A write through BAR2. -/
def Device.bar2Write (d : Device) (owner : Fin 33) (off : Nat) (w : Word) : Device :=
  if pageBase .hdma + 0x100 ≤ off ∧ off < pageBase .hdma + 0x900 then
    match d.bar2Channel owner off with
    | some c => if d.ownerReady owner.val then d.channelWrite c ((off - pageBase .hdma - 0x100) % 0x20) w true else d
    | none => d.ownerViolation
  else d

/-- A write to a BAY block register waits for the end of a hold, and then finds the page that the alias names (R25). -/
def Device.aliasWaits (d : Device) : PageRef → Device
  | .bay n => d.holdOver (.bay n)
  | _ => d

/-- An aligned 32-bit write at a management offset; none: it is refused as R20 says (R19 to R25). -/
def Device.mgmtWrite0 (d : Device) (rq : Requester) (off : Nat) (w : Word) : Option Device :=
  match rq with
  | .bar2 owner => some (d.bar2Write owner off w)
  | _ =>
    match pageOf off with
    | none => some d
    | some pg =>
      let o := off % 0x1000
      if d.answers rq pg = false then some d
      else if mayWrite rq pg = false then none
      else if o < 0x040 then some (d.headerWrite pg o w)
      else if d.domainOff pg then some d
      else
        let d := d.aliasWaits pg
        match d.blockPage pg with
        | some b => some (d.blockWrite b o w)
        | none => some d

end Sys2Proof.Machine
end

