-- ==== Sys2Proof/Machine/TenantIsa.lean ====
section
/-! DEFINITION. What the instructions of a tenant core do (R401 to R407), how one is executed, traced and judged by comparators
(R408 to R411, R443 to R447), and how a wait ends (R405, R406). -/

namespace Sys2Proof.Machine

open Sys2Proof

/-! ### Local addresses (R403) -/

inductive Region where
  | itcm | dtcm
  | mgmt (off : Nat)
  | aperture (a x : Nat)
  | hole
  deriving DecidableEq, Repr

/-- The range a local address lies in. -/
def regionOf (a : Word) : Region :=
  let n := a.toNat
  if n < 0x20000 then .itcm
  else if n < 0x40000 then .dtcm
  else if 0x08000000 ≤ n ∧ n < 0x0C000000 then .mgmt (n - 0x08000000)
  else if 0x80000000 ≤ n then .aperture ((n - 0x80000000) / 0x08000000) (n % 0x08000000)
  else .hole

/-- The misaligned exception of the memory and aperture ranges. -/
def misalignedAt (a : Word) (size : Nat) : Bool :=
  match regionOf a with
  | .itcm => a.toNat % size != 0
  | .dtcm => a.toNat % size != 0
  | .aperture _ _ => a.toNat % size != 0
  | .mgmt _ => false
  | .hole => false

/-! ### Apertures (R405) -/

def Device.apLo (d : Device) (c : Fin 2) (a : Nat) : Word := (d.core c).cr (32 + 2 * a)
def Device.apHi (d : Device) (c : Fin 2) (a : Nat) : Word := (d.core c).cr (33 + 2 * a)

def Device.apValid (d : Device) (c : Fin 2) (a : Nat) : Bool := (d.apLo c a).getLsbD 0
def Device.apNp (d : Device) (c : Fin 2) (a : Nat) : Bool := (d.apLo c a).getLsbD 1

/-- ORD, PRIO and CH of an aperture, as `corePacket` takes them. -/
def Device.apAttr (d : Device) (c : Fin 2) (a : Nat) : Nat := bitsOf (d.apLo c a) 2 4

/-- The global address of offset `x`. -/
def Device.apGlobal (d : Device) (c : Fin 2) (a x : Nat) : Nat :=
  (d.apHi c a).toNat * 2 ^ 32 + bitsOf (d.apLo c a) 27 5 * 2 ^ 27 + x

/-- The tags of core `c` that R164 lets it use. -/
def Device.coreTag (d : Device) (c : Fin 2) : Option Nat := d.freeTag .core (0x100 * c.val) 256

/-- What becomes of a non-posted request of a core: sent under a tag, refused at once with a status, or no tag is free. -/
inductive Issued where
  | sent (tag : Nat) (d : Device)
  | refused (status : Nat)
  | noTag

/-- Issue a non-posted request. With NODE_CORE unassigned it ends in DECODE_ERROR (R151), with the mesh off in FENCED (R199). -/
def Device.coreIssue (d : Device) (c : Fin 2) (cont : Cont) (p : Packet) : Issued :=
  if d.nodeId .core == 0x3FF then .refused stDecode
  else if !d.meshUp then .refused stFenced
  else
    match d.coreTag c with
    | none => .noTag
    | some t =>
      let p := sealHeader { p with tag := BitVec.ofNat 12 t }
      let r : Req := { dst := p.dst, op := p.op, laddr := p.laddr, len := p.len, phase := .active, cont := cont }
      .sent t ((d.setReq .core t (some r)).inject .core c.val p)

/-- The first WR_NP store that has failed since the last MFENCE (R406). -/
def Device.storeFailed (d : Device) (c : Fin 2) (ap status : Nat) (a : Word) : Device :=
  let k := d.core c
  if k.fail.isSome then d else d.setCore c { k with fail := some (ap, status, a) }

/-! ### What an instruction comes to -/

inductive Effect where
  /-- It completes and the next one follows. -/
  | seq
  /-- A branch or jump is taken. -/
  | to (target : Word)
  /-- RFE. -/
  | back
  /-- WFI. -/
  | idle
  | exc (e : Exc)
  | wait (w : CoreWait) (tag : Option Nat)

/-- The device after an instruction, how it ended, and the data access it made, for the comparators. -/
structure InsnResult where
  dev : Device
  eff : Effect
  acc : Option CompAccess

def InsnResult.plain (d : Device) (e : Effect) : InsnResult := { dev := d, eff := e, acc := none }

/-- An instruction that writes one register. -/
def Device.insnSet (d : Device) (c : Fin 2) (rd : RegNo) (v : Word) : InsnResult :=
  .plain (d.setCore c ((d.core c).setReg rd v)) .seq

/-- The access of `size` bytes at `a` that moves `v`: the value loaded or stored, zero-extended (R444). -/
def accOf (a : Word) (size : Nat) (read write : Bool) (v : Option Word) : CompAccess :=
  { addr := a, size := size, read := read, write := write, value := v }

/-- The value of an access: its bytes, zero-extended. -/
def lowBytes (size : Nat) (v : Word) : Word := BitVec.ofNat 32 (v.toNat % 2 ^ (8 * size))

/-! ### Loads -/

/-- A load from one of the core's memories. -/
def Device.tcmLoad (d : Device) (c : Fin 2) (k : LoadKind) (rd : RegNo) (a : Word) : InsnResult :=
  let n := loadSize k
  match d.tcmRead c a.toNat n with
  | (none, d) => .plain d (.exc (exBus a busTcm))
  | (some bs, d) =>
    { dev := d.setCore c ((d.core c).setReg rd (loadValue k (natLE bs))), eff := .seq
      acc := some (accOf a n true false (some (BitVec.ofNat 32 (natLE bs)))) }

/-- LB, LBU, LH, LHU, LW (R401, R403, R405). -/
def Device.insnLoad (d : Device) (c : Fin 2) (fed : Bool) (k : LoadKind) (rd : RegNo) (a w : Word) : InsnResult :=
  let n := loadSize k
  if misalignedAt a n then .plain d (.exc (exMisaligned a))
  else
    match regionOf a with
    | .itcm => d.tcmLoad c k rd a
    | .dtcm => d.tcmLoad c k rd a
    | .mgmt off =>
      if n = 4 ∧ off % 4 = 0 then
        let (v, d) := d.mgmtRead (.core c) fed off
        { dev := d.setCore c ((d.core c).setReg rd v), eff := .seq, acc := some (accOf a 4 true false (some v)) }
      else .plain d (.exc (exBus a busMgmt))
    | .aperture ap x =>
      if d.apValid c ap then
        match d.coreIssue c (.core c.val) (d.corePacket 0 0x00 (d.apGlobal c ap x) n (d.apAttr c ap) []) with
        | .sent t d => .plain d (.wait (.load rd.toNat k a) (some t))
        | .refused st => .plain d (.exc (exMesh a ap st))
        | .noTag => .plain d (.wait (.freeTag w) none)
      else .plain d (.exc (exBus a busUnmapped))
    | .hole => .plain d (.exc (exBus a busUnmapped))

/-! ### Stores -/

/-- A store to one of the core's memories. -/
def Device.tcmStore (d : Device) (c : Fin 2) (n : Nat) (v a : Word) : InsnResult :=
  match d.tcmWrite c a.toNat (bytesLE n v.toNat) with
  | (false, d) => .plain d (.exc (exBus a busTcm))
  | (true, d) => { dev := d, eff := .seq, acc := some (accOf a n false true (some (lowBytes n v))) }

/-- SB, SH, SW (R401, R403, R405, R406): a failure of a WR_NP store is deferred. -/
def Device.insnStore (d : Device) (c : Fin 2) (n : Nat) (v a w : Word) : InsnResult :=
  if misalignedAt a n then .plain d (.exc (exMisaligned a))
  else
    let acc := some (accOf a n false true (some (lowBytes n v)))
    match regionOf a with
    | .itcm => d.tcmStore c n v a
    | .dtcm => d.tcmStore c n v a
    | .mgmt off =>
      if n = 4 ∧ off % 4 = 0 then
        match d.mgmtWrite0 (.core c) off v with
        | some d => { dev := d, eff := .seq, acc := acc }
        | none => .plain d (.exc (exBus a busMgmt))
      else .plain d (.exc (exBus a busMgmt))
    | .aperture ap x =>
      if d.apValid c ap then
        let g := d.apGlobal c ap x
        let bytes := bytesLE n v.toNat
        if d.apNp c ap then
          match d.coreIssue c (.coreStore c.val ap a) (d.corePacket 0 0x01 g n (d.apAttr c ap) bytes) with
          | .sent _ d => { dev := d, eff := .seq, acc := acc }
          | .refused st => { dev := d.storeFailed c ap st a, eff := .seq, acc := acc }
          | .noTag => .plain d (.wait (.freeTag w) none)
        else { dev := d.corePosted c.val (d.corePacket 2 0x10 g n (d.apAttr c ap) bytes), eff := .seq, acc := acc }
      else .plain d (.exc (exBus a busUnmapped))
    | .hole => .plain d (.exc (exBus a busUnmapped))

/-! ### Reservations (R407) -/

/-- LDX: outside the data memory every kind of bus error is UNMAPPED (R410). -/
def Device.insnLdx (d : Device) (c : Fin 2) (rd : RegNo) (a : Word) : InsnResult :=
  if misalignedAt a 4 then .plain d (.exc (exMisaligned a))
  else if regionOf a = .dtcm then
    let r := d.tcmLoad c .w rd a
    match r.eff with
    | .seq => { r with dev := r.dev.setCore c { r.dev.core c with resv := some (a.toNat / 8) } }
    | _ => r
  else .plain d (.exc (exBus a busUnmapped))

/-- STX: one that stores nothing makes no access. -/
def Device.insnStx (d : Device) (c : Fin 2) (rd : RegNo) (v a : Word) : InsnResult :=
  if misalignedAt a 4 then .plain d (.exc (exMisaligned a))
  else if regionOf a = .dtcm then
    if (d.core c).resv = some (a.toNat / 8) then
      let r := d.tcmStore c 4 v a
      match r.eff with
      | .seq => { r with dev := r.dev.setCore c { (r.dev.core c).setReg rd 0 with resv := none } }
      | _ => r
    else .plain (d.setCore c { (d.core c).setReg rd 1 with resv := none }) .seq
  else .plain d (.exc (exBus a busUnmapped))

/-! ### Atomics, messages, fences -/

/-- Opcode and payload of an atomic: the addend, the new value, or compare then new (R159, R401). -/
def CoreSt.atomicPacket (k : CoreSt) (op : AtomicOp) (rd rb : RegNo) : Nat × List Byte :=
  match op with
  | .fadd => (0x02, bytesLE 8 (k.pair rb))
  | .swap => (0x03, bytesLE 8 (k.pair rb))
  | .cas => (0x04, bytesLE 8 (k.pair rb) ++ bytesLE 8 (k.pair rd))

/-- MFADD, MSWAP, MCAS (R405). -/
def Device.insnAtomic (d : Device) (c : Fin 2) (op : AtomicOp) (rd rb : RegNo) (a w : Word) : InsnResult :=
  if misalignedAt a 8 then .plain d (.exc (exMisaligned a))
  else
    match regionOf a with
    | .aperture ap x =>
      if d.apValid c ap then
        let (code, data) := (d.core c).atomicPacket op rd rb
        match d.coreIssue c (.core c.val) (d.corePacket 0 code (d.apGlobal c ap x) data.length (d.apAttr c ap) data) with
        | .sent t d => .plain d (.wait (.atomic rd.toNat a) (some t))
        | .refused st => .plain d (.exc (exMesh a ap st))
        | .noTag => .plain d (.wait (.freeTag w) none)
      else .plain d (.exc (exBus a busUnmapped))
    | .mgmt _ => .plain d (.exc (exBus a busMgmt))
    | _ => .plain d (.exc (exBus a busUnmapped))

/-- MSG (R405): payload bytes 0 to 3 from `rd`, 4 to 7 from `rb`. -/
def Device.insnMsgSend (d : Device) (c : Fin 2) (rd rb : RegNo) (a : Word) : InsnResult :=
  match regionOf a with
  | .aperture ap x =>
    if d.apValid c ap then
      let k := d.core c
      let data := bytesLE 4 (k.reg rd).toNat ++ bytesLE 4 (k.reg rb).toNat
      { dev := d.corePosted c.val (d.corePacket 2 0x11 (d.apGlobal c ap x) 8 (d.apAttr c ap) data), eff := .seq
        acc := some (accOf a 8 false true none) }
    else .plain d (.exc (exBus a busUnmapped))
  | .mgmt _ => .plain d (.exc (exBus a busMgmt))
  | _ => .plain d (.exc (exBus a busUnmapped))

/-- How MFENCE ends once every request has ended: in a bus error DEFERRED if a store has failed (R406), its EINFO the store's
local address. A fed one that fails has no effect (R442). -/
def Device.fenceEnd (d : Device) (c : Fin 2) (fed : Bool) : InsnResult :=
  let k := d.core c
  match k.fail with
  | none => .plain d .seq
  | some f =>
    .plain (if fed then d else d.setCore c { k with fail := none })
      (.exc { code := excBus, einfo := f.2.2, berr := berrWord f.1 false f.2.1 busDeferred })

/-- MFENCE. -/
def Device.insnFence (d : Device) (c : Fin 2) (fed : Bool) : InsnResult :=
  if d.coreOutstanding c = 0 then d.fenceEnd c fed else .plain d (.wait .fence none)

/-! ### The whole set -/

/-- SLEEP with a delay of more than 24 bits is illegal (R424). -/
def sleepLegal (n : Word) : Bool := n.extractLsb' 24 8 == 0

/-- What an instruction does, its word legal (R401, R402). -/
def Device.insnEffect (d : Device) (c : Fin 2) (fed : Bool) (w : Word) (i : CoreInsn) : InsnResult :=
  let k := d.core c
  match i with
  | .alu op rd ra rb => d.insnSet c rd (aluValue op (k.reg ra) (k.reg rb))
  | .imm op rd ra v => d.insnSet c rd (immValue op (k.reg ra) v)
  | .lui rd v => d.insnSet c rd (v ++ (0 : BitVec 10))
  | .load lk rd ra v => d.insnLoad c fed lk rd (k.reg ra + v.signExtend 32) w
  | .store sz rd ra v => d.insnStore c sz.bytes (k.reg rd) (k.reg ra + v.signExtend 32) w
  | .branch cond ra rb off =>
    if condHolds cond (k.reg ra) (k.reg rb) then .plain d (.to (k.pc + off.signExtend 32 * 4)) else .plain d .seq
  | .jal off => .plain (d.setCore c (k.setReg 15 (k.pc + 4))) (.to (k.pc + off.signExtend 32 * 4))
  | .jalr rd ra v =>
    let t := k.reg ra + v.signExtend 32
    if t.toNat % 4 ≠ 0 then .plain d (.exc (exMisaligned t)) else .plain (d.setCore c (k.setReg rd (k.pc + 4))) (.to t)
  | .ldx rd ra => d.insnLdx c rd (k.reg ra)
  | .stx rd ra rb => d.insnStx c rd (k.reg rb) (k.reg ra)
  | .atomic op rd ra rb => d.insnAtomic c op rd rb (k.reg ra) w
  | .msg rd ra rb => d.insnMsgSend c rd rb (k.reg ra)
  | .mfence => d.insnFence c fed
  | .mfc rd n => d.insnSet c rd (d.readCr c n.toNat)
  | .mtc ra n => .plain (d.writeCr c n.toNat (k.reg ra)) .seq
  | .trap code => .plain d (.exc { code := excTrap, einfo := code.setWidth 32, berr := 0 })
  | .rfe => if k.exl then .plain d .back else .plain d (.exc (exIllegal w))
  | .wfi => .plain d .idle
  | .take rd =>
    let (v, d) := d.take c.val
    d.insnSet c rd v
  | .yield => .plain (d.yieldTask c.val) .seq
  | .sleep ra =>
    if sleepLegal (k.reg ra) then .plain (d.sleepTask c.val (k.reg ra).toNat) .seq else .plain d (.exc (exIllegal w))

/-! ### The end of an instruction -/

/-- The end of a STEP (R443). -/
def Device.stepEnds (d : Device) (c : Fin 2) : Device :=
  if (d.core c).stepping then d.halt c haltStep 0 else d

/-- An instruction has completed and PC is the next one's: data comparators act (R444). -/
def Device.insnDone (d : Device) (c : Fin 2) (acc : Option CompAccess) : Device :=
  let hits := match acc with
    | some x => [4, 5, 6, 7].filter fun i => d.dataMatch c i x
    | none => []
  let d := if hits.isEmpty then d else (d.compAct c hits (d.core c).pc).2
  d.stepEnds c

/-- An instruction takes an exception (R408): the EPC of a trap is the next instruction. -/
def Device.insnExc (d : Device) (c : Fin 2) (e : Exc) : Device :=
  let pc := (d.core c).pc
  (d.takeExc c e (if e.code = excTrap then pc + 4 else pc)).stepEnds c

/-- PC takes a value. -/
def Device.setPc (d : Device) (c : Fin 2) (pc : Word) : Device := d.setCore c { d.core c with pc := pc }

/-- An instruction fetched by the core comes to its end. A store that has reset its own core leaves no next instruction. -/
def Device.insnEnd (d : Device) (c : Fin 2) (r : InsnResult) : Device :=
  let pc := (d.core c).pc
  match r.eff with
  | .seq => if (r.dev.core c).mode = .running then (r.dev.setPc c (pc + 4)).insnDone c r.acc else r.dev
  | .to t => ((r.dev.setPc c t).traceRecord c (traceWord traceBranch pc t.toNat)).insnDone c none
  | .back => (r.dev.returnExc c).insnDone c none
  | .idle => ((r.dev.setCore c { r.dev.core c with pc := pc + 4, mode := .wfi }).wfiEnds c).insnDone c none
  | .exc e => r.dev.insnExc c e
  | .wait w t => r.dev.setCore c { r.dev.core c with mode := .waiting, wait := some w, waitTag := t, fed := false }

/-! ### Fed instructions (R442) -/

/-- FEED_STATUS after a fed instruction: BUSY 0, ERR, the exception code, the kind of a bus error. -/
def Device.feedEnd (d : Device) (c : Fin 2) (e : Option Exc) : Device :=
  let d := (d.setCore c { d.core c with wait := none, waitTag := none, fed := false }).dbgPut c fDbgcFeedStatusBusy 0
  match e with
  | none => ((d.dbgPut c fDbgcFeedStatusErr 0).dbgPut c fDbgcFeedStatusEcode 0).dbgPut c fDbgcFeedStatusKind 0
  | some e =>
    ((d.dbgPut c fDbgcFeedStatusErr 1).dbgPut c fDbgcFeedStatusEcode e.code).dbgPut c fDbgcFeedStatusKind
      (if e.code = excBus then bitsOf e.berr 0 8 else 0)

/-- The instructions that FEED refuses. -/
def fedRefused : CoreInsn → Bool
  | .branch _ _ _ _ => true | .jal _ => true | .jalr _ _ _ => true | .trap _ => true | .rfe => true | .wfi => true
  | .take _ => true | .yield => true | .sleep _ => true
  | .alu _ _ _ _ => false | .imm _ _ _ _ => false | .lui _ _ => false | .load _ _ _ _ => false | .store _ _ _ _ => false
  | .ldx _ _ => false | .stx _ _ _ => false | .atomic _ _ _ _ => false | .msg _ _ _ => false | .mfence => false
  | .mfc _ _ => false | .mtc _ _ => false

/-- A fed instruction comes to its end; PC does not change. -/
def InsnResult.fedEnd (r : InsnResult) (c : Fin 2) : Device :=
  match r.eff with
  | .wait w t =>
    (r.dev.setCore c { r.dev.core c with wait := some w, waitTag := t, fed := true }).dbgPut c fDbgcFeedStatusBusy 1
  | .exc e => r.dev.feedEnd c (some e)
  | .seq => r.dev.feedEnd c none
  | .to _ => r.dev.feedEnd c none
  | .back => r.dev.feedEnd c none
  | .idle => r.dev.feedEnd c none

/-- The instruction of a word, if it is legal. -/
def legalInsn (w : Word) : Option CoreInsn :=
  match decodeCore w with
  | some i => if insnLegal i then some i else none
  | none => none

/-- FEED on a halted core. -/
def Device.feedWord (d : Device) (c : Fin 2) (w : Word) : Device :=
  match legalInsn w with
  | none => d.feedEnd c (some (exIllegal w))
  | some i => if fedRefused i then d.feedEnd c (some (exIllegal w)) else (d.insnEffect c true w i).fedEnd c

/-! ### Executing an instruction -/

/-- Execute a word at PC: illegal, or its effect. -/
def Device.execWord (d : Device) (c : Fin 2) (w : Word) : Device :=
  match legalInsn w with
  | none => d.insnExc c (exIllegal w)
  | some i => d.insnEnd c (d.insnEffect c false w i)

/-- Why the fetch at PC fails, if it does (R403, R404, R410). -/
def Device.fetchExc (d : Device) (c : Fin 2) : Option Exc × Device :=
  let pc := (d.core c).pc
  if 0x20000 ≤ pc.toNat then (some { code := excBus, einfo := pc, berr := berrWord 0 true 0 busUnmapped }, d)
  else if pc.toNat % 4 ≠ 0 then (some (exMisaligned pc), d)
  else
    match d.tcmRead c pc.toNat 4 with
    | (none, d) => (some { code := excBus, einfo := pc, berr := berrWord 0 true 0 busTcm }, d)
    | (some _, d) => (none, d)

/-- What the word at PC holds. -/
def Device.fetchWord (d : Device) (c : Fin 2) : Word :=
  BitVec.ofNat 32 (natLE ((d.tcmRead c (d.core c).pc.toNat 4).1.getD []))

/-- One instruction: the comparators that match at PC act first (R444); one that halts or enters the monitor keeps it from
executing. -/
def Device.runInsn (d : Device) (c : Fin 2) (word : Device → Word) : Device :=
  let k := d.core c
  let hits := if k.quiet then [] else [0, 1, 2, 3].filter fun i => d.insnMatch c i k.pc
  let d := d.setCore c { k with quiet := false, acted := [] }
  let (stop, d) := if hits.isEmpty then (false, d) else d.compAct c hits k.pc
  if stop then d.stepEnds c
  else
    match d.fetchExc c with
    | (some e, d) => d.insnExc c e
    | (none, d) => d.execWord c (word d)

/-- A row of the table that names an instruction: a running core executes it at PC. A core in WFI with a pending enabled
interrupt runs again; any other core executes nothing. -/
def insnBody (c : Fin 2) (i : CoreInsn) (d : Device) : Device :=
  let d := d.wfiEnds c
  if (d.core c).mode = .running ∧ d.coreClock = true then (d.coreCycles c).runInsn c fun _ => encodeCore i else d

/-- The instruction at PC, as STEP executes it. -/
def Device.runFetched (d : Device) (c : Fin 2) : Device := (d.coreCycles c).runInsn c fun d => d.fetchWord c

/-! ### The end of a wait (R405, R406) -/

/-- A wait is over: the instruction completes or takes its exception. -/
def Device.waitEnds (d : Device) (c : Fin 2) (r : InsnResult) : Device :=
  let k := d.core c
  if k.fed then r.fedEnd c
  else
    let clear (e : Device) : Device := e.setCore c { e.core c with mode := .running, wait := none, waitTag := none }
    (clear d).insnEnd c { r with dev := clear r.dev }

/-- The aperture of a local address. -/
def apertureOf (a : Word) : Nat :=
  match regionOf a with
  | .aperture ap _ => ap
  | _ => 0

/-- The response to a load or atomic. -/
def Device.coreResponse (d : Device) (c : Fin 2) (status : Nat) (data : List Byte) : Device :=
  match (d.core c).wait with
  | some (.load rd k a) =>
    d.waitEnds c (if status = stOk then
      { dev := d.setCore c ((d.core c).setReg (BitVec.ofNat 4 rd) (loadValue k (natLE data))), eff := .seq
        acc := some (accOf a (loadSize k) true false (some (lowBytes (loadSize k) (BitVec.ofNat 32 (natLE data))))) }
      else .plain d (.exc (exMesh a (apertureOf a) status)))
  | some (.atomic rd a) =>
    d.waitEnds c (if status = stOk then
      { dev := d.setCore c ((d.core c).setPair (BitVec.ofNat 4 rd) (natLE data)), eff := .seq
        acc := some (accOf a 8 true true none) }
      else .plain d (.exc (exMesh a (apertureOf a) status)))
  | some .fence => d
  | some (.freeTag _) => d
  | none => d

/-- A waiting MFENCE sees that every request has ended; an instruction that waited for a tag finds one (R405, R406). -/
def Device.coreGoesOn (d : Device) (c : Fin 2) : Device :=
  let k := d.core c
  match k.wait with
  | some .fence => if d.coreOutstanding c = 0 then d.waitEnds c (d.fenceEnd c k.fed) else d
  | some (.freeTag w) =>
    if (d.coreTag c).isNone then d
    else
      match legalInsn w with
      | none => d
      | some i =>
        let d := d.setCore c { k with wait := none, waitTag := none, mode := if k.fed then k.mode else .running }
        let r := d.insnEffect c k.fed w i
        if k.fed then r.fedEnd c else d.insnEnd c r
  | _ => d

end Sys2Proof.Machine
end

