-- ==== Sys2Proof/Machine/Debug.lean ====
section
/-! DEFINITION. Debug and run control (R433 to R451): the DBG page, its ports into the management space and the global address
space, run control, and the test access port. -/

namespace Sys2Proof.Machine

open Sys2Proof

/-! ### Ownership (R437) -/

/-- The code of a port in DBG.OWNER. -/
def portCode : DbgPort → Nat
  | .port => 1
  | .window => 2

/-- The requester that a port is. -/
def portRequester : DbgPort → Requester
  | .port => .debugPort
  | .window => .debugWindow

def Device.dbgConflict (d : Device) : Device := d.raise .dbg cDbgDbgConflict

/-- A write of OWNER by the owner, or with no owner: RELEASE clears it, CLAIM sets it where it is 0. -/
def Device.ownerWrite (d : Device) (p : DbgPort) (w : Word) : Device :=
  let owner := d.rd .dbg fDbgOwner
  if owner = 0 then (if w.getLsbD 2 then d.put .dbg fDbgOwner (portCode p) else d)
  else if w.getLsbD 3 then d.put .dbg fDbgOwner 0 else d

/-! ### Run control (R440 to R443, R447 to R449) -/

/-- The core is sealed (R417). -/
def Device.coreSealed (d : Device) (c : Fin 2) : Bool := d.flag (.tcore c) fTcoreCoreStatusSealed

/-- The debugger is refused at a sealed core (R448). -/
def Device.sealedRefused (d : Device) : Device := d.raise .dbg cDbgSealedRefused

/-- REG_DATA and FEED act only on a halted core with no fed instruction running (R442). -/
def Device.feedReady (d : Device) (c : Fin 2) : Bool := (d.core c).mode == .halted && !d.dbgFlag c fDbgcFeedStatusBusy

/-- STEP (R443): with STEP_IRQ a pending interrupt is taken, and its entry is the step. -/
def Device.stepCore (d : Device) (c : Fin 2) : Device :=
  if d.feedReady c = false ∨ d.coreClock = false then d
  else
    let d := d.haltEnds c
    let k := d.core c
    let d := d.setCore c { k with quiet := true, stepping := true }
    if k.abandoned.isSome then (d.resumeAbandoned c).stepEnds c
    else
      match (if d.dbgFlag c fDbgcRunCtrlStepIrq then d.irqNow c else none) with
      | some s => (d.takeExc c { code := excIrq, einfo := BitVec.ofNat 32 s, berr := 0 } k.pc).stepEnds c
      | none => d.runFetched c

/-- RUN_CTRL, its RW fields written: HALT_REQ before RESUME before STEP. False: something was refused. -/
def Device.runWrite (d : Device) (c : Fin 2) (w : Word) : Bool × Device :=
  if w.getLsbD 0 then (if d.coreSealed c then (false, d.sealedRefused) else (true, d.halt c haltReq 0))
  else if w.getLsbD 1 then (true, d.coreResume c true)
  else if w.getLsbD 2 then (if d.coreSealed c then (false, d.sealedRefused) else (true, d.stepCore c))
  else (true, d)

/-- A write that needs a halted core. -/
def Device.haltedWrite (d : Device) (c : Fin 2) (f : Device → Device) : Bool × Device :=
  if d.coreSealed c then (false, d.sealedRefused)
  else if d.feedReady c then (true, f d)
  else (false, d.dbgConflict)

/-- A write of a block register of core `c`, at offset `r` from its base. -/
def Device.dbgCoreWrite (d : Device) (c : Fin 2) (r : Nat) (w : Word) : Bool × Device :=
  let fields (d : Device) : Device := d.fieldsWrite .dbg (0x100 + 0x100 * c.val + r) w fun _ => false
  if r = 0x00 then (fields d).runWrite c w
  else if r = 0x0C then d.haltedWrite c fun d => d.regDataWrite c w
  else if r = 0x10 then d.haltedWrite c fun d => if d.coreClock then d.feedWord c w else d
  else if r = 0x1C then (true, if w.getLsbD 0 then d.peepTxPop c else d)
  else if (0x20 ≤ r ∧ r < 0xA0) ∨ r = 0xA4 then
    if d.coreSealed c then (false, d.sealedRefused) else (true, fields d)
  else if r = 0xA0 then
    if d.coreSealed c then (false, d.sealedRefused)
    else
      let before := d.dbgFlag c fDbgcTraceCtrlEn
      (true, (fields d).traceEnabled c before)
  else (true, fields d)

/-! ### The MEM port (R438) -/

/-- Issue the access that MEM_CTRL describes: RD or WR_NP, with ORD, PRIO and CH 0. -/
def Device.memIssue (d : Device) : Device :=
  let d := { d with memWait := false }
  let addr := d.rd .dbg fDbgMemAddrLo + d.rd .dbg fDbgMemAddrHi * 2 ^ 32
  let n := d.rd .dbg fDbgMemCtrlSize + 1
  let p := if d.flag .dbg fDbgMemCtrlWrite then d.hostPacket 0 0x01 addr n 0 (bytesLE n (d.rd .dbg fDbgMemData))
    else d.hostPacket 0 0x00 addr n 0 []
  if d.hdmaShut then d.memDone stFenced []
  else if d.nodeId .host == 0x3FF then d.memDone stDecode []
  else if !d.meshUp then d.memDone stFenced []
  else (d.hostNonPosted iniWindow 0x400 0xC00 .debugMem p).getD { d with memWait := true }

/-- An access of the MEM port is under way. -/
def Device.memBusy (d : Device) : Bool :=
  d.memWait || d.reqs.any fun (e : Nat × Option Req) => match e.2 with
    | some r => r.cont == .debugMem && r.phase != .quarantined
    | none => false

/-- MEM_CTRL: a GO during an access has no effect. -/
def Device.memCtrl (d : Device) (w : Word) : Device :=
  if d.memBusy then d
  else
    let d := d.fieldsWrite .dbg 0x05C w fun _ => false
    if w.getLsbD 0 then ((d.lower .dbg fDbgMemCtrlDone).put .dbg fDbgMemCtrlStatus 0).memIssue else d

/-! ### Writes of the DBG page -/

/-- A write of a DBG block register by a port, but for GO in MAP_CTRL; false: it is ignored or refused (R437, R442, R448). -/
def Device.dbgWrite0 (d : Device) (p : DbgPort) (o : Nat) (w : Word) : Bool × Device :=
  let owner := d.rd .dbg fDbgOwner
  if owner ≠ 0 ∧ owner ≠ portCode p then (false, d.dbgConflict)
  else if o = 0x040 then (true, d.ownerWrite p w)
  else if o = 0x04C then (true, d)
  else if o = 0x05C then (true, d.memCtrl w)
  else if 0x100 ≤ o ∧ o < 0x300 then d.dbgCoreWrite (Fin.ofNat 2 ((o - 0x100) / 0x100)) (o % 0x100) w
  else (true, d.fieldsWrite .dbg o w fun _ => false)

/-- A block register of the DBG page. -/
def dbgBlock (off : Nat) : Bool := pageOf off == some .dbg && decide (0x040 ≤ off % 0x1000)

/-- The access that GO starts; its requester is the port. A GO that the access itself writes meets BUSY (R438). -/
def Device.mapAccess (d : Device) (p : DbgPort) (write : Bool) : Device :=
  let off := d.rd .dbg fDbgMapAddr / 4 * 4
  let w := BitVec.ofNat 32 (d.rd .dbg fDbgMapData)
  let done (e : Device) (error : Bool) : Device := e.put .dbg fDbgMapCtrlError error.toNat
  if write then
    if dbgBlock off then
      if off % 0x1000 = 0x04C ∧ w.getLsbD 2 = true then done d.dbgConflict false
      else done (d.dbgWrite0 p (off % 0x1000) w).2 false
    else
      match d.mgmtWrite0 (portRequester p) off w with
      | some d => done d false
      | none => done d true
  else
    let (v, d) := d.mgmtRead (portRequester p) true off
    done (d.put .dbg fDbgMapData v.toNat) false

/-- A write of a DBG block register by a port (R437, R438). -/
def Device.dbgWrite (d : Device) (p : DbgPort) (o : Nat) (w : Word) : Bool × Device :=
  match d.dbgWrite0 p o w with
  | (ok, d) => if ok && o == 0x04C && w.getLsbD 2 then (true, d.mapAccess p (w.getLsbD 3)) else (ok, d)

/-- An aligned 32-bit write at a management offset, by any requester; none: it is refused as R20 says. -/
def Device.mgmtWrite (d : Device) (rq : Requester) (off : Nat) (w : Word) : Option Device :=
  match rq with
  | .debugPort => if dbgBlock off then some (d.dbgWrite .port (off % 0x1000) w).2 else d.mgmtWrite0 rq off w
  | .debugWindow =>
    if dbgBlock off then (if d.answers rq .dbg then some (d.dbgWrite .window (off % 0x1000) w).2 else some d)
    else d.mgmtWrite0 rq off w
  | _ => d.mgmtWrite0 rq off w

/-! ### The rows that write a register -/

/-- The local address of a core at which the management space begins (R403). -/
def coreMgmtBase : Nat := 0x08000000

/-- A write that is not performed (R20, R24): its requester is told. A running core takes the bus error at its instruction. -/
def Device.accessRefused (d : Device) (rq : Requester) (off : Nat) : Device :=
  match rq with
  | .core c =>
    if (d.core c).mode = .running then d.insnExc c (exBus (BitVec.ofNat 32 (coreMgmtBase + off)) busMgmt) else d
  | _ => d.emit (.accessRefused rq off)

/-- A write that its row describes as made; one that R24 refuses is not performed. -/
def regWriteBody (rq : Requester) (off : Nat) (w : Word) (d : Device) : Device :=
  (d.mgmtWrite rq off w).getD (d.accessRefused rq off)

/-- REGISTER_WRITE: a write that is not 4 bytes at a multiple of 4 is not performed (R20). -/
def registerWriteBody (rq : Requester) (off : BitVec 26) (size : Nat) (w : Word) (d : Device) : Device :=
  if size = 4 ∧ off.toNat % 4 = 0 then regWriteBody rq off.toNat w d else d.accessRefused rq off.toNat

/-- A register of a page, by one of its fields. -/
def regAt (pg : PageRef) (f : Fld) (i : Nat := 0) : Nat := fldKey pg f i

/-- The rows that write PAGE_CTRL and PAGE_ABORT carry an epoch tag in bits 31:24 (R35). -/
def taggedWord (tag : Byte) (low : Nat) : Word := BitVec.ofNat 32 (tag.toNat * 2 ^ 24 + low)

/-- COMMIT, with ENABLE as given. -/
def commitBody (rq : Requester) (pg : PageRef) (tag : Byte) (en : Bool) : Device → Device :=
  regWriteBody rq (pageBase pg + 0x008) (taggedWord tag (2 + en.toNat))

def enableBody (rq : Requester) (pg : PageRef) (tag : Byte) (en : Bool) : Device → Device :=
  regWriteBody rq (pageBase pg + 0x008) (taggedWord tag en.toNat)

def abortRequestBody (rq : Requester) (pg : PageRef) (tag : Byte) : Device → Device :=
  regWriteBody rq (pageBase pg + 0x010) (taggedWord tag 1)

def abortClearBody (rq : Requester) (pg : PageRef) (tag : Byte) : Device → Device :=
  regWriteBody rq (pageBase pg + 0x010) (taggedWord tag 2)

def pageCauseClearBody (rq : Requester) (pg : PageRef) (w : Word) : Device → Device :=
  regWriteBody rq (pageBase pg + 0x014) w

def pageCauseSetBody (rq : Requester) (pg : PageRef) (w : Word) : Device → Device :=
  regWriteBody rq (pageBase pg + 0x01C) w

/-- The page of a bay page. -/
def bayPageRef : BayPage → PageRef
  | .bay n => .bay n
  | .pbay p => .pbay p

/-- A write that sets one-bit commands of a register and leaves its stored fields as they are. -/
def Device.withBits (d : Device) (pg : PageRef) (o bits : Nat) : Word :=
  (match d.blockPage pg with
    | some b => d.word (pageBase b + o)
    | none => 0) ||| BitVec.ofNat 32 bits

/-- The VALID bit of a log, as the write that frees it carries it. -/
def logBit : LogRef → PageRef × Fld
  | .mem b => (bayPageRef b, fPbayMemLog0Valid)
  | .lastFail => (.clk, fClkLastFailValid)
  | .header => (.mesh, fMeshLogStatusValid)
  | .detour => (.mesh, fMeshDetourLogValid)
  | .cur n => (.cur n, fCurFailLog0Valid)
  | .scrub => (.scrub, fScrubErrLog0Valid)
  | .window => (.pcie, fPcieWinLog0Valid)
  | .fault => (.sill, fSillFaultValid)

/-- LOG_FREE. -/
def logFreeBody (rq : Requester) (log : LogRef) : Device → Device :=
  let (pg, f) := logBit log
  regWriteBody rq (regAt pg f) (BitVec.ofNat 32 (2 ^ f.lo))

/-- The register of SHUTTER of a domain. -/
def shutterReg : ShutterRef → Nat
  | .bay b => regAt (bayPageRef b) fPbayShutterState
  | .txl l => regAt (.txl l) fTxlShutterState
  | .cur n => regAt (.cur n) fCurShutterState
  | .hdma => regAt .hdma fHdmaShutterState

/-- A read of a register by its row: the value goes back to the requester, a pop port is popped unless the read is debug-attributed
(R37, R39). -/
def popReadBody (rq : Requester) (port : PopPort) (d : Device) : Device :=
  let (pg, o) := popOffset port
  let (w, d) := d.mgmtRead rq false (pageBase pg + o)
  d.emit (.readData (pageBase pg + o) w)

/-- DEBUG_PEEK. -/
def debugPeekBody (port : PopPort) (d : Device) : Device :=
  let (pg, o) := popOffset port
  let (w, d) := d.mgmtRead .debugPort true (pageBase pg + o)
  d.emit (.readData (pageBase pg + o) w)

/-! ### The rows of the debug ports -/

/-- A write of a DBG block register by a port; in DORMANT the window does not work (R439). -/
def dbgRow (p : DbgPort) (o : Nat) (w : Word) (d : Device) : Device :=
  regWriteBody (portRequester p) (pageBase .dbg + o) w d

def claimBody (p : DbgPort) : Device → Device := dbgRow p 0x040 4
def releaseBody (p : DbgPort) : Device → Device := dbgRow p 0x040 8
def mapGoBody (p : DbgPort) (write : Bool) : Device → Device := dbgRow p 0x04C (BitVec.ofNat 32 (4 + 8 * write.toNat))
def memGoBody (p : DbgPort) (write : Bool) (size : BitVec 2) : Device → Device :=
  dbgRow p 0x05C (BitVec.ofNat 32 (1 + 2 * write.toNat + 4 * size.toNat))

/-- Core `c`'s base in the DBG page. -/
def dbgCore (c : Fin 2) : Nat := 0x100 + 0x100 * c.val

/-- RUN_CTRL with a command bit, its other fields as they are. -/
def runCtrlBody (p : DbgPort) (c : Fin 2) (bits : Nat) (d : Device) : Device :=
  dbgRow p (dbgCore c) (d.withBits .dbg (dbgCore c) bits) d

def haltReqBody (p : DbgPort) (c : Fin 2) : Device → Device := runCtrlBody p c 1
def resumeBody (p : DbgPort) (c : Fin 2) : Device → Device := runCtrlBody p c 2
def stepBody (p : DbgPort) (c : Fin 2) : Device → Device := runCtrlBody p c 4
def regDataBody (p : DbgPort) (c : Fin 2) (w : Word) : Device → Device := dbgRow p (dbgCore c + 0x0C) w
def feedBody (p : DbgPort) (c : Fin 2) (w : Word) : Device → Device := dbgRow p (dbgCore c + 0x10) w
def peepAckBody (p : DbgPort) (c : Fin 2) : Device → Device := dbgRow p (dbgCore c + 0x1C) 1
def traceEnableBody (p : DbgPort) (c : Fin 2) (w : Word) : Device → Device := dbgRow p (dbgCore c + 0xA0) w

/-! ### The test access port (R433 to R436, R439) -/

/-- A test access port instruction becomes the current one. -/
def Device.tapSelect (d : Device) (code : Nat) : Device := { d with tap := { d.tap with ir := code } }

/-- The low `n` bits of a number, as they are shifted out. -/
def bitList (n v : Nat) : List Bool := (List.range n).map v.testBit

/-- A pass through a one-bit register that captured 0: what comes out while `bits` go in. -/
def oneBitOut (bits : List Bool) : List Bool := (false :: bits).take bits.length

def extestBody (s : ScanIn) (d : Device) : Device :=
  let d := d.tapSelect 0x0
  { d with tap := { d.tap with seen := s.captured, cells := s.shifted } }.emit (.tdo s.captured)

def samplePreloadBody (s : ScanIn) (d : Device) : Device :=
  let d := d.tapSelect 0x1
  { d with tap := { d.tap with seen := s.captured, cells := s.shifted } }.emit (.tdo s.captured)

def idcodeBody (d : Device) : Device := (d.tapSelect 0x2).emit (.tdo (bitList 32 idcode))
def clampBody (d : Device) : Device := d.tapSelect 0x3
def highzBody (d : Device) : Device := d.tapSelect 0x4

def bypassBody (bit : Bool) (d : Device) : Device :=
  let d := d.tapSelect 0xF
  { d with tap := { d.tap with bypass := bit } }.emit (.tdo (oneBitOut [bit]))

/-- TAP_RESET: the instruction register alone. -/
def tapResetBody (d : Device) : Device := d.tapSelect 0x2

/-- The write of a DBGACC; false: refused. -/
def Device.dbgaccWrite (d : Device) (o : Nat) (w : Word) : Bool × Device :=
  if 0x040 ≤ o then d.dbgWrite .port o w else (true, regWriteBody .debugPort (pageBase .dbg + o) w d)

/-- DBGACC: the result of the last access goes out (its bits 11:2 are free), then the access is made. OP 0b11 makes none. -/
def dbgaccBody (dr : BitVec 44) (d : Device) : Device :=
  let d := { d with free := d.free + 1 }
  let t := d.tap
  let d := (d.tapSelect 0x8).emit (.tdo (bitList 2 t.status ++ bitList 10 (Config.freeWord d.free).toNat ++ bitList 32 t.data.toNat))
  let o := (dr.extractLsb' 2 10).toNat * 4
  let op := dr.extractLsb' 0 2
  if op = 1 then
    let (v, d) := d.mgmtRead .debugPort true (pageBase .dbg + o)
    { d with tap := { d.tap with status := 0, data := v } }
  else if op = 2 then
    let (ok, d) := d.dbgaccWrite o (dr.extractLsb' 12 32)
    { d with tap := { d.tap with status := if ok then 0 else 2 } }
  else d

/-- A wrapper instruction that acts as WBY. -/
def wirBypass : Nat := 256

/-- WRAP_ACCESS: an instruction that reaches key storage acts as WBY (R434). -/
def wrapAccessBody (a : WrapAccess) (d : Device) : Device :=
  let d := d.tapSelect 0x9
  let t := d.tap
  match a with
  | .dwr s => { d with tap := { t with dwrSeen := s.captured, dwr := s.shifted } }.emit (.tdo s.captured)
  | .wir w code keyed => { d with tap := { t with wir := sset (fun _ => 0) t.wir w.val (if keyed then wirBypass else code.toNat) } }
  | .wby w bit => { d with tap := { t with wby := sset (fun _ => false) t.wby w.val bit } }.emit (.tdo (oneBitOut [bit]))
  | .wbr w s =>
    if sget (fun _ => 0) t.wir w.val = wirBypass then
      { d with tap := { t with wby := sset (fun _ => false) t.wby w.val (s.shifted.getLastD false) } }.emit (.tdo (oneBitOut s.shifted))
    else
      { d with tap := { t with wbr := sset (fun _ => []) t.wbr w.val s.shifted
                               wbrSeen := sset (fun _ => []) t.wbrSeen w.val s.captured } }.emit (.tdo s.captured)

end Sys2Proof.Machine
end

