-- ==== Sys2Proof/Machine/Packets.lean ====
section
/-! DEFINITION. Packets at their edges: requests at the MGMT, CORE and HOST nodes and at bay ports (R150 to R163, R169, R198), the
ends of requests (R164 to R170, R195, R196), packets of designs (R180), failures of the mesh (R188 to R192). -/

namespace Sys2Proof.Machine

open Sys2Proof

/-! ### Answers of the nodes -/

/-- The edge of a node of this device; a bay's is its own. -/
def nodeEdge : NodeKind → Edge
  | .fabric => .bay 0
  | .mgmt => .mgmt
  | .core => .core
  | .host => .host

/-- A target answers a request, or discards it where it is posted (R167, R169). -/
def Device.refuse (d : Device) (e : Edge) (p : Packet) (status : Nat) : Device :=
  if p.cls == 2 then d.postedDrop else d.inject e iniAnswer (rspTo p status)

def Device.answerOk (d : Device) (e : Edge) (p : Packet) : Device :=
  if p.cls == 2 then d else d.inject e iniAnswer (rspTo p stOk)

def Device.answerData (d : Device) (e : Edge) (p : Packet) (data : List Byte) : Device :=
  d.inject e iniAnswer (rspDataTo p data true)

/-! ### The MGMT node (R19 to R21, R153) -/

def Device.mgmtTarget (d : Device) (p : Packet) : Device :=
  let a := p.laddr.toNat
  if p.cls != 3 then d.refuse .mgmt p stSlave
  else if 0x04000000 ≤ a then d.refuse .mgmt p stDecode
  else if a % 4 ≠ 0 ∨ p.len.toNat ≠ 3 then d.refuse .mgmt p stSlave
  else if p.op == 0x20 then
    let (w, d) := d.mgmtRead .mesh false a
    d.answerData .mgmt p (bytesLE 4 w.toNat)
  else
    -- a device that is not ready for a forwarded word answers SLAVE_ERROR (R317)
    let unready := a == fldKey .cfg fCfgFwdData 0 && !d.fwdReady
    match d.mgmtWrite .mesh a (BitVec.ofNat 32 (natLE p.payload)) with
    | some d => if unready then d.refuse .mgmt p stSlave else d.answerOk .mgmt p
    | none => d.refuse .mgmt p stSlave

/-! ### The CORE node (R152, R403, R404, R407, R417, R420, R421) -/

/-- What the CORE node finds at a local address: a memory of core `c` at a byte, or porter RAM. -/
inductive CoreTarget where
  | tcm (c : Fin 2) (x : Nat)
  | porter (x : Nat)
  | none
  deriving DecidableEq, Repr

def coreTargetOf (a : Nat) : CoreTarget :=
  if a < 0x40000 then .tcm 0 a
  else if 0x100000 ≤ a ∧ a < 0x140000 then .tcm 1 (a - 0x100000)
  else if 0x200000 ≤ a ∧ a < 0x210000 then .porter (a - 0x200000)
  else .none

/-- Read bytes at the CORE node; none: poisoned. -/
def Device.coreRead (d : Device) (t : CoreTarget) (len : Nat) : Option (List Byte) × Device :=
  match t with
  | .tcm c x => d.tcmRead c x len
  | .porter x => d.porterRead x len
  | .none => (none, d)

/-- Write bytes at the CORE node; false: refused. A reservation on the bytes goes. -/
def Device.coreWrite (d : Device) (t : CoreTarget) (bytes : List Byte) : Bool × Device :=
  match t with
  | .tcm c x =>
    match d.tcmWrite c x bytes with
    | (true, d) => (true, d.breakReservation c x bytes.length)
    | (false, d) => (false, d)
  | .porter x => match d.porterWrite x bytes with
    | some d => (true, d)
    | none => (false, d)
  | .none => (false, d)

/-- The value an atomic of opcode `op` writes, from the old one and its operands (R162). -/
def atomicNew (op old : Nat) (operands : List Byte) : Nat :=
  let n := atomicSize op
  let x := natLE (operands.take n)
  if op = 2 ∨ op = 5 then (old + x) % 2 ^ (8 * n)
  else if op = 3 ∨ op = 6 then x
  else if old = x then natLE (operands.drop n) else old

/-- An atomic at the CORE node. One that does not change memory clears a reservation too (R407). -/
def Device.coreAtomic (d : Device) (t : CoreTarget) (p : Packet) : Device :=
  let n := atomicSize p.op.toNat
  if p.laddr.toNat % n ≠ 0 then d.refuse .core p stSlave
  else
    match d.coreRead t n with
    | (none, d) => d.refuse .core p stPoison
    | (some bs, d) =>
      let old := natLE bs
      match d.coreWrite t (bytesLE n (atomicNew p.op.toNat old p.payload)) with
      | (true, d) => d.answerData .core p bs
      | (false, d) => d.refuse .core p stSlave

/-- A sealed core's memories are out of reach. -/
def Device.targetSealed (d : Device) : CoreTarget → Bool
  | .tcm c _ => d.coreSealed c
  | .porter _ => false
  | .none => false

def Device.coreNode (d : Device) (p : Packet) : Device :=
  let t := coreTargetOf p.laddr.toNat
  let op := p.op.toNat
  if p.cls == 3 then d.refuse .core p stSlave
  else if op = 0x11 then (if crosses4K p then d.postedDrop.raise .porter cPorterDbDrop else d.coreMsg p)
  else if t = .none then d.refuse .core p stDecode
  else if d.targetSealed t || crosses4K p then d.refuse .core p stSlave
  else if op = 0x00 then
    match d.coreRead t (p.len.toNat + 1) with
    | (some bs, d) => d.answerData .core p bs
    | (none, d) => d.refuse .core p stPoison
  else if op = 0x01 ∨ op = 0x10 then
    match d.coreWrite t p.payload with
    | (true, d) => d.answerOk .core p
    | (false, d) => d.refuse .core p stSlave
  else d.coreAtomic t p

/-! ### Bay ports (R153, R180, R198) -/

/-- A request at a bay port: handed to the design, unless the shutter is not open. -/
def Device.bayTarget (d : Device) (n : Fin 104) (p : Packet) : Device :=
  if d.bayShutter (d.physOf n) ≠ shutterOpen then d.refuse (.bay n.val) p stFenced
  else if p.cls == 3 then d.refuse (.bay n.val) p stSlave
  else
    let d := drowsyWakeBody n d
    let d := if p.cls == 2 then d
      else { d with accepted := d.accepted ++ [{ bay := n.val, src := p.src, tag := p.tag }] }
    d.emit (.toDesign n.val p)

/-! ### How a request ends (R164 to R170, R195) -/

/-- What waits for a free tag of a node goes on. -/
def Device.tagFreed (d : Device) (n : NodeKind) (tag : Nat) : Device :=
  match n with
  | .fabric => d
  | .mgmt =>
    if tag < 0x400 then Device.readbackPump 1024 d.fwdPump
    else d.curIssue (Fin.ofNat 144 ((tag - 0x400) / 16)) 16
  | .core => if tag < 0x200 then (d.coreGoesOn 0).coreGoesOn 1 else d.wardensGo
  | .host =>
    let d := d.windowPump.hostPump
    if d.memWait then d.memIssue else d

/-- A response as a design sees it when it does not stand as it came: an RSP with a status. -/
def statusRsp (p : Packet) (status : Nat) : Packet :=
  if p.op == 0x30 && p.laddr.toNat == status then p
  else sealHeader { p with op := 0x30, len := 0, laddr := BitVec.ofNat 54 status, payload := [], flits := 1, v := true }

/-- The initiator takes the end of a request: its status, and its data when the status is OK. -/
def Device.reqEnds (d : Device) (cont : Cont) (status : Nat) (data : List Byte) (p : Packet) : Device :=
  match cont with
  | .design n => d.emit (.toDesign n (if status = stOk then p else statusRsp p status))
  | .curtain n job => (d.curOwnDone (Fin.ofNat 144 n) job status (data.map (·.toNat))).curAdvance (Fin.ofNat 144 n)
  | .readback => d.readbackDone status
  | .forward i => d.forwardDone i status
  | .stale => d
  | .window id i => d.windowDone id i status data
  | .channel c idx off => d.channelDone c idx off status data
  | .warden n off => d.wardenDone n off status data
  | .core c => d.coreResponse (Fin.ofNat 2 c) status data
  | .coreStore c ap a => if status = stOk then d else d.storeFailed (Fin.ofNat 2 c) ap status a
  | .debugMem => d.memDone status data

/-- The response that a timeout stands for: what the request's target would have sent. -/
def timeoutRsp (n : BitVec 10) (tag : Nat) (r : Req) (status : Nat) : Packet :=
  sealHeader { dst := n, src := r.dst, cls := 1, op := 0x30, len := 0, tag := BitVec.ofNat 12 tag, laddr := BitVec.ofNat 54 status
               ord := false, prio := 0, ch := false, v := true, lock := false, rsv := 0, hcrc := 0, payload := [], flits := 1 }

/-- Payload bytes of the RSP_DATA that answers a request; none: an RSP does (R159). -/
def dataWanted (r : Req) : Option Nat :=
  match r.op.toNat with
  | 0x00 => some (r.len.toNat + 1)
  | 0x20 => some 4
  | 0x02 => some 8 | 0x03 => some 8 | 0x04 => some 8
  | 0x05 => some 16 | 0x06 => some 16 | 0x07 => some 16
  | _ => none

/-- The status a response gives its request: 3 and 7 count as SLAVE_ERROR (R168), and so does one that reports OK and does not fit:
without the data the request asked for, or with other data. -/
def rspStatus (r : Req) (p : Packet) : Nat :=
  let s := p.laddr.toNat % 8
  let fits := if p.op == 0x31 then dataWanted r == some p.payload.length else (dataWanted r).isNone
  if s = 3 ∨ s = 7 ∨ (s = stOk ∧ fits = false) then stSlave else s

/-- A response or marker that is not awaited (R166, R196). -/
def Device.lateRsp (d : Device) (n : NodeKind) (tag : Nat) : Device :=
  match ownerOf n tag with
  | some o => d.lateAt o
  | none => d

/-- A request of a design. -/
def ofDesign : Cont → Option Nat
  | .design n => some n
  | _ => none

/-- A response or marker arrives for a request that is listed. -/
def Device.rspMeets (d : Device) (n : NodeKind) (tag : Nat) (r : Req) (p : Packet) : Device :=
  let ended (d : Device) (status : Nat) (data : List Byte) : Device :=
    ((d.setReq n tag none).reqEnds r.cont status data p).tagFreed n tag
  let marker := decide (0x38 ≤ p.op.toNat)
  match r.phase with
  | .quarantined => ((d.lateRsp n tag).setReq n tag none).tagFreed n tag
  | .active =>
    if marker then d.lateRsp n tag
    else
      let status := rspStatus r p
      if p.op == 0x31 && !p.v && status == stOk then
        let d := d.setReq n tag (some { r with phase := .marker p.payload })
        match ofDesign r.cont with
        | some b => d.emit (.toDesign b p)
        | none => d
      else ended d status p.payload
  | .marker data =>
    if !marker then d.lateRsp n tag
    else
      match ofDesign r.cont with
      | some b => (d.setReq n tag none).emit (.toDesign b p)
      | none => ended d (if p.op == 0x38 then stOk else stCrypto) data

/-- A class 1 packet at a node of this device (R166). -/
def Device.rspArrives (d : Device) (n : NodeKind) (e : Edge) (p : Packet) : Device :=
  let tag := p.tag.toNat
  match ownerOf n tag with
  | none => d.headerError kStray (edgeCode e tag) p
  | some _ =>
    match d.req n tag with
    | none => d.lateRsp n tag
    | some r => d.rspMeets n tag r p

/-- A timeout is counted at its initiator (R195, R196). -/
def Device.timeoutAt (d : Device) : Option Initiator → Device
  | some (.bay n) => if h : n < 104 then (d.raise (.bay ⟨n, h⟩) cBayBpTimeout).count (.bay ⟨n, h⟩) 5 else d
  | some (.core c) => (d.raise (.tcore (Fin.ofNat 2 c)) cTcoreCoreTimeout).count (.tcore (Fin.ofNat 2 c)) 2
  | some (.channel _) => d.count .hdma 2
  | some .window => d.count .pcie 4
  | _ => d

/-- INITIATOR_TIMEOUT: a synthesised TIMEOUT, or, for data that wait for their marker, what VERIFY_FAIL would do; the tag stays out
of use (R164, R170, R195). -/
def initiatorTimeoutBody (n : NodeKind) (tag : BitVec 12) (d : Device) : Device :=
  let t := tag.toNat
  match d.req n t with
  | none => d
  | some r =>
    let d' := d.setReq n t (some { r with phase := .quarantined, cont := .stale })
    let node := d.nodeId n
    match r.phase with
    | .quarantined => d
    | .active =>
      ((d'.timeoutAt (ownerOf n t)).reqEnds r.cont stTimeout [] (timeoutRsp node t r stTimeout)).tagFreed n t
    | .marker _ =>
      let fail := sealHeader { timeoutRsp node t r stCrypto with op := 0x39 }
      match ofDesign r.cont with
      | some b => d'.emit (.toDesign b fail)
      | none => (d'.reqEnds r.cont stCrypto [] fail).tagFreed n t

/-- TAG_QUARANTINE_END (R164): no curtain engine waits for the request any longer (DESIGN CHOICE, entry 81). -/
def tagQuarantineEndBody (n : NodeKind) (tag : BitVec 12) (d : Device) : Device :=
  match d.req n tag.toNat with
  | some r =>
    if r.phase = .quarantined then ((d.setReq n tag.toNat none).curTimedOut (d.nodeId n) tag).tagFreed n tag.toNat else d
  | none => d

/-! ### Arrival (R171, R182) -/

/-- The physical bay accepts packets: it has clocks, and no migration or reconfiguration holds it. -/
def Device.bayTakes (d : Device) (n : Fin 104) : Bool :=
  decide (2 ≤ d.mode ∧ d.mode ≤ 5) && !d.flag (.pbay (d.physOf n)) fPbayHingeStatusHeld

/-- A response at a closed shutter is late (R198); it frees its tag (R164). -/
def Device.shutLate (d : Device) (n : NodeKind) (p : Packet) : Device :=
  let d := d.lateRsp n p.tag.toNat
  match d.req n p.tag.toNat with
  | some r => if r.phase = .quarantined then d.setReq n p.tag.toNat none else d
  | none => d

/-- The edge of a packet takes it now. -/
def Device.portTakes (d : Device) (f : Flight) : Bool :=
  match f.dst with
  | .bay n =>
    if h : n < 104 then d.bayShutter (d.physOf ⟨n, h⟩) == shutterClosed || d.bayTakes ⟨n, h⟩ else true
  | .core => d.coreClock
  | _ => true

/-- A packet at a bay port: a response wakes the bay too (R147). A marker that a link names an early delivery with goes to the design
(R275). -/
def Device.bayArrive (d : Device) (n : Fin 104) (f : Flight) : Device :=
  let p := f.pkt
  if p.cls != 1 then d.bayTarget n p
  else if d.bayShutter (d.physOf n) = shutterClosed then (if f.ini = iniVerify then d else d.shutLate .fabric p)
  else if f.ini = iniVerify then (drowsyWakeBody n d).emit (.toDesign n.val p)
  else (drowsyWakeBody n d).rspArrives .fabric f.dst p

/-- A packet at its edge. -/
def Device.arriveAt (d : Device) (f : Flight) : Device :=
  let p := f.pkt
  match f.dst with
  | .bay n => if h : n < 104 then d.bayArrive ⟨n, h⟩ f else d
  | .mgmt => if p.cls == 1 then d.rspArrives .mgmt .mgmt p else d.mgmtTarget p
  | .core => if p.cls == 1 then d.rspArrives .core .core p else d.coreNode p
  | .host =>
    if p.cls == 1 then
      if d.rd .hdma fHdmaShutterState = shutterClosed then d.shutLate .host p else d.rspArrives .host .host p
    else if d.hdmaShut then d.refuse .host p stFenced
    else if p.cls == 3 then d.refuse .host p stSlave
    else if p.op == 0x11 then d.hostMsg p
    else d.hostTarget f.src p
  | .link _ => d

/-- The port of its edge hands this packet out next: it stands there, overtakes none of its flow, its edge takes it, and the port's
arbiter grants it (R171, R181, R193). -/
def Device.delivers (d : Device) (f : Flight) : Bool :=
  d.atPort f && !d.overtakes f && d.portTakes f && d.portGrants (fun g => !d.overtakes g && d.portTakes g) f

/-- A packet leaves the mesh: the port of its edge has granted it. -/
def Device.leaves (d : Device) (f : Flight) : Device :=
  (match d.outputOf f with
    | some key => d.granted key f
    | none => d).takeFlight f

/-- A packet leaves the mesh for its edge. -/
def Device.deliver1 (d : Device) (f : Flight) : Device := (d.leaves f).arriveAt f

/-- The rows RD to VERIFY_FAIL: packet `k` in flight, which has the row's opcode, arrives. Where it does not stand at its port yet, or
another comes before it, the mesh runs for a while first; it stays if that is not enough. -/
def arriveBody (op k : Nat) (d : Device) : Device :=
  match d.mesh[k]? with
  | none => d
  | some f =>
    if f.pkt.op.toNat ≠ op ∨ d.meshRuns = false then d
    else if d.delivers f then d.deliver1 f
    else
      let d := d.meshRun
      match d.mesh.find? fun g => g.id == f.id with
      | some f => if d.delivers f then d.deliver1 f else d
      | none => d

/-! ### Packets of a design (R180, R197, R198) -/

/-- What a bay port makes of a packet: SRC, TAG, HCRC; a posted packet has TAG 0 (R165), a response the tag of its request. -/
def Device.bayStamp (d : Device) (n : Fin 104) (p : Packet) : Packet :=
  let tag : BitVec 12 := if p.cls == 1 then p.tag else if p.cls == 2 then 0
    else BitVec.ofNat 12 (32 * n.val + p.tag.toNat % 32)
  let len := payloadLen p.op.toNat p.len.toNat
  let data := (p.payload ++ List.replicate len 0).take len
  sealHeader { p with src := d.nodeId .fabric, tag := tag, payload := data }

/-- Issue a packet of a design: a request becomes outstanding. -/
def Device.bayIssue (d : Device) (n : Fin 104) (p : Packet) : Device :=
  let e := Edge.bay n.val
  if p.cls == 2 then (if d.nodeId .fabric == 0x3FF then d.postedDrop else d.inject e 0 p)
  else if p.cls == 1 then
    let d := { d with accepted := d.accepted.erase { bay := n.val, src := p.dst, tag := p.tag } }
    d.inject e iniAnswer p
  else if d.nodeId .fabric == 0x3FF then d.emit (.toDesign n.val (rspTo p stDecode))
  else
    let r : Req := { dst := p.dst, op := p.op, laddr := p.laddr, len := p.len, phase := .active, cont := .design n.val }
    (d.setReq .fabric p.tag.toNat (some r)).inject e 0 p

/-- The packets of a class that a bay port holds. -/
def Device.heldAt (d : Device) (n : Fin 104) (c : Nat) : List Packet := sget (fun _ => []) d.bayHeld (n.val * 4 + c)
def Device.setHeld (d : Device) (n : Fin 104) (c : Nat) (ps : List Packet) : Device :=
  { d with bayHeld := sset (fun _ => []) d.bayHeld (n.val * 4 + c) ps }

/-- A request whose tag R164 does not let the port use yet. -/
def Device.tagBusy (d : Device) (p : Packet) : Bool := (p.cls == 0 || p.cls == 3) && (d.req .fabric p.tag.toNat).isSome

/-- BAY_PORT_SEND. A bay whose elements do not run presents nothing. -/
def bayPortSendBody (n : Fin 104) (p : Packet) (d : Device) : Device :=
  if d.bayLive (d.physOf n) = false then d
  else
    let q := d.bayStamp n p
    let shut := d.bayShutter (d.physOf n)
    if malformed q then
      let d := d.headerError kMalformed (0, n.val) q
      if q.cls == 0 || q.cls == 3 then d.emit (.toDesign n.val (rspTo q stSlave)) else d
    else if q.cls == 1 then (if shut = shutterClosed then d else d.bayIssue n q)
    else if shut ≠ shutterOpen then (if q.cls == 2 then d.postedDrop else d.emit (.toDesign n.val (rspTo q stFenced)))
    else
      let c := q.cls.toNat
      let held := d.heldAt n c
      if held.isEmpty && !d.tagBusy q then d.bayIssue n q else d.setHeld n c (held ++ [q])

/-- BAY_PORT_ISSUE: the oldest packet held of a class goes once its tag is free. -/
def bayPortIssueBody (n : Fin 104) (c : Fin 4) (d : Device) : Device :=
  if d.bayShutter (d.physOf n) = shutterClosed then d
  else
    match d.heldAt n c.val with
    | [] => d
    | p :: rest => if d.tagBusy p then d else (d.setHeld n c.val rest).bayIssue n p

/-! ### Failures of the mesh (R188, R190, R192) -/

/-- The output key on the other plane. -/
def twinKey (k : Nat) : Nat := (k + 16 * 10 * 8) % (2 * 16 * 10 * 8)

/-- Detour entries are set; what can no longer be carried is lost. `log`: the failure, for DETOUR_LOG. -/
def Device.setDetours (d : Device) (log : Nat × Nat × Nat × Nat) (keys : List Nat) : Device :=
  let new := keys.filter fun k => !sget (fun _ => false) d.detours k
  if new.isEmpty then d
  else
    let d := { d with detours := new.foldl (fun s k => sset (fun _ => false) s k true) d.detours }
    let d := (d.raise .mesh cMeshDetour).countN .mesh 5 (new.filter fun k => k % 8 != 7).length
    let d := if d.flag .mesh fMeshDetourLogValid then d
      else
        let d := (d.put .mesh fMeshDetourLogPlane log.1).put .mesh fMeshDetourLogOutput log.2.1
        ((d.put .mesh fMeshDetourLogX log.2.2.1).put .mesh fMeshDetourLogY log.2.2.2).raise .mesh fMeshDetourLogValid
    let lost := d.mesh.any fun f => !d.carries f
    let both := new.any fun k => sget (fun _ => false) d.detours (twinKey k)
    let d := { d with mesh := d.mesh.filter fun f => d.carries f }
    if lost || both then d.planesLost else d

/-- The output leads somewhere: to a neighbour on the grid, or to the router's own port. -/
def outputExists (x y out : Nat) : Bool :=
  match out with
  | 0 => x < 15 | 1 => 0 < x | 2 => y < 9 | 3 => 0 < y
  | _ => true

/-- SEGMENT_FAIL. -/
def segmentFailBody (r : RouterAt) (out : Fin 5) (d : Device) : Device :=
  if d.meshUp && outputExists r.x.val r.y.val out.val then
    d.setDetours (r.plane.val, out.val, r.x.val, r.y.val) [outKey r.plane.val r.x.val r.y.val out.val]
  else d

/-- A packet in the buffers of a router that fails is sent again from the stage behind, which keeps a copy: the router before it, the
twin on the other plane if it had crossed, or its edge (R188). -/
def Flight.sentBack (f : Flight) (plane : Bool) (x y : Nat) : Flight :=
  match f.here with
  | some (fx, fy, input) =>
    if f.plane = plane ∧ fx = x ∧ fy = y then
      { f with here := f.behind, behind := none, plane := if input = 5 then !f.plane else f.plane, crossed := f.crossed && input != 5 }
    else f
  | none => f

/-- ROUTER_FAIL: the router, and the outputs of its neighbours towards it. -/
def routerFailBody (r : RouterAt) (d : Device) : Device :=
  let pl := r.plane.val
  let x := r.x.val
  let y := r.y.val
  let nextTo (ok : Bool) (x y out : Nat) : List Nat := if ok then [outKey pl x y out] else []
  if d.meshUp then
    { d with mesh := d.mesh.map fun (f : Flight) => f.sentBack (pl == 1) x y }.setDetours (pl, 7, x, y) ([outKey pl x y 7] ++ nextTo (decide (0 < x)) (x - 1) y 0 ++ nextTo (decide (x < 15)) (x + 1) y 1 ++
      nextTo (decide (0 < y)) x (y - 1) 2 ++ nextTo (decide (y < 9)) x (y + 1) 3)
  else d

/-- SEGMENT_BIT_ERROR: corrected in flight or in place; nothing shows (R188). -/
def segmentBitErrorBody (_ : RouterAt) (_ : Fin 5) (d : Device) : Device := d

/-! ### The tally (R46) -/

/-- TALLY_ECC_ERROR: a single-bit error is corrected; an uncorrectable leaf is lost; an uncorrectable total waits for its
recomputation. -/
def tallyEccErrorBody (idx : BitVec 13) (double : Bool) (d : Device) : Device :=
  let i := idx.toNat
  let e := d.tallyEntry i
  if !e.valid && !e.leaf then d
  else if !double then d.raise .tally cTallyTallyFixed
  else if e.leaf then { d with tally := sset tallyDflt d.tally (i - 1024) none }.raise .tally cTallyTallyLost
  else if d.tallyBroken.contains i then d
  else { d with tallyBroken := d.tallyBroken ++ [i] }

/-- TALLY_RECOMPUTE. -/
def tallyRecomputeBody (idx : BitVec 13) (d : Device) : Device :=
  if d.tallyBroken.contains idx.toNat then
    { d with tallyBroken := d.tallyBroken.erase idx.toNat }.raise .tally cTallyTallyFixed
  else d

end Sys2Proof.Machine
end

