-- ==== Sys2Proof/Machine/Settle.lean ====
section
/-! DEFINITION. What one command sets off in the rest of the device before the next: mode changes that a fault or a failed source
forces, transitions that can go on, cuts, the porter's events and slots, the alert line. -/

namespace Sys2Proof.Machine

open Sys2Proof

/-! ### Signals -/

/-- What a signal sets off. -/
def Device.takeSignal (d : Device) (s : Signal) : Device :=
  match s with
  | .faultHold code => d.enterFaultHold code
  | .dormant cause => if d.mode = mDormant then d else d.enterDormant cause
  | .closeNow pb => d.shutterCut (.bay (.pbay (Fin.ofNat 112 pb)))
  | .service =>
    let d := d.pf1Up
    if d.scrubRuns then d.passBegin else d
  | .pcieDown => d.linkDown
  | .degraded pb => d.policyCheck (Fin.ofNat 112 pb)
  | .cloneFrame row i => d.cloneGranted row i
  | .undefined _ => d

/-- Take the signals that stand, and those that taking them sets off. -/
def Device.takeSignals : Nat → Device → Device
  | 0, d => { d with signals := [] }
  | fuel + 1, d =>
    match d.signals with
    | [] => d
    | ss => Device.takeSignals fuel (ss.foldl (fun (d : Device) (s : Signal) => d.takeSignal s) { d with signals := [] })

/-! ### One thing after another -/

/-- LOAD has been entered: bays of the pool lose power (R464), the domain of the fabric has returned (R33), and a device without a
repair record says so (R352). -/
def Device.loadEntered (d before : Device) : Device :=
  if d.mode ≠ mLoad ∨ before.mode = mLoad then d
  else
    let d := if before.mode = mDoorway then d.fabricReturned.poolOff else d
    if d.recordPending then { d with recordPending := false }.raise .repair cRepairRecordLost else d

/-- A core has become sealed (R448). -/
def Device.sealedNow (d before : Device) : Device :=
  [(0 : Fin 2), 1].foldl (fun (d : Device) (c : Fin 2) =>
    if d.coreSealed c && !before.coreSealed c then d.sealDebug c else d) d

/-- Links and bays that DROWSE names (R458, R465). -/
def Device.drowsy (d before : Device) : Device :=
  let d := if d.drowsedLinks.isEmpty then d else d.drowsyLinks before
  if d.drowsed.isEmpty then d else d.drowsyBays

/-- A changed repair record goes to the flash where RECORD.FLASH says so (R352). -/
def Device.recordKept (d before : Device) : Device :=
  if d.flag .repair fRepairRecordFlash && d.mode != mDormant && before.record != d.record then d.emit (.recordFlash d.record) else d

/-- The alert condition has come to hold: MSI-X vector 0 of PF0 is raised (R42). -/
def Device.alertEdge (d before : Device) : Device := if d.alertHolds && !before.alertHolds then d.raiseMsix .pf0 0 else d

/-- Everything that a command sets off; `before`: the device as the command met it. -/
def settle (before d : Device) : Device :=
  let d := Device.takeSignals 4 d
  let d := if d.migs.isEmpty then d else d.cutsWaiting
  let d := d.loadEntered before
  let d := Device.takeSignals 4 (Device.advanceMode 8 d)
  let d := d.drowsy before
  let d := d.sealedNow before
  let d := d.recordKept before
  let d := if d.summary = d.porter.groups then d else d.groupEvents
  let d := Device.takeSignals 4 (Device.fillSlots 8 d)
  d.alertEdge before

/-! ### Where the manual says no more (R7) -/

/-- A slice's settings break R119 or R127. -/
def sliceIllegal (clocks : BitVec 32) (s : SliceCfg) : Bool :=
  let ag (g : AgCfg) : Bool :=
    decide (32767 < g.base ∨ g.length = 0 ∨ 32768 < g.length ∨ g.step < -32768 ∨ 32767 < g.step) ||
      (g.mode != .linear && decide (32768 < g.base + g.length)) ||
      (g.mode == .bitrev && !([2, 4, 8, 16, 32, 64, 128, 256, 512, 1024, 2048].contains g.length))
  (s.frac && (!s.aSigned || !s.bSigned)) || !clocks.getLsbD s.colClk || ag s.ag0 || ag s.ag1

/-- Settings in force that Shaide rejects; COL_CLK is a setting of the slice at position 0 of its column, and one that the frames
leave at 0 is judged like another (R126, R127). -/
def Device.settingsIllegal (d : Device) : Bool :=
  d.sliceCfg.any fun (e : Nat × SliceCfg) =>
    let sel := (sget (fun _ => BayCfg.empty) d.bayCfg (e.1 / 128)).clocks
    let colClk := (sget (fun _ => SliceCfg.empty) d.sliceCfg (e.1 - e.1 % 32)).colClk
    sliceIllegal sel { e.2 with colClk := colClk }

/-- The bay-port clock of a bay in service breaks its ratio to the mesh clock, at the highest frequency that its spread reaches
(R144, R145), or its hinge clock is not the transom clock of its row (R64). A bay that selects no clock has neither (R60). -/
def Device.bayRatioBroken (d : Device) (pb : Fin 112) : Bool :=
  let c := sget (fun _ => BayCfg.empty) d.bayCfg pb.val
  let s := c.portClk / 8 + 1
  let up := if d.eff .clk fClkSrcCfgSscCentre s = 1 then d.eff .clk fClkSrcCfgSscDepth s else 0
  let mesh := d.eff .clk fClkSrcCfgMult 0 * d.eff .clk fClkGclkDiv c.portClk * 2000
  let port := d.eff .clk fClkSrcCfgMult s * (2000 + up)
  c.clocks.getLsbD c.portClk && decide (mesh < 8 * port ∨ 32 * port < mesh) ||
    c.clocks.getLsbD c.hingeClk && c.hingeClk != d.eff .clk fClkRowTransomGclk (pb.val / 14)

/-- The clocks break a rule of R145. -/
def Device.ratioBroken (d : Device) : Bool :=
  (d.running 0 && d.running 10 && d.eff .clk fClkSrcCfgMult 0 != d.eff .clk fClkSrcCfgMult 10) ||
    (List.finRange 112).any fun pb => d.inService pb && d.bayRatioBroken pb

/-- What a signal says of undefined behaviour. -/
def undefinedOf : Signal → Option Undefined
  | .undefined f => some f
  | _ => none

/-- A command has led to behaviour that the manual calls undefined. -/
def undefinedBy (before d : Device) : Option Undefined :=
  match d.signals.findSome? undefinedOf with
  | some f => some f
  | none =>
    if d.ratioBroken && !before.ratioBroken then some .clockRatio
    else if (d.sliceCfg != before.sliceCfg || d.bayCfg != before.bayCfg) && d.settingsIllegal then some .illegalSettings
    else none

/-- What is left of a device whose behaviour has become undefined (R7, entry 60): a free device, but for the level at PERST_N, which
is not the device's, and for what has left it. Its memories are in their canonical form. -/
def Device.lose (d : Device) : Device :=
  let x := Config.freeDevice d.free
  { x with
    bram := scanon rowDflt x.bram, cfgMem := scanon cfgDflt x.cfgMem, tcm := scanon tcmDflt x.tcm
    porterRam := scanon ramDflt x.porterRam, pushWindow := scanon (fun _ => 0) x.pushWindow
    out := d.out ++ x.out, free := d.free + 1, perst := d.perst, signals := [], lost := true }

/-! ### Running a command -/

/-- A command that always leads to a next state by its own rules. -/
def run (body : Device → Device) (s : State) : Host.Outcome State Fault Refusal :=
  .next { s with dev := settle s.dev (body s.dev) }

/-- A command that may lead to undefined behaviour: one that writes a register with any value, starts clocks, or puts settings in
force. -/
def runChecked (body : Device → Device) (s : State) : Host.Outcome State Fault Refusal :=
  let d := body s.dev
  match undefinedBy s.dev d with
  | some _ => .next { s with dev := d.lose }
  | none => .next { s with dev := settle s.dev d }

end Sys2Proof.Machine
end

