-- ==== Sys2Proof/Machine/ExecClocks.lean ====
section
/-! DEFINITION. One meaning for each command of the clock sources (chapter 7): what the command does, and then what it sets off. -/

namespace Sys2Proof.Machine

open Sys2Proof

/-- REFCLK_FAIL (R135). -/
def execRefclkFail (r : RefClk) (s : State) : Host.Outcome State Fault Refusal :=
  run (refclkFailBody r) s

/-- REF_SWITCH_DONE (R135). -/
def execRefSwitchDone (s : State) : Host.Outcome State Fault Refusal :=
  run refSwitchDoneBody s

/-- REFCLK_RECOVER (R135). -/
def execRefclkRecover (r : RefClk) (s : State) : Host.Outcome State Fault Refusal :=
  run (refclkRecoverBody r) s

/-- PREFER (R135). -/
def execPrefer (rq : Requester) (w : Word) (s : State) : Host.Outcome State Fault Refusal :=
  run (regWriteBody rq (regAt .clk fClkRefCtrlPrefer) w) s

/-- SRC_SEL (R136). -/
def execSrcSel (rq : Requester) (w : Word) (s : State) : Host.Outcome State Fault Refusal :=
  run (regWriteBody rq (regAt .clk fClkSillClkSrcSel) w) s

/-- TRIM_GO (R136). -/
def execTrimGo (rq : Requester) (s : State) : Host.Outcome State Fault Refusal :=
  run (fun d => regWriteBody rq (regAt .clk fClkSillClkTrimGo) (d.withBits .clk 0x048 4) d) s

/-- TRIM_PERIODIC (R136). -/
def execTrimPeriodic (s : State) : Host.Outcome State Fault Refusal :=
  run trimPeriodicBody s

/-- TRIM_DONE (R136). -/
def execTrimDone (code : Byte) (s : State) : Host.Outcome State Fault Refusal :=
  run (trimDoneBody code) s

/-- SILL_CLK_FAIL (R137). -/
def execSillClkFail (s : State) : Host.Outcome State Fault Refusal :=
  run sillClkFailBody s

/-- SRC_RUN_START (R149). -/
def execSrcRunStart (rq : Requester) (src : Fin 11) (s : State) : Host.Outcome State Fault Refusal :=
  runChecked (fun d => regWriteBody rq (regAt .clk fClkSrcRunRun) (d.withBits .clk 0x04C (2 ^ src.val)) d) s

/-- SRC_RUN_STOP (R142). -/
def execSrcRunStop (rq : Requester) (src : Fin 11) (s : State) : Host.Outcome State Fault Refusal :=
  run (fun d => regWriteBody rq (regAt .clk fClkSrcRunRun) (d.withBits .clk 0x04C 0 &&& ~~~BitVec.ofNat 32 (2 ^ src.val)) d) s

/-- PLL_LOCK (R138). -/
def execPllLock (src : Fin 11) (s : State) : Host.Outcome State Fault Refusal :=
  run (pllLockBody src) s

/-- TWIN_SWITCH (R140). -/
def execTwinSwitch (src : Fin 11) (s : State) : Host.Outcome State Fault Refusal :=
  run (twinSwitchBody src) s

/-- TWIN_PAIR_FAIL (R148). -/
def execTwinPairFail (src : Fin 11) (s : State) : Host.Outcome State Fault Refusal :=
  run (twinPairFailBody src) s

/-- LINK_PLL_FAIL (R148). -/
def execLinkPllFail (e : Fin 4) (s : State) : Host.Outcome State Fault Refusal :=
  run (linkPllFailBody e) s

/-- PCIE_PLL_FAIL (R148). -/
def execPciePllFail (s : State) : Host.Outcome State Fault Refusal :=
  run pciePllFailBody s

/-- CORE_PLL_FAIL (R148). -/
def execCorePllFail (s : State) : Host.Outcome State Fault Refusal :=
  run corePllFailBody s

/-- DROWSY_GATE (R146). -/
def execDrowsyGate (bay : Fin 104) (s : State) : Host.Outcome State Fault Refusal :=
  run (drowsyGateBody bay) s

/-- DROWSY_WAKE (R147). -/
def execDrowsyWake (bay : Fin 104) (s : State) : Host.Outcome State Fault Refusal :=
  run (drowsyWakeBody bay) s

end Sys2Proof.Machine
end

