-- ==== Sys2Proof/Machine/ExecConfiguration.lean ====
section
/-! DEFINITION. One meaning for each command of loading and start-up (chapters 11 and 12): what the command does, and then what it sets off. -/

namespace Sys2Proof.Machine

open Sys2Proof

/-- LOAD_GO (R313). -/
def execLoadGo (rq : Requester) (s : State) : Host.Outcome State Fault Refusal :=
  runChecked (regWriteBody rq (regAt .cfg fCfgLoadCmdGo) 1) s

/-- STARTUP_GO (R322). -/
def execStartupGo (rq : Requester) (s : State) : Host.Outcome State Fault Refusal :=
  runChecked (regWriteBody rq (regAt .cfg fCfgLoadCmdGo) 2) s

/-- SYNC (R290). -/
def execSync (s : State) : Host.Outcome State Fault Refusal :=
  run syncBody s

/-- HEADER (R291). -/
def execHeader (s : State) : Host.Outcome State Fault Refusal :=
  run headerBody s

/-- BROADCAST (R299). -/
def execBroadcast (s : State) : Host.Outcome State Fault Refusal :=
  run broadcastBody s

/-- KEY_WRAP (R294). -/
def execKeyWrap (s : State) : Host.Outcome State Fault Refusal :=
  run keyWrapBody s

/-- SEGMENT_VERIFY (R293). -/
def execSegmentVerify (s : State) : Host.Outcome State Fault Refusal :=
  run segmentVerifyBody s

/-- WINDOW (R330). -/
def execWindow (s : State) : Host.Outcome State Fault Refusal :=
  run windowRecordBody s

/-- SUBSTRATE_TABLE (R302). -/
def execSubstrateTable (s : State) : Host.Outcome State Fault Refusal :=
  run substrateTableBody s

/-- FRAME_ADDR (R300). -/
def execFrameAddr (s : State) : Host.Outcome State Fault Refusal :=
  run frameAddrBody s

/-- FRAME_DATA (R300). -/
def execFrameData (s : State) : Host.Outcome State Fault Refusal :=
  run frameDataBody s

/-- FRAME_REPEAT (R301). -/
def execFrameRepeat (s : State) : Host.Outcome State Fault Refusal :=
  run frameRepeatBody s

/-- KEY_ROLL (R295). -/
def execKeyRoll (s : State) : Host.Outcome State Fault Refusal :=
  run keyRollRecordBody s

/-- CRC_CHECK (R304). -/
def execCrcCheck (s : State) : Host.Outcome State Fault Refusal :=
  run crcCheckBody s

/-- START_SEQ (R303). -/
def execStartSeq (s : State) : Host.Outcome State Fault Refusal :=
  run startSeqBody s

/-- READBACK (R305). -/
def execReadback (s : State) : Host.Outcome State Fault Refusal :=
  run readbackBody s

/-- PAD (R288). -/
def execPad (s : State) : Host.Outcome State Fault Refusal :=
  run padBody s

/-- SKIPPABLE_RECORD (R288). -/
def execSkippableRecord (s : State) : Host.Outcome State Fault Refusal :=
  run skippableRecordBody s

/-- END (R304). -/
def execEndRecord (s : State) : Host.Outcome State Fault Refusal :=
  runChecked endRecordBody s

/-- PUSH_WRITE (R310). -/
def execPushWrite (off : BitVec 24) (bytes : List Byte) (s : State) : Host.Outcome State Fault Refusal :=
  run (pushWriteBody off bytes) s

/-- PUSH_TAIL (R310). -/
def execPushTail (rq : Requester) (w : Word) (s : State) : Host.Outcome State Fault Refusal :=
  run (regWriteBody rq (regAt .cfg fCfgPushTailTail) w) s

/-- PULL_COMPLETION (R311). -/
def execPullCompletion (st : CplStatus) (bytes : List Byte) (s : State) : Host.Outcome State Fault Refusal :=
  run (pullCompletionBody st bytes) s

/-- FWD_DATA (R317). -/
def execFwdData (w : Word) (s : State) : Host.Outcome State Fault Refusal :=
  run (fwdDataBody w) s

/-- LOAD_LATE (R319). -/
def execLoadLate (s : State) : Host.Outcome State Fault Refusal :=
  run loadLateBody s

/-- LOAD_LIMIT (R319). -/
def execLoadLimit (s : State) : Host.Outcome State Fault Refusal :=
  run loadLimitBody s

/-- LOCK (R323). -/
def execLock (s : State) : Host.Outcome State Fault Refusal :=
  run lockBody s

/-- LOCK_FAIL (R323). -/
def execLockFail (s : State) : Host.Outcome State Fault Refusal :=
  run lockFailBody s

/-- RELEASE_GSR (R323). -/
def execReleaseGsr (s : State) : Host.Outcome State Fault Refusal :=
  run releaseGsrBody s

/-- ENABLE_WRITES (R323). -/
def execEnableWrites (s : State) : Host.Outcome State Fault Refusal :=
  run enableWritesBody s

/-- RELEASE_OUTPUTS (R323). -/
def execReleaseOutputs (s : State) : Host.Outcome State Fault Refusal :=
  runChecked releaseOutputsBody s

/-- LATCH (R326). -/
def execLatch (s : State) : Host.Outcome State Fault Refusal :=
  run latchBody s

/-- LATCH_N_HIGH (R326). -/
def execLatchNHigh (s : State) : Host.Outcome State Fault Refusal :=
  run latchNHighBody s

/-- LATCH_TIMEOUT (R326). -/
def execLatchTimeout (s : State) : Host.Outcome State Fault Refusal :=
  run latchTimeoutBody s

end Sys2Proof.Machine
end

