-- ==== Sys2Proof/Machine/ExecCore.lean ====
section
/-! DEFINITION. One meaning for each command of the tenant cores' instructions and events (chapter 16): what the command does, and then what it sets off. -/

namespace Sys2Proof.Machine

open Sys2Proof

/-- ADD (R401). -/
def execInsnAdd (c : Fin 2) (rd : BitVec 4) (ra : BitVec 4) (rb : BitVec 4) (s : State) : Host.Outcome State Fault Refusal :=
  run (insnBody c (.alu .add rd ra rb)) s

/-- SUB (R401). -/
def execInsnSub (c : Fin 2) (rd : BitVec 4) (ra : BitVec 4) (rb : BitVec 4) (s : State) : Host.Outcome State Fault Refusal :=
  run (insnBody c (.alu .sub rd ra rb)) s

/-- AND (R401). -/
def execInsnAnd (c : Fin 2) (rd : BitVec 4) (ra : BitVec 4) (rb : BitVec 4) (s : State) : Host.Outcome State Fault Refusal :=
  run (insnBody c (.alu .and rd ra rb)) s

/-- OR (R401). -/
def execInsnOr (c : Fin 2) (rd : BitVec 4) (ra : BitVec 4) (rb : BitVec 4) (s : State) : Host.Outcome State Fault Refusal :=
  run (insnBody c (.alu .or rd ra rb)) s

/-- XOR (R401). -/
def execInsnXor (c : Fin 2) (rd : BitVec 4) (ra : BitVec 4) (rb : BitVec 4) (s : State) : Host.Outcome State Fault Refusal :=
  run (insnBody c (.alu .xor rd ra rb)) s

/-- SLL (R401). -/
def execInsnSll (c : Fin 2) (rd : BitVec 4) (ra : BitVec 4) (rb : BitVec 4) (s : State) : Host.Outcome State Fault Refusal :=
  run (insnBody c (.alu .sll rd ra rb)) s

/-- SRL (R401). -/
def execInsnSrl (c : Fin 2) (rd : BitVec 4) (ra : BitVec 4) (rb : BitVec 4) (s : State) : Host.Outcome State Fault Refusal :=
  run (insnBody c (.alu .srl rd ra rb)) s

/-- SRA (R401). -/
def execInsnSra (c : Fin 2) (rd : BitVec 4) (ra : BitVec 4) (rb : BitVec 4) (s : State) : Host.Outcome State Fault Refusal :=
  run (insnBody c (.alu .sra rd ra rb)) s

/-- SLT (R401). -/
def execInsnSlt (c : Fin 2) (rd : BitVec 4) (ra : BitVec 4) (rb : BitVec 4) (s : State) : Host.Outcome State Fault Refusal :=
  run (insnBody c (.alu .slt rd ra rb)) s

/-- SLTU (R401). -/
def execInsnSltu (c : Fin 2) (rd : BitVec 4) (ra : BitVec 4) (rb : BitVec 4) (s : State) : Host.Outcome State Fault Refusal :=
  run (insnBody c (.alu .sltu rd ra rb)) s

/-- MUL (R401). -/
def execInsnMul (c : Fin 2) (rd : BitVec 4) (ra : BitVec 4) (rb : BitVec 4) (s : State) : Host.Outcome State Fault Refusal :=
  run (insnBody c (.alu .mul rd ra rb)) s

/-- MULH (R401). -/
def execInsnMulh (c : Fin 2) (rd : BitVec 4) (ra : BitVec 4) (rb : BitVec 4) (s : State) : Host.Outcome State Fault Refusal :=
  run (insnBody c (.alu .mulh rd ra rb)) s

/-- MULHU (R401). -/
def execInsnMulhu (c : Fin 2) (rd : BitVec 4) (ra : BitVec 4) (rb : BitVec 4) (s : State) : Host.Outcome State Fault Refusal :=
  run (insnBody c (.alu .mulhu rd ra rb)) s

/-- DIV (R401). -/
def execInsnDiv (c : Fin 2) (rd : BitVec 4) (ra : BitVec 4) (rb : BitVec 4) (s : State) : Host.Outcome State Fault Refusal :=
  run (insnBody c (.alu .div rd ra rb)) s

/-- DIVU (R401). -/
def execInsnDivu (c : Fin 2) (rd : BitVec 4) (ra : BitVec 4) (rb : BitVec 4) (s : State) : Host.Outcome State Fault Refusal :=
  run (insnBody c (.alu .divu rd ra rb)) s

/-- ADDI (R401). -/
def execInsnAddi (c : Fin 2) (rd : BitVec 4) (ra : BitVec 4) (imm : BitVec 18) (s : State) : Host.Outcome State Fault Refusal :=
  run (insnBody c (.imm .addi rd ra imm)) s

/-- ANDI (R401). -/
def execInsnAndi (c : Fin 2) (rd : BitVec 4) (ra : BitVec 4) (imm : BitVec 18) (s : State) : Host.Outcome State Fault Refusal :=
  run (insnBody c (.imm .andi rd ra imm)) s

/-- ORI (R401). -/
def execInsnOri (c : Fin 2) (rd : BitVec 4) (ra : BitVec 4) (imm : BitVec 18) (s : State) : Host.Outcome State Fault Refusal :=
  run (insnBody c (.imm .ori rd ra imm)) s

/-- XORI (R401). -/
def execInsnXori (c : Fin 2) (rd : BitVec 4) (ra : BitVec 4) (imm : BitVec 18) (s : State) : Host.Outcome State Fault Refusal :=
  run (insnBody c (.imm .xori rd ra imm)) s

/-- SLLI (R401). -/
def execInsnSlli (c : Fin 2) (rd : BitVec 4) (ra : BitVec 4) (imm : BitVec 18) (s : State) : Host.Outcome State Fault Refusal :=
  run (insnBody c (.imm .slli rd ra imm)) s

/-- SRLI (R401). -/
def execInsnSrli (c : Fin 2) (rd : BitVec 4) (ra : BitVec 4) (imm : BitVec 18) (s : State) : Host.Outcome State Fault Refusal :=
  run (insnBody c (.imm .srli rd ra imm)) s

/-- SRAI (R401). -/
def execInsnSrai (c : Fin 2) (rd : BitVec 4) (ra : BitVec 4) (imm : BitVec 18) (s : State) : Host.Outcome State Fault Refusal :=
  run (insnBody c (.imm .srai rd ra imm)) s

/-- SLTI (R401). -/
def execInsnSlti (c : Fin 2) (rd : BitVec 4) (ra : BitVec 4) (imm : BitVec 18) (s : State) : Host.Outcome State Fault Refusal :=
  run (insnBody c (.imm .slti rd ra imm)) s

/-- SLTIU (R401). -/
def execInsnSltiu (c : Fin 2) (rd : BitVec 4) (ra : BitVec 4) (imm : BitVec 18) (s : State) : Host.Outcome State Fault Refusal :=
  run (insnBody c (.imm .sltiu rd ra imm)) s

/-- LUI (R401). -/
def execInsnLui (c : Fin 2) (rd : BitVec 4) (imm : BitVec 22) (s : State) : Host.Outcome State Fault Refusal :=
  run (insnBody c (.lui rd imm)) s

/-- LB (R401). -/
def execInsnLb (c : Fin 2) (rd : BitVec 4) (ra : BitVec 4) (imm : BitVec 18) (s : State) : Host.Outcome State Fault Refusal :=
  run (insnBody c (.load .sb rd ra imm)) s

/-- LBU (R401). -/
def execInsnLbu (c : Fin 2) (rd : BitVec 4) (ra : BitVec 4) (imm : BitVec 18) (s : State) : Host.Outcome State Fault Refusal :=
  run (insnBody c (.load .ub rd ra imm)) s

/-- LH (R401). -/
def execInsnLh (c : Fin 2) (rd : BitVec 4) (ra : BitVec 4) (imm : BitVec 18) (s : State) : Host.Outcome State Fault Refusal :=
  run (insnBody c (.load .sh rd ra imm)) s

/-- LHU (R401). -/
def execInsnLhu (c : Fin 2) (rd : BitVec 4) (ra : BitVec 4) (imm : BitVec 18) (s : State) : Host.Outcome State Fault Refusal :=
  run (insnBody c (.load .uh rd ra imm)) s

/-- LW (R401). -/
def execInsnLw (c : Fin 2) (rd : BitVec 4) (ra : BitVec 4) (imm : BitVec 18) (s : State) : Host.Outcome State Fault Refusal :=
  run (insnBody c (.load .w rd ra imm)) s

/-- SB (R401). -/
def execInsnSb (c : Fin 2) (rd : BitVec 4) (ra : BitVec 4) (imm : BitVec 18) (s : State) : Host.Outcome State Fault Refusal :=
  runChecked (insnBody c (.store .b rd ra imm)) s

/-- SH (R401). -/
def execInsnSh (c : Fin 2) (rd : BitVec 4) (ra : BitVec 4) (imm : BitVec 18) (s : State) : Host.Outcome State Fault Refusal :=
  runChecked (insnBody c (.store .h rd ra imm)) s

/-- SW (R401). -/
def execInsnSw (c : Fin 2) (rd : BitVec 4) (ra : BitVec 4) (imm : BitVec 18) (s : State) : Host.Outcome State Fault Refusal :=
  runChecked (insnBody c (.store .w rd ra imm)) s

/-- BEQ (R401). -/
def execInsnBeq (c : Fin 2) (ra : BitVec 4) (rb : BitVec 4) (off : BitVec 18) (s : State) : Host.Outcome State Fault Refusal :=
  run (insnBody c (.branch .eq ra rb off)) s

/-- BNE (R401). -/
def execInsnBne (c : Fin 2) (ra : BitVec 4) (rb : BitVec 4) (off : BitVec 18) (s : State) : Host.Outcome State Fault Refusal :=
  run (insnBody c (.branch .ne ra rb off)) s

/-- BLT (R401). -/
def execInsnBlt (c : Fin 2) (ra : BitVec 4) (rb : BitVec 4) (off : BitVec 18) (s : State) : Host.Outcome State Fault Refusal :=
  run (insnBody c (.branch .lt ra rb off)) s

/-- BGE (R401). -/
def execInsnBge (c : Fin 2) (ra : BitVec 4) (rb : BitVec 4) (off : BitVec 18) (s : State) : Host.Outcome State Fault Refusal :=
  run (insnBody c (.branch .ge ra rb off)) s

/-- BLTU (R401). -/
def execInsnBltu (c : Fin 2) (ra : BitVec 4) (rb : BitVec 4) (off : BitVec 18) (s : State) : Host.Outcome State Fault Refusal :=
  run (insnBody c (.branch .ltu ra rb off)) s

/-- BGEU (R401). -/
def execInsnBgeu (c : Fin 2) (ra : BitVec 4) (rb : BitVec 4) (off : BitVec 18) (s : State) : Host.Outcome State Fault Refusal :=
  run (insnBody c (.branch .geu ra rb off)) s

/-- JAL (R401). -/
def execInsnJal (c : Fin 2) (off : BitVec 26) (s : State) : Host.Outcome State Fault Refusal :=
  run (insnBody c (.jal off)) s

/-- JALR (R401). -/
def execInsnJalr (c : Fin 2) (rd : BitVec 4) (ra : BitVec 4) (imm : BitVec 18) (s : State) : Host.Outcome State Fault Refusal :=
  run (insnBody c (.jalr rd ra imm)) s

/-- LDX (R407). -/
def execInsnLdx (c : Fin 2) (rd : BitVec 4) (ra : BitVec 4) (s : State) : Host.Outcome State Fault Refusal :=
  run (insnBody c (.ldx rd ra)) s

/-- STX (R407). -/
def execInsnStx (c : Fin 2) (rd : BitVec 4) (ra : BitVec 4) (rb : BitVec 4) (s : State) : Host.Outcome State Fault Refusal :=
  run (insnBody c (.stx rd ra rb)) s

/-- MFADD (R405). -/
def execInsnMfadd (c : Fin 2) (rd : BitVec 4) (ra : BitVec 4) (rb : BitVec 4) (s : State) : Host.Outcome State Fault Refusal :=
  run (insnBody c (.atomic .fadd rd ra rb)) s

/-- MSWAP (R405). -/
def execInsnMswap (c : Fin 2) (rd : BitVec 4) (ra : BitVec 4) (rb : BitVec 4) (s : State) : Host.Outcome State Fault Refusal :=
  run (insnBody c (.atomic .swap rd ra rb)) s

/-- MCAS (R405). -/
def execInsnMcas (c : Fin 2) (rd : BitVec 4) (ra : BitVec 4) (rb : BitVec 4) (s : State) : Host.Outcome State Fault Refusal :=
  run (insnBody c (.atomic .cas rd ra rb)) s

/-- MSG_INSN (R405). -/
def execInsnMsg (c : Fin 2) (rd : BitVec 4) (ra : BitVec 4) (rb : BitVec 4) (s : State) : Host.Outcome State Fault Refusal :=
  run (insnBody c (.msg rd ra rb)) s

/-- MFENCE (R406). -/
def execInsnMfence (c : Fin 2) (s : State) : Host.Outcome State Fault Refusal :=
  run (insnBody c (.mfence)) s

/-- MFC (R401). -/
def execInsnMfc (c : Fin 2) (r : BitVec 4) (cr : BitVec 6) (s : State) : Host.Outcome State Fault Refusal :=
  run (insnBody c (.mfc r cr)) s

/-- MTC (R401). -/
def execInsnMtc (c : Fin 2) (r : BitVec 4) (cr : BitVec 6) (s : State) : Host.Outcome State Fault Refusal :=
  run (insnBody c (.mtc r cr)) s

/-- TRAP (R408). -/
def execInsnTrap (c : Fin 2) (code : BitVec 8) (s : State) : Host.Outcome State Fault Refusal :=
  run (insnBody c (.trap code)) s

/-- RFE (R409). -/
def execInsnRfe (c : Fin 2) (s : State) : Host.Outcome State Fault Refusal :=
  run (insnBody c (.rfe)) s

/-- WFI (R401). -/
def execInsnWfi (c : Fin 2) (s : State) : Host.Outcome State Fault Refusal :=
  run (insnBody c (.wfi)) s

/-- TAKE (R424). -/
def execInsnTake (c : Fin 2) (rd : BitVec 4) (s : State) : Host.Outcome State Fault Refusal :=
  run (insnBody c (.take rd)) s

/-- YIELD (R424). -/
def execInsnYield (c : Fin 2) (s : State) : Host.Outcome State Fault Refusal :=
  run (insnBody c (.yield)) s

/-- SLEEP (R424). -/
def execInsnSleep (c : Fin 2) (ra : BitVec 4) (s : State) : Host.Outcome State Fault Refusal :=
  run (insnBody c (.sleep ra)) s

/-- INTERRUPT (R411). -/
def execInterrupt (c : Fin 2) (s : State) : Host.Outcome State Fault Refusal :=
  run (interruptBody c) s

/-- TIMER_MATCH (R399). -/
def execTimerMatch (c : Fin 2) (s : State) : Host.Outcome State Fault Refusal :=
  run (timerMatchBody c) s

/-- WD_EXPIRE (R412). -/
def execWdExpire (c : Fin 2) (s : State) : Host.Outcome State Fault Refusal :=
  run (wdExpireBody c) s

/-- HOLD (R414). -/
def execHold (rq : Requester) (c : Fin 2) (s : State) : Host.Outcome State Fault Refusal :=
  run (regWriteBody rq (regAt (.tcore c) fTcoreCoreCtrlHold) 1) s

/-- HOLD_RELEASE (R414). -/
def execHoldRelease (rq : Requester) (c : Fin 2) (s : State) : Host.Outcome State Fault Refusal :=
  run (regWriteBody rq (regAt (.tcore c) fTcoreCoreCtrlHold) 0) s

/-- TCM_SWEEP (R404). -/
def execTcmSweep (mem : TcmRef) (word : BitVec 14) (s : State) : Host.Outcome State Fault Refusal :=
  run (tcmSweepBody mem word) s

end Sys2Proof.Machine
end

