-- ==== Sys2Proof/Machine/ExecDebug.lean ====
section
/-! DEFINITION. One meaning for each command of the test port and the debug ports (chapter 18): what the command does, and then what it sets off. -/

namespace Sys2Proof.Machine

open Sys2Proof

/-- EXTEST (R433). -/
def execExtest (bits : ScanIn) (s : State) : Host.Outcome State Fault Refusal :=
  run (extestBody bits) s

/-- SAMPLE_PRELOAD (R433). -/
def execSamplePreload (bits : ScanIn) (s : State) : Host.Outcome State Fault Refusal :=
  run (samplePreloadBody bits) s

/-- IDCODE (R435). -/
def execIdcode (s : State) : Host.Outcome State Fault Refusal :=
  run idcodeBody s

/-- CLAMP (R433). -/
def execClamp (s : State) : Host.Outcome State Fault Refusal :=
  run clampBody s

/-- HIGHZ (R433). -/
def execHighz (s : State) : Host.Outcome State Fault Refusal :=
  run highzBody s

/-- DBGACC (R436). -/
def execDbgacc (dr : BitVec 44) (s : State) : Host.Outcome State Fault Refusal :=
  runChecked (dbgaccBody dr) s

/-- WRAP_ACCESS (R434). -/
def execWrapAccess (a : WrapAccess) (s : State) : Host.Outcome State Fault Refusal :=
  run (wrapAccessBody a) s

/-- BYPASS (R433). -/
def execBypass (bit : Bool) (s : State) : Host.Outcome State Fault Refusal :=
  run (bypassBody bit) s

/-- TAP_RESET (R439). -/
def execTapReset (s : State) : Host.Outcome State Fault Refusal :=
  run tapResetBody s

/-- CLAIM (R437). -/
def execClaim (p : DbgPort) (s : State) : Host.Outcome State Fault Refusal :=
  run (claimBody p) s

/-- RELEASE (R437). -/
def execRelease (p : DbgPort) (s : State) : Host.Outcome State Fault Refusal :=
  run (releaseBody p) s

/-- MAP_GO (R438). -/
def execMapGo (p : DbgPort) (write : Bool) (s : State) : Host.Outcome State Fault Refusal :=
  runChecked (mapGoBody p write) s

/-- MEM_GO (R438). -/
def execMemGo (p : DbgPort) (write : Bool) (size : BitVec 2) (s : State) : Host.Outcome State Fault Refusal :=
  run (memGoBody p write size) s

/-- HALT_REQ (R440). -/
def execHaltReq (p : DbgPort) (c : Fin 2) (s : State) : Host.Outcome State Fault Refusal :=
  run (haltReqBody p c) s

/-- RESUME (R443). -/
def execResume (p : DbgPort) (c : Fin 2) (s : State) : Host.Outcome State Fault Refusal :=
  run (resumeBody p c) s

/-- STEP (R443). -/
def execStep (p : DbgPort) (c : Fin 2) (s : State) : Host.Outcome State Fault Refusal :=
  runChecked (stepBody p c) s

/-- REG_DATA (R442). -/
def execRegData (p : DbgPort) (c : Fin 2) (w : Word) (s : State) : Host.Outcome State Fault Refusal :=
  run (regDataBody p c w) s

/-- FEED (R442). -/
def execFeed (p : DbgPort) (c : Fin 2) (w : Word) (s : State) : Host.Outcome State Fault Refusal :=
  runChecked (feedBody p c w) s

/-- PEEP_ACK (R449). -/
def execPeepAck (p : DbgPort) (c : Fin 2) (s : State) : Host.Outcome State Fault Refusal :=
  run (peepAckBody p c) s

/-- PEEP_RX (R449). -/
def execPeepRx (rq : Requester) (c : Fin 2) (w : Word) (s : State) : Host.Outcome State Fault Refusal :=
  run (regWriteBody rq (regAt (.tcore c) fTcorePeepRxWord) w) s

/-- TRACE_ENABLE (R447). -/
def execTraceEnable (p : DbgPort) (c : Fin 2) (w : Word) (s : State) : Host.Outcome State Fault Refusal :=
  run (traceEnableBody p c w) s

/-- COMP_MATCH (R445). -/
def execCompMatch (c : Fin 2) (k : Fin 8) (acc : CompAccess) (s : State) : Host.Outcome State Fault Refusal :=
  run (compMatchBody c k acc) s

end Sys2Proof.Machine
end

