-- ==== Sys2Proof/Machine/ExecFabric.lean ====
section
/-! DEFINITION. One meaning for each command of the bays: channels, memories and slices (chapters 4 to 6): what the command does, and then what it sets off. -/

namespace Sys2Proof.Machine

open Sys2Proof

/-- HINGE_WORD_SEND (R66). -/
def execHingeWordSend (bay : Fin 104) (ch : Fin 8) (word : BitVec 70 × Option (Fin 128)) (s : State) : Host.Outcome State Fault Refusal :=
  run (hingeWordSendBody bay ch word.1 word.2) s

/-- HINGE_WORD_ARRIVE (R66). -/
def execHingeWordArrive (bay : Fin 104) (ch : Fin 8) (s : State) : Host.Outcome State Fault Refusal :=
  run (hingeWordArriveBody bay ch) s

/-- HINGE_CREDIT_RETURN (R66). -/
def execHingeCreditReturn (bay : Fin 104) (ch : Fin 8) (s : State) : Host.Outcome State Fault Refusal :=
  run (hingeCreditReturnBody bay ch) s

/-- STILE_WORD_SEND (R69). -/
def execStileWordSend (bay : Fin 104) (ch : Fin 4) (word : BitVec 70 × Option (Fin 128)) (s : State) : Host.Outcome State Fault Refusal :=
  run (stileWordSendBody bay ch word.1 word.2) s

/-- STILE_WORD_ARRIVE (R69). -/
def execStileWordArrive (bay : Fin 104) (ch : Fin 4) (s : State) : Host.Outcome State Fault Refusal :=
  run (stileWordArriveBody bay ch) s

/-- SIDEBAND_CHANGE (R67). -/
def execSidebandChange (bay : Fin 104) (k : Fin 32) (v : Bool) (s : State) : Host.Outcome State Fault Refusal :=
  run (sidebandChangeBody bay k v) s

/-- JAMB_INPUT (R478). -/
def execJambInput (j : Fin 48) (v : Bool) (s : State) : Host.Outcome State Fault Refusal :=
  run (jambInputBody j v) s

/-- BRAM_READ (R88). -/
def execBramRead (pb : Fin 112) (m : Fin 128) (port : BramPort) (acc : BitVec 15 × Bool) (other : Option OtherPort) (s : State) : Host.Outcome State Fault Refusal :=
  run (bramReadBody pb m port acc.1 acc.2 other) s

/-- BRAM_WRITE (R88). -/
def execBramWrite (pb : Fin 112) (m : Fin 128) (port : BramPort) (acc : BramAccess) (other : Option OtherPort) (s : State) : Host.Outcome State Fault Refusal :=
  run (bramWriteBody pb m port acc other) s

/-- BRAM_WRITEBACK (R99). -/
def execBramWriteback (pb : Fin 112) (m : Fin 128) (s : State) : Host.Outcome State Fault Refusal :=
  run (bramWritebackBody pb m) s

/-- BRAM_UPSET (R102). -/
def execBramUpset (pb : Fin 112) (m : Fin 128) (row : Fin 512) (bit : Fin 72) (s : State) : Host.Outcome State Fault Refusal :=
  run (bramUpsetBody pb m row bit) s

/-- OPMODE_HOLD (R112). -/
def execOpmodeHold (pb : Fin 112) (sl : Fin 128) (x : SliceIn) (s : State) : Host.Outcome State Fault Refusal :=
  run (fun d => d.sliceEdge pb sl 0 x) s

/-- OPMODE_LOAD (R112). -/
def execOpmodeLoad (pb : Fin 112) (sl : Fin 128) (x : SliceIn) (s : State) : Host.Outcome State Fault Refusal :=
  run (fun d => d.sliceEdge pb sl 1 x) s

/-- OPMODE_ADD (R112). -/
def execOpmodeAdd (pb : Fin 112) (sl : Fin 128) (x : SliceIn) (s : State) : Host.Outcome State Fault Refusal :=
  run (fun d => d.sliceEdge pb sl 2 x) s

/-- OPMODE_SUB (R112). -/
def execOpmodeSub (pb : Fin 112) (sl : Fin 128) (x : SliceIn) (s : State) : Host.Outcome State Fault Refusal :=
  run (fun d => d.sliceEdge pb sl 3 x) s

/-- OPMODE_CASC_ADD (R112). -/
def execOpmodeCascAdd (pb : Fin 112) (sl : Fin 128) (x : SliceIn) (s : State) : Host.Outcome State Fault Refusal :=
  run (fun d => d.sliceEdge pb sl 4 x) s

/-- OPMODE_CASC_SUB (R112). -/
def execOpmodeCascSub (pb : Fin 112) (sl : Fin 128) (x : SliceIn) (s : State) : Host.Outcome State Fault Refusal :=
  run (fun d => d.sliceEdge pb sl 5 x) s

/-- OPMODE_CLEAR (R112). -/
def execOpmodeClear (pb : Fin 112) (sl : Fin 128) (x : SliceIn) (s : State) : Host.Outcome State Fault Refusal :=
  run (fun d => d.sliceEdge pb sl 6 x) s

/-- OPMODE_CASC_LOAD (R112). -/
def execOpmodeCascLoad (pb : Fin 112) (sl : Fin 128) (x : SliceIn) (s : State) : Host.Outcome State Fault Refusal :=
  run (fun d => d.sliceEdge pb sl 7 x) s

/-- CLR_OVF (R117). -/
def execClrOvf (pb : Fin 112) (sl : Fin 128) (s : State) : Host.Outcome State Fault Refusal :=
  run (clrOvfBody pb sl) s

/-- AG_LOAD (R118). -/
def execAgLoad (pb : Fin 112) (sl : Fin 128) (k : Fin 2) (v : BitVec 15) (s : State) : Host.Outcome State Fault Refusal :=
  run (agLoadBody pb sl k v) s

/-- AG_STEP (R118). -/
def execAgStep (pb : Fin 112) (sl : Fin 128) (k : Fin 2) (s : State) : Host.Outcome State Fault Refusal :=
  run (agStepBody pb sl k) s

/-- BLOCK_START (R123). -/
def execBlockStart (pb : Fin 112) (c : Fin 4) (alsoEnd : Bool) (clr : Bool) (s : State) : Host.Outcome State Fault Refusal :=
  run (blockStartBody pb c alsoEnd clr) s

/-- BLOCK_END (R123). -/
def execBlockEnd (pb : Fin 112) (c : Fin 4) (clr : Bool) (s : State) : Host.Outcome State Fault Refusal :=
  run (blockEndBody pb c clr) s

/-- ECUM_CLR (R124). -/
def execEcumClr (pb : Fin 112) (c : Fin 4) (s : State) : Host.Outcome State Fault Refusal :=
  run (ecumClrBody pb c) s

end Sys2Proof.Machine
end

