-- ==== Sys2Proof/Machine/ExecHost.lean ====
section
/-! DEFINITION. One meaning for each command of the host interface (chapter 15): what the command does, and then what it sets off. -/

namespace Sys2Proof.Machine

open Sys2Proof

/-- PERST_N_ASSERT (R453). -/
def execPerstNAssert (s : State) : Host.Outcome State Fault Refusal :=
  run perstNAssertBody s

/-- PERST_N_DEASSERT (R453). -/
def execPerstNDeassert (s : State) : Host.Outcome State Fault Refusal :=
  run perstNDeassertBody s

/-- PCIE_CONFIG_REQUEST (R377). -/
def execPcieConfigRequest (fn : PcieFn) (q : CfgRequest) (s : State) : Host.Outcome State Fault Refusal :=
  run (pcieConfigRequestBody fn q) s

/-- HOT_RESET (R378). -/
def execHotReset (down : Bool) (s : State) : Host.Outcome State Fault Refusal :=
  run (hotResetBody down) s

/-- FLR_PF0 (R378). -/
def execFlrPf0 (s : State) : Host.Outcome State Fault Refusal :=
  run flrPf0Body s

/-- FLR_PF1 (R378). -/
def execFlrPf1 (s : State) : Host.Outcome State Fault Refusal :=
  run flrPf1Body s

/-- FLR_VF (R378). -/
def execFlrVf (v : Fin 32) (s : State) : Host.Outcome State Fault Refusal :=
  run (flrVfBody v) s

/-- WINDOW_READ (R384). -/
def execWindowRead (fn : PcieFn) (off : BitVec 64) (len : Nat) (ht : Nat) (s : State) : Host.Outcome State Fault Refusal :=
  run (windowReadBody fn off len ht) s

/-- WINDOW_WRITE (R384). -/
def execWindowWrite (fn : PcieFn) (off : BitVec 64) (bytes : List Byte) (be : List Bool) (s : State) : Host.Outcome State Fault Refusal :=
  run (windowWriteBody fn off bytes be) s

/-- DOORBELL (R387). -/
def execDoorbell (fn : PcieFn) (d : Fin 64) (off : BitVec 12) (size : Nat) (w : Word) (s : State) : Host.Outcome State Fault Refusal :=
  run (doorbellBody fn d off size w) s

/-- HOST_COMPLETION (R389). -/
def execHostCompletion (ht : Nat) (st : CplStatus) (bytes : List Byte) (s : State) : Host.Outcome State Fault Refusal :=
  run (hostCompletionBody ht st bytes) s

/-- DMA_TAIL (R392). -/
def execDmaTail (rq : Requester) (ch : Fin 64) (w : Word) (s : State) : Host.Outcome State Fault Refusal :=
  run (regWriteBody rq (pageBase .hdma + 0x10C + 0x20 * ch.val) w) s

/-- CH_START (R394). -/
def execChStart (rq : Requester) (ch : Fin 64) (s : State) : Host.Outcome State Fault Refusal :=
  run (regWriteBody rq (pageBase .hdma + 0x11C + 0x20 * ch.val) 1) s

/-- CH_STOP (R394). -/
def execChStop (rq : Requester) (ch : Fin 64) (s : State) : Host.Outcome State Fault Refusal :=
  run (regWriteBody rq (pageBase .hdma + 0x11C + 0x20 * ch.val) 2) s

/-- CH_ABORT (R394). -/
def execChAbort (rq : Requester) (ch : Fin 64) (s : State) : Host.Outcome State Fault Refusal :=
  run (regWriteBody rq (pageBase .hdma + 0x11C + 0x20 * ch.val) 4) s

/-- DESCRIPTOR_DONE (R392). -/
def execDescriptorDone (ch : Fin 64) (s : State) : Host.Outcome State Fault Refusal :=
  run (descriptorDoneBody ch) s

end Sys2Proof.Machine
end

