-- ==== Sys2Proof/Machine/ExecLinks.lean ====
section
/-! DEFINITION. One meaning for each command of the transom links (chapter 9): what the command does, and then what it sets off. -/

namespace Sys2Proof.Machine

open Sys2Proof

/-- TRAIN (R210). -/
def execTrain (l : Fin 144) (f : TrainFlit) (s : State) : Host.Outcome State Fault Refusal :=
  run (trainBody l f) s

/-- TRAIN_END (R210). -/
def execTrainEnd (flit : Fin 144 × TrainFlit) (s : State) : Host.Outcome State Fault Refusal :=
  run (trainEndBody flit.1 flit.2) s

/-- DLL_LOCK (R216). -/
def execDllLock (l : Fin 144) (o : AlignOutcome) (s : State) : Host.Outcome State Fault Refusal :=
  run (dllLockBody l o) s

/-- TRAIN_RESTART (R216). -/
def execTrainRestart (l : Fin 144) (s : State) : Host.Outcome State Fault Refusal :=
  run (trainRestartBody l) s

/-- DATA_LANE_FAIL (R221). -/
def execDataLaneFail (l : Fin 144) (lane : Fin 5) (s : State) : Host.Outcome State Fault Refusal :=
  run (dataLaneFailBody l lane) s

/-- MARGIN_WINDOW (R221). -/
def execMarginWindow (l : Fin 144) (lane : Fin 5) (count : Nat) (s : State) : Host.Outcome State Fault Refusal :=
  run (marginWindowBody l lane count) s

/-- SPARE_LANE_FAIL (R220). -/
def execSpareLaneFail (l : Fin 144) (wrong : Nat) (s : State) : Host.Outcome State Fault Refusal :=
  run (spareLaneFailBody l wrong) s

/-- CLOCK_LANE_FAIL (R224). -/
def execClockLaneFail (l : Fin 144) (s : State) : Host.Outcome State Fault Refusal :=
  run (clockLaneFailBody l) s

/-- DSWAP_MARKER (R223). -/
def execDswapMarker (flit : Fin 144 × BitVec 132) (s : State) : Host.Outcome State Fault Refusal :=
  run (dswapMarkerBody flit.1 flit.2) s

/-- DATA_GO (R227). -/
def execDataGo (rq : Requester) (l : Fin 144) (lane : Fin 4) (s : State) : Host.Outcome State Fault Refusal :=
  run (regWriteBody rq (regAt (.txl l) fTxlSwapTestLane) (BitVec.ofNat 32 (4 + lane.val))) s

/-- CLK_GO (R227). -/
def execClkGo (rq : Requester) (l : Fin 144) (s : State) : Host.Outcome State Fault Refusal :=
  run (regWriteBody rq (regAt (.txl l) fTxlSwapTestLane) 8) s

/-- SOLE (R231). -/
def execSole (l : Fin 144) (body : BitVec 512) (s : State) : Host.Outcome State Fault Refusal :=
  run (packetFlit .sole l body) s

/-- HEAD (R231). -/
def execHead (l : Fin 144) (body : BitVec 512) (s : State) : Host.Outcome State Fault Refusal :=
  run (packetFlit .head l body) s

/-- MID (R231). -/
def execMid (l : Fin 144) (body : BitVec 512) (s : State) : Host.Outcome State Fault Refusal :=
  run (packetFlit .mid l body) s

/-- TAIL (R231). -/
def execTail (l : Fin 144) (body : BitVec 512) (s : State) : Host.Outcome State Fault Refusal :=
  run (packetFlit .tail l body) s

/-- BAD_FLIT (R236). -/
def execBadFlit (l : Fin 144) (s : State) : Host.Outcome State Fault Refusal :=
  run (badFlitBody l) s

/-- LINK_FLIT (R236). -/
def execLinkFlit (l : Fin 144) (body : BitVec 512) (s : State) : Host.Outcome State Fault Refusal :=
  run (ctrlFlitBody l body) s

/-- NAK (R237). -/
def execNak (l : Fin 144) (body : BitVec 512) (s : State) : Host.Outcome State Fault Refusal :=
  run (linkFlitIf (fun b => bitAt b 20) l body) s

/-- REPLAY (R236). -/
def execReplay (l : Fin 144) (body : BitVec 512) (s : State) : Host.Outcome State Fault Refusal :=
  run (linkFlitIf (fun b => bitAt b 21) l body) s

/-- ENTER_IDLE (R246). -/
def execEnterIdle (l : Fin 144) (body : BitVec 512) (s : State) : Host.Outcome State Fault Refusal :=
  run (linkFlitIf (fun b => fieldAt b 88 4 == 1) l body) s

/-- SLEEP_REQ (R247). -/
def execSleepReq (l : Fin 144) (body : BitVec 512) (s : State) : Host.Outcome State Fault Refusal :=
  run (linkFlitIf (fun b => fieldAt b 88 4 == 2) l body) s

/-- SLEEP_ACK (R247). -/
def execSleepAck (l : Fin 144) (body : BitVec 512) (s : State) : Host.Outcome State Fault Refusal :=
  run (linkFlitIf (fun b => fieldAt b 88 4 == 3) l body) s

/-- SLEEP_NAK (R247). -/
def execSleepNak (l : Fin 144) (body : BitVec 512) (s : State) : Host.Outcome State Fault Refusal :=
  run (linkFlitIf (fun b => fieldAt b 88 4 == 4) l body) s

/-- DSWAP_REQ (R250). -/
def execDswapReq (l : Fin 144) (body : BitVec 512) (s : State) : Host.Outcome State Fault Refusal :=
  run (linkFlitIf (fun b => bitAt b 96) l body) s

/-- CSWAP_REQ (R224). -/
def execCswapReq (l : Fin 144) (body : BitVec 512) (s : State) : Host.Outcome State Fault Refusal :=
  run (linkFlitIf (fun b => bitAt b 100) l body) s

/-- RETRAIN_REQ (R238). -/
def execRetrainReq (l : Fin 144) (body : BitVec 512) (s : State) : Host.Outcome State Fault Refusal :=
  run (linkFlitIf (fun b => bitAt b 101) l body) s

/-- FAULT (R249). -/
def execFault (l : Fin 144) (body : BitVec 512) (s : State) : Host.Outcome State Fault Refusal :=
  run (linkFlitIf (fun b => bitAt b 102) l body) s

/-- HELLO (R242). -/
def execHello (l : Fin 144) (body : BitVec 512) (s : State) : Host.Outcome State Fault Refusal :=
  run (helloFlitBody l body) s

/-- TAG (R274). -/
def execTagFlit (l : Fin 144) (body : BitVec 512) (s : State) : Host.Outcome State Fault Refusal :=
  run (tagFlitBody l body) s

/-- REPLAY_TIMEOUT (R237). -/
def execReplayTimeout (l : Fin 144) (s : State) : Host.Outcome State Fault Refusal :=
  run (replayTimeoutBody l) s

/-- NAK_REPEAT (R236). -/
def execNakRepeat (l : Fin 144) (s : State) : Host.Outcome State Fault Refusal :=
  run (nakRepeatBody l) s

/-- RX_SILENCE (R238). -/
def execRxSilence (l : Fin 144) (s : State) : Host.Outcome State Fault Refusal :=
  run (rxSilenceBody l) s

/-- DSWAP_TIMEOUT (R250). -/
def execDswapTimeout (l : Fin 144) (s : State) : Host.Outcome State Fault Refusal :=
  run (dswapTimeoutBody l) s

/-- BRINGUP_LATE (R244). -/
def execBringupLate (l : Fin 144) (s : State) : Host.Outcome State Fault Refusal :=
  run (bringupLateBody l) s

/-- BRINGUP_LIMIT (R244). -/
def execBringupLimit (l : Fin 144) (s : State) : Host.Outcome State Fault Refusal :=
  run (bringupLimitBody l) s

/-- IDLE_ENTER (R246). -/
def execIdleEnter (l : Fin 144) (s : State) : Host.Outcome State Fault Refusal :=
  run (idleEnterBody l) s

/-- IDLE_RESUME (R246). -/
def execIdleResume (l : Fin 144) (s : State) : Host.Outcome State Fault Refusal :=
  run (idleResumeBody l) s

/-- SLEEP_RETRY (R247). -/
def execSleepRetry (l : Fin 144) (s : State) : Host.Outcome State Fault Refusal :=
  run (sleepRetryBody l) s

/-- LINK_WAKE_DETECT (R248). -/
def execLinkWakeDetect (l : Fin 144) (s : State) : Host.Outcome State Fault Refusal :=
  run (linkWakeDetectBody l) s

/-- CREDIT_STALL (R241). -/
def execCreditStall (l : Fin 144) (cls : Fin 4) (s : State) : Host.Outcome State Fault Refusal :=
  run (creditStallBody l cls) s

/-- LINK_ENABLE (R245). -/
def execLinkEnable (rq : Requester) (l : Fin 144) (tag : Byte) (s : State) : Host.Outcome State Fault Refusal :=
  run (enableBody rq (.txl l) tag true) s

/-- LINK_DISABLE (R245). -/
def execLinkDisable (rq : Requester) (l : Fin 144) (tag : Byte) (s : State) : Host.Outcome State Fault Refusal :=
  run (enableBody rq (.txl l) tag false) s

/-- PM_CTRL_SLEEP (R247). -/
def execPmCtrlSleep (rq : Requester) (l : Fin 144) (s : State) : Host.Outcome State Fault Refusal :=
  run (regWriteBody rq (regAt (.txl l) fTxlPmCtrlSleep) 1) s

/-- PM_CTRL_WAKE (R248). -/
def execPmCtrlWake (rq : Requester) (l : Fin 144) (s : State) : Host.Outcome State Fault Refusal :=
  run (regWriteBody rq (regAt (.txl l) fTxlPmCtrlSleep) 2) s

/-- PM_CTRL_RETRAIN (R238). -/
def execPmCtrlRetrain (rq : Requester) (l : Fin 144) (s : State) : Host.Outcome State Fault Refusal :=
  run (regWriteBody rq (regAt (.txl l) fTxlPmCtrlSleep) 4) s

end Sys2Proof.Machine
end

