-- ==== Sys2Proof/Machine/ExecManagement.lean ====
section
/-! DEFINITION. One meaning for each command of the management registers, causes, the tally, logs and captures (chapters 2 to 4): what the command does, and then what it sets off. -/

namespace Sys2Proof.Machine

open Sys2Proof

/-- REGISTER_WRITE (R22). -/
def execRegisterWrite (rq : Requester) (off : BitVec 26) (size : Nat) (w : Word) (s : State) : Host.Outcome State Fault Refusal :=
  runChecked (registerWriteBody rq off size w) s

/-- COMMIT (R30). -/
def execCommit (rq : Requester) (pg : PageRef) (tag : Byte) (en : Bool) (s : State) : Host.Outcome State Fault Refusal :=
  runChecked (commitBody rq pg tag en) s

/-- STAGED_SET_APPLY (R30). -/
def execStagedSetApply (pg : PageRef) (s : State) : Host.Outcome State Fault Refusal :=
  runChecked (stagedSetApplyBody pg) s

/-- ENABLE (R32). -/
def execEnable (rq : Requester) (pg : PageRef) (tag : Byte) (en : Bool) (s : State) : Host.Outcome State Fault Refusal :=
  runChecked (enableBody rq pg tag en) s

/-- ABORT_REQUEST (R48). -/
def execAbortRequest (rq : Requester) (pg : PageRef) (tag : Byte) (s : State) : Host.Outcome State Fault Refusal :=
  runChecked (abortRequestBody rq pg tag) s

/-- ABORT_DONE (R48). -/
def execAbortDone (pg : PageRef) (s : State) : Host.Outcome State Fault Refusal :=
  run (abortDoneBody pg) s

/-- ABORT_CLEAR (R49). -/
def execAbortClear (rq : Requester) (pg : PageRef) (tag : Byte) (s : State) : Host.Outcome State Fault Refusal :=
  run (abortClearBody rq pg tag) s

/-- PAGE_CAUSE_CLEAR (R40). -/
def execPageCauseClear (rq : Requester) (pg : PageRef) (w : Word) (s : State) : Host.Outcome State Fault Refusal :=
  run (pageCauseClearBody rq pg w) s

/-- PAGE_CAUSE_SET (R29). -/
def execPageCauseSet (rq : Requester) (pg : PageRef) (w : Word) (s : State) : Host.Outcome State Fault Refusal :=
  run (pageCauseSetBody rq pg w) s

/-- ALERT_REARM (R42). -/
def execAlertRearm (rq : Requester) (w : Word) (s : State) : Host.Outcome State Fault Refusal :=
  run (regWriteBody rq (regAt .sill fSillAlertRearmRearm) w) s

/-- ALERT_MSIX_SEND (R43). -/
def execAlertMsixSend (s : State) : Host.Outcome State Fault Refusal :=
  run alertMsixSendBody s

/-- MSIX_UNMASK (R42). -/
def execMsixUnmask (fn : PcieFn) (vec : Fin 64) (mask : Bool) (s : State) : Host.Outcome State Fault Refusal :=
  run (msixUnmaskBody fn vec mask) s

/-- PEEP_TX (R449). -/
def execPeepTx (rq : Requester) (c : Fin 2) (s : State) : Host.Outcome State Fault Refusal :=
  run (popReadBody rq (.peepTx c)) s

/-- TRACE_POP_HI (R429). -/
def execTracePopHi (rq : Requester) (s : State) : Host.Outcome State Fault Refusal :=
  run (popReadBody rq .traceHi) s

/-- GOLDEN_POP (R345). -/
def execGoldenPop (rq : Requester) (s : State) : Host.Outcome State Fault Refusal :=
  run (popReadBody rq .golden) s

/-- ERR_POP (R393). -/
def execErrPop (rq : Requester) (s : State) : Host.Outcome State Fault Refusal :=
  run (popReadBody rq .err) s

/-- MBX_RESP (R369). -/
def execMbxResp (rq : Requester) (n : Fin 4) (s : State) : Host.Outcome State Fault Refusal :=
  run (popReadBody rq (.mbx n)) s

/-- DEBUG_PEEK (R39). -/
def execDebugPeek (port : PopPort) (s : State) : Host.Outcome State Fault Refusal :=
  run (debugPeekBody port) s

/-- TALLY_CLEAR (R47). -/
def execTallyClear (rq : Requester) (w : Word) (s : State) : Host.Outcome State Fault Refusal :=
  run (regWriteBody rq (regAt .tally fTallyClearIndex) w) s

/-- TALLY_ECC_ERROR (R46). -/
def execTallyEccError (idx : BitVec 13) (double : Bool) (s : State) : Host.Outcome State Fault Refusal :=
  run (tallyEccErrorBody idx double) s

/-- TALLY_RECOMPUTE (R46). -/
def execTallyRecompute (idx : BitVec 13) (s : State) : Host.Outcome State Fault Refusal :=
  run (tallyRecomputeBody idx) s

/-- LOG_FREE (R175). -/
def execLogFree (rq : Requester) (log : LogRef) (s : State) : Host.Outcome State Fault Refusal :=
  run (logFreeBody rq log) s

/-- CAPTURE (R74). -/
def execCapture (rq : Requester) (b : BayPage) (s : State) : Host.Outcome State Fault Refusal :=
  run (regWriteBody rq (regAt (bayPageRef b) fPbayCaptureCmdGo) 1) s

/-- CAPTURE_ALL (R75). -/
def execCaptureAll (rq : Requester) (b : BayPage) (s : State) : Host.Outcome State Fault Refusal :=
  run (regWriteBody rq (regAt (bayPageRef b) fPbayCaptureCmdGo) 3) s

/-- CAPTURE_COMPLETE (R74). -/
def execCaptureComplete (pb : Fin 112) (s : State) : Host.Outcome State Fault Refusal :=
  run (captureCompleteBody pb) s

end Sys2Proof.Machine
end

