-- ==== Sys2Proof/Machine/ExecMemory.lean ====
section
/-! DEFINITION. One meaning for each command of the memory curtain (chapter 10): what the command does, and then what it sets off. -/

namespace Sys2Proof.Machine

open Sys2Proof

/-- INIT (R260). -/
def execInit (rq : Requester) (n : Fin 144) (win : Fin 4) (s : State) : Host.Outcome State Fault Refusal :=
  run (regWriteBody rq (regAt (curPage n) fCurWinCmdInit) (BitVec.ofNat 32 (4 + win.val))) s

/-- INIT_DONE (R260). -/
def execInitDone (n : Fin 144) (s : State) : Host.Outcome State Fault Refusal :=
  run (initDoneBody n) s

/-- CACHE_FETCH_DONE (R263). -/
def execCacheFetchDone (n : Fin 144) (s : State) : Host.Outcome State Fault Refusal :=
  run (cacheFetchDoneBody n) s

/-- TAG_CHECK_DONE (R263). -/
def execTagCheckDone (n : Fin 144) (s : State) : Host.Outcome State Fault Refusal :=
  run (tagCheckDoneBody n) s

/-- REENCRYPT_DONE (R265). -/
def execReencryptDone (n : Fin 144) (page : Nat) (s : State) : Host.Outcome State Fault Refusal :=
  run (reencryptDoneBody n page) s

/-- PARTIAL_WRITE_DONE (R266). -/
def execPartialWriteDone (n : Fin 144) (s : State) : Host.Outcome State Fault Refusal :=
  run (partialWriteDoneBody n) s

/-- QUAR_RELEASE (R267). -/
def execQuarRelease (rq : Requester) (n : Fin 144) (idx : Fin 32) (poison : Bool) (s : State) : Host.Outcome State Fault Refusal :=
  run (regWriteBody rq (regAt (curPage n) fCurQuarReleaseGo) (BitVec.ofNat 32 (64 + 32 * poison.toNat + idx.val))) s

/-- ROLL (R277). -/
def execRoll (rq : Requester) (n : Fin 144) (s : State) : Host.Outcome State Fault Refusal :=
  run (regWriteBody rq (regAt (curPage n) fCurKeyCtrlRoll) 1) s

/-- ROLL_DONE (R277). -/
def execRollDone (n : Fin 144) (s : State) : Host.Outcome State Fault Refusal :=
  run (rollDoneBody n) s

/-- AES_PARITY_FAIL (R281). -/
def execAesParityFail (n : Fin 144) (s : State) : Host.Outcome State Fault Refusal :=
  run (aesParityFailBody n) s

/-- TAKEOVER_DONE (R281). -/
def execTakeoverDone (n : Fin 144) (s : State) : Host.Outcome State Fault Refusal :=
  run (takeoverDoneBody n) s

/-- SPARE_SELF_TEST (R282). -/
def execSpareSelfTest (g : Fin 12) (pass : Bool) (s : State) : Host.Outcome State Fault Refusal :=
  run (spareSelfTestBody g pass) s

end Sys2Proof.Machine
end

