-- ==== Sys2Proof/Machine/ExecMesh.lean ====
section
/-! DEFINITION. One meaning for each command of packets, initiators, routers and shutters (chapter 8): what the command does, and then what it sets off. -/

namespace Sys2Proof.Machine

open Sys2Proof

/-- RD (R159). -/
def execRd (k : Nat) (s : State) : Host.Outcome State Fault Refusal :=
  run (arriveBody 0x00 k) s

/-- WR_NP (R159). -/
def execWrNp (k : Nat) (s : State) : Host.Outcome State Fault Refusal :=
  run (arriveBody 0x01 k) s

/-- FADD64 (R162). -/
def execFadd64 (k : Nat) (s : State) : Host.Outcome State Fault Refusal :=
  run (arriveBody 0x02 k) s

/-- SWAP64 (R162). -/
def execSwap64 (k : Nat) (s : State) : Host.Outcome State Fault Refusal :=
  run (arriveBody 0x03 k) s

/-- CAS64 (R162). -/
def execCas64 (k : Nat) (s : State) : Host.Outcome State Fault Refusal :=
  run (arriveBody 0x04 k) s

/-- FADD128 (R162). -/
def execFadd128 (k : Nat) (s : State) : Host.Outcome State Fault Refusal :=
  run (arriveBody 0x05 k) s

/-- SWAP128 (R162). -/
def execSwap128 (k : Nat) (s : State) : Host.Outcome State Fault Refusal :=
  run (arriveBody 0x06 k) s

/-- CAS128 (R162). -/
def execCas128 (k : Nat) (s : State) : Host.Outcome State Fault Refusal :=
  run (arriveBody 0x07 k) s

/-- WR_P (R169). -/
def execWrP (k : Nat) (s : State) : Host.Outcome State Fault Refusal :=
  run (arriveBody 0x10 k) s

/-- MSG (R159). -/
def execMsg (k : Nat) (s : State) : Host.Outcome State Fault Refusal :=
  run (arriveBody 0x11 k) s

/-- MRD (R153). -/
def execMrd (k : Nat) (s : State) : Host.Outcome State Fault Refusal :=
  run (arriveBody 0x20 k) s

/-- MWR (R153). -/
def execMwr (k : Nat) (s : State) : Host.Outcome State Fault Refusal :=
  runChecked (arriveBody 0x21 k) s

/-- RSP (R167). -/
def execRsp (k : Nat) (s : State) : Host.Outcome State Fault Refusal :=
  run (arriveBody 0x30 k) s

/-- RSP_DATA (R167). -/
def execRspData (k : Nat) (s : State) : Host.Outcome State Fault Refusal :=
  run (arriveBody 0x31 k) s

/-- VERIFY_OK (R170). -/
def execVerifyOk (k : Nat) (s : State) : Host.Outcome State Fault Refusal :=
  run (arriveBody 0x38 k) s

/-- VERIFY_FAIL (R170). -/
def execVerifyFail (k : Nat) (s : State) : Host.Outcome State Fault Refusal :=
  run (arriveBody 0x39 k) s

/-- INITIATOR_TIMEOUT (R195). -/
def execInitiatorTimeout (n : NodeKind) (tag : BitVec 12) (s : State) : Host.Outcome State Fault Refusal :=
  run (initiatorTimeoutBody n tag) s

/-- TAG_QUARANTINE_END (R164). -/
def execTagQuarantineEnd (n : NodeKind) (tag : BitVec 12) (s : State) : Host.Outcome State Fault Refusal :=
  run (tagQuarantineEndBody n tag) s

/-- BAY_PORT_SEND (R180). -/
def execBayPortSend (bay : Fin 104) (p : Packet) (s : State) : Host.Outcome State Fault Refusal :=
  run (bayPortSendBody bay p) s

/-- BAY_PORT_ISSUE (R180). -/
def execBayPortIssue (bay : Fin 104) (cls : Fin 4) (s : State) : Host.Outcome State Fault Refusal :=
  run (bayPortIssueBody bay cls) s

/-- SEGMENT_FAIL (R190). -/
def execSegmentFail (at_ : RouterAt) (out : Fin 5) (s : State) : Host.Outcome State Fault Refusal :=
  run (segmentFailBody at_ out) s

/-- ROUTER_FAIL (R190). -/
def execRouterFail (at_ : RouterAt) (s : State) : Host.Outcome State Fault Refusal :=
  run (routerFailBody at_) s

/-- SEGMENT_BIT_ERROR (R188). -/
def execSegmentBitError (at_ : RouterAt) (out : Fin 5) (s : State) : Host.Outcome State Fault Refusal :=
  run (segmentBitErrorBody at_ out) s

/-- SHUTTER_CLOSE (R198). -/
def execShutterClose (rq : Requester) (sh : ShutterRef) (s : State) : Host.Outcome State Fault Refusal :=
  run (regWriteBody rq (shutterReg sh) 1) s

/-- SHUTTER_CLOSED (R198). -/
def execShutterClosed (sh : ShutterRef) (s : State) : Host.Outcome State Fault Refusal :=
  run (shutterClosedBody sh) s

/-- SHUTTER_DRAIN_EXPIRE (R198). -/
def execShutterDrainExpire (sh : ShutterRef) (s : State) : Host.Outcome State Fault Refusal :=
  run (shutterDrainExpireBody sh) s

/-- SHUTTER_OPEN (R199). -/
def execShutterOpen (rq : Requester) (sh : ShutterRef) (s : State) : Host.Outcome State Fault Refusal :=
  runChecked (regWriteBody rq (shutterReg sh) 2) s

end Sys2Proof.Machine
end

