-- ==== Sys2Proof/Machine/ExecPorter.lean ====
section
/-! DEFINITION. One meaning for each command of the porter (chapter 17): what the command does, and then what it sets off. -/

namespace Sys2Proof.Machine

open Sys2Proof

/-- ACTIVATE (R423). -/
def execActivate (rq : Requester) (t : Task) (s : State) : Host.Outcome State Fault Refusal :=
  run (regWriteBody rq (regAt .porter fPorterTaskCmdTask) (BitVec.ofNat 32 (t.toNat + 1 * 2 ^ 16))) s

/-- POST (R423). -/
def execPost (rq : Requester) (t : Task) (s : State) : Host.Outcome State Fault Refusal :=
  run (regWriteBody rq (regAt .porter fPorterTaskCmdTask) (BitVec.ofNat 32 (t.toNat + 2 * 2 ^ 16))) s

/-- TASK_RETIRE (R423). -/
def execTaskRetire (rq : Requester) (t : Task) (s : State) : Host.Outcome State Fault Refusal :=
  run (regWriteBody rq (regAt .porter fPorterTaskCmdTask) (BitVec.ofNat 32 (t.toNat + 3 * 2 ^ 16))) s

/-- SET_PRIO (R423). -/
def execSetPrio (rq : Requester) (t : Task) (prio : BitVec 5) (s : State) : Host.Outcome State Fault Refusal :=
  run (regWriteBody rq (regAt .porter fPorterTaskCmdTask) (BitVec.ofNat 32 (t.toNat + prio.toNat * 2 ^ 10 + 4 * 2 ^ 16))) s

/-- PORTER_TICK (R427). -/
def execPorterTick (s : State) : Host.Outcome State Fault Refusal :=
  run porterTickBody s

/-- DELAY_EXPIRY (R427). -/
def execDelayExpiry (s : State) : Host.Outcome State Fault Refusal :=
  run delayExpiryBody s

/-- DESC_BAD (R422). -/
def execDescBad (t : Task) (s : State) : Host.Outcome State Fault Refusal :=
  run (descBadBody t) s

/-- TRACE_FLUSH (R429). -/
def execTraceFlush (rq : Requester) (w : Word) (s : State) : Host.Outcome State Fault Refusal :=
  runChecked (regWriteBody rq (regAt .porter fPorterTraceCtrlEn) (w &&& ~~~(2 : Word))) s

end Sys2Proof.Machine
end

