-- ==== Sys2Proof/Machine/ExecPower.lean ====
section
/-! DEFINITION. One meaning for each command of operating modes and power (chapter 19), and the events of further chapters: what the command does, and then what it sets off. -/

namespace Sys2Proof.Machine

open Sys2Proof

/-- MODE_REQ_DORMANT (R456). -/
def execModeReqDormant (rq : Requester) (s : State) : Host.Outcome State Fault Refusal :=
  run (regWriteBody rq (regAt .pwr fPwrModeReqTarget) (BitVec.ofNat 32 (8 + mDormant))) s

/-- MODE_REQ_DOORWAY (R453). -/
def execModeReqDoorway (rq : Requester) (s : State) : Host.Outcome State Fault Refusal :=
  run (regWriteBody rq (regAt .pwr fPwrModeReqTarget) (BitVec.ofNat 32 (8 + mDoorway))) s

/-- MODE_REQ_SERVICE (R453). -/
def execModeReqService (rq : Requester) (s : State) : Host.Outcome State Fault Refusal :=
  runChecked (regWriteBody rq (regAt .pwr fPwrModeReqTarget) (BitVec.ofNat 32 (8 + mService))) s

/-- MODE_REQ_DROWSE (R458). -/
def execModeReqDrowse (rq : Requester) (s : State) : Host.Outcome State Fault Refusal :=
  run (regWriteBody rq (regAt .pwr fPwrModeReqTarget) (BitVec.ofNat 32 (8 + mDrowse))) s

/-- MODE_REQ_QUIESCED (R459). -/
def execModeReqQuiesced (rq : Requester) (s : State) : Host.Outcome State Fault Refusal :=
  run (regWriteBody rq (regAt .pwr fPwrModeReqTarget) (BitVec.ofNat 32 (8 + mQuiesced))) s

/-- MODE_REQ_LOAD (R461). -/
def execModeReqLoad (rq : Requester) (s : State) : Host.Outcome State Fault Refusal :=
  runChecked (regWriteBody rq (regAt .pwr fPwrModeReqTarget) (BitVec.ofNat 32 (8 + mLoad))) s

/-- QUIESCE_LIMIT (R459). -/
def execQuiesceLimit (s : State) : Host.Outcome State Fault Refusal :=
  run quiesceLimitBody s

/-- PCIE_L12_ENTRY (R456). -/
def execPcieL12Entry (down : Bool) (s : State) : Host.Outcome State Fault Refusal :=
  run (pcieL12EntryBody down) s

/-- PCIE_L12_EXIT (R455). -/
def execPcieL12Exit (s : State) : Host.Outcome State Fault Refusal :=
  run pcieL12ExitBody s

/-- WAKE_N (R455). -/
def execWakeN (s : State) : Host.Outcome State Fault Refusal :=
  run wakeNBody s

/-- SILL_TIMER (R455). -/
def execSillTimer (s : State) : Host.Outcome State Fault Refusal :=
  run sillTimerBody s

/-- THERM_READ (R485). -/
def execThermRead (temps : List Temp) (s : State) : Host.Outcome State Fault Refusal :=
  run (thermReadBody temps) s

/-- TEMP_MAX_CLEAR (R486). -/
def execTempMaxClear (rq : Requester) (s : State) : Host.Outcome State Fault Refusal :=
  run (regWriteBody rq (regAt .pwr fPwrTempMaxTemp) 0x80000000) s

/-- SILL_POWER_ON (R471). -/
def execSillPowerOn (s : State) : Host.Outcome State Fault Refusal :=
  run sillPowerOnBody s

/-- VBAT_LOW (R473). -/
def execVbatLow (s : State) : Host.Outcome State Fault Refusal :=
  run vbatLowBody s

/-- SUPPLY_LOSS (R368). -/
def execSupplyLoss (s : State) : Host.Outcome State Fault Refusal :=
  run supplyLossBody s

/-- FLASH_RESPONSE (R312). -/
def execFlashResponse (a : FlashAnswer) (s : State) : Host.Outcome State Fault Refusal :=
  run (flashResponseBody a) s

/-- PCIE_COMPLETION_TIMEOUT (R311). -/
def execPcieCompletionTimeout (ht : Nat) (s : State) : Host.Outcome State Fault Refusal :=
  run (pcieCompletionTimeoutBody ht) s

/-- PCIE_LINK_UP (R397). -/
def execPcieLinkUp (rate : BitVec 3) (width : BitVec 5) (flit : Bool) (s : State) : Host.Outcome State Fault Refusal :=
  run (pcieLinkUpBody rate width flit) s

/-- STILE_CREDIT_RETURN (R69). -/
def execStileCreditReturn (bay : Fin 104) (ch : Fin 4) (s : State) : Host.Outcome State Fault Refusal :=
  run (stileCreditReturnBody bay ch) s

/-- REFERENCE_JUDGED_GOOD (R497). -/
def execReferenceJudgedGood (r : RefClk) (s : State) : Host.Outcome State Fault Refusal :=
  runChecked (referenceJudgedGoodBody r) s

/-- TCM_UPSET (R404). -/
def execTcmUpset (mem : TcmRef) (word : BitVec 14) (bit : Fin 72) (s : State) : Host.Outcome State Fault Refusal :=
  run (tcmUpsetBody mem word bit) s

/-- FLIT_SLOT (R234). -/
def execFlitSlot (l : Fin 144) (s : State) : Host.Outcome State Fault Refusal :=
  run (flitSlotBody l) s

/-- RESUME_TRAIN_TIMEOUT (R246). -/
def execResumeTrainTimeout (l : Fin 144) (s : State) : Host.Outcome State Fault Refusal :=
  run (resumeTrainTimeoutBody l) s

/-- ENGINE_SELF_TEST_DONE (R281). -/
def execEngineSelfTestDone (n : Fin 156) (pass : Bool) (s : State) : Host.Outcome State Fault Refusal :=
  run (engineSelfTestDoneBody n pass) s

end Sys2Proof.Machine
end

