-- ==== Sys2Proof/Machine/ExecRepair.lean ====
section
/-! DEFINITION. One meaning for each command of the warden, repair and spares (chapter 14): what the command does, and then what it sets off. -/

namespace Sys2Proof.Machine

open Sys2Proof

/-- SUBMIT (R369). -/
def execSubmit (rq : Requester) (n : Fin 4) (s : State) : Host.Outcome State Fault Refusal :=
  run (regWriteBody rq (regAt (.warden n) fWardenSubmitGo) 1) s

/-- MIGRATE (R358). -/
def execMigrate (n : Fin 4) (bay : Fin 128) (s : State) : Host.Outcome State Fault Refusal :=
  run (migrateBody n bay) s

/-- RETIRE (R370). -/
def execRetire (n : Fin 4) (s : State) : Host.Outcome State Fault Refusal :=
  run (retireBody n) s

/-- SELF_TEST (R354). -/
def execSelfTest (n : Fin 4) (s : State) : Host.Outcome State Fault Refusal :=
  run (selfTestBody n) s

/-- LOAD_KEY (R276). -/
def execLoadKey (n : Fin 4) (s : State) : Host.Outcome State Fault Refusal :=
  run (loadKeyBody n) s

/-- LOAD_SUBSTRATE (R370). -/
def execLoadSubstrate (n : Fin 4) (ends : Bool) (s : State) : Host.Outcome State Fault Refusal :=
  run (loadSubstrateBody n ends) s

/-- GOLDEN (R346). -/
def execGolden (n : Fin 4) (ends : Bool) (s : State) : Host.Outcome State Fault Refusal :=
  run (goldenBody n ends) s

/-- RESTORE (R370). -/
def execRestore (n : Fin 4) (pass : Bool) (s : State) : Host.Outcome State Fault Refusal :=
  run (restoreBody n pass) s

/-- RECORD_EXPORT (R352). -/
def execRecordExport (n : Fin 4) (ends : Bool) (s : State) : Host.Outcome State Fault Refusal :=
  run (recordExportBody n ends) s

/-- RECORD_IMPORT (R352). -/
def execRecordImport (n : Fin 4) (bytes : Option (List Byte)) (s : State) : Host.Outcome State Fault Refusal :=
  run (recordImportBody n bytes) s

/-- CLONE_DONE (R359). -/
def execCloneDone (row : Fin 8) (copied : List Nat × Bool) (s : State) : Host.Outcome State Fault Refusal :=
  run (cloneDoneBody row copied.1 copied.2) s

/-- MIRROR_PASS_END (R360). -/
def execMirrorPassEnd (row : Fin 8) (left : List Nat) (image : Bool) (s : State) : Host.Outcome State Fault Refusal :=
  run (mirrorPassEndBody row left image) s

/-- SELF_TEST_DONE (R354). -/
def execSelfTestDone (pb : Fin 112) (pass : Bool) (lf : List Nat) (mf : List Nat) (s : State) : Host.Outcome State Fault Refusal :=
  run (selfTestDoneBody pb pass lf mf) s

/-- SELF_TEST_DUE (R354). -/
def execSelfTestDue (pb : Fin 112) (s : State) : Host.Outcome State Fault Refusal :=
  run (selfTestDueBody pb) s

/-- HEALTH_UPDATE (R355). -/
def execHealthUpdate (pb : Fin 112) (drift : List Byte) (s : State) : Host.Outcome State Fault Refusal :=
  run (healthUpdateBody pb drift) s

/-- MIGRATE_RETRY (R357). -/
def execMigrateRetry (row : Fin 8) (s : State) : Host.Outcome State Fault Refusal :=
  run (migrateRetryBody row) s

/-- WARDEN_RESYNC (R356). -/
def execWardenResync (core : Fin 3) (s : State) : Host.Outcome State Fault Refusal :=
  run (wardenResyncBody core) s

/-- WARDEN_LOST (R356). -/
def execWardenLost (s : State) : Host.Outcome State Fault Refusal :=
  run wardenLostBody s

end Sys2Proof.Machine
end

