-- ==== Sys2Proof/Machine/ExecScrubbing.lean ====
section
/-! DEFINITION. One meaning for each command of the scrubber (chapter 13): what the command does, and then what it sets off. -/

namespace Sys2Proof.Machine

open Sys2Proof

/-- SCRUB_FRAME (R342). -/
def execScrubFrame (s : State) : Host.Outcome State Fault Refusal :=
  run scrubFrameBody s

/-- PASS_START (R339). -/
def execPassStart (s : State) : Host.Outcome State Fault Refusal :=
  run passStartBody s

/-- VOTE_FIX (R347). -/
def execVoteFix (copy : Fin 3) (s : State) : Host.Outcome State Fault Refusal :=
  run (voteFixBody copy) s

/-- VOTE_LOST (R347). -/
def execVoteLost (s : State) : Host.Outcome State Fault Refusal :=
  run voteLostBody s

/-- INJECT (R349). -/
def execInject (rq : Requester) (w : Word) (s : State) : Host.Outcome State Fault Refusal :=
  runChecked (regWriteBody rq (regAt .scrub fScrubInjectWord) (w ||| 0x80000000)) s

/-- CONFIG_UPSET (R367). -/
def execConfigUpset (pb : Fin 112) (addr : Word) (col : Fin 66) (bit : Fin 73) (s : State) : Host.Outcome State Fault Refusal :=
  run (configUpsetBody pb addr col bit) s

end Sys2Proof.Machine
end

