-- ==== Sys2Proof/Machine/Dispatch.lean ====
section
/-! DEFINITION. What each command does: one arm for each constructor of Instr. -/

namespace Sys2Proof.Machine

open Sys2Proof

def exec (i : Instr) (s : State) : Host.Outcome State Fault Refusal :=
  match i with
  | .registerWrite rq off size w => Sys2Proof.Machine.execRegisterWrite rq off size w s
  | .commit rq pg tag en => Sys2Proof.Machine.execCommit rq pg tag en s
  | .stagedSetApply pg => Sys2Proof.Machine.execStagedSetApply pg s
  | .enable rq pg tag en => Sys2Proof.Machine.execEnable rq pg tag en s
  | .abortRequest rq pg tag => Sys2Proof.Machine.execAbortRequest rq pg tag s
  | .abortDone pg => Sys2Proof.Machine.execAbortDone pg s
  | .abortClear rq pg tag => Sys2Proof.Machine.execAbortClear rq pg tag s
  | .pageCauseClear rq pg w => Sys2Proof.Machine.execPageCauseClear rq pg w s
  | .pageCauseSet rq pg w => Sys2Proof.Machine.execPageCauseSet rq pg w s
  | .alertRearm rq w => Sys2Proof.Machine.execAlertRearm rq w s
  | .alertMsixSend => Sys2Proof.Machine.execAlertMsixSend s
  | .msixUnmask fn vec mask => Sys2Proof.Machine.execMsixUnmask fn vec mask s
  | .peepTx rq c => Sys2Proof.Machine.execPeepTx rq c s
  | .tracePopHi rq => Sys2Proof.Machine.execTracePopHi rq s
  | .goldenPop rq => Sys2Proof.Machine.execGoldenPop rq s
  | .errPop rq => Sys2Proof.Machine.execErrPop rq s
  | .mbxResp rq n => Sys2Proof.Machine.execMbxResp rq n s
  | .debugPeek port => Sys2Proof.Machine.execDebugPeek port s
  | .tallyClear rq w => Sys2Proof.Machine.execTallyClear rq w s
  | .tallyEccError idx double => Sys2Proof.Machine.execTallyEccError idx double s
  | .tallyRecompute idx => Sys2Proof.Machine.execTallyRecompute idx s
  | .logFree rq log => Sys2Proof.Machine.execLogFree rq log s
  | .capture rq b => Sys2Proof.Machine.execCapture rq b s
  | .captureAll rq b => Sys2Proof.Machine.execCaptureAll rq b s
  | .captureComplete pb => Sys2Proof.Machine.execCaptureComplete pb s
  | .hingeWordSend bay ch word => Sys2Proof.Machine.execHingeWordSend bay ch word s
  | .hingeWordArrive bay ch => Sys2Proof.Machine.execHingeWordArrive bay ch s
  | .hingeCreditReturn bay ch => Sys2Proof.Machine.execHingeCreditReturn bay ch s
  | .stileWordSend bay ch word => Sys2Proof.Machine.execStileWordSend bay ch word s
  | .stileWordArrive bay ch => Sys2Proof.Machine.execStileWordArrive bay ch s
  | .sidebandChange bay k v => Sys2Proof.Machine.execSidebandChange bay k v s
  | .jambInput j v => Sys2Proof.Machine.execJambInput j v s
  | .bramRead pb m port acc other => Sys2Proof.Machine.execBramRead pb m port acc other s
  | .bramWrite pb m port acc other => Sys2Proof.Machine.execBramWrite pb m port acc other s
  | .bramWriteback pb m => Sys2Proof.Machine.execBramWriteback pb m s
  | .bramUpset pb m row bit => Sys2Proof.Machine.execBramUpset pb m row bit s
  | .opmodeHold pb sl x => Sys2Proof.Machine.execOpmodeHold pb sl x s
  | .opmodeLoad pb sl x => Sys2Proof.Machine.execOpmodeLoad pb sl x s
  | .opmodeAdd pb sl x => Sys2Proof.Machine.execOpmodeAdd pb sl x s
  | .opmodeSub pb sl x => Sys2Proof.Machine.execOpmodeSub pb sl x s
  | .opmodeCascAdd pb sl x => Sys2Proof.Machine.execOpmodeCascAdd pb sl x s
  | .opmodeCascSub pb sl x => Sys2Proof.Machine.execOpmodeCascSub pb sl x s
  | .opmodeClear pb sl x => Sys2Proof.Machine.execOpmodeClear pb sl x s
  | .opmodeCascLoad pb sl x => Sys2Proof.Machine.execOpmodeCascLoad pb sl x s
  | .clrOvf pb sl => Sys2Proof.Machine.execClrOvf pb sl s
  | .agLoad pb sl k v => Sys2Proof.Machine.execAgLoad pb sl k v s
  | .agStep pb sl k => Sys2Proof.Machine.execAgStep pb sl k s
  | .blockStart pb c alsoEnd clr => Sys2Proof.Machine.execBlockStart pb c alsoEnd clr s
  | .blockEnd pb c clr => Sys2Proof.Machine.execBlockEnd pb c clr s
  | .ecumClr pb c => Sys2Proof.Machine.execEcumClr pb c s
  | .refclkFail r => Sys2Proof.Machine.execRefclkFail r s
  | .refSwitchDone => Sys2Proof.Machine.execRefSwitchDone s
  | .refclkRecover r => Sys2Proof.Machine.execRefclkRecover r s
  | .prefer rq w => Sys2Proof.Machine.execPrefer rq w s
  | .srcSel rq w => Sys2Proof.Machine.execSrcSel rq w s
  | .trimGo rq => Sys2Proof.Machine.execTrimGo rq s
  | .trimPeriodic => Sys2Proof.Machine.execTrimPeriodic s
  | .trimDone code => Sys2Proof.Machine.execTrimDone code s
  | .sillClkFail => Sys2Proof.Machine.execSillClkFail s
  | .srcRunStart rq src => Sys2Proof.Machine.execSrcRunStart rq src s
  | .srcRunStop rq src => Sys2Proof.Machine.execSrcRunStop rq src s
  | .pllLock src => Sys2Proof.Machine.execPllLock src s
  | .twinSwitch src => Sys2Proof.Machine.execTwinSwitch src s
  | .twinPairFail src => Sys2Proof.Machine.execTwinPairFail src s
  | .linkPllFail e => Sys2Proof.Machine.execLinkPllFail e s
  | .pciePllFail => Sys2Proof.Machine.execPciePllFail s
  | .corePllFail => Sys2Proof.Machine.execCorePllFail s
  | .drowsyGate bay => Sys2Proof.Machine.execDrowsyGate bay s
  | .drowsyWake bay => Sys2Proof.Machine.execDrowsyWake bay s
  | .rd k => Sys2Proof.Machine.execRd k s
  | .wrNp k => Sys2Proof.Machine.execWrNp k s
  | .fadd64 k => Sys2Proof.Machine.execFadd64 k s
  | .swap64 k => Sys2Proof.Machine.execSwap64 k s
  | .cas64 k => Sys2Proof.Machine.execCas64 k s
  | .fadd128 k => Sys2Proof.Machine.execFadd128 k s
  | .swap128 k => Sys2Proof.Machine.execSwap128 k s
  | .cas128 k => Sys2Proof.Machine.execCas128 k s
  | .wrP k => Sys2Proof.Machine.execWrP k s
  | .msg k => Sys2Proof.Machine.execMsg k s
  | .mrd k => Sys2Proof.Machine.execMrd k s
  | .mwr k => Sys2Proof.Machine.execMwr k s
  | .rsp k => Sys2Proof.Machine.execRsp k s
  | .rspData k => Sys2Proof.Machine.execRspData k s
  | .verifyOk k => Sys2Proof.Machine.execVerifyOk k s
  | .verifyFail k => Sys2Proof.Machine.execVerifyFail k s
  | .initiatorTimeout n tag => Sys2Proof.Machine.execInitiatorTimeout n tag s
  | .tagQuarantineEnd n tag => Sys2Proof.Machine.execTagQuarantineEnd n tag s
  | .bayPortSend bay p => Sys2Proof.Machine.execBayPortSend bay p s
  | .bayPortIssue bay cls => Sys2Proof.Machine.execBayPortIssue bay cls s
  | .segmentFail at_ out => Sys2Proof.Machine.execSegmentFail at_ out s
  | .routerFail at_ => Sys2Proof.Machine.execRouterFail at_ s
  | .segmentBitError at_ out => Sys2Proof.Machine.execSegmentBitError at_ out s
  | .shutterClose rq sh => Sys2Proof.Machine.execShutterClose rq sh s
  | .shutterClosed sh => Sys2Proof.Machine.execShutterClosed sh s
  | .shutterDrainExpire sh => Sys2Proof.Machine.execShutterDrainExpire sh s
  | .shutterOpen rq sh => Sys2Proof.Machine.execShutterOpen rq sh s
  | .train l f => Sys2Proof.Machine.execTrain l f s
  | .trainEnd flit => Sys2Proof.Machine.execTrainEnd flit s
  | .dllLock l o => Sys2Proof.Machine.execDllLock l o s
  | .trainRestart l => Sys2Proof.Machine.execTrainRestart l s
  | .dataLaneFail l lane => Sys2Proof.Machine.execDataLaneFail l lane s
  | .marginWindow l lane count => Sys2Proof.Machine.execMarginWindow l lane count s
  | .spareLaneFail l wrong => Sys2Proof.Machine.execSpareLaneFail l wrong s
  | .clockLaneFail l => Sys2Proof.Machine.execClockLaneFail l s
  | .dswapMarker flit => Sys2Proof.Machine.execDswapMarker flit s
  | .dataGo rq l lane => Sys2Proof.Machine.execDataGo rq l lane s
  | .clkGo rq l => Sys2Proof.Machine.execClkGo rq l s
  | .sole l body => Sys2Proof.Machine.execSole l body s
  | .head l body => Sys2Proof.Machine.execHead l body s
  | .mid l body => Sys2Proof.Machine.execMid l body s
  | .tail l body => Sys2Proof.Machine.execTail l body s
  | .badFlit l => Sys2Proof.Machine.execBadFlit l s
  | .linkFlit l body => Sys2Proof.Machine.execLinkFlit l body s
  | .nak l body => Sys2Proof.Machine.execNak l body s
  | .replay l body => Sys2Proof.Machine.execReplay l body s
  | .enterIdle l body => Sys2Proof.Machine.execEnterIdle l body s
  | .sleepReq l body => Sys2Proof.Machine.execSleepReq l body s
  | .sleepAck l body => Sys2Proof.Machine.execSleepAck l body s
  | .sleepNak l body => Sys2Proof.Machine.execSleepNak l body s
  | .dswapReq l body => Sys2Proof.Machine.execDswapReq l body s
  | .cswapReq l body => Sys2Proof.Machine.execCswapReq l body s
  | .retrainReq l body => Sys2Proof.Machine.execRetrainReq l body s
  | .fault l body => Sys2Proof.Machine.execFault l body s
  | .hello l body => Sys2Proof.Machine.execHello l body s
  | .tagFlit l body => Sys2Proof.Machine.execTagFlit l body s
  | .replayTimeout l => Sys2Proof.Machine.execReplayTimeout l s
  | .nakRepeat l => Sys2Proof.Machine.execNakRepeat l s
  | .rxSilence l => Sys2Proof.Machine.execRxSilence l s
  | .dswapTimeout l => Sys2Proof.Machine.execDswapTimeout l s
  | .bringupLate l => Sys2Proof.Machine.execBringupLate l s
  | .bringupLimit l => Sys2Proof.Machine.execBringupLimit l s
  | .idleEnter l => Sys2Proof.Machine.execIdleEnter l s
  | .idleResume l => Sys2Proof.Machine.execIdleResume l s
  | .sleepRetry l => Sys2Proof.Machine.execSleepRetry l s
  | .linkWakeDetect l => Sys2Proof.Machine.execLinkWakeDetect l s
  | .creditStall l cls => Sys2Proof.Machine.execCreditStall l cls s
  | .linkEnable rq l tag => Sys2Proof.Machine.execLinkEnable rq l tag s
  | .linkDisable rq l tag => Sys2Proof.Machine.execLinkDisable rq l tag s
  | .pmCtrlSleep rq l => Sys2Proof.Machine.execPmCtrlSleep rq l s
  | .pmCtrlWake rq l => Sys2Proof.Machine.execPmCtrlWake rq l s
  | .pmCtrlRetrain rq l => Sys2Proof.Machine.execPmCtrlRetrain rq l s
  | .init rq n win => Sys2Proof.Machine.execInit rq n win s
  | .initDone n => Sys2Proof.Machine.execInitDone n s
  | .cacheFetchDone n => Sys2Proof.Machine.execCacheFetchDone n s
  | .tagCheckDone n => Sys2Proof.Machine.execTagCheckDone n s
  | .reencryptDone n page => Sys2Proof.Machine.execReencryptDone n page s
  | .partialWriteDone n => Sys2Proof.Machine.execPartialWriteDone n s
  | .quarRelease rq n idx poison => Sys2Proof.Machine.execQuarRelease rq n idx poison s
  | .roll rq n => Sys2Proof.Machine.execRoll rq n s
  | .rollDone n => Sys2Proof.Machine.execRollDone n s
  | .aesParityFail n => Sys2Proof.Machine.execAesParityFail n s
  | .takeoverDone n => Sys2Proof.Machine.execTakeoverDone n s
  | .spareSelfTest g pass => Sys2Proof.Machine.execSpareSelfTest g pass s
  | .loadGo rq => Sys2Proof.Machine.execLoadGo rq s
  | .startupGo rq => Sys2Proof.Machine.execStartupGo rq s
  | .sync => Sys2Proof.Machine.execSync s
  | .header => Sys2Proof.Machine.execHeader s
  | .broadcast => Sys2Proof.Machine.execBroadcast s
  | .keyWrap => Sys2Proof.Machine.execKeyWrap s
  | .segmentVerify => Sys2Proof.Machine.execSegmentVerify s
  | .window => Sys2Proof.Machine.execWindow s
  | .substrateTable => Sys2Proof.Machine.execSubstrateTable s
  | .frameAddr => Sys2Proof.Machine.execFrameAddr s
  | .frameData => Sys2Proof.Machine.execFrameData s
  | .frameRepeat => Sys2Proof.Machine.execFrameRepeat s
  | .keyRoll => Sys2Proof.Machine.execKeyRoll s
  | .crcCheck => Sys2Proof.Machine.execCrcCheck s
  | .startSeq => Sys2Proof.Machine.execStartSeq s
  | .readback => Sys2Proof.Machine.execReadback s
  | .pad => Sys2Proof.Machine.execPad s
  | .skippableRecord => Sys2Proof.Machine.execSkippableRecord s
  | .endRecord => Sys2Proof.Machine.execEndRecord s
  | .pushWrite off bytes => Sys2Proof.Machine.execPushWrite off bytes s
  | .pushTail rq w => Sys2Proof.Machine.execPushTail rq w s
  | .pullCompletion st bytes => Sys2Proof.Machine.execPullCompletion st bytes s
  | .fwdData w => Sys2Proof.Machine.execFwdData w s
  | .loadLate => Sys2Proof.Machine.execLoadLate s
  | .loadLimit => Sys2Proof.Machine.execLoadLimit s
  | .lock => Sys2Proof.Machine.execLock s
  | .lockFail => Sys2Proof.Machine.execLockFail s
  | .releaseGsr => Sys2Proof.Machine.execReleaseGsr s
  | .enableWrites => Sys2Proof.Machine.execEnableWrites s
  | .releaseOutputs => Sys2Proof.Machine.execReleaseOutputs s
  | .latch => Sys2Proof.Machine.execLatch s
  | .latchNHigh => Sys2Proof.Machine.execLatchNHigh s
  | .latchTimeout => Sys2Proof.Machine.execLatchTimeout s
  | .scrubFrame => Sys2Proof.Machine.execScrubFrame s
  | .passStart => Sys2Proof.Machine.execPassStart s
  | .voteFix copy => Sys2Proof.Machine.execVoteFix copy s
  | .voteLost => Sys2Proof.Machine.execVoteLost s
  | .inject rq w => Sys2Proof.Machine.execInject rq w s
  | .configUpset pb addr col bit => Sys2Proof.Machine.execConfigUpset pb addr col bit s
  | .submit rq n => Sys2Proof.Machine.execSubmit rq n s
  | .migrate n bay => Sys2Proof.Machine.execMigrate n bay s
  | .retire n => Sys2Proof.Machine.execRetire n s
  | .selfTest n => Sys2Proof.Machine.execSelfTest n s
  | .loadKey n => Sys2Proof.Machine.execLoadKey n s
  | .loadSubstrate n ends => Sys2Proof.Machine.execLoadSubstrate n ends s
  | .golden n ends => Sys2Proof.Machine.execGolden n ends s
  | .restore n pass => Sys2Proof.Machine.execRestore n pass s
  | .recordExport n ends => Sys2Proof.Machine.execRecordExport n ends s
  | .recordImport n bytes => Sys2Proof.Machine.execRecordImport n bytes s
  | .cloneDone row copied => Sys2Proof.Machine.execCloneDone row copied s
  | .mirrorPassEnd row left image => Sys2Proof.Machine.execMirrorPassEnd row left image s
  | .selfTestDone pb pass lf mf => Sys2Proof.Machine.execSelfTestDone pb pass lf mf s
  | .selfTestDue pb => Sys2Proof.Machine.execSelfTestDue pb s
  | .healthUpdate pb drift => Sys2Proof.Machine.execHealthUpdate pb drift s
  | .migrateRetry row => Sys2Proof.Machine.execMigrateRetry row s
  | .wardenResync core => Sys2Proof.Machine.execWardenResync core s
  | .wardenLost => Sys2Proof.Machine.execWardenLost s
  | .perstNAssert => Sys2Proof.Machine.execPerstNAssert s
  | .perstNDeassert => Sys2Proof.Machine.execPerstNDeassert s
  | .pcieConfigRequest fn q => Sys2Proof.Machine.execPcieConfigRequest fn q s
  | .hotReset down => Sys2Proof.Machine.execHotReset down s
  | .flrPf0 => Sys2Proof.Machine.execFlrPf0 s
  | .flrPf1 => Sys2Proof.Machine.execFlrPf1 s
  | .flrVf v => Sys2Proof.Machine.execFlrVf v s
  | .windowRead fn off len ht => Sys2Proof.Machine.execWindowRead fn off len ht s
  | .windowWrite fn off bytes be => Sys2Proof.Machine.execWindowWrite fn off bytes be s
  | .doorbell fn d off size w => Sys2Proof.Machine.execDoorbell fn d off size w s
  | .hostCompletion ht st bytes => Sys2Proof.Machine.execHostCompletion ht st bytes s
  | .dmaTail rq ch w => Sys2Proof.Machine.execDmaTail rq ch w s
  | .chStart rq ch => Sys2Proof.Machine.execChStart rq ch s
  | .chStop rq ch => Sys2Proof.Machine.execChStop rq ch s
  | .chAbort rq ch => Sys2Proof.Machine.execChAbort rq ch s
  | .descriptorDone ch => Sys2Proof.Machine.execDescriptorDone ch s
  | .insnAdd c rd ra rb => Sys2Proof.Machine.execInsnAdd c rd ra rb s
  | .insnSub c rd ra rb => Sys2Proof.Machine.execInsnSub c rd ra rb s
  | .insnAnd c rd ra rb => Sys2Proof.Machine.execInsnAnd c rd ra rb s
  | .insnOr c rd ra rb => Sys2Proof.Machine.execInsnOr c rd ra rb s
  | .insnXor c rd ra rb => Sys2Proof.Machine.execInsnXor c rd ra rb s
  | .insnSll c rd ra rb => Sys2Proof.Machine.execInsnSll c rd ra rb s
  | .insnSrl c rd ra rb => Sys2Proof.Machine.execInsnSrl c rd ra rb s
  | .insnSra c rd ra rb => Sys2Proof.Machine.execInsnSra c rd ra rb s
  | .insnSlt c rd ra rb => Sys2Proof.Machine.execInsnSlt c rd ra rb s
  | .insnSltu c rd ra rb => Sys2Proof.Machine.execInsnSltu c rd ra rb s
  | .insnMul c rd ra rb => Sys2Proof.Machine.execInsnMul c rd ra rb s
  | .insnMulh c rd ra rb => Sys2Proof.Machine.execInsnMulh c rd ra rb s
  | .insnMulhu c rd ra rb => Sys2Proof.Machine.execInsnMulhu c rd ra rb s
  | .insnDiv c rd ra rb => Sys2Proof.Machine.execInsnDiv c rd ra rb s
  | .insnDivu c rd ra rb => Sys2Proof.Machine.execInsnDivu c rd ra rb s
  | .insnAddi c rd ra imm => Sys2Proof.Machine.execInsnAddi c rd ra imm s
  | .insnAndi c rd ra imm => Sys2Proof.Machine.execInsnAndi c rd ra imm s
  | .insnOri c rd ra imm => Sys2Proof.Machine.execInsnOri c rd ra imm s
  | .insnXori c rd ra imm => Sys2Proof.Machine.execInsnXori c rd ra imm s
  | .insnSlli c rd ra imm => Sys2Proof.Machine.execInsnSlli c rd ra imm s
  | .insnSrli c rd ra imm => Sys2Proof.Machine.execInsnSrli c rd ra imm s
  | .insnSrai c rd ra imm => Sys2Proof.Machine.execInsnSrai c rd ra imm s
  | .insnSlti c rd ra imm => Sys2Proof.Machine.execInsnSlti c rd ra imm s
  | .insnSltiu c rd ra imm => Sys2Proof.Machine.execInsnSltiu c rd ra imm s
  | .insnLui c rd imm => Sys2Proof.Machine.execInsnLui c rd imm s
  | .insnLb c rd ra imm => Sys2Proof.Machine.execInsnLb c rd ra imm s
  | .insnLbu c rd ra imm => Sys2Proof.Machine.execInsnLbu c rd ra imm s
  | .insnLh c rd ra imm => Sys2Proof.Machine.execInsnLh c rd ra imm s
  | .insnLhu c rd ra imm => Sys2Proof.Machine.execInsnLhu c rd ra imm s
  | .insnLw c rd ra imm => Sys2Proof.Machine.execInsnLw c rd ra imm s
  | .insnSb c rd ra imm => Sys2Proof.Machine.execInsnSb c rd ra imm s
  | .insnSh c rd ra imm => Sys2Proof.Machine.execInsnSh c rd ra imm s
  | .insnSw c rd ra imm => Sys2Proof.Machine.execInsnSw c rd ra imm s
  | .insnBeq c ra rb off => Sys2Proof.Machine.execInsnBeq c ra rb off s
  | .insnBne c ra rb off => Sys2Proof.Machine.execInsnBne c ra rb off s
  | .insnBlt c ra rb off => Sys2Proof.Machine.execInsnBlt c ra rb off s
  | .insnBge c ra rb off => Sys2Proof.Machine.execInsnBge c ra rb off s
  | .insnBltu c ra rb off => Sys2Proof.Machine.execInsnBltu c ra rb off s
  | .insnBgeu c ra rb off => Sys2Proof.Machine.execInsnBgeu c ra rb off s
  | .insnJal c off => Sys2Proof.Machine.execInsnJal c off s
  | .insnJalr c rd ra imm => Sys2Proof.Machine.execInsnJalr c rd ra imm s
  | .insnLdx c rd ra => Sys2Proof.Machine.execInsnLdx c rd ra s
  | .insnStx c rd ra rb => Sys2Proof.Machine.execInsnStx c rd ra rb s
  | .insnMfadd c rd ra rb => Sys2Proof.Machine.execInsnMfadd c rd ra rb s
  | .insnMswap c rd ra rb => Sys2Proof.Machine.execInsnMswap c rd ra rb s
  | .insnMcas c rd ra rb => Sys2Proof.Machine.execInsnMcas c rd ra rb s
  | .insnMsg c rd ra rb => Sys2Proof.Machine.execInsnMsg c rd ra rb s
  | .insnMfence c => Sys2Proof.Machine.execInsnMfence c s
  | .insnMfc c r cr => Sys2Proof.Machine.execInsnMfc c r cr s
  | .insnMtc c r cr => Sys2Proof.Machine.execInsnMtc c r cr s
  | .insnTrap c code => Sys2Proof.Machine.execInsnTrap c code s
  | .insnRfe c => Sys2Proof.Machine.execInsnRfe c s
  | .insnWfi c => Sys2Proof.Machine.execInsnWfi c s
  | .insnTake c rd => Sys2Proof.Machine.execInsnTake c rd s
  | .insnYield c => Sys2Proof.Machine.execInsnYield c s
  | .insnSleep c ra => Sys2Proof.Machine.execInsnSleep c ra s
  | .interrupt c => Sys2Proof.Machine.execInterrupt c s
  | .timerMatch c => Sys2Proof.Machine.execTimerMatch c s
  | .wdExpire c => Sys2Proof.Machine.execWdExpire c s
  | .hold rq c => Sys2Proof.Machine.execHold rq c s
  | .holdRelease rq c => Sys2Proof.Machine.execHoldRelease rq c s
  | .tcmSweep mem word => Sys2Proof.Machine.execTcmSweep mem word s
  | .activate rq t => Sys2Proof.Machine.execActivate rq t s
  | .post rq t => Sys2Proof.Machine.execPost rq t s
  | .taskRetire rq t => Sys2Proof.Machine.execTaskRetire rq t s
  | .setPrio rq t prio => Sys2Proof.Machine.execSetPrio rq t prio s
  | .porterTick => Sys2Proof.Machine.execPorterTick s
  | .delayExpiry => Sys2Proof.Machine.execDelayExpiry s
  | .descBad t => Sys2Proof.Machine.execDescBad t s
  | .traceFlush rq w => Sys2Proof.Machine.execTraceFlush rq w s
  | .extest bits => Sys2Proof.Machine.execExtest bits s
  | .samplePreload bits => Sys2Proof.Machine.execSamplePreload bits s
  | .idcode => Sys2Proof.Machine.execIdcode s
  | .clamp => Sys2Proof.Machine.execClamp s
  | .highz => Sys2Proof.Machine.execHighz s
  | .dbgacc dr => Sys2Proof.Machine.execDbgacc dr s
  | .wrapAccess a => Sys2Proof.Machine.execWrapAccess a s
  | .bypass bit => Sys2Proof.Machine.execBypass bit s
  | .tapReset => Sys2Proof.Machine.execTapReset s
  | .claim p => Sys2Proof.Machine.execClaim p s
  | .release p => Sys2Proof.Machine.execRelease p s
  | .mapGo p write => Sys2Proof.Machine.execMapGo p write s
  | .memGo p write size => Sys2Proof.Machine.execMemGo p write size s
  | .haltReq p c => Sys2Proof.Machine.execHaltReq p c s
  | .resume p c => Sys2Proof.Machine.execResume p c s
  | .step p c => Sys2Proof.Machine.execStep p c s
  | .regData p c w => Sys2Proof.Machine.execRegData p c w s
  | .feed p c w => Sys2Proof.Machine.execFeed p c w s
  | .peepAck p c => Sys2Proof.Machine.execPeepAck p c s
  | .peepRx rq c w => Sys2Proof.Machine.execPeepRx rq c w s
  | .traceEnable p c w => Sys2Proof.Machine.execTraceEnable p c w s
  | .compMatch c k acc => Sys2Proof.Machine.execCompMatch c k acc s
  | .modeReqDormant rq => Sys2Proof.Machine.execModeReqDormant rq s
  | .modeReqDoorway rq => Sys2Proof.Machine.execModeReqDoorway rq s
  | .modeReqService rq => Sys2Proof.Machine.execModeReqService rq s
  | .modeReqDrowse rq => Sys2Proof.Machine.execModeReqDrowse rq s
  | .modeReqQuiesced rq => Sys2Proof.Machine.execModeReqQuiesced rq s
  | .modeReqLoad rq => Sys2Proof.Machine.execModeReqLoad rq s
  | .quiesceLimit => Sys2Proof.Machine.execQuiesceLimit s
  | .pcieL12Entry down => Sys2Proof.Machine.execPcieL12Entry down s
  | .pcieL12Exit => Sys2Proof.Machine.execPcieL12Exit s
  | .wakeN => Sys2Proof.Machine.execWakeN s
  | .sillTimer => Sys2Proof.Machine.execSillTimer s
  | .thermRead temps => Sys2Proof.Machine.execThermRead temps s
  | .tempMaxClear rq => Sys2Proof.Machine.execTempMaxClear rq s
  | .sillPowerOn => Sys2Proof.Machine.execSillPowerOn s
  | .vbatLow => Sys2Proof.Machine.execVbatLow s
  | .supplyLoss => Sys2Proof.Machine.execSupplyLoss s
  | .flashResponse a => Sys2Proof.Machine.execFlashResponse a s
  | .pcieCompletionTimeout ht => Sys2Proof.Machine.execPcieCompletionTimeout ht s
  | .pcieLinkUp rate width flit => Sys2Proof.Machine.execPcieLinkUp rate width flit s
  | .stileCreditReturn bay ch => Sys2Proof.Machine.execStileCreditReturn bay ch s
  | .referenceJudgedGood r => Sys2Proof.Machine.execReferenceJudgedGood r s
  | .tcmUpset mem word bit => Sys2Proof.Machine.execTcmUpset mem word bit s
  | .flitSlot l => Sys2Proof.Machine.execFlitSlot l s
  | .resumeTrainTimeout l => Sys2Proof.Machine.execResumeTrainTimeout l s
  | .engineSelfTestDone n pass => Sys2Proof.Machine.execEngineSelfTestDone n pass s

end Sys2Proof.Machine
end

