-- ==== Sys2Proof/Machine/Step.lean ====
section
/-! DEFINITION. A step: the command at the front of the queue runs with the rest of the queue behind it. -/

namespace Sys2Proof.Machine

open Sys2Proof

/-- What happens while no command waits: an edge of the fabric's clocks (R51), holds of cuts end (R361), and packets move
through the mesh (R187). -/
def tick (d : Device) : Device := (fabricTick d).holdsEnd.meshRun

/-- One step; on an empty queue time passes in the fabric (DESIGN CHOICE, entries 1 and 80). -/
def step (s : State) : Host.Outcome State Fault Refusal :=
  match s.pending with
  | [] => run tick s
  | i :: rest => exec i { s with pending := rest }

/-- The state with the command that a word spells in front of its queue; where the word spells none, the state itself. -/
def State.withFetchWord (s : State) (nbits w : Nat) : State :=
  match decodeTableWord nbits w with
  | some i => { s with pending := i :: s.pending }
  | none => s

end Sys2Proof.Machine
end

