-- ==== Sys2Proof/WellFormed.lean ====
section
/-! DEFINITION. Well-formed commands: operands that the command's own row can carry. The machine is total and gives a command
outside these bounds what its rules say of it; statements that need a bound name it. -/

namespace Sys2Proof

/-- A CTRL flit body of the type a row names: CTYPE in bits 3:0 (R233). -/
def ctrlOfType (t : Nat) (b : BitVec 512) : Bool := (b.extractLsb' 0 4).toNat == t

/-- A LINK flit body whose PM field, bits 91:88, has a value (R236, R252). -/
def linkWithPm (v : Nat) (b : BitVec 512) : Bool := ctrlOfType 1 b && (b.extractLsb' 88 4).toNat == v

/-- The sizes of an access that the management space may be sent (R20). -/
def accessSize (n : Nat) : Bool := [1, 2, 4, 8, 16, 32, 64].contains n

/-- Whether a command's operands are such as its row can carry. -/
def Instr.wellFormed : Instr → Bool
  | .registerWrite _ _ size _ => accessSize size
  -- a write has an enabled byte (R89)
  | .bramWrite _ _ _ acc _ => acc.we != 0
  -- the flits named for what a LINK flit carries (R236, R246, R250, R252, R256)
  | .nak _ b => ctrlOfType 1 b && b.getLsbD 20
  | .replay _ b => ctrlOfType 1 b && b.getLsbD 21
  | .enterIdle _ b => linkWithPm 1 b
  | .sleepReq _ b => linkWithPm 2 b
  | .sleepAck _ b => linkWithPm 3 b
  | .sleepNak _ b => linkWithPm 4 b
  | .dswapReq _ b => ctrlOfType 1 b && b.getLsbD 96
  | .cswapReq _ b => ctrlOfType 1 b && b.getLsbD 100
  | .retrainReq _ b => ctrlOfType 1 b && b.getLsbD 101
  | .fault _ b => ctrlOfType 1 b && b.getLsbD 102
  | .hello _ b => ctrlOfType 2 b
  | .tagFlit _ b => ctrlOfType 4 b
  -- host writes carry one enable per byte
  | .windowWrite _ _ bytes be => bytes.length == be.length && !bytes.isEmpty
  | .windowRead _ _ len _ => decide (0 < len)
  | .doorbell _ _ _ size _ => accessSize size
  | .pushWrite _ bytes => !bytes.isEmpty
  -- 16 sensors of a bay, 16 of the device (R353, R485)
  | .healthUpdate _ drift => drift.length == 16
  | .thermRead temps => temps.length == 16
  -- positions of a column chain: 0 to 32 (R56)
  | .selfTestDone _ _ lf mf => lf.all (fun p => decide (p ≤ 32)) && mf.all (fun p => decide (p ≤ 32))
  -- rows of a bay's block memories
  | .cloneDone _ copied => copied.1.all fun r => decide (r < 65536)
  | .mirrorPassEnd _ left _ => left.all fun r => decide (r < 65536)
  | .extest b => b.captured.length == b.shifted.length
  | .samplePreload b => b.captured.length == b.shifted.length
  -- every other command is well formed whatever its operands
  | _ => true

/-- Every waiting command is well formed. -/
def Instr.allWellFormed (q : List Instr) : Bool := q.all Instr.wellFormed

end Sys2Proof
end

