-- ==== Sys2Proof/Safety.lean ====
section
/-! DEFINITION. What a claim may ask of a run: the canonical form of the addressed memories, a device with nothing left over
between commands, and a step after which the device's behaviour is still defined. -/

namespace Sys2Proof.Machine

open Sys2Proof

/-! ### Addressed memories -/

/-- A memory is in its canonical form: keys strictly rising, no entry equal to what an unlisted key reads as. -/
abbrev Memory.wf {α : Type} [DecidableEq α] (dflt : Nat → α) (m : Sparse α) : Prop := swf dflt m = true

/-- Every addressed memory of the device is in its canonical form: block memories (R83), configuration memory (R285), tightly
coupled memories (R404), porter RAM (R420), the push window (R310). -/
abbrev Device.memoriesWf (d : Device) : Prop :=
  Memory.wf rowDflt d.bram ∧ Memory.wf cfgDflt d.cfgMem ∧ Memory.wf tcmDflt d.tcm ∧
    Memory.wf ramDflt d.porterRam ∧ Memory.wf (fun _ => 0) d.pushWindow

/-! ### What a command leads to -/

/-- The state in which a command has done `d` to the device, and the rest of the device has followed. -/
def State.after (s : State) (d : Device) : State := { s with dev := settle s.dev d }

/-- A write to a page by a requester other than a BAR2 is answered and allowed (R24, R27). -/
def Device.reaches (d : Device) (rq : Requester) (pg : PageRef) : Prop :=
  (∀ b, rq ≠ .bar2 b) ∧ d.answers rq pg = true ∧ mayWrite rq pg = true

/-- A hold stands in the row of the bay that an alias page names: a write to it waits for the cut (R18, R25). -/
def Device.aliasHeld (d : Device) : PageRef → Bool
  | .bay n => ((d.mig ((d.bayPhys (.bay n)).val / 14)).bind MigSt.holding).isSome
  | _ => false

/-- A write to a block register of page `pg` reaches the registers of page `b` at once (R24, R25, R27); the DBG page has its own
rules. -/
def Device.takes (d : Device) (rq : Requester) (pg b : PageRef) : Prop :=
  d.reaches rq pg ∧ pg ≠ .dbg ∧ d.domainOff pg = false ∧ d.blockPage pg = some b ∧ d.aliasHeld pg = false

/-- The epoch tag of a write is the page's (R35). -/
def Device.epochIs (d : Device) (pg : PageRef) (tag : Byte) : Prop := tag.toNat = bitsOf (d.word (pageBase pg + 0x020)) 0 8

/-- The page that a row closes or opens a shutter through. -/
def shutterPage : ShutterRef → PageRef
  | .bay b => bayPageRef b | .txl l => .txl l | .cur n => .cur n | .hdma => .hdma

/-- Packet `k` in flight, of opcode `op`, is handed out by its port as `f`, at once or after the mesh has run for a while, and leaves
`e` (R171, R181, R193). -/
def Device.handsOut (d : Device) (op k : Nat) (f : Flight) (e : Device) : Prop :=
  d.meshRuns = true ∧ f.pkt.op.toNat = op ∧ ∃ g, d.mesh[k]? = some g ∧ g.pkt.op.toNat = op ∧
    ((d.delivers g = true ∧ f = g ∧ e = d.leaves g) ∨
      (d.delivers g = false ∧ (d.meshRun.mesh.find? fun h => h.id == g.id) = some f ∧ d.meshRun.delivers f = true ∧
        e = d.meshRun.leaves f))

/-- The device as a CLOSE of a shutter finds it: one of a bay's waits for the end of a hold of its row (R199). -/
def Device.closeWaits (d : Device) : ShutterRef → Device
  | .bay b => d.holdOver (.pbay (d.bayPhys b))
  | _ => d

/-- A debug port may write the DBG page: nobody else owns it, and the window is open (R437, R439). -/
def Device.debugs (d : Device) (p : DbgPort) : Prop :=
  (d.rd .dbg fDbgOwner = 0 ∨ d.rd .dbg fDbgOwner = portCode p) ∧ (p = .window → d.answers .debugWindow .dbg = true)

/-- The device as an instruction of core `c` finds it: cycles have passed (R399). -/
def Device.atInsn (d : Device) (c : Fin 2) : Device :=
  let d := d.coreCycles c
  d.setCore c { d.core c with quiet := false, acted := [] }

/-- Core `c` runs with nothing that debugs it acting: no comparator is enabled (R444) and no STEP is under way (R443). -/
def Device.unwatched (d : Device) (c : Fin 2) : Prop :=
  (d.core c).mode = .running ∧ (d.core c).stepping = false ∧ ∀ i : Nat, i < 8 → d.dbgFlag c fDbgcCompCtrlEn i = false

/-- Core `c` executes the instruction at its PC, whose word is fetched without an exception (R403, R404); `e` is the device after
the fetch. -/
def Device.ready (d : Device) (c : Fin 2) (e : Device) : Prop :=
  d.unwatched c ∧ d.coreClock = true ∧ (d.atInsn c).fetchExc c = (none, e) ∧ e.unwatched c

/-! ### Between commands -/

/-- Nothing is left for the rest of the device to do once a command has made `before` into `d`: no signal stands, no migration
waits, no mode changes or is being changed, no link or bay drowses, no core has become sealed, the repair record is as it was, the
porter has seen the causes that stand, its slots hold the tasks it would choose, and the alert line has not risen. -/
abbrev Device.calm (before d : Device) : Prop :=
  d.signals = [] ∧ d.migs = [] ∧ d.mode = before.mode ∧ d.modeStep = none ∧ d.drowsedLinks = [] ∧ d.drowsed = [] ∧
  (∀ c : Fin 2, d.coreSealed c = true → before.coreSealed c = true) ∧ d.record = before.record ∧ d.summary = d.porter.groups ∧
  (∀ c : Nat, c < 2 → d.slot c = if d.slotShut c || !d.dispatching then none else d.choice c) ∧
  (d.alertHolds = true → before.alertHolds = true)

/-- Nothing that a command set off is left to be taken. -/
abbrev State.settled (s : State) : Prop := s.dev.signals = []

/-- The waiting commands are well formed and nothing is left over. -/
abbrev State.Inv (s : State) : Prop := Instr.allWellFormed s.pending = true ∧ s.settled

/-- The commands that can lead to behaviour that the manual calls undefined: those that write registers with values of the
sender's choice, put settings into force, start clocks or close the steps that do (R6, R127, R145). -/
def mayLose : Instr → Bool
  | .registerWrite .. => true | .commit .. => true | .enable .. => true | .stagedSetApply .. => true | .abortRequest .. => true
  | .endRecord => true | .releaseOutputs => true | .loadGo .. => true | .startupGo .. => true | .srcRunStart .. => true
  | .modeReqService .. => true | .modeReqLoad .. => true | .referenceJudgedGood .. => true | .insnSb .. => true
  | .insnSh .. => true | .insnSw .. => true | .mwr .. => true | .shutterOpen .. => true | .traceFlush .. => true
  | .inject .. => true | .dbgacc .. => true | .mapGo .. => true | .step .. => true | .feed .. => true
  | _ => false

/-- A step is safe when no behaviour becomes undefined in it (R7). -/
def State.safe (s : State) : Prop := ∀ t : State, step s = .next t → t.dev.lost = true → s.dev.lost = true

end Sys2Proof.Machine
end

