-- ==== Sys2Proof/Certificates/Slice0/Obligations.lean ====
section
/-! DEFINITION. What is claimed of the model: one statement for each group of commands, saying what exec answers and when, and
statements about the whole machine. A state after a command is `s.after d`: the command has done `d`, and the rest of the device
has followed. The numbers in brackets are the rules of the manual. -/

open Sys2Proof Sys2Proof.Machine

/-- A step of a state whose queue begins with a command is exec of that command on the state with the rest of the queue; a step
of a state with an empty queue lets time pass in the fabric (the flip-flops and memories of its cells take their edge, a page
hold ends, packets in the mesh move on), and what a step with nothing to do is, is the model’s choice (log entries 1 and 80).
(95_what_each_step_holds.md, log entry 1, log entry 80) -/
def Obligations.StepTakesTheFrontCommand : Prop :=
  ∀ s : State,
    (∀ i rest, s.pending = i :: rest → step s = exec i { s with pending := rest }) ∧
    (s.pending = [] → step s = .next (s.after ((fabricTick s.dev).holdsEnd.meshRun)))

/-- For every command there is what it does to the device, such that in every state exec answers a next state, which has the
queue that exec was given, and with another queue exec does the same to the device. The next state is the one where the command
has done it and the rest of the device has followed; only where mayLose lists the command and what it does is what the manual
leaves undefined (undefinedBy) is it the lost device instead. (95_what_each_step_holds.md, R6, R7, log entry 1) -/
def Obligations.CommandsLeaveTheQueueAlone : Prop :=
  ∀ i : Instr, ∃ body : Device → Device, ∀ s : State,
    (∃ t, exec i s = .next t ∧ t.pending = s.pending ∧ ∀ q, exec i { s with pending := q } = .next { t with pending := q }) ∧
    (mayLose i = false ∨ undefinedBy s.dev (body s.dev) = none → exec i s = .next (s.after (body s.dev))) ∧
    (exec i s = .next (s.after (body s.dev)) ∨
      mayLose i = true ∧ undefinedBy s.dev (body s.dev) ≠ none ∧ exec i s = .next { s with dev := (body s.dev).lose })

/-- In every state whose behaviour is undefined (lost), the assertion of PERST_N leads to a next state that is not lost, in
DORMANT with PERST_N asserted, with the same queue. (R7, R16, R453) -/
def Obligations.DeviceResetReturnsToDefinedBehaviour : Prop :=
  ∀ s : State, s.dev.lost = true →
    ∃ t, exec .perstNAssert s = .next t ∧ t.pending = s.pending ∧ t.dev.lost = false ∧ t.dev.mode = mDormant ∧ t.dev.perst = true
structure Dorm (d : Device) : Prop where
  signals : d.signals = []
  migs : d.migs = []
  modeStep : d.modeStep = none
  links : d.drowsedLinks = []
  bays : d.drowsed = []
  lost : d.lost = false
  perst : d.perst = true
abbrev modeKey : Nat := fldKey .sill fSillDeviceModeMode 0

/-- For every two states: if the invariant holds of the first (its waiting commands are well formed, and no signal of an earlier
command is left to be taken) and a step leads to the second, the invariant holds of the second. (95_what_each_step_holds.md,
R148, R460, log entry 1) -/
def Obligations.EveryStepKeepsTheInvariant : Prop :=  ∀ s t : State, s.Inv → step s = .next t → t.Inv

/-- At reset no command waits, the device is in DORMANT with PERST_N asserted, every addressed memory has its canonical form,
the invariant of EveryStepKeepsTheInvariant holds, no alert holds, every link is DISABLED, no bay runs, no page answers a
requester other than the debug port, the core clock is off and w0 of a core reads 0. (R27, R245, R453, R471, R399, log entry 1)
-/
def Obligations.ResetLeavesADormantDevice : Prop :=
  State.reset.pending = [] ∧ State.reset.dev.mode = mDormant ∧ State.reset.dev.perst = true ∧ State.reset.dev.memoriesWf ∧
    State.reset.Inv ∧ State.reset.dev.alertHolds = false ∧ (∀ l : Fin 144, State.reset.dev.linkState l = linkDisabled) ∧
    (∀ pb : Fin 112, State.reset.dev.bayLive pb = false) ∧ (∀ rq pg, rq ≠ .debugPort → State.reset.dev.answers rq pg = false) ∧
    (∀ c : Fin 2, State.reset.dev.coreClock = false ∧ (State.reset.dev.core c).reg 0 = 0)

/-- If nothing is left for the rest of the device to do after a command has made one device into another (calm), what follows
the command leaves that device as it is. With it a statement of the form exec i s = next (s.after d) says that the next state’s
device is d itself. (R41, R42, R148, R351, R352, R431, R448, R453, R458, R460) -/
def Obligations.NothingFollowsInACalmDevice : Prop :=  ∀ before d : Device, before.calm d → settle before d = d

/-- A write that is not 4 bytes at a multiple of 4, and one by a requester that may not write the page, change no register and
are told their requester (accessRefused). A write of a header register of an answered page is the write of that register. A
write of a block register of an answered page whose domain is on, by a requester that may write it, is the write of that
register of the page that holds it, after the hold of an aliased page has ended. Each unless that leads to undefined behaviour.
(R3, R20, R24, R25, R27, R22) -/
def Obligations.RegisterWriteReachesItsRegister : Prop :=
  ∀ (s : State) (rq : Requester) (off : BitVec 26) (size : Nat) (w : Word),
    (size ≠ 4 ∨ off.toNat % 4 ≠ 0 → ∀ e, e = s.dev.accessRefused rq off.toNat → undefinedBy s.dev e = none →
      exec (.registerWrite rq off size w) s = .next (s.after e)) ∧
    (∀ pg o, off.toNat = pageBase pg + o → o % 4 = 0 → o < 0x1000 → pg ≠ .dbg → (∀ b, rq ≠ .bar2 b) → s.dev.answers rq pg = true →
      (mayWrite rq pg = false → ∀ e, e = s.dev.accessRefused rq off.toNat → undefinedBy s.dev e = none →
        exec (.registerWrite rq off 4 w) s = .next (s.after e)) ∧
      (mayWrite rq pg = true → o < 0x40 → undefinedBy s.dev (s.dev.headerWrite pg o w) = none →
        exec (.registerWrite rq off 4 w) s = .next (s.after (s.dev.headerWrite pg o w))) ∧
      (∀ b d, mayWrite rq pg = true → 0x40 ≤ o → s.dev.domainOff pg = false → d = s.dev.aliasWaits pg → d.blockPage pg = some b →
        undefinedBy s.dev (d.blockWrite b o w) = none →
        exec (.registerWrite rq off 4 w) s = .next (s.after (d.blockWrite b o w)) ∧ (s.dev.aliasHeld pg = false → d = s.dev)))

/-- A COMMIT of the page’s epoch with no commit under way copies the staged set when nothing refuses it and reports the refusal
otherwise, and ENABLE takes the value written; a copied set that is applied takes effect and clears COMMIT_BUSY, and
STAGED_PENDING unless something was staged since. A write of PAGE_CTRL with the page’s epoch sets ENABLE as written on a page
without an action of its own; an abort request with the page’s epoch becomes pending where something runs and is done at once
where nothing does (DONE_PRIOR); ABORT_DONE stops the activity and says whether it was complete; CLEAR ends an abort. (R30, R31,
R32, R35, R48, R49) -/
def Obligations.CommitsEnablesAndAborts : Prop :=
  (∀ (s : State) (rq : Requester) (pg : PageRef) (tag : Byte) (en : Bool), s.dev.reaches rq pg → s.dev.epochIs pg tag →
    s.dev.flag pg hdrCommitBusy = false → (∀ l, pg ≠ .txl l) → pg ≠ .scrub → pg ≠ .porter →
    (en = false ∨ s.dev.flag pg hdrEnable = true) →
    (s.dev.commitRefuses pg = [] →
      ∀ e, e = (s.dev.commitTaken pg).put pg hdrEnable (bit en) →
      undefinedBy s.dev e = none → exec (.commit rq pg tag en) s = .next (s.after e)) ∧
    (s.dev.commitRefuses pg ≠ [] →
      ∀ e, e = (s.dev.commitDenied pg (s.dev.commitRefuses pg)).put pg hdrEnable (bit en) →
      undefinedBy s.dev e = none → exec (.commit rq pg tag en) s = .next (s.after e))) ∧
  (∀ (s : State) (pg : PageRef), s.dev.flag pg hdrCommitBusy = true →
    let d := (s.dev.applyCopied pg).lower pg hdrCommitBusy
    let e := if sget (fun _ => false) d.restaged (pageOrdinal pg) then d else d.lower pg hdrStagedPending
    ∀ e', e' = (if pg = .mesh then e.meshRelease else e) →
    undefinedBy s.dev e' = none → exec (.stagedSetApply pg) s = .next (s.after e')) ∧
  (∀ (s : State) (rq : Requester) (pg : PageRef) (tag : Byte), s.dev.reaches rq pg → s.dev.epochIs pg tag →
    (∀ en, (∀ l, pg ≠ .txl l) → pg ≠ .scrub → pg ≠ .porter →
      ∀ e, e = s.dev.put pg hdrEnable (bit en) →
      undefinedBy s.dev e = none → exec (.enable rq pg tag en) s = .next (s.after e)) ∧
    (hasAbort pg = true → s.dev.rd pg hdrAbortState = 0 → s.dev.flag pg hdrCommitBusy = false → s.dev.abortActive pg = true →
      ∀ e, e = (s.dev.put pg hdrAbortState 1).abortBegin pg →
      undefinedBy s.dev e = none → exec (.abortRequest rq pg tag) s = .next (s.after e)) ∧
    (hasAbort pg = true → s.dev.rd pg hdrAbortState = 0 → s.dev.flag pg hdrCommitBusy = false → s.dev.abortActive pg = false →
      ∀ e, e = (s.dev.put pg hdrAbortState 2).raise pg hdrAbortDone →
      undefinedBy s.dev e = none → exec (.abortRequest rq pg tag) s = .next (s.after e)) ∧
    (hasAbort pg = true → s.dev.rd pg hdrAbortState = 1 →
      exec (.abortDone pg) s = .next (s.after (((s.dev.abortStop pg).1.put pg hdrAbortState
        (if (s.dev.abortStop pg).2 then 3 else 2)).raise pg hdrAbortDone))) ∧
    (hasAbort pg = true → 2 ≤ s.dev.rd pg hdrAbortState → pg ≠ .scrub → (∀ c, pg ≠ .tcore c) →
      exec (.abortClear rq pg tag) s = .next (s.after (s.dev.put pg hdrAbortState 0))))

/-- PAGE_CAUSE clears exactly the bits written 1 and PAGE_CAUSE_SET sets them but for bits 27:24; the tally commands clear a
subtree, count an error of a counter’s check bits and recompute a total; a log that is freed is empty. ALERT_REARM raises the
MSI-X message of PF0 where the alert condition holds and does nothing otherwise; messages that waited for the link go out in
order; a vector’s mask bit takes the value written, and pending messages of the function that are no longer masked go out, where
the function is PF0 or owns the vector; where another function owns it, the write changes nothing, OWNER_VIOLATION is set and
owner violations are counted. (R29, R45, R46, R47, R40, R175, R42, R43) -/
def Obligations.CausesTalliesLogsAndMessages : Prop :=
  (∀ (s : State) (rq : Requester) (pg : PageRef) (w : Word), s.dev.reaches rq pg →
    let old := s.dev.word (pageBase pg + 0x014)
    exec (.pageCauseClear rq pg w) s = .next (s.after (s.dev.setWord (pageBase pg + 0x014) (old &&& ~~~w))) ∧
    exec (.pageCauseSet rq pg w) s = .next (s.after (s.dev.setWord (pageBase pg + 0x014) (old ||| (w &&& 0xF0FFFFFF))))) ∧
  ((∀ (s : State) (rq : Requester) (w : Word), s.dev.takes rq .tally .tally →
    exec (.tallyClear rq w) s = .next (s.after (s.dev.tallyClear (bitsOf w 0 13) (w.getLsbD 31)))) ∧
  (∀ (s : State) (idx : BitVec 13), (s.dev.tallyEntry idx.toNat).valid = true ∨ (s.dev.tallyEntry idx.toNat).leaf = true →
    exec (.tallyEccError idx false) s = .next (s.after (s.dev.raise .tally cTallyTallyFixed)) ∧
    ((s.dev.tallyEntry idx.toNat).leaf = true → exec (.tallyEccError idx true) s =
      .next (s.after ({ s.dev with tally := sset tallyDflt s.dev.tally (idx.toNat - 1024) none }.raise .tally cTallyTallyLost))) ∧
    ((s.dev.tallyEntry idx.toNat).leaf = false → s.dev.tallyBroken.contains idx.toNat = false →
      exec (.tallyEccError idx true) s = .next (s.after { s.dev with tallyBroken := s.dev.tallyBroken ++ [idx.toNat] }))) ∧
  (∀ (s : State) (idx : BitVec 13), s.dev.tallyBroken.contains idx.toNat = true →
    exec (.tallyRecompute idx) s =
      .next (s.after ({ s.dev with tallyBroken := s.dev.tallyBroken.erase idx.toNat }.raise .tally cTallyTallyFixed)))) ∧
  (∀ (s : State) (rq : Requester) (log : LogRef) (b : PageRef), s.dev.takes rq (logBit log).1 b →
    exec (.logFree rq log) s = .next (s.after (s.dev.lower b (logBit log).2))) ∧
  ((∀ (s : State) (rq : Requester) (w : Word), s.dev.takes rq .sill .sill →
    exec (.alertRearm rq w) s =
      .next (s.after (if w.getLsbD 0 = true ∧ s.dev.alertHolds = true then s.dev.raiseMsix .pf0 0 else s.dev))) ∧
  (∀ (s : State), s.dev.msixWait ≠ [] →
    exec .alertMsixSend s = .next (s.after (s.dev.msixWait.foldl (fun (d : Device) (m : PcieFn × Nat) => d.emit (.msix m.1 m.2))
      { s.dev.put .pcie fPcieLinkStatusPm 0 with msixWait := [] }))) ∧
  (∀ (s : State) (fn : PcieFn) (vec : Fin 64) (mask : Bool), s.dev.fnReady fn = true → (fn = .pf0 → vec.val = 0) →
    (fn = .pf0 ∨ ownerCode fn = some (s.dev.vectorOwner vec.val) → exec (.msixUnmask fn vec mask) s =
      .next (s.after ({ s.dev with msixMask := sset (fun _ => true) s.dev.msixMask (msixKey fn vec.val) mask }.flushPending fn))) ∧
    (fn ≠ .pf0 ∧ ownerCode fn ≠ some (s.dev.vectorOwner vec.val) → exec (.msixUnmask fn vec mask) s =
      .next (s.after ((s.dev.raise .pcie cPcieOwnerViolation).count .pcie 2)))))

/-- A read of each of the five pop ports by a requester that is no debugger returns the register’s word and removes the oldest
entry, and a debugger’s read returns the word and removes nothing. (R37, R38, R39, R449, R429, R346, R345, R393, R369) -/
def Obligations.PopPortsPopOnceRead : Prop :=
  ∀ (s : State) (rq : Requester) (port : PopPort), (∀ b, rq ≠ .bar2 b) → debugRead rq = false →
    s.dev.answers rq (popOffset port).1 = true → s.dev.domainOff (popOffset port).1 = false →
    ∀ e, e = (({ s.dev with free := s.dev.free + 1 }.pop port).emit
        (.readData (pageBase (popOffset port).1 + (popOffset port).2) (s.dev.pageRead (popOffset port).1 (popOffset port).2))) →
    (∀ c, port = .peepTx c → exec (.peepTx rq c) s = .next (s.after e)) ∧
    (port = .traceHi → exec (.tracePopHi rq) s = .next (s.after e)) ∧
    (port = .golden → exec (.goldenPop rq) s = .next (s.after e)) ∧
    (port = .err → exec (.errPop rq) s = .next (s.after e)) ∧
    (∀ n, port = .mbx n → exec (.mbxResp rq n) s = .next (s.after e)) ∧
    (s.dev.answers .debugPort (popOffset port).1 = true →
      exec (.debugPeek port) s = .next (s.after ({ s.dev with free := s.dev.free + 1 }.emit
        (.readData (pageBase (popOffset port).1 + (popOffset port).2) (s.dev.pageRead (popOffset port).1 (popOffset port).2)))))

/-- For every value y and position k: with k = 0 every mode gives y; TRUNC gives y − (y mod 2^k); HALF_UP gives v − (v mod 2^k)
with v = y + 2^(k−1); CONVERGENT gives the same as HALF_UP unless y mod 2^k is 2^(k−1), and then the neighbouring multiple of
2^k whose bit k is 0; bits k − 1:0 of the result are 0; with RND_POS = 16, SAT_MODE = 32, OSHIFT = 16 and OUT_W = 16 a saturated
result reads 0x7FFF or 0x8000. For every width W and W-bit value v: the redundant-sign count is n exactly if n is below W, the n
bits below bit W − 1 equal it and the next one does not or there is none; 0 and −1 have the count W − 1. (R116, R114) -/
def Obligations.RoundingModes : Prop :=
  (∀ (y : Int) (k : Nat),
    (∀ m, roundTo m 0 y = y) ∧
    (0 < k →
      roundTo .trunc k y = y - y % 2 ^ k ∧
      roundTo .halfUp k y = (y + 2 ^ (k - 1)) - (y + 2 ^ (k - 1)) % 2 ^ k ∧
      (y % 2 ^ k ≠ 2 ^ (k - 1) → roundTo .convergent k y = roundTo .halfUp k y) ∧
      (y % 2 ^ k = 2 ^ (k - 1) → (roundTo .convergent k y = y - 2 ^ (k - 1) ∨ roundTo .convergent k y = y + 2 ^ (k - 1)) ∧
        (roundTo .convergent k y / 2 ^ k) % 2 = 0)) ∧
    (∀ m, roundTo m k y % 2 ^ k = 0) ∧
    (∀ (c : SliceCfg) (bexp : Nat) (expIn : BitVec 6) (acc : BitVec 40), c.norm = .off → c.rndPos = 16 → c.sat = .s32 →
      c.oshift = 16 → c.outW = 16 →
      (2 ^ 31 ≤ roundTo c.rnd 16 acc.toInt → (outputPath c bexp expIn acc).1 = 0x7FFF) ∧
      (roundTo c.rnd 16 acc.toInt < - 2 ^ 31 → (outputPath c bexp expIn acc).1 = 0x8000))) ∧
  (∀ (w v n : Nat), 0 < w → v < 2 ^ w →
    (redundantSigns w v = n ↔ n < w ∧ (∀ i, i < n → v.testBit (w - 2 - i) = v.testBit (w - 1)) ∧
      (n = w - 1 ∨ v.testBit (w - 2 - n) ≠ v.testBit (w - 1))) ∧
    (v = 0 ∨ v = 2 ^ w - 1 → redundantSigns w v = w - 1))

/-- At reset logical bay 13 × r + k occupies physical bay 14 × r + k and physical bay 14 × r + 13 is the spare of row r. In
every state a logical bay occupies a physical bay of its row, and a physical bay carries a logical bay of its row only. (R10) -/
def Obligations.LogicalBaysStayInTheirRow : Prop :=
  (∀ (r : Fin 8) (k : Fin 13), (State.reset.dev.physOf (Fin.ofNat 104 (13 * r.val + k.val))).val = 14 * r.val + k.val) ∧
  (∀ r : Fin 8, State.reset.dev.logicalOf (Fin.ofNat 112 (14 * r.val + 13)) = none ∧
    State.reset.dev.steerCode (14 * r.val + 13) = 13) ∧
  (∀ (d : Device) (n : Fin 104), (d.physOf n).val / 14 = n.val / 13) ∧
  (∀ (d : Device) (pb : Fin 112) (n : Fin 104), d.logicalOf pb = some n → n.val / 13 = pb.val / 14)

/-- A write of a DBG block register by a requester other than the debug port and the debug window changes nothing but sets
DBG_CONFLICT; so does one by a port while the other owns the page; a port that owns it, or meets no owner, writes it; CLAIM
makes the writing port the owner where there is none, RELEASE by the owner clears it; a read returns the register to every
requester that the page answers. (R437) -/
def Obligations.DebugPageKeepsItsOwner : Prop :=
  ∀ (s : State) (off : BitVec 26) (o : Nat) (w : Word), off.toNat = pageBase .dbg + o → o % 4 = 0 → 0x40 ≤ o → o < 0x1000 →
    (∀ rq, rq ≠ .debugPort → rq ≠ .debugWindow → s.dev.reaches rq .dbg → undefinedBy s.dev (s.dev.raise .dbg cDbgDbgConflict) = none →
      exec (.registerWrite rq off 4 w) s = .next (s.after (s.dev.raise .dbg cDbgDbgConflict))) ∧
    (∀ p, (p = .window → s.dev.answers .debugWindow .dbg = true) →
      (s.dev.rd .dbg fDbgOwner ≠ 0 → s.dev.rd .dbg fDbgOwner ≠ portCode p →
        undefinedBy s.dev (s.dev.raise .dbg cDbgDbgConflict) = none →
        exec (.registerWrite (portRequester p) off 4 w) s = .next (s.after (s.dev.raise .dbg cDbgDbgConflict))) ∧
      (s.dev.rd .dbg fDbgOwner = 0 ∨ s.dev.rd .dbg fDbgOwner = portCode p → undefinedBy s.dev (s.dev.dbgWrite p o w).2 = none →
        exec (.registerWrite (portRequester p) off 4 w) s = .next (s.after (s.dev.dbgWrite p o w).2)) ∧
      (o = 0x40 → s.dev.rd .dbg fDbgOwner = 0 → w.getLsbD 2 = true →
        (s.dev.dbgWrite p o w).2 = s.dev.put .dbg fDbgOwner (portCode p)) ∧
      (o = 0x40 → s.dev.rd .dbg fDbgOwner ≠ 0 → s.dev.rd .dbg fDbgOwner = portCode p → w.getLsbD 3 = true →
        (s.dev.dbgWrite p o w).2 = s.dev.put .dbg fDbgOwner 0)) ∧
    (∀ rq peek, (∀ b, rq ≠ .bar2 b) → s.dev.answers rq .dbg = true →
      (s.dev.mgmtRead rq peek (pageBase .dbg + o)).1 = s.dev.pageRead .dbg o)

/-- CAPTURE begins a capture of a bay whose shutter is not closed, that is not in partial reconfiguration and that nothing
blocks, and otherwise sets CAPTURE_REFUSED; CAPTURE_ALL begins one in every bay in service that nothing blocks, sets
CAPTURE_REFUSED in those that something blocks, and passes over the others. A capture that completes takes the bay’s image (the
state that the spec lists) into its shadow, counts, shows its size and whether it was one of all bays, and sets its cause. That
CAPTURE_ALL passes over a bay in partial reconfiguration without a cause is the model’s choice (log entry 79). (R74, R75) -/
def Obligations.CapturesBeginAndEnd : Prop :=
  (∀ (s : State) (rq : Requester) (b : BayPage) (pb : Fin 112), s.dev.takes rq (bayPageRef b) (.pbay pb) →
    (∀ d, d = s.dev.holdOver (.pbay pb) →
      (d.bayShutter pb ≠ shutterClosed → d.flag (.pbay pb) fPbayBayCfgStateInPr = false → d.captureBlocked pb = false →
        exec (.capture rq b) s = .next (s.after (d.startCapture pb false))) ∧
      (d.bayShutter pb = shutterClosed ∨ d.flag (.pbay pb) fPbayBayCfgStateInPr = true ∨ d.captureBlocked pb = true →
        exec (.capture rq b) s = .next (s.after (d.bayCause pb cBayCaptureRefused)))) ∧
    exec (.captureAll rq b) s = .next (s.after ((List.finRange 112).foldl (fun d p =>
      if d.inService p = false ∨ d.flag (.pbay p) fPbayBayCfgStateInPr = true then d
      else if d.captureBlocked p then d.bayCause p cBayCaptureRefused
      else d.startCapture p true) s.dev.holdsEnd))) ∧
  (∀ (s : State) (pb : Fin 112), s.dev.flag (.pbay pb) fPbayCaptureStatusBusy = true →
    let d := { s.dev with shadow := sset (fun _ => none) s.dev.shadow pb.val (some (s.dev.image pb s.dev.free)), free := s.dev.free + 1 }
    let d := d.put (.pbay pb) fPbayCaptureStatusSeq (d.rd (.pbay pb) fPbayCaptureStatusSeq + 1)
    let d := d.put (.pbay pb) fPbayCaptureStatusShadowFrames (d.shadowFrames pb)
    let d := d.put (.pbay pb) fPbayCaptureStatusLastAll (if sget (fun _ => false) s.dev.captureAll pb.val then 1 else 0)
    let d := (d.raise (.pbay pb) fPbayCaptureStatusShadowValid).lower (.pbay pb) fPbayCaptureStatusBusy
    exec (.captureComplete pb) s = .next (s.after (d.bayCause pb cBayCaptureDone)))

/-- A word sent on a hinge or stile channel with a credit, its top 6 bits the slice’s TAG_OUT where the design takes them from a
slice, spends the credit and is queued behind the words under way; the oldest word arrives at its destination and wakes it; a
word taken gives back a credit, which can be spent again. (R66, R69) -/
def Obligations.ChannelsUseCredits : Prop :=
  ((∀ (s : State) (n : Fin 104) (ch : Fin 8) (v w : BitVec 70) (tag : Option (Fin 128)) (m k : Nat),
    s.dev.hingeAgrees n.val ch.val = some (m, k) → w = (match tag with
      | none => v
      | some sl => s.dev.tagOut (s.dev.physOf n) sl.val ++ v.extractLsb' 0 64) →
    s.dev.bayLive (s.dev.physOf n) = true → s.dev.outputsReleased (s.dev.physOf n) = true → s.dev.takesWords m = true →
    ∀ credits, credits = sget (fun _ => 8) s.dev.hingeCredits (n.val * 8 + ch.val) → 0 < credits →
    exec (.hingeWordSend n ch (v, tag)) s = .next (s.after { s.dev with
      hingeCredits := sset (fun _ => 8) s.dev.hingeCredits (n.val * 8 + ch.val) (credits - 1)
      hingeOutReg := sset (fun _ => 0) s.dev.hingeOutReg (n.val * 8 + ch.val) w
      hinges := sset chanDflt s.dev.hinges (m * 8 + k)
        { sget chanDflt s.dev.hinges (m * 8 + k) with flight := (sget chanDflt s.dev.hinges (m * 8 + k)).flight ++ [w] } })) ∧
  (∀ (s : State) (n : Fin 104) (ch : Fin 8) (w : BitVec 70) (ws : List (BitVec 70)) (c : Channel),
    c = sget chanDflt s.dev.hinges (n.val * 8 + ch.val) →
    (c.flight = w :: ws → exec (.hingeWordArrive n ch) s = .next (s.after ({ s.dev with
      hinges := sset chanDflt s.dev.hinges (n.val * 8 + ch.val) { buf := c.buf ++ [w], flight := ws } }.wakeBay n))) ∧
    (∀ m k, c.buf = w :: ws → s.dev.bayLive (s.dev.physOf n) = true →
      partnerAt (s.dev.cfgOf n).hingeIn ch.val = some (m, k) →
      exec (.hingeCreditReturn n ch) s = .next (s.after ({ s.dev with
        hinges := sset chanDflt s.dev.hinges (n.val * 8 + ch.val) { c with buf := ws }
        hingeCredits := sset (fun _ => 8) s.dev.hingeCredits (m * 8 + k)
          (min 8 (sget (fun _ => 8) s.dev.hingeCredits (m * 8 + k) + 1)) }.emit (.hingeWord n.val ch.val w)))))) ∧
  ((∀ (s : State) (n : Fin 104) (ch : Fin 4) (v w : BitVec 70) (tag : Option (Fin 128)) (m k : Nat),
    s.dev.stileAgrees n.val ch.val = some (m, k) → w = (match tag with
      | none => v
      | some sl => s.dev.tagOut (s.dev.physOf n) sl.val ++ v.extractLsb' 0 64) →
    s.dev.bayLive (s.dev.physOf n) = true → s.dev.outputsReleased (s.dev.physOf n) = true → s.dev.takesWords m = true →
    ∀ credits, credits = sget (fun _ => 16) s.dev.stileCredits (n.val * 4 + ch.val) → 0 < credits →
    exec (.stileWordSend n ch (v, tag)) s = .next (s.after { s.dev with
      stileCredits := sset (fun _ => 16) s.dev.stileCredits (n.val * 4 + ch.val) (credits - 1)
      stileOutReg := sset (fun _ => 0) s.dev.stileOutReg (n.val * 4 + ch.val) w
      stiles := sset chanDflt s.dev.stiles (m * 4 + k)
        { sget chanDflt s.dev.stiles (m * 4 + k) with flight := (sget chanDflt s.dev.stiles (m * 4 + k)).flight ++ [w] } })) ∧
  (∀ (s : State) (n : Fin 104) (ch : Fin 4) (w : BitVec 70) (ws : List (BitVec 70)) (c : Channel),
    c = sget chanDflt s.dev.stiles (n.val * 4 + ch.val) →
    (c.flight = w :: ws → exec (.stileWordArrive n ch) s = .next (s.after ({ s.dev with
      stiles := sset chanDflt s.dev.stiles (n.val * 4 + ch.val) { buf := c.buf ++ [w], flight := ws } }.wakeBay n))) ∧
    (∀ m k, c.buf = w :: ws → s.dev.bayLive (s.dev.physOf n) = true →
      partnerAt (s.dev.cfgOf n).stileIn ch.val = some (m, k) →
      exec (.stileCreditReturn n ch) s = .next (s.after ({ s.dev with
        stiles := sset chanDflt s.dev.stiles (n.val * 4 + ch.val) { c with buf := ws }
        stileCredits := sset (fun _ => 16) s.dev.stileCredits (m * 4 + k)
          (min 16 (sget (fun _ => 16) s.dev.stileCredits (m * 4 + k) + 1)) }.emit (.stileWord n.val ch.val w))))))

/-- In a live bay a sideband that changes takes the level it is given as its output, and wakes the bays it feeds where the
outputs are released; a jamb input that is driven sets its bit of the JAMB_IN registers, and the input reads as that level. With
drowsy gating enabled, in SERVICE or DROWSE, a bay whose design can be gated, with nothing inbound, outstanding or queued, no
capture, reconfiguration or migration, is gated. A bay that DROWSE has not stopped wakes; one that it has stays as it is. (R67,
R478, R146, R147) -/
def Obligations.SidebandsJambsAndDrowsyGating : Prop :=
  ((∀ (s : State) (n : Fin 104) (k : Fin 32) (v : Bool), s.dev.bayLive (s.dev.physOf n) = true →
    ∀ d, d = { s.dev with sbOut := sset (fun _ => false) s.dev.sbOut (n.val * 32 + k.val) v } →
    (v ≠ sget (fun _ => false) s.dev.sbOut (n.val * 32 + k.val) → d.outputsReleased (d.physOf n) = true →
      exec (.sidebandChange n k v) s = .next (s.after (d.wakeFed n.val k.val))) ∧
    (v = sget (fun _ => false) s.dev.sbOut (n.val * 32 + k.val) ∨ d.outputsReleased (d.physOf n) = false →
      exec (.sidebandChange n k v) s = .next (s.after d))) ∧
  (∀ (s : State) (j : Fin 48) (v : Bool) (e : Device),
    e = s.dev.setWord (if j.val < 32 then 0xF040 else 0xF044)
      (setBits (s.dev.word (if j.val < 32 then 0xF040 else 0xF044)) (j.val % 32) 1 v.toNat) →
    (v = s.dev.jambIn j.val → exec (.jambInput j v) s = .next (s.after e)) ∧
    (v ≠ s.dev.jambIn j.val → exec (.jambInput j v) s = .next (s.after (e.wakeClaimants j.val))) ∧ e.jambIn j.val = v)) ∧
  (∀ (s : State) (n : Fin 104) (pb : Fin 112), pb = s.dev.physOf n →
    (s.dev.flag .clk fClkDrowsyEn = true → s.dev.mode = mService ∨ s.dev.mode = mDrowse → (s.dev.cfgOf n).drowsyCapable = true →
      s.dev.inboundEmpty n = true → s.dev.bayOutstanding n = 0 → s.dev.bayQueued n = false →
      s.dev.flag (.pbay pb) fPbayCaptureStatusBusy = false → s.dev.flag (.pbay pb) fPbayBayCfgStateInPr = false →
      s.dev.migrating pb = false →
      exec (.drowsyGate n) s = .next (s.after (s.dev.raise (.pbay pb) fPbayHingeStatusDrowsyGated))) ∧
    (sget (fun _ => false) s.dev.drowsed n.val = false →
      exec (.drowsyWake n) s = .next (s.after (s.dev.lower (.pbay pb) fPbayHingeStatusDrowsyGated))) ∧
    (sget (fun _ => false) s.dev.drowsed n.val = true → exec (.drowsyWake n) s = .next (s.after s.dev)))

/-- A port of a block memory holds OUT_RESET during set-reset and before its writes are enabled; after that a read returns the
addressed word as its port is shaped and checked, and a write stores the enabled bytes of the row and shows what its write mode
says; where the other port of the memory has an access to the row on the same clock, each sees what the collision rules give it;
an error is reported once an edge; the port’s output reset loads OUT_RESET; an upset flips one stored bit; a row that a read
corrected is written back once. (R88, R102, R99) -/
def Obligations.BlockMemories : Prop :=
  (∀ (s : State) (pb : Fin 112) (m : Fin 128) (p : BramPort) (mm : Nat) (addr : BitVec 15) (rst : Bool) (other : Option OtherPort),
    ∀ c sh a base, base = s.dev.cascadeBase pb m.val → c = s.dev.memCfg pb base → sh = (c.port p).shape →
    a = s.dev.portAddr pb base p addr → s.dev.portEdge pb base p = true →
    (s.dev.inReset pb = true ∨ sget (fun _ => false) s.dev.writesOn pb.val = false →
      exec (.bramRead pb m p (addr, rst) other) s = .next (s.after (s.dev.resetPortOut pb base p)) ∧
      ∀ acc, exec (.bramWrite pb m p acc other) s = .next (s.after (s.dev.resetPortOut pb base p))) ∧
    (s.dev.inReset pb = false → sget (fun _ => false) s.dev.writesOn pb.val = true →
      s.dev.cascadeMember pb base a sh = some mm →
      ∀ hit before, hit = s.dev.collides pb base p mm (rowOf sh a) other → before = s.dev.rowBefore pb mm (rowOf sh a) hit →
      (∀ seen rd, seen = c.seen p s.dev.free before hit → rd = readRow c sh a seen →
        ∀ d, d = ({ s.dev with free := s.dev.free + 8 }.showPort pb base p rst rd.1).reportOnce pb c p mm (rowOf sh a) seen before
          rd hit →
        exec (.bramRead pb m p (addr, rst) other) s =
          .next (s.after (if rd.1.fix then d.askWriteback pb mm (rowOf sh a) else d))) ∧
      (∀ (acc drv : BramAccess) (new : BitVec 72), acc.addr = addr → acc.rst = rst → (s.dev.memCfg pb mm).writeAllowed = true →
        drv = s.dev.driven pb base p mm acc → new = c.merged p s.dev.free before (s.dev.row pb mm (rowOf sh a)) drv hit →
        ∀ d, d = (({ s.dev with
            free := s.dev.free + 16
            rowWas := sset (fun _ => none) s.dev.rowWas (memKey pb mm) (some (rowOf sh a, before)) }.setRow pb mm (rowOf sh a)
              new).dropWriteback pb mm (rowOf sh a)).markDirty pb mm (rowOf sh a) →
        ((c.port p).mode = .keep → exec (.bramWrite pb m p acc other) s =
          .next (s.after (if rst then d.resetPortOut pb base p else d))) ∧
        ((c.port p).mode = .through → exec (.bramWrite pb m p acc other) s =
          .next (s.after (d.showPort pb base p rst (readRow c sh a (writeRow c sh drv before)).1))) ∧
        (∀ old rd, old = c.seen p (s.dev.free + 8) before hit → rd = readRow c sh a old → (c.port p).mode = .prior →
          exec (.bramWrite pb m p acc other) s = .next (s.after ((d.showPort pb base p rst rd.1).reportOnce pb c p mm (rowOf sh a)
            old before rd hit)))))) ∧
  ((∀ (s : State) (pb : Fin 112) (m : Fin 128) (r : Fin 512) (b : Fin 72),
    exec (.bramUpset pb m r b) s =
      .next (s.after (s.dev.setRow pb m.val r.val (s.dev.row pb m.val r.val ^^^ BitVec.ofNat 72 (2 ^ b.val))))) ∧
  (∀ (s : State) (pb : Fin 112) (m : Fin 128) (r : Nat) (rs : List Nat), s.dev.bayClocked pb = true →
    sget (fun _ => ([] : List Nat)) s.dev.writeback (memKey pb m.val) = r :: rs →
    exec (.bramWriteback pb m) s =
      .next (s.after ((s.dev.setRow pb m.val r (eccFix (s.dev.row pb m.val r))).dropWriteback pb m.val r))))

/-- At an edge of its column’s clock each of the eight operations takes the operands, the cascade and the slice’s registers to
its next registers, where the slice is enabled, and OVF is set where it overflows, which wins over a CLR_OVF of the same edge;
the cascade input is the accumulator that the slice below held before the edge. Without accumulator saturation the accumulator
becomes held, product, sum, difference, cascade plus or minus product, zero or the cascade. (R112) -/
def Obligations.SliceOperations : Prop :=
  (∀ (s : State) (pb : Fin 112) (sl : Fin 128) (x : SliceIn), s.dev.colLive pb (sl.val / 32) = true →
    ∀ c d st cin, c = s.dev.sliceSet pb sl.val → d = s.dev.foldReport pb sl.val → st = d.slice pb sl.val →
    cin = (if sl.val % 32 = 0 then 0
      else if x.belowDone then (d.slice pb (sl.val - 1)).accWas else (d.slice pb (sl.val - 1)).acc) →
    ∀ (op : Fin 8) (i : Instr), (op, i) ∈ [(0, .opmodeHold pb sl x), (1, .opmodeLoad pb sl x), (2, .opmodeAdd pb sl x),
        (3, .opmodeSub pb sl x), (4, .opmodeCascAdd pb sl x), (5, .opmodeCascSub pb sl x), (6, .opmodeClear pb sl x),
        (7, .opmodeCascLoad pb sl x)] →
    c.opmode.getD op = op →
    ∀ n e, n = sliceNext c (d.colSet pb (sl.val / 32)).headroom st.bexp op.val x
        (d.operand pb sl.val c.srcA c.halfA x.a) (d.operand pb sl.val c.srcB c.halfB x.b)
        (d.operand pb sl.val c.srcD c.halfD x.d) cin st →
    e = d.setSlice pb sl.val { (if x.ce then n.1 else st) with
      accWas := st.acc, bexp := d.rd (.pbay pb) fPbayColStateBexp (sl.val / 32) } →
    exec i s = .next (s.after
      (if x.ce && n.2 then e.setOvf pb sl.val else if x.clrOvf then e.clrOvf pb sl.val else e))) ∧
  (∀ (c : SliceCfg) (headroom bexp : Nat) (x : SliceIn) (a b dd : BitVec 16) (cin : BitVec 40) (st : SliceSt),
    c.accSat = false →
    let p : BitVec 40 := BitVec.ofInt 40 (extendProduct c.frac c.aSigned c.bSigned st.prod)
    let acc (op : Nat) : BitVec 40 := (sliceNext c headroom bexp op x a b dd cin st).1.acc
    acc 0 = st.acc ∧ acc 1 = p ∧ acc 2 = st.acc + p ∧ acc 3 = st.acc - p ∧ acc 4 = cin + p ∧ acc 5 = cin - p ∧
      acc 6 = 0 ∧ acc 7 = cin ∧
      (∀ op, (sliceNext c headroom bexp op x a b dd cin st).1.preB = st.b ∧
        (sliceNext c headroom bexp op x a b dd cin st).1.prod = (multiply c.frac c.aSigned c.bSigned st.ad st.preB).1))

/-- In a live bay: CLR_OVF clears the OVF bit of a slice; an address generator loads the index given, and a step gives its next
index and WRAP; a WRAP is high for one edge and causes the events that are bound to it. A linear generator steps by its step
modulo 2^15 and wraps where the sum leaves 0 to 32767; the other modes stay at or above the base and a circular one below base +
length. BLOCK_START opens a closed column with the reports of this edge as its minimum and sets the block fault of an open one;
with an end in the same edge it publishes and begins with 63. BLOCK_END publishes an open column’s exponent and minimum, and
with CLR clear faults a closed one; CLR of the cumulative exponent sets it to 0; an event whose source is not the command
happens only where that source gives it. (R117, R118, R123, R124) -/
def Obligations.GeneratorsAndBlocks : Prop :=
  (∀ (s : State) (pb : Fin 112) (sl : Fin 128) (k : Fin 2), s.dev.colLive pb (sl.val / 32) = true →
    (∀ key, key = fldKey (.pbay pb) fPbaySliceOvfOvf (sl.val / 32) →
      exec (.clrOvf pb sl) s = .next (s.after (s.dev.setWord key (s.dev.word key &&& ~~~(BitVec.ofNat 32 (2 ^ (sl.val % 32))))))) ∧
    (∀ d, d = (if k = 0 then s.dev.wrapEvents pb sl.val else s.dev) →
      (∀ v : BitVec 15, exec (.agLoad pb sl k v) s =
        .next (s.after (d.setSlice pb sl.val ((d.slice pb sl.val).setAg k v.toNat false)))) ∧
      (∀ c idx, c = (if k = 0 then (s.dev.sliceSet pb sl.val).ag0 else (s.dev.sliceSet pb sl.val).ag1) →
        idx = (if k = 0 then (d.slice pb sl.val).idx0 else (d.slice pb sl.val).idx1) →
        exec (.agStep pb sl k) s = .next (s.after (d.setSlice pb sl.val
          ((d.slice pb sl.val).setAg k (agNext c idx).1 (agNext c idx).2)))))) ∧
  (∀ (c : AgCfg) (idx : Nat), -32768 ≤ c.step → c.step ≤ 32767 →
    (c.mode = .linear → idx < 32768 →
      ((agNext c idx).1 : Int) = ((idx : Int) + c.step) % 32768 ∧
      ((agNext c idx).2 = true ↔ (idx : Int) + c.step < 0 ∨ 32767 < (idx : Int) + c.step)) ∧
    (c.mode ≠ .linear → 0 < c.length → c.base ≤ (agNext c idx).1) ∧
    (c.mode = .circular → 0 < c.length → (agNext c idx).1 < c.base + c.length)) ∧
  (∀ (s : State) (pb : Fin 112) (c : Fin 4) (start stop clr : Bool) (i : Instr), s.dev.colLive pb c.val = true →
    (start, stop, clr, i) ∈ [(true, false, clr, .blockStart pb c false clr), (true, true, clr, .blockStart pb c true clr),
      (false, true, clr, .blockEnd pb c clr), (false, false, true, .ecumClr pb c)] →
    ∀ st en, st = s.dev.eventAt pb c.val (s.dev.colSet pb c.val).startSrc start →
    en = s.dev.eventAt pb c.val (s.dev.colSet pb c.val).endSrc stop →
    ∀ w, w = (s.dev.wrapTaken pb c.val (s.dev.colSet pb c.val).startSrc).wrapTaken pb c.val (s.dev.colSet pb c.val).endSrc →
    ∀ r m d, r = w.edgeReports pb c.val → m = min (w.rd (.pbay pb) fPbayColStateMin c.val) r → d = w.dropReports pb c.val →
    (∀ e opened, opened = w.flag (.pbay pb) fPbayColStateOpen c.val → st = true → en = false →
      e = ((if opened then d.blockFault pb c.val else d).raise (.pbay pb) fPbayColStateOpen c.val).put (.pbay pb) fPbayColStateMin
        r c.val →
      exec i s = .next (s.after (if clr then e.put (.pbay pb) fPbayColStateEcum 0 c.val else e))) ∧
    (st = true → en = true → w.flag (.pbay pb) fPbayColStateOpen c.val = true →
      exec i s = .next (s.after ((d.publish pb c.val m clr).put (.pbay pb) fPbayColStateMin 63 c.val))) ∧
    (st = true → en = true → w.flag (.pbay pb) fPbayColStateOpen c.val = false →
      exec i s = .next (s.after (d.publish pb c.val r clr))) ∧
    (st = false → en = true → w.flag (.pbay pb) fPbayColStateOpen c.val = true → exec i s = .next (s.after
      (((d.lower (.pbay pb) fPbayColStateOpen c.val).put (.pbay pb) fPbayColStateMin m c.val).publish pb c.val m clr))) ∧
    (∀ e, e = d.blockFault pb c.val → st = false → en = true → w.flag (.pbay pb) fPbayColStateOpen c.val = false →
      exec i s = .next (s.after (if clr then e.put (.pbay pb) fPbayColStateEcum 0 c.val else e))) ∧
    (∀ e, e = (if w.flag (.pbay pb) fPbayColStateOpen c.val then d.put (.pbay pb) fPbayColStateMin m c.val else d) →
      st = false → en = false → clr = true → exec i s = .next (s.after (e.put (.pbay pb) fPbayColStateEcum 0 c.val))) ∧
    (st = false → en = false → clr = false → exec i s = .next (s.after w)))

/-- Outside DORMANT, for reference A and for reference B: one that fails and is selected, with the other good, begins a switch
to the other; one that fails and is not selected only sets its cause, and ends a switch to it; one that fails with the other not
good makes the device dormant with LAST_FAIL 2, or 1 where a switch was pending or the other was selected; a failure of one that
is not good changes nothing; a recovered one is judged good and, with REVERT where it is preferred and not selected, a switch to
it begins. A failing PCI Express reference loses its clock, and a recovered one is judged good. A switch that ends selects its
reference, sets REF_SWITCHED and counts. Which of the codes 1 and 2 a failure during a switch writes, and that a failure of a
reference not judged good changes nothing, are the model’s choices (log entry 79). (R136, R148, R497, R135) -/
def Obligations.ReferencesFailAndRecover : Prop :=
  ∀ (s : State), s.dev.mode ≠ mDormant →
    (∀ (r : RefClk) (b : Bool) (good lost : Fld) (d : Device),
      (r, b, good, lost) ∈ [(.a, false, fClkRefStatusAGood, cClkRefALost), (.b, true, fClkRefStatusBGood, cClkRefBLost)] →
      d = (s.dev.lower .clk good).raise .clk lost →
      (s.dev.refGood b = true → s.dev.refGood (!b) = true → s.dev.selectedRef = b →
        exec (.refclkFail r) s = .next (s.after { d with refSwitch := some (!b) })) ∧
      (s.dev.refGood b = true → s.dev.refGood (!b) = true → s.dev.selectedRef ≠ b →
        exec (.refclkFail r) s = .next (s.after (if s.dev.refSwitch = some b then { d with refSwitch := none } else d))) ∧
      (s.dev.refGood b = true → s.dev.refGood (!b) = false → exec (.refclkFail r) s = .next (s.after
        ((d.lastFail (if s.dev.selectedRef = b ∧ s.dev.refSwitch = none then 2 else 1) 0).signal (.dormant 2)))) ∧
      (s.dev.refGood b = false → exec (.refclkFail r) s = .next (s.after s.dev)) ∧
      (s.dev.refGood b = false → ∀ e, e = s.dev.raise .clk good →
        exec (.refclkRecover r) s = .next (s.after
          (if s.dev.flag .clk fClkRefCtrlRevert = true ∧ s.dev.flag .clk fClkRefCtrlPrefer = b ∧ s.dev.selectedRef ≠ b then
            { e with refSwitch := some b } else e)))) ∧
    (s.dev.flag .clk fClkRefStatusPcieRefGood = true →
      exec (.refclkFail .pcie) s = .next (s.after (s.dev.lower .clk fClkRefStatusPcieRefGood).pcieClockLost)) ∧
    exec (.refclkRecover .pcie) s = .next (s.after (s.dev.raise .clk fClkRefStatusPcieRefGood)) ∧
    (∀ b, s.dev.refSwitch = some b → exec .refSwitchDone s = .next (s.after
      (({ s.dev with refSwitch := none }.put .clk fClkRefStatusSelected b.toNat).raise .clk cClkRefSwitched |>.count .clk 0)))

/-- Writes of PREFER, SRC_SEL and TRIM_GO act as their register is written. Outside DORMANT: the periodic trim begins where it
is enabled and the selected reference is good, and a trim that runs ends with its code and TRIM_DONE; a sill clock source that
fails turns to the other one where that one works, and the device becomes dormant with LAST_FAIL 3. (R135, R136, R137) -/
def Obligations.SillClockCommands : Prop :=
  (∀ (s : State) (rq : Requester) (w : Word), s.dev.takes rq .clk .clk →
    (∀ d, d = s.dev.fieldsWrite .clk fClkRefCtrlPrefer.off w (fun _ => false) →
      exec (.prefer rq w) s = .next (s.after (d.preferWritten (s.dev.flag .clk fClkRefCtrlPrefer)))) ∧
    exec (.srcSel rq w) s = .next (s.after (s.dev.writeSillClk w.toNat)) ∧
    exec (.trimGo rq) s = .next (s.after (s.dev.writeSillClk (s.dev.word 0x1048 ||| 4).toNat))) ∧
  (∀ (s : State), s.dev.refGood s.dev.selectedRef = true → s.dev.mode ≠ mDormant →
    s.dev.flag .clk fClkSillClkTrimAuto = true → exec .trimPeriodic s = .next (s.after { s.dev with trimming := true })) ∧
  (∀ (s : State) (code : Byte), s.dev.trimming = true → exec (.trimDone code) s = .next (s.after
    (({ s.dev with trimming := false }.put .clk fClkSillClkTrimCode code.toNat).raise .clk cClkTrimDone))) ∧
  (∀ (s : State) (d : Device), d = s.dev.lastFail 3 0 → s.dev.mode ≠ mDormant →
    (d.flag .clk fClkSillClkSrcSel = true → d.rcDead = false →
      exec .sillClkFail s = .next (s.after (((d.lower .clk fClkSillClkXinPresent).lower .clk fClkSillClkSrcSel).signal (.dormant 2)))) ∧
    (d.flag .clk fClkSillClkSrcSel = false → d.flag .clk fClkSillClkXinPresent = true →
      exec .sillClkFail s = .next (s.after (({ d with rcDead := true }.raise .clk fClkSillClkSrcSel).signal (.dormant 2)))))

/-- SRC_RUN starts and stops a source. Outside DORMANT: a running source locks; a twin pair that fails makes the device dormant
with LAST_FAIL 4; a locked twin that is not degraded switches with TWIN_SWITCHED and a count; a link PLL that fails stops,
faults the links of its edge that are enabled, sets PLL_FAIL and leads to FAULT_HOLD with cause 1; a PCI Express or core PLL
that fails stops, sets PLL_FAIL and leads to FAULT_HOLD with causes 2 and 3. (R149, R142, R138, R148, R140) -/
def Obligations.SourcesRunAndFail : Prop :=
  (∀ (s : State) (rq : Requester) (src : Fin 11), s.dev.takes rq .clk .clk →
    (∀ e, e = s.dev.writeSrcRun (s.dev.word 0x104C ||| BitVec.ofNat 32 (2 ^ src.val)).toNat → undefinedBy s.dev e = none →
      exec (.srcRunStart rq src) s = .next (s.after e)) ∧
    exec (.srcRunStop rq src) s =
      .next (s.after (s.dev.writeSrcRun (s.dev.word 0x104C &&& ~~~BitVec.ofNat 32 (2 ^ src.val)).toNat))) ∧
  (∀ (s : State) (src : Fin 11), s.dev.mode ≠ mDormant → s.dev.running src.val = true →
    exec (.pllLock src) s = .next (s.after (s.dev.raise .clk fClkSrcStatusLocked src.val)) ∧
    (src.val ≤ 4 → exec (.twinPairFail src) s = .next (s.after ((s.dev.lastFail 4 src.val).signal (.dormant 2)))) ∧
    (src.val ≤ 4 → s.dev.flag .clk fClkSrcStatusLocked src.val = true → s.dev.flag .clk fClkSrcStatusTwinDegraded src.val = false →
      exec (.twinSwitch src) s = .next (s.after ((((s.dev.put .clk fClkSrcStatusTwinActive
        (1 - s.dev.rd .clk fClkSrcStatusTwinActive src.val) src.val).raise .clk fClkSrcStatusTwinDegraded src.val).raise .clk
        cClkTwinSwitched).count .clk 1)))) ∧
  (∀ (s : State), s.dev.mode ≠ mDormant →
    (∀ e : Fin 4, s.dev.running (5 + e.val) = true → exec (.linkPllFail e) s =
      .next (s.after ((((List.finRange 144).foldl (fun (d : Device) (l : Fin 144) =>
        if l.val / 36 = e.val ∧ d.linkState l ≠ linkDisabled ∧ d.linkState l ≠ linkFault then
          (d.put (.txl l) fTxlPhyTxMode phyParked).linkEnterFault l
        else d) ((s.dev.lastFail 5 (5 + e.val)).stopSource (5 + e.val))).raise .clk cClkPllFail).signal (.faultHold 1)))) ∧
    (s.dev.running 9 = true → exec .pciePllFail s =
      .next (s.after (((((s.dev.lastFail 6 9).stopSource 9).raise .clk cClkPllFail).signal .pcieDown).signal (.faultHold 2)))) ∧
    (s.dev.running 10 = true → exec .corePllFail s =
      .next (s.after ((((s.dev.lastFail 7 10).stopSource 10).raise .clk cClkPllFail).signal (.faultHold 3)))))

/-- A request of each kind that has come to an open bay is handed to its design, which a gated bay wakes for, and the bay owes a
response to each that is answered. (R159, R162, R169) -/
def Obligations.RequestsReachADesign : Prop :=
  ∀ (s : State) (k : Nat) (f : Flight) (n : Fin 104) (op : Nat) (i : Instr),
    (op, i) ∈ [(0x00, .rd k), (0x01, .wrNp k), (0x02, .fadd64 k), (0x03, .swap64 k), (0x04, .cas64 k), (0x05, .fadd128 k),
      (0x06, .swap128 k), (0x07, .cas128 k), (0x10, .wrP k), (0x11, .msg k)] →
    ∀ d, s.dev.handsOut op k f d → f.dst = .bay n.val → f.pkt.cls = (if op < 8 then 0 else 2) →
    d.bayShutter (d.physOf n) = shutterOpen →
    ∀ w, w = drowsyWakeBody n d →
    exec i s = .next (s.after ((if op < 8 then
        { w with accepted := w.accepted ++ [{ bay := n.val, src := f.pkt.src, tag := f.pkt.tag }] } else w).emit
      (.toDesign n.val f.pkt)))

/-- At the core node a read returns the target’s bytes, a write stores them and an atomic returns the old value and stores the
new; at the management node MRD and MWR read and write aligned words of the management space. (R159, R169, R162, R153) -/
def Obligations.RequestsAtNodes : Prop :=
  (∀ (s : State) (k op : Nat) (f : Flight) (t : CoreTarget) (d : Device), s.dev.handsOut op k f d →
    f.dst = .core → t = coreTargetOf f.pkt.laddr.toNat → t ≠ .none → d.targetSealed t = false →
    (∀ bs e, op = 0x00 → f.pkt.cls = 0 → crosses4K f.pkt = false → d.coreRead t (f.pkt.len.toNat + 1) = (some bs, e) →
      exec (.rd k) s = .next (s.after (e.answerData .core f.pkt bs))) ∧
    (∀ e, op = 0x01 → f.pkt.cls = 0 → crosses4K f.pkt = false → d.coreWrite t f.pkt.payload = (true, e) →
      exec (.wrNp k) s = .next (s.after (e.inject .core iniAnswer (rspTo f.pkt stOk)))) ∧
    (∀ e, op = 0x10 → f.pkt.cls = 2 → crosses4K f.pkt = false → d.coreWrite t f.pkt.payload = (true, e) →
      exec (.wrP k) s = .next (s.after e)) ∧
    (∀ i bs e e', (op, i) ∈ [(0x02, .fadd64 k), (0x03, .swap64 k), (0x04, .cas64 k), (0x05, .fadd128 k),
        (0x06, .swap128 k), (0x07, .cas128 k)] → f.pkt.cls = 0 →
      crosses4K f.pkt = false → f.pkt.laddr.toNat % atomicSize op = 0 → d.coreRead t (atomicSize op) = (some bs, e) →
      e.coreWrite t (bytesLE (atomicSize op) (atomicNew op (natLE bs) f.pkt.payload)) = (true, e') →
      exec i s = .next (s.after (e'.answerData .core f.pkt bs)))) ∧
  (∀ (s : State) (k : Nat) (f : Flight) (d : Device), f.dst = .mgmt → f.pkt.cls = 3 → f.pkt.laddr.toNat < 0x04000000 →
    f.pkt.laddr.toNat % 4 = 0 → f.pkt.len = 3 →
    (∀ w e, s.dev.handsOut 0x20 k f d → d.mgmtRead .mesh false f.pkt.laddr.toNat = (w, e) →
      exec (.mrd k) s = .next (s.after (e.answerData .mgmt f.pkt (bytesLE 4 w.toNat)))) ∧
    (∀ e, s.dev.handsOut 0x21 k f d →
      d.mgmtWrite .mesh f.pkt.laddr.toNat (BitVec.ofNat 32 (natLE f.pkt.payload)) = some e →
      (f.pkt.laddr.toNat = fldKey .cfg fCfgFwdData 0 → d.fwdReady = true) →
      ∀ e', e' = e.inject .mgmt iniAnswer (rspTo f.pkt stOk) → undefinedBy s.dev e' = none →
      exec (.mwr k) s = .next (s.after e')))

/-- A response to an active request of a design, at an open or closing shutter, wakes the bay, ends the request and is handed to
the design, with the status of a response that does not fit in place of its data; a response with V = 0 is handed on and leaves
the request waiting for its marker, and the marker ends it; an active request whose time runs out ends in TIMEOUT and its tag is
quarantined; a quarantine that ends frees the tag, and a protected read that waits for it at a curtain is forgotten. (R167,
R170, R195, R164) -/
def Obligations.RequestsEnd : Prop :=
  (∀ (s : State) (k op : Nat) (f : Flight) (n : Fin 104) (b : Nat) (r : Req) (d e : Device), s.dev.handsOut op k f d →
    f.dst = .bay n.val → f.pkt.cls = 1 → f.ini ≠ iniVerify → f.pkt.tag.toNat < 3328 →
    d.bayShutter (d.physOf n) ≠ shutterClosed → e = drowsyWakeBody n d →
    d.req .fabric f.pkt.tag.toNat = some r → r.cont = .design b →
    (r.phase = .active → ∀ status, status = rspStatus r f.pkt →
      (op = 0x30 → exec (.rsp k) s = .next (s.after ((e.setReq .fabric f.pkt.tag.toNat none).emit
        (.toDesign b (if status = stOk then f.pkt else statusRsp f.pkt status))))) ∧
      (op = 0x31 → f.pkt.v = true → exec (.rspData k) s = .next (s.after ((e.setReq .fabric f.pkt.tag.toNat none).emit
        (.toDesign b (if status = stOk then f.pkt else statusRsp f.pkt status))))) ∧
      (op = 0x31 → f.pkt.v = false → status = stOk → exec (.rspData k) s = .next (s.after
        ((e.setReq .fabric f.pkt.tag.toNat (some { r with phase := .marker f.pkt.payload })).emit (.toDesign b f.pkt))))) ∧
    (∀ data, r.phase = .marker data →
      (op = 0x38 → exec (.verifyOk k) s =
        .next (s.after ((e.setReq .fabric f.pkt.tag.toNat none).emit (.toDesign b f.pkt)))) ∧
      (op = 0x39 → exec (.verifyFail k) s =
        .next (s.after ((e.setReq .fabric f.pkt.tag.toNat none).emit (.toDesign b f.pkt)))))) ∧
  (∀ (s : State) (n : NodeKind) (tag : BitVec 12) (r : Req), s.dev.req n tag.toNat = some r →
    (r.phase = .active → ∀ d, d = (s.dev.setReq n tag.toNat (some { r with phase := .quarantined, cont := .stale })).timeoutAt
        (ownerOf n tag.toNat) →
      exec (.initiatorTimeout n tag) s = .next (s.after ((d.reqEnds r.cont stTimeout []
        (timeoutRsp (s.dev.nodeId n) tag.toNat r stTimeout)).tagFreed n tag.toNat))) ∧
    (r.phase = .quarantined →
      exec (.tagQuarantineEnd n tag) s =
        .next (s.after (((s.dev.setReq n tag.toNat none).curTimedOut (s.dev.nodeId n) tag).tagFreed n tag.toNat))))

/-- A well-formed packet that a design sends through an open shutter is issued where it is a response or its class has nothing
held and its tag is free, and is held otherwise; the oldest held packet is issued once its tag is free. While the mesh is on, a
failed segment sets the detour of its output; a failed router sets its own and those of its neighbours’ outputs that lead to it,
and its packets go back to the router before; a corrected bit error leaves the device as it is. (R180, R190, R188) -/
def Obligations.PortsSendAndMeshFailuresDetour : Prop :=
  ((∀ (s : State) (n : Fin 104) (p q : Packet), s.dev.bayLive (s.dev.physOf n) = true → q = s.dev.bayStamp n p → malformed q = false →
    s.dev.bayShutter (s.dev.physOf n) = shutterOpen →
    (q.cls = 1 → exec (.bayPortSend n p) s = .next (s.after (s.dev.bayIssue n q))) ∧
    (q.cls ≠ 1 → s.dev.heldAt n q.cls.toNat = [] → s.dev.tagBusy q = false →
      exec (.bayPortSend n p) s = .next (s.after (s.dev.bayIssue n q))) ∧
    (q.cls ≠ 1 → s.dev.heldAt n q.cls.toNat ≠ [] ∨ s.dev.tagBusy q = true →
      exec (.bayPortSend n p) s =
        .next (s.after (s.dev.setHeld n q.cls.toNat (s.dev.heldAt n q.cls.toNat ++ [q]))))) ∧
  (∀ (s : State) (n : Fin 104) (c : Fin 4) (p : Packet) (rest : List Packet), s.dev.bayShutter (s.dev.physOf n) ≠ shutterClosed →
    s.dev.heldAt n c.val = p :: rest → s.dev.tagBusy p = false →
    exec (.bayPortIssue n c) s = .next (s.after ((s.dev.setHeld n c.val rest).bayIssue n p)))) ∧
  (∀ (s : State) (r : RouterAt) (out : Fin 5), s.dev.meshUp = true →
    (outputExists r.x.val r.y.val out.val = true → exec (.segmentFail r out) s = .next (s.after
      (s.dev.setDetours (r.plane.val, out.val, r.x.val, r.y.val) [outKey r.plane.val r.x.val r.y.val out.val]))) ∧
    (∀ keys, keys = outKey r.plane.val r.x.val r.y.val 7 ::
        ((if 0 < r.x.val then [outKey r.plane.val (r.x.val - 1) r.y.val 0] else []) ++
        (if r.x.val < 15 then [outKey r.plane.val (r.x.val + 1) r.y.val 1] else []) ++
        (if 0 < r.y.val then [outKey r.plane.val r.x.val (r.y.val - 1) 2] else []) ++
        (if r.y.val < 9 then [outKey r.plane.val r.x.val (r.y.val + 1) 3] else [])) →
      exec (.routerFail r) s = .next (s.after ({ s.dev with
        mesh := s.dev.mesh.map fun (f : Flight) => f.sentBack (r.plane.val == 1) r.x.val r.y.val }.setDetours
          (r.plane.val, 7, r.x.val, r.y.val) keys))) ∧
    exec (.segmentBitError r out) s = .next (s.after s.dev))

/-- CLOSE of an open shutter begins its draining, after the hold of an aliased page has ended, and that of a curtain stage also
flushes it; a drained shutter closes, also when its limit expires. A shutter that is not drained when its limit expires closes
with EXPIRED: of a bay, a link, a curtain stage and the host DMA, what is left is fenced as its rule gives. OPEN of a closed
shutter of any of the four, with its domain running and, where it has one, without an abort, opens it, a commit before; a link
that slept for an abort then wakes and a curtain stage resumes. (R198, R199) -/
def Obligations.ShuttersCloseDrainAndOpen : Prop :=
  ∀ (s : State) (sh : ShutterRef) (pg : PageRef) (st ex : Fld), s.dev.shutterAt sh = some (pg, st, ex) →
    (∀ rq d e, s.dev.takes rq (shutterPage sh) pg → d = s.dev.closeWaits sh → d.rd pg st = shutterOpen →
      e = (d.put pg st shutterClosing).put pg ex 0 →
      ((∀ n, sh ≠ .cur n) → exec (.shutterClose rq sh) s = .next (s.after e)) ∧
      (∀ n l, sh = .cur n → s.dev.curLinkOf n = some l → exec (.shutterClose rq sh) s = .next (s.after (e.curFlush l)))) ∧
    (s.dev.rd pg st = shutterClosing → s.dev.drained sh = true →
      exec (.shutterClosed sh) s = .next (s.after (s.dev.shutterReached sh)) ∧
      exec (.shutterDrainExpire sh) s = .next (s.after (s.dev.shutterReached sh))) ∧
    (∀ d, s.dev.rd pg st = shutterClosing → s.dev.drained sh = false →
      ((∃ b, sh = .bay b ∧ d = (s.dev.bayExpire (s.dev.bayPhys b)).bayCause (s.dev.bayPhys b) cBayDrainExpired) ∨
        (∃ l, sh = .txl l ∧ d = s.dev.linkExpire l) ∨
        (∃ n l, sh = .cur n ∧ s.dev.curLinkOf n = some l ∧ d = s.dev.curExpire l) ∨
        (sh = .hdma ∧ d = s.dev.hdmaExpire.raise .hdma cHdmaDrainExpired)) →
      exec (.shutterDrainExpire sh) s = .next (s.after ((d.put pg ex 1).shutterReached sh))) ∧
    (∀ rq d e, s.dev.takes rq (shutterPage sh) pg → s.dev.rd pg st = shutterClosed → s.dev.domainRuns sh = true →
      d = s.dev.commitBeforeOpen.put pg st shutterOpen →
      ((sh = .hdma ∧ e = d) ∨
        (∃ b n, sh = .bay b ∧ s.dev.logicalOf (s.dev.bayPhys b) = some n ∧ s.dev.rd (.bay n) hdrAbortState = 0 ∧ e = d) ∨
        (∃ l, sh = .txl l ∧ s.dev.rd (.txl l) hdrAbortState = 0 ∧
          e = (if (d.lk l).sleepAfterAbort then (d.setLk l { d.lk l with sleepAfterAbort := false }).linkWake l else d)) ∨
        (∃ l, sh = .cur (curOfLink l) ∧ s.dev.rd (curPage l) hdrAbortState = 0 ∧
          e = ((d.curFlush l).curResume l).curPump l)) →
      undefinedBy s.dev e = none → exec (.shutterOpen rq sh) s = .next (s.after e))

/-- ENABLE of a disabled link with a valid table, in a mode that runs the mesh, starts its training and the link PLL of its
edge; one without a valid table sets TABLE_INVALID; ENABLE of any other link, or with the mesh off, only sets the bit; disabling
a link parks its lanes, empties it and makes it DISABLED. An aligned receiver in training takes a report that stands in two
consecutive training flits of at least two aligned lanes, moves the transmitter’s spare to the lane that a report asks for with
LANE_SWAPPED and a count, or its clock to the spare; at TRAIN_END on at least two aligned lanes it goes to data, and a clock
swap ends with CLK_SWAPPED and a count; TRAIN_END on fewer changes nothing; in an idle receiver it ends the idle; a receiver not
aligned restarts with TRAIN_FAIL. In bring-up, lateness sets BRINGUP_LATE and the limit faults the link where it is not 0. At
the end of alignment: with D0 to D3 aligned the receiver is aligned, a spare that is not aligned is marked failed with
SPARE_LOST, and a spare that is crossed is a TRAIN_FAIL; with one of them not aligned it carries that lane on the spare where
the spare is aligned and the table allows it, and is a TRAIN_FAIL otherwise; with more not aligned it is a TRAIN_FAIL. (R245,
R210, R216, R244) -/
def Obligations.LinksTrain : Prop :=
  (∀ (s : State) (l : Fin 144),
    (∀ rq tag, s.dev.reaches rq (.txl l) → s.dev.epochIs (.txl l) tag →
      (∀ e, e = s.dev.put (.txl l) hdrEnable 1 →
        (e.linkState l = linkDisabled → e.meshUp = true →
          ((e.eff (.txl l) fTxlSubLinkLink).testBit 0 = true →
          exec (.linkEnable rq l tag) s = .next (s.after
            ((e.put .clk fClkSrcRunRun (Nat.lor (e.rd .clk fClkSrcRunRun) (2 ^ (5 + l.val / 36)))).startTraining l linkTraining false true))) ∧
          ((e.eff (.txl l) fTxlSubLinkLink).testBit 0 = false →
          exec (.linkEnable rq l tag) s = .next (s.after (e.raise (.txl l) cTxlTableInvalid)))) ∧
        (e.linkState l ≠ linkDisabled ∨ e.meshUp = false → exec (.linkEnable rq l tag) s = .next (s.after e))) ∧
      (∀ e, e = s.dev.put (.txl l) hdrEnable 0 → e.linkState l ≠ linkDisabled →
        ∀ f, f = e.parkLanes l →
        exec (.linkDisable rq l tag) s = .next (s.after ((f.setLk l (e.lk l).emptied).setLinkState l linkDisabled)))) ∧
    (s.dev.rd (.txl l) fTxlPhyRxMode = phyTraining → s.dev.flag (.txl l) fTxlPhyRxAligned = true →
      s.dev.flag (.txl l) fTxlLinkStatusRxIdle = false →
      (∀ f e, 2 ≤ (((s.dev.lk l).alignedOf f).filter isTrainEnd).length →
        ((s.dev.lk l).clkSwapRx = false → e = s.dev) →
        ((s.dev.lk l).clkSwapRx = true →
          e = ((s.dev.setLk l { s.dev.lk l with clkSwapRx := false }).raise (.txl l) cTxlClkSwapped).count (.txl l) 1) →
        exec (.trainEnd (l, f)) s = .next (s.after ((e.put (.txl l) fTxlPhyRxMode phyData).linkAdvance l))) ∧
      (∀ f now d, now = (s.dev.lk l).reportsIn f → d = s.dev.setLk l { s.dev.lk l with reportsSeen := now } →
        ((now.find? fun r => (s.dev.lk l).reportsSeen.contains r) = none → exec (.train l f) s = .next (s.after d)) ∧
        (∀ r ds e, (now.find? fun r => (s.dev.lk l).reportsSeen.contains r) = some r → ds = (r.extractLsb' 1 3).toNat →
          e = d.setLk l { d.lk l with report := r } →
          (¬ ds < 4 → r.getLsbD 4 = false → exec (.train l f) s = .next (s.after e)) ∧
          (¬ ds < 4 → r.getLsbD 4 = true → e.rd (.txl l) fTxlPhyTxClkSel = 0 →
            ∀ g, g = e.raise (.txl l) fTxlPhyTxClkSel →
            exec (.train l f) s = .next (s.after (g.setLk l { g.lk l with clkSwapTx := true }))) ∧
          (∀ g, ds < 4 → r.getLsbD 4 = false → e.rd (.txl l) fTxlPhyTxDsCarries ≠ ds →
            g = e.put (.txl l) fTxlPhyTxDsCarries ds →
            exec (.train l f) s = .next (s.after (((g.put (.txl l) fTxlPhyTxFailed
              (Nat.lor (g.rd (.txl l) fTxlPhyTxFailed) (2 ^ ds))).raise (.txl l) cTxlLaneSwapped).count (.txl l) 0)))))) ∧
    (∀ f, (((s.dev.lk l).alignedOf f).filter isTrainEnd).length < 2 → exec (.trainEnd (l, f)) s = .next (s.after s.dev)) ∧
    (s.dev.rd (.txl l) fTxlPhyRxMode = phyTraining → s.dev.flag (.txl l) fTxlPhyRxAligned = false →
      ∀ e, e = s.dev.lower (.txl l) fTxlPhyRxDllLocked →
      exec (.trainRestart l) s = .next (s.after ((e.setLk l { s.dev.lk l with cannot := false }).raise (.txl l) cTxlTrainFail))) ∧
    (s.dev.flag (.txl l) fTxlLinkStatusRxIdle = true →
      ∀ f, 2 ≤ (((s.dev.lk l).alignedOf f).filter isTrainEnd).length →
      exec (.trainEnd (l, f)) s = .next (s.after ((s.dev.lower (.txl l) fTxlLinkStatusRxIdle).put (.txl l) fTxlPhyRxMode phyData))) ∧
    (s.dev.bringingUp l = true →
      exec (.bringupLate l) s = .next (s.after (s.dev.raise (.txl l) cTxlBringupLate)) ∧
      (s.dev.rd (.txl l) fTxlBringupLimitLimit ≠ 0 → exec (.bringupLimit l) s = .next (s.after (s.dev.linkEnterFault l))) ∧
      (s.dev.rd (.txl l) fTxlBringupLimitLimit = 0 → exec (.bringupLimit l) s = .next (s.after s.dev)))) ∧
  (∀ (s : State) (l : Fin 144) (o : AlignOutcome) (c d e : Device) (failed : Nat) (ok : Nat → Bool),
    s.dev.rd (.txl l) fTxlPhyRxMode = phyTraining → o.onSpare = false → o.spareSeen = true →
    s.dev.flag (.txl l) fTxlPhyRxCFailed = false →
    c = ((((s.dev.raise (.txl l) fTxlPhyRxDllLocked).put (.txl l) fTxlPhyRxClkSel 0).put (.txl l) fTxlSkewFound o.skew.toNat).put
      (.txl l) fTxlCentreFound o.centre.toNat) →
    (o.crossed = 0 → d = c) → (o.crossed ≠ 0 → d = c.raise (.txl l) cTxlLaneOrder) →
    failed = d.rd (.txl l) fTxlPhyRxFailed → ok = (fun i => inReach o i && !o.crossed.getLsbD i && !failed.testBit i) →
    e = d.setLk l { d.lk l with
      alignedLanes := BitVec.ofNat 5 (((List.range 5).filter ok).foldl (fun s i => s + 2 ^ i) 0) } →
    -- D0 to D3 have aligned
    (((List.range 4).filter fun i => !ok i) = [] →
      (ok 4 = true ∨ failed.testBit 4 = true →
        exec (.dllLock l o) s = .next (s.after ((e.put (.txl l) fTxlPhyRxDsCarries 7).raise (.txl l) fTxlPhyRxAligned))) ∧
      (ok 4 = false → failed.testBit 4 = false → o.crossed.getLsbD 4 = true →
        exec (.dllLock l o) s = .next (s.after ((e.setLk l { e.lk l with cannot := true }).raise (.txl l) cTxlTrainFail))) ∧
      (ok 4 = false → failed.testBit 4 = false → o.crossed.getLsbD 4 = false →
        exec (.dllLock l o) s = .next (s.after
          ((((e.put (.txl l) fTxlPhyRxFailed (Nat.lor failed 16)).raise (.txl l) cTxlSpareLost).put (.txl l) fTxlPhyRxDsCarries 7).raise
            (.txl l) fTxlPhyRxAligned)))) ∧
    -- one of them has not
    (∀ i, ((List.range 4).filter fun i => !ok i) = [i] →
      (ok 4 = true → (e.eff (.txl l) fTxlSubLinkLink).testBit 2 = true →
        ∀ f, (e.rd (.txl l) fTxlPhyRxDsCarries = i → f = e) →
          (e.rd (.txl l) fTxlPhyRxDsCarries ≠ i → f = (e.raise (.txl l) cTxlLaneSwapped).count (.txl l) 0) →
        exec (.dllLock l o) s = .next (s.after
          (((f.put (.txl l) fTxlPhyRxFailed (Nat.lor failed (2 ^ i))).put (.txl l) fTxlPhyRxDsCarries i).raise (.txl l)
            fTxlPhyRxAligned))) ∧
      (ok 4 = false ∨ (e.eff (.txl l) fTxlSubLinkLink).testBit 2 = false →
        exec (.dllLock l o) s = .next (s.after ((e.setLk l { e.lk l with cannot := true }).raise (.txl l) cTxlTrainFail)))) ∧
    -- more of them have not
    (2 ≤ ((List.range 4).filter fun i => !ok i).length →
      exec (.dllLock l o) s = .next (s.after ((e.setLk l { e.lk l with cannot := true }).raise (.txl l) cTxlTrainFail))))

/-- At a receiver in data and not idle: a data lane that fails, or is swapped by DATA_GO, asks for the spare lane where the
table allows it, the spare stands and the link can ask, and a failure otherwise faults the link; a spare lane that fails is
marked with SPARE_LOST, and faults the link where it carries a lane or is asked for; wrong bits of the spare are counted and
above 256 fail it; a margin window above the limit sets MARGIN_LOW, counts and fails its lane, and one within it changes
nothing; a failed clock lane, or CLK_GO, faults the link where the clock spare is in use or not allowed or the link cannot ask,
and otherwise retrains on it, after a LINK flit that asks for it where the transmitter is in data; a marker with at most 6 zero
bits ends a swap with LANE_SWAPPED where the spare stands, any other changes nothing, and a swap that times out retrains. (R221,
R227, R220, R224, R223, R250) -/
def Obligations.LanesFailAndSwap : Prop :=
  ∀ (s : State) (l : Fin 144), s.dev.rd (.txl l) fTxlPhyRxMode = phyData → s.dev.flag (.txl l) fTxlLinkStatusRxIdle = false →
    (∀ (k : Fin 4) (d : Device), (s.dev.rd (.txl l) fTxlPhyRxFailed).testBit k.val = false →
      d = s.dev.put (.txl l) fTxlPhyRxFailed (Nat.lor (s.dev.rd (.txl l) fTxlPhyRxFailed) (2 ^ k.val)) →
      ((d.eff (.txl l) fTxlSubLinkLink).testBit 2 = true → d.rd (.txl l) fTxlPhyRxDsCarries = 7 →
        (s.dev.rd (.txl l) fTxlPhyRxFailed).testBit 4 = false → (d.lk l).swapReq = none → d.canAsk l = true →
        ∀ f e, f = d.setLk l { d.lk l with swapReq := some k.val, sinceLink := 31 } →
        e = (if f.flag (.txl l) fTxlLinkStatusTxIdle = true then (f.txResume l).sendLink l false else f) →
        exec (.dataLaneFail l (k.castSucc)) s = .next (s.after e) ∧
        (∀ rq, s.dev.takes rq (.txl l) (.txl l) → exec (.dataGo rq l k) s = .next (s.after e))) ∧
      ((s.dev.rd (.txl l) fTxlPhyRxFailed).testBit 4 = true ∨ (d.eff (.txl l) fTxlSubLinkLink).testBit 2 = false ∨
          d.rd (.txl l) fTxlPhyRxDsCarries ≠ 7 ∨ (d.lk l).swapReq ≠ none ∨ d.canAsk l = false →
        exec (.dataLaneFail l (k.castSucc)) s = .next (s.after (d.linkEnterFault l)))) ∧
    (∀ d, (s.dev.rd (.txl l) fTxlPhyRxFailed).testBit 4 = false →
      d = (s.dev.put (.txl l) fTxlPhyRxFailed (Nat.lor (s.dev.rd (.txl l) fTxlPhyRxFailed) 16)).raise (.txl l) cTxlSpareLost →
      (d.rd (.txl l) fTxlPhyRxDsCarries = 7 → (d.lk l).swapReq = none → exec (.dataLaneFail l 4) s = .next (s.after d)) ∧
      (d.rd (.txl l) fTxlPhyRxDsCarries ≠ 7 ∨ (d.lk l).swapReq ≠ none →
        exec (.dataLaneFail l 4) s = .next (s.after (d.linkEnterFault l)))) ∧
    (∀ n, s.dev.rd (.txl l) fTxlPhyRxDsCarries = 7 →
      (n ≤ 256 → exec (.spareLaneFail l n) s = .next (s.after (s.dev.countN (.txl l) 2 n))) ∧
      (256 < n → exec (.spareLaneFail l n) s = .next (s.after ((s.dev.countN (.txl l) 2 n).spareFailed l)))) ∧
    (∀ n (k : Fin 5) d, s.dev.flag (.txl l) fTxlMarginAuto = true →
      s.dev.rd (.txl l) fTxlMarginLimit * 1024 < n → d = (s.dev.raise (.txl l) cTxlMarginLow).count (.txl l) 3 →
      exec (.marginWindow l k n) s = .next (s.after (if k.val < 4 then d.laneFailed l k.val else d.spareFailed l))) ∧
    (∀ n (k : Fin 5), n ≤ s.dev.rd (.txl l) fTxlMarginLimit * 1024 →
      exec (.marginWindow l k n) s = .next (s.after s.dev)) ∧
    (s.dev.rd (.txl l) fTxlPhyRxClkSel = 1 ∨ (s.dev.eff (.txl l) fTxlSubLinkLink).testBit 3 = false ∨ s.dev.canAsk l = false →
      exec (.clockLaneFail l) s = .next (s.after (s.dev.linkEnterFault l)) ∧
      (∀ rq, s.dev.takes rq (.txl l) (.txl l) → exec (.clkGo rq l) s = .next (s.after (s.dev.linkEnterFault l)))) ∧
    (∀ d, s.dev.rd (.txl l) fTxlPhyRxClkSel = 0 → (s.dev.eff (.txl l) fTxlSubLinkLink).testBit 3 = true →
      s.dev.flag (.txl l) fTxlPhyRxCsFailed = false → s.dev.canAsk l = true → d = s.dev.raise (.txl l) fTxlPhyRxCFailed →
      d.canSend l = false →
      exec (.clockLaneFail l) s = .next (s.after (d.clockTrain l)) ∧
      (∀ rq, s.dev.takes rq (.txl l) (.txl l) → exec (.clkGo rq l) s = .next (s.after (d.clockTrain l)))) ∧
    (∀ d, s.dev.rd (.txl l) fTxlPhyRxClkSel = 0 → (s.dev.eff (.txl l) fTxlSubLinkLink).testBit 3 = true →
      s.dev.flag (.txl l) fTxlPhyRxCsFailed = false → s.dev.canAsk l = true → d = s.dev.raise (.txl l) fTxlPhyRxCFailed →
      d.canSend l = true →
      exec (.clockLaneFail l) s = .next (s.after
        ((((d.setLk l { d.lk l with oweCswap := true }).txResume l).sendLink l false).clockTrain l))) ∧
    (∀ d : Device, (d.linkState l = linkActive → d.clockTrain l = d.startTraining l linkRetrain true false) ∧
      (∀ e, d.linkState l = linkHello → e = d.startTraining l linkTraining false false →
        d.clockTrain l = e.setLk l { e.lk l with peer := none })) ∧
    (∀ k d, (s.dev.lk l).swapReq = some k →
      d = (s.dev.put (.txl l) fTxlPhyRxDsCarries k).setLk l { s.dev.lk l with swapReq := none, oweDone := 4 } →
      (∀ ds, ((List.range 132).filter fun i => !ds.getLsbD i).length ≤ 6 → (s.dev.rd (.txl l) fTxlPhyRxFailed).testBit 4 = false →
        exec (.dswapMarker (l, ds)) s = .next (s.after ((d.raise (.txl l) cTxlLaneSwapped).count (.txl l) 0))) ∧
      (∀ ds, 6 < ((List.range 132).filter fun i => !ds.getLsbD i).length ∨ (s.dev.rd (.txl l) fTxlPhyRxFailed).testBit 4 = true →
        exec (.dswapMarker (l, ds)) s = .next (s.after s.dev)) ∧
      exec (.dswapTimeout l) s = .next (s.after (s.dev.linkRetrainNow l)))

/-- At an ACTIVE link that receives, a packet flit is discarded while the receiver waits for a replay, only counted when its
number is not the one expected, and else accepted. Accepted: HEAD opens a packet, MID extends it, TAIL and SOLE complete it; MID
and TAIL without an open packet set PROTOCOL; HEAD and SOLE with a packet open lose that packet; a sixth flit loses the packet,
and flits after it only free a credit. In link mode the flit is decrypted first, or waits where the engine has stopped. A bad
flit counts and asks for a replay once. (R231, R236) -/
def Obligations.PacketFlitsAreSequenced : Prop :=
  ∀ (s : State) (l : Fin 144) (b : BitVec 512), s.dev.linkState l = linkActive → s.dev.receives l = true →
    (∀ i, i ∈ [Instr.sole l b, .head l b, .mid l b, .tail l b] →
      ((s.dev.lk l).wait = true → exec i s = .next (s.after s.dev)) ∧
      ((s.dev.lk l).wait = false → (s.dev.lk l).count ≠ (s.dev.lk l).expect →
        exec i s = .next (s.after (s.dev.setLk l { s.dev.lk l with count := (s.dev.lk l).count + 1 })))) ∧
    ((s.dev.lk l).wait = false → (s.dev.lk l).count = (s.dev.lk l).expect →
      ∀ e, e = s.dev.setLk l { s.dev.lk l with expect := (s.dev.lk l).expect + 1, count := (s.dev.lk l).count + 1 } →
      e.curMode l ≠ 2 →
        ((e.lk l).rxOpen = none →
          exec (.head l b) s = .next (s.after (e.setLk l { e.lk l with rxOpen := some [b], rxSkip := none })) ∧
          exec (.sole l b) s = .next (s.after ((e.setLk l { e.lk l with rxOpen := none, rxSkip := none }).linkPacket l [b])) ∧
          ((e.lk l).rxSkip = none →
            exec (.mid l b) s = .next (s.after (e.raise (.txl l) cTxlProtocol)) ∧
            exec (.tail l b) s = .next (s.after (e.raise (.txl l) cTxlProtocol)))) ∧
        (∀ fs, (e.lk l).rxOpen = some fs → (e.lk l).rxSkip = none →
          (fs.length ≠ 5 →
            exec (.mid l b) s = .next (s.after (e.setLk l { e.lk l with rxOpen := some (fs ++ [b]) })) ∧
            exec (.tail l b) s = .next (s.after ((e.setLk l { e.lk l with rxOpen := none }).linkPacket l (fs ++ [b])))) ∧
          (fs.length = 5 →
            exec (.mid l b) s = .next (s.after (e.sixthFlit l fs)) ∧
            exec (.tail l b) s = .next (s.after (e.sixthFlit l fs)))) ∧
        -- a packet left open, and flits after a sixth
        (∀ fs f, (e.lk l).rxOpen = some fs → f = e.framingLoss l fs fs.length →
          exec (.head l b) s = .next (s.after (f.setLk l { f.lk l with rxOpen := some [b], rxSkip := none })) ∧
          exec (.sole l b) s = .next (s.after ((f.setLk l { f.lk l with rxOpen := none, rxSkip := none }).linkPacket l [b]))) ∧
        (∀ c, (e.lk l).rxSkip = some c →
          exec (.mid l b) s = .next (s.after (e.setLk l { e.lk l with freed := bump (e.lk l).freed c 1 })) ∧
          exec (.tail l b) s = .next (s.after (e.setLk l { e.lk l with freed := bump (e.lk l).freed c 1 })))) ∧
    ((s.dev.lk l).wait = false → (s.dev.lk l).count = (s.dev.lk l).expect →
      ∀ e f, e = s.dev.setLk l { s.dev.lk l with expect := (s.dev.lk l).expect + 1, count := (s.dev.lk l).count + 1 } →
      e.curMode l = 2 → (e.cur l).stopped = false →
      f = e.setLk l { e.lk l with rxCover := (e.lk l).rxCover ++ [((s.dev.lk l).expect, b)] } →
      exec (.head l b) s = .next (s.after (f.frameFlit l .head (flitCrypt
        (f.slotKey l (f.flag (curPage l) fCurCurStatusRxPhase)) (BitVec.ofNat 10 (f.rd (.txl l) fTxlPeerNodeLoNode0))
        (s.dev.lk l).expect b)))) ∧
    ((s.dev.lk l).wait = false → (s.dev.lk l).count = (s.dev.lk l).expect →
      ∀ e, e = s.dev.setLk l { s.dev.lk l with expect := (s.dev.lk l).expect + 1, count := (s.dev.lk l).count + 1 } →
      e.curMode l = 2 → (e.cur l).stopped = true →
      exec (.head l b) s = .next (s.after
        (e.setLk l { e.lk l with stalled := (e.lk l).stalled ++ [(.head, (s.dev.lk l).expect, b)] }))) ∧
    (∀ d, d = s.dev.count (.txl l) 4 →
      ((d.lk l).wait = true → exec (.badFlit l) s = .next (s.after d)) ∧
      ((d.lk l).wait = false → exec (.badFlit l) s = .next (s.after (d.setLk l { d.lk l with wait := true, oweNak := true }))))

/-- At an ACTIVE link that receives, a LINK flit with FAULT faults the link; any other takes its ACK_SEQ, which also completes
the posted writes it covers, and its credits, then its sequence, PM and request fields in that order, and an ACK_SEQ outside the
range held sets PROTOCOL instead. (R236, R237, R246, R247, R250, R224, R238, R249) -/
def Obligations.LinkFlitsTakeEffect : Prop :=
  ∀ (s : State) (l : Fin 144) (b : BitVec 512), s.dev.linkState l = linkActive → s.dev.receives l = true → fieldAt b 0 4 = 1 →
    ∀ c i, (c, i) ∈ [(true, Instr.linkFlit l b), (bitAt b 20, .nak l b), (bitAt b 21, .replay l b),
        (decide (fieldAt b 88 4 = 1), .enterIdle l b), (decide (fieldAt b 88 4 = 2), .sleepReq l b),
        (decide (fieldAt b 88 4 = 3), .sleepAck l b), (decide (fieldAt b 88 4 = 4), .sleepNak l b), (bitAt b 96, .dswapReq l b),
        (bitAt b 100, .cswapReq l b), (bitAt b 101, .retrainReq l b), (bitAt b 102, .fault l b)] → c = true →
      (bitAt b 102 = true → exec i s = .next (s.after (s.dev.linkEnterFault l))) ∧
      (bitAt b 102 = false →
        -- ACK_SEQ and CRD
        (∀ k d e, (s.dev.lk l).ack (b.extractLsb' 8 12) = some k → e = s.dev.setLk l (k.addCredits b).postsAcked →
          ((s.dev.lk l).posts = [] → d = e) → ((s.dev.lk l).posts ≠ [] → d = e.curPump l) →
          exec i s = .next (s.after (((d.takeTxSeq l b).takePm l (fieldAt b 88 4)).takeAsks l b true))) ∧
        ((s.dev.lk l).ack (b.extractLsb' 8 12) = none →
          ∀ d, d = (s.dev.raise (.txl l) cTxlProtocol).setLk l ((s.dev.lk l).addCredits b) →
          exec i s = .next (s.after (((d.takeTxSeq l b).takePm l (fieldAt b 88 4)).takeAsks l b false))))

/-- The first HELLO records the partner and settles the version; no common version faults the link with VERSION_MISMATCH, a
curtain mode that the partner does not offer faults it with MODE_REFUSED, and otherwise both phases are cleared and HELLO may
end; a later HELLO must repeat the first but for its ready fields, and else sets PROTOCOL and retrains. In link mode a TAG flit
that is right releases the packets it covers, sends the markers owed and takes the partner’s phase; a wrong one counts, logs,
sets LINK_TAG_FAIL, faults the link and names what was delivered early as forged; where the engine has stopped it waits. (R242,
R274) -/
def Obligations.HelloAndTagFlits : Prop :=
  (∀ (s : State) (l : Fin 144) (b : BitVec 512), s.dev.linkState l = linkHello → s.dev.receives l = true → fieldAt b 0 4 = 2 →
    ((s.dev.lk l).peer = none →
      ∀ chosen, chosen = chooseVersion (fieldAt (s.dev.lk l).ownHello 8 3) (fieldAt b 8 3) →
      ∀ e, e = s.dev.recordPeer l b chosen →
      (chosen = 0 → exec (.hello l b) s = .next (s.after ((e.raise (.txl l) cTxlVersionMismatch).linkEnterFault l))) ∧
      (chosen ≠ 0 → (e.curMode l = 1 ∧ bitAt b 25 = false) ∨ (e.curMode l = 2 ∧ (chosen = 1 ∨ bitAt b 24 = false)) →
        exec (.hello l b) s = .next (s.after ((e.raise (curPage l) cCurModeRefused).linkEnterFault l))) ∧
      (chosen ≠ 0 → (e.curMode l = 1 → bitAt b 25 = true) → (e.curMode l = 2 → chosen ≠ 1 ∧ bitAt b 24 = true) →
        ∀ f, f = (e.lower (curPage l) fCurCurStatusRxPhase).lower (curPage l) fCurCurStatusTxPhase →
        exec (.hello l b) s = .next (s.after
          ((f.setLk l { f.lk l with peerReady := bitAt b 20 && fieldAt b 16 4 == chosen }).helloDone l)))) ∧
    (∀ first, (s.dev.lk l).peer = some first →
      (b &&& helloMask ≠ first &&& helloMask →
        exec (.hello l b) s = .next (s.after ((s.dev.raise (.txl l) cTxlProtocol).linkRetrainNow l))) ∧
      (b &&& helloMask = first &&& helloMask → bitAt b 20 = true →
        fieldAt b 16 4 = s.dev.rd (.txl l) fTxlLinkStatusVersion →
        exec (.hello l b) s = .next (s.after ((s.dev.setLk l { s.dev.lk l with peerReady := true }).helloDone l))))) ∧
  (∀ (s : State) (l : Fin 144) (b : BitVec 512), s.dev.linkState l = linkActive → s.dev.receives l = true → fieldAt b 0 4 = 4 →
    (s.dev.lk l).wait = false → (s.dev.lk l).count = (s.dev.lk l).expect →
    ∀ e, e = s.dev.setLk l { s.dev.lk l with expect := (s.dev.lk l).expect + 1, count := (s.dev.lk l).count + 1 } →
    ∀ first rest tag, (e.lk l).rxCover = first :: rest →
      tag = natLEn (coverTag (e.slotKey l (e.flag (curPage l) fCurCurStatusRxPhase))
        (BitVec.ofNat 10 (e.rd (.txl l) fTxlPeerNodeLoNode0)) (first :: rest)) →
      e.curMode l = 2 →
      ((e.cur l).stopped = true → exec (.tagFlit l b) s = .next (s.after
        (e.setLk l { e.lk l with stalled := (e.lk l).stalled ++ [(.ctrl, (s.dev.lk l).expect, b)] }))) ∧
      ((e.cur l).stopped = false →
        (fieldAt b 16 6 = rest.length + 1 → b.extractLsb' 24 64 = first.1 → fieldAt b 96 128 = tag →
          ∀ f g h, f = e.setLk l { e.lk l with rxCover := [], rxHeld := [], specs := [] } →
          g = ((e.lk l).specs.filter (·.owed)).foldl (fun (d : Device) p => d.injectRsp (.link l.val) 0 (specMarker p true)) f →
          h = (e.lk l).rxHeld.foldl (fun (d : Device) p => d.linkDeliver l p) g →
          exec (.tagFlit l b) s = .next (s.after (h.put (curPage l) fCurCurStatusRxPhase (bitAt b 8).toNat))) ∧
        (fieldAt b 16 6 ≠ rest.length + 1 ∨ b.extractLsb' 24 64 ≠ first.1 ∨ fieldAt b 96 128 ≠ tag →
          exec (.tagFlit l b) s = .next (s.after ((e.lk l).specs.foldl (fun d p => d.nameForged l p)
            ((((e.raise (curPage l) cCurLinkTagFail).count (curPage l) 6).curLog l 4 0 (fieldAt b 24 64)).linkEnterFault l))))))

/-- In ACTIVE: a replay timer replays, a NAK timer repeats the NAK, silence and a failed resume retrain; a quiet link with IDLE
enabled sends ENTER_IDLE and parks its lanes, and resumes by training flits on lanes whose precoder starts at 0; a class without
credits for its packet sets CREDIT_STALL. A refused sleep is asked for again. PM_CTRL.SLEEP of a link that is active or comes up
is remembered, WAKE forgets it and wakes a sleeping link, RETRAIN retrains an active one. (R237, R236, R238, R246, R241, R247,
R248) -/
def Obligations.LinkTimersAndRequests : Prop :=
  ∀ (s : State) (l : Fin 144),
    (s.dev.linkState l = linkActive →
      ((s.dev.lk l).retry ≠ [] → s.dev.flag (.txl l) fTxlLinkStatusTxIdle = false →
        exec (.replayTimeout l) s = .next (s.after (s.dev.linkReplay l))) ∧
      ((s.dev.lk l).wait = true → exec (.nakRepeat l) s = .next (s.after (s.dev.setLk l { s.dev.lk l with oweNak := true }))) ∧
      (s.dev.flag (.txl l) fTxlLinkStatusRxIdle = false → exec (.rxSilence l) s = .next (s.after (s.dev.linkRetrainNow l))) ∧
      (s.dev.flag (.txl l) fTxlLinkStatusRxIdle = true → exec (.resumeTrainTimeout l) s = .next (s.after (s.dev.linkRetrainNow l))) ∧
      (s.dev.eff (.txl l) fTxlLlCfgIdleEn = 1 → (s.dev.lk l).quiet = true → (s.dev.lk l).settled = true → (s.dev.lk l).owePm = 0 →
        (s.dev.lk l).oweNak = false → s.dev.flag (.txl l) fTxlLinkStatusTxIdle = false → s.dev.rd (.txl l) fTxlPhyTxMode = phyData →
        exec (.idleEnter l) s = .next (s.after
          ((((s.dev.setLk l { s.dev.lk l with owePm := 1, pmSent := false }).sendLink l false).raise (.txl l) fTxlLinkStatusTxIdle).put
            (.txl l) fTxlPhyTxMode phyParked))) ∧
      (s.dev.flag (.txl l) fTxlLinkStatusTxIdle = true →
        ∀ d, d = s.dev.setLk l { s.dev.lk l with precode := [0, 0, 0, 0, 0] } →
        exec (.idleResume l) s = .next (s.after ((((((List.range 16).foldl (fun d _ => d.sendResume l false) d).sendResume l
          true).lower (.txl l) fTxlLinkStatusTxIdle).put (.txl l) fTxlPhyTxMode phyData).sendLink l false))) ∧
      (∀ (c : Fin 4) q, (s.dev.lk l).headOf c.val = some q →
        (classField (s.dev.lk l).credits c.val < flitCount q.pkt.payload.length →
          exec (.creditStall l c) s = .next (s.after ((s.dev.raise (.txl l) cTxlCreditStall).count (.txl l) 7))) ∧
        (flitCount q.pkt.payload.length ≤ classField (s.dev.lk l).credits c.val →
          exec (.creditStall l c) s = .next (s.after s.dev)))) ∧
    ((s.dev.lk l).sleepRepeat = true →
      exec (.sleepRetry l) s = .next (s.after (s.dev.setLk l { s.dev.lk l with sleepRepeat := false, sleepWanted := true }))) ∧
    (∀ rq, s.dev.takes rq (.txl l) (.txl l) →
      (s.dev.linkState l ∈ [linkActive, linkRetrain, linkTraining, linkHello] →
        exec (.pmCtrlSleep rq l) s = .next (s.after (s.dev.setLk l { s.dev.lk l with sleepWanted := true }))) ∧
      (s.dev.linkState l ∉ [linkActive, linkRetrain, linkTraining, linkHello] → exec (.pmCtrlSleep rq l) s = .next (s.after s.dev)) ∧
      (s.dev.linkState l = linkActive →
        exec (.pmCtrlRetrain rq l) s = .next (s.after (s.dev.linkRetrainNow l))) ∧
      (∀ d, d = s.dev.setLk l { s.dev.lk l with sleepWanted := false, sleepRepeat := false } →
        (d.linkState l = linkSleep → (d.lk l).sleepAfterAbort = false →
          exec (.pmCtrlWake rq l) s = .next (s.after (d.startTraining l linkTraining true true))) ∧
        (d.linkState l ≠ linkSleep → exec (.pmCtrlWake rq l) s = .next (s.after d))))

/-- Packets on their way to the link move first. A slot of a training transmitter sends TRAIN, or TRAIN_END once both receivers
are aligned and 1,024 flits are out, which ends a clock swap; a transmitter in data whose own receiver still trains sends LINK;
in HELLO it sends HELLO; a parked one sends nothing. In ACTIVE, with no sleep asked for, it sends a LINK flit where one is owed
or 31 flits have gone without one, then the replay, then the packet under way, then the next granted packet (an atomic that the
version has not is dropped), with a TAG flit before it where the cover is full or the flits would not fit behind it, and where
nothing is granted the TAG of an open cover or a LINK flit; a stopped engine sends LINK flits only. (R234) -/
def Obligations.FlitSlotsSend : Prop :=
  ∀ (s : State) (l : Fin 144) (c : Device), ((s.dev.mesh.any fun f => f.dst == .link l.val) = false → c = s.dev) →
    ((s.dev.mesh.any fun f => f.dst == .link l.val) = true → c = s.dev.meshRun) →
    (c.rd (.txl l) fTxlPhyTxMode = phyTraining → c.linkState l = linkTraining ∨ c.linkState l = linkRetrain →
      (c.flag (.txl l) fTxlPhyRxAligned = true → (c.lk l).report.getLsbD 0 = true → 1024 ≤ (c.lk l).trainSent →
        ∀ d e, d = (c.sendTraining l true).put (.txl l) fTxlPhyTxMode phyData → ((c.lk l).clkSwapTx = false → e = d) →
        ((c.lk l).clkSwapTx = true →
          e = ((d.setLk l { d.lk l with clkSwapTx := false }).raise (.txl l) cTxlClkSwapped).count (.txl l) 1) →
        exec (.flitSlot l) s = .next (s.after (e.linkAdvance l))) ∧
      (c.flag (.txl l) fTxlPhyRxAligned = false ∨ (c.lk l).report.getLsbD 0 = false ∨ (c.lk l).trainSent < 1024 →
        exec (.flitSlot l) s = .next (s.after (c.sendTraining l false)))) ∧
    (c.rd (.txl l) fTxlPhyTxMode = phyData → c.linkState l = linkHello → (c.lk l).oweRetrain = 0 →
      (c.lk l).swapReq = none → (c.lk l).oweDone = 0 →
      ∀ d, d = c.sendFlit l .ctrl (c.helloBody l) →
      exec (.flitSlot l) s = .next (s.after ((d.setLk l { d.lk l with
        seenSent := if (c.lk l).peer.isSome then (c.lk l).seenSent + 1 else (c.lk l).seenSent }).helloDone l))) ∧
    -- in data mode while this side's receiver still trains: LINK flits
    (∀ d, c.rd (.txl l) fTxlPhyTxMode = phyData → c.linkState l = linkTraining ∨ c.linkState l = linkRetrain →
      ((c.lk l).noHello = false → d = c.setLk l (c.lk l)) →
      ((c.lk l).noHello = true → d = c.setLk l { c.lk l with
        oweReplay := true, replayAt := if (c.lk l).retry.isEmpty then none else some 0 }) →
      exec (.flitSlot l) s = .next (s.after (d.sendLink l false))) ∧
    -- parked, as in IDLE: nothing
    (c.rd (.txl l) fTxlPhyTxMode = phyParked → exec (.flitSlot l) s = .next (s.after c)) ∧
    (c.rd (.txl l) fTxlPhyTxMode = phyData → c.linkState l = linkActive → (c.lk l).sleepWanted = false →
      ∀ d, ((c.lk l).txCover = [] → d = c.setLk l (c.lk l)) →
        ((c.lk l).txCover ≠ [] → d = c.setLk l { c.lk l with txCoverAge := (c.lk l).txCoverAge + 1 }) →
      ((c.lk l).oweNak = true ∨ (c.lk l).oweReplay = true ∨ 31 ≤ (c.lk l).sinceLink →
        exec (.flitSlot l) s = .next (s.after (d.sendLink l false))) ∧
      ((c.lk l).owesLink = false → (c.lk l).sinceLink < 31 →
        (∀ i h, (c.lk l).replayAt = some i → (c.lk l).retry[i]? = some h → ∀ e,
          e = d.setLk l { d.lk l with replayAt := if i + 1 < (d.lk l).retry.length then some (i + 1) else none } →
          (d.lk l).retry[i]? = some h → exec (.flitSlot l) s = .next (s.after (e.sendFlit l h.kind h.body))) ∧
        ((c.lk l).replayAt = none →
          ((d.cur l).stopped = true → exec (.flitSlot l) s = .next (s.after (d.sendLink l false))) ∧
          ((d.cur l).stopped = false → (d.lk l).cur ≠ [] → exec (.flitSlot l) s = .next (s.after (d.sendPacketFlit l))) ∧
          ((d.cur l).stopped = false → (d.lk l).cur = [] →
            ((d.lk l).sleepSent = true ∨ d.egressGrant l = none →
              ((d.lk l).txCover = [] → exec (.flitSlot l) s = .next (s.after (d.sendLink l false))) ∧
              ((d.lk l).txCover ≠ [] → exec (.flitSlot l) s = .next (s.after (d.sendTag l)))) ∧
            (∀ q, (d.lk l).sleepSent = false → d.egressGrant l = some q →
              (d.atomicRefused l q.pkt = true → exec (.flitSlot l) s = .next (s.after ((d.dropAtomic l q).sendLink l false))) ∧
              (d.atomicRefused l q.pkt = false →
                ((d.lk l).tagFirst (roomOf q.pkt) = true → exec (.flitSlot l) s = .next (s.after (d.sendTag l))) ∧
                ((d.lk l).tagFirst (roomOf q.pkt) = false →
                  (d.lk l).retry.length + roomOf q.pkt + (d.curMode l == 2).toNat ≤ 64 →
                  exec (.flitSlot l) s = .next (s.after ((d.startPacket l q).sendPacketFlit l)))))))))

/-- INIT begins the initialisation of a valid window and its end writes the encryption of zeros, and the tags, of every page of
it; a release frees a quarantine entry and poisons its line where asked; ROLL begins a rotation where the other slot is loaded,
in link mode by changing the phase and in memory mode by a sweep of the valid windows, and does nothing while one runs, without
the other key or in mode OFF; its end, when the sweep is done or both phases have changed, makes that slot current and erases
the old key. (R260, R267, R277) -/
def Obligations.WindowsAndKeys : Prop :=
  ∀ (s : State) (n : Fin 144),
    (∀ rq, s.dev.takes rq (curPage n) (curPage n) →
      (∀ (w : Fin 4) v, s.dev.window n w.val = some v → (s.dev.cur n).init = none →
        exec (.init rq n w) s = .next (s.after
          ((s.dev.setCur n { s.dev.cur n with init := some w.val }).raise (curPage n) fCurCurStatusInitBusy))) ∧
      (∀ (i : Fin 32) w line d, sget (fun _ => none) (s.dev.cur n).quar i.val = some (w, line) →
        d = s.dev.setCur n { s.dev.cur n with quar := sset (fun _ => none) (s.dev.cur n).quar i.val none } →
        exec (.quarRelease rq n i false) s = .next (s.after (d.curPump n))) ∧
      (∀ (i : Fin 32) w line v d, sget (fun _ => none) (s.dev.cur n).quar i.val = some (w, line) → s.dev.window n w = some v →
        d = (s.dev.curPoison n w v line).curIssue n 16 →
        exec (.quarRelease rq n i true) s = .next (s.after
          ((d.setCur n { d.cur n with quar := sset (fun _ => none) (d.cur n).quar i.val none }).curPump n))) ∧
      (s.dev.flag (curPage n) fCurCurStatusRollBusy = false → (s.dev.cur n).slotLoaded (!s.dev.curCurrent n) = true →
        ∀ d, d = s.dev.raise (curPage n) fCurCurStatusRollBusy → s.dev.curMode n = 2 → d.curMode n = 2 →
        exec (.roll rq n) s = .next (s.after d)) ∧
      (s.dev.flag (curPage n) fCurCurStatusRollBusy = false → (s.dev.cur n).slotLoaded (!s.dev.curCurrent n) = true →
        ∀ d w, d = s.dev.raise (curPage n) fCurCurStatusRollBusy → s.dev.curMode n = 1 → d.curMode n = 1 →
        (List.range 4).find? (fun w => (d.window n w).isSome) = some w →
        exec (.roll rq n) s = .next (s.after
          ((((d.put (curPage n) fCurSweepPtrWindow w).put (curPage n) fCurSweepPtrPage 0).setCur n
            { s.dev.cur n with swept := false }).curAdvance n))) ∧
      (s.dev.flag (curPage n) fCurCurStatusRollBusy = true ∨ (s.dev.cur n).slotLoaded (!s.dev.curCurrent n) = false ∨
          s.dev.curMode n = 0 →
        exec (.roll rq n) s = .next (s.after s.dev))) ∧
    (∀ w v key, (s.dev.cur n).init = some w → s.dev.window n w = some v → key = s.dev.slotKey n (s.dev.curCurrent n) →
      ∀ d e, d = s.dev.setCur n { s.dev.cur n with init := none, ctrs := sclear (fun k => k / 2 ^ 28 == w) (s.dev.cur n).ctrs
                                                   tags := sclear (fun k => k / 2 ^ 31 == w) (s.dev.cur n).tags } →
      e = (d.lower (curPage n) fCurCurStatusInitBusy).raise (curPage n) cCurInitDone →
      exec (.initDone n) s = .next (s.after ((e.emit (.windowInit n.val v.node
        ((List.range v.pages).flatMap fun page => initPage key w v page))).curPump n))) ∧
    (s.dev.flag (curPage n) fCurCurStatusRollBusy = true →
      (s.dev.curMode n = 1 ∧ (s.dev.cur n).swept = true ∧ (s.dev.cur n).reenc = none ∨
        s.dev.curMode n ≠ 1 ∧ s.dev.flag (curPage n) fCurCurStatusTxPhase = !s.dev.curCurrent n ∧
          s.dev.flag (curPage n) fCurCurStatusRxPhase = !s.dev.curCurrent n) →
      ∀ c, c = { s.dev.cur n with key0 := if s.dev.curCurrent n then (s.dev.cur n).key0 else none
                                  key1 := if s.dev.curCurrent n then none else (s.dev.cur n).key1
                                  swept := false } →
      exec (.rollDone n) s = .next (s.after
        ((((s.dev.setCur n c).put (curPage n) fCurCurStatusCurrent (!s.dev.curCurrent n).toNat).lower (curPage n)
          fCurCurStatusRollBusy).raise (curPage n) cCurRollDone)))

/-- A fetched block enters its cache and the accesses that waited go on; a fetch that failed sets its cause, is logged and
refuses the accesses of its page; a tag check ends with VERIFY_OK or VERIFY_FAIL; a page re-encryption whose lines the partner
has all acknowledged ends with the write that set it off, and a sweep goes on to its next page, and until then, or where the row
names another page, nothing ends; a partial write whose lines were read writes them back merged, answers once they are
acknowledged, and where a line it read fails its tag counts, logs, poisons the line and ends in CRYPTO_FAIL, which a posted
write counts as dropped. (R263, R265, R266) -/
def Obligations.ProtectedAccessesFinish : Prop :=
  ∀ (s : State) (n : Fin 144),
    -- a block of counters or of tags enters its cache
    (∀ job bs rest c, (s.dev.cur n).fetched = (job, some bs) :: rest →
      c = { s.dev.cur n with fetched := rest, fetching := (s.dev.cur n).fetching.erase job } →
      ∀ d e, d = s.dev.setCur n c →
      (∃ w page, job = .counter w page ∧ e = d.setCur n ((d.cur n).setCtr w page (ctrOfBytes bs))) ∨
      (∃ w t, job = .tags w t ∧ e = d.setCur n ((d.cur n).setTagLine w t { bytes := bs, dirty := false, saving := false, leaving := false })) →
      (e.cur n).poisonq = [] → ∀ f, f = e.setCur n { e.cur n with poisonq := [] } →
      exec (.cacheFetchDone n) s = .next (s.after (((f.curArrived n).curPump n).curEvict n))) ∧
    -- a fetch has failed
    (∀ w page rest d e, (s.dev.cur n).fetched = (.counter w page, none) :: rest →
      d = s.dev.setCur n { s.dev.cur n with fetched := rest, fetching := (s.dev.cur n).fetching.erase (.counter w page) } →
      e = ((d.raise (curPage n) cCurFetchError).curLog n 5 w (d.windowLine n w + page * 64)).curRefuse n w
        (fun v line => v.pageOfLine line == page) →
      (e.cur n).poisonq = [] → ∀ f, f = e.setCur n { e.cur n with poisonq := [] } →
      exec (.cacheFetchDone n) s = .next (s.after (((f.curArrived n).curPump n).curEvict n))) ∧
    -- the oldest tag check finishes
    (∀ k rest d, (s.dev.cur n).stopped = false → (s.dev.cur n).checks = k :: rest → d = s.dev.setCur n { s.dev.cur n with checks := rest } →
      ∀ bad ok, bad = k.results.filter (fun x => !x.2.2) → ok = bad.isEmpty →
      exec (.tagCheckDone n) s = .next (s.after (((bad.foldl (fun d x => d.curReadFail n x.1 x.2.1) d).injectRsp k.edge 0
        (sealHeader { dst := k.dst, src := k.src, cls := 1, op := if ok then 0x38 else 0x39, len := 0, tag := k.tag
                      laddr := BitVec.ofNat 54 (if ok then stOk else stCrypto), ord := false, prio := 0, ch := false, v := true
                      lock := false, rsv := 0, hcrc := 0, payload := [], flits := 1 })).curPump n))) ∧
    -- the page under re-encryption is written: the write that set it off follows, and a sweep goes on to its next page
    (∀ r v slot d e f, (s.dev.cur n).reenc = some r → s.dev.window n r.window = some v →
      r.writing = true → r.left = [] → r.writes = [] → (s.dev.cur n).stopped = false →
      slot = s.dev.reencSlot n r.window r.page →
      d = (s.dev.count (curPage n) 3).setCur n { s.dev.cur n with reenc := none } →
      (r.trigger = none → e = d) → (∀ q own, r.trigger = some (q, own) → e = d.reencTrigger n slot r.window v q own) →
      (s.dev.atSweep n r.window r.page = true → f = e.sweepNext n) → (s.dev.atSweep n r.window r.page = false → f = e) →
      exec (.reencryptDone n r.page) s = .next (s.after (f.curPump n))) ∧
    -- until the partner has acknowledged every line it goes on
    (∀ r page, (s.dev.cur n).reenc = some r → r.page ≠ page ∨ r.writing = false ∨ r.left ≠ [] ∨ r.writes ≠ [] →
      exec (.reencryptDone n page) s = .next (s.after s.dev)) ∧
    -- the written lines of a partial write have been acknowledged, or its reads refused
    (∀ r v d, (s.dev.cur n).rmw = some r → s.dev.window n r.window = some v → (s.dev.cur n).stopped = false →
      r.left = 0 → (r.writing = true ∨ r.status ≠ 0) → d = s.dev.setCur n { s.dev.cur n with rmw := none } →
      exec (.partialWriteDone n) s = .next (s.after
        ((if r.req.pkt.cls = 2 then (if r.status = 0 then d else d.postedDrop) else d.answerAt r.req.edge r.req.pkt r.status).curPump
          n))) ∧
    -- the lines of a partial write have been read: one fails its tag, or all are merged and written back
    (∀ r v opened bad, (s.dev.cur n).rmw = some r → s.dev.window n r.window = some v → (s.dev.cur n).stopped = false →
      r.left = 0 → r.writing = false → r.status = 0 → opened = (r.got.map fun x => (x.1, s.dev.curOpen n r.window v x.1 x.2)) →
      bad = opened.filter (fun x => !x.2.2) →
      (bad = [] → exec (.partialWriteDone n) s = .next (s.after (s.dev.rmwWriteBack n r v (r.merged opened)))) ∧
      (bad ≠ [] →
        ∀ d e f, d = bad.foldl (fun d x => ((d.count (curPage n) 0).curLog n 2 r.window x.1).curPoison n r.window v x.1) s.dev →
        e = (d.raise (curPage n) cCurWriteFail).count (curPage n) 1 → f = e.setCur n { e.cur n with rmw := none } →
        (r.req.pkt.cls ≠ 2 →
          exec (.partialWriteDone n) s = .next (s.after ((f.answerAt r.req.edge r.req.pkt stCrypto).curPump n))) ∧
        (r.req.pkt.cls = 2 → exec (.partialWriteDone n) s = .next (s.after (f.postedDrop.curPump n)))))

/-- An engine that disagrees stops and its group’s spare takes over; without a spare ENGINE_LOST is set, the link is fenced,
what was posted is counted as dropped and the device goes to FAULT_HOLD with cause 5; a takeover that is done restarts the
engine, in link mode with a replay of what the partner has not acknowledged, and the flits and accesses that waited go on; a
self-test returns an engine or marks it failed; a spare that fails its test sets SPARE_FAULT. (R281, R282) -/
def Obligations.EnginesFailOver : Prop :=
  (∀ (s : State) (n : Fin 144), (s.dev.cur n).stopped = false →
    ∀ d e, d = s.dev.setCur n { s.dev.cur n with stopped := true } →
    e = d.setEngine (s.dev.rd (curPage n) fCurCurStatusEngine) 1 →
      (∀ x, e.spareOf (engineGroup n.val) = some x → exec (.aesParityFail n) s = .next (s.after e)) ∧
      (e.spareOf (engineGroup n.val) = none →
        ∀ f g, f = ((e.raise (curPage n) cCurEngineLost).put (curPage n) fCurShutterState shutterClosed).linkExpire n →
        g = (f.setCur n (f.cur n).fenced).setLk n { (f.setCur n (f.cur n).fenced).lk n with cur := [] } →
        exec (.aesParityFail n) s = .next (s.after ((g.postedDrops (f.cur n).postedLost).signal (.faultHold 5))))) ∧
  (∀ (s : State) (n : Fin 144) (x : Nat), (s.dev.cur n).stopped = true → s.dev.spareOf (engineGroup n.val) = some x →
    ∀ d e f, d = (s.dev.put (curPage n) fCurCurStatusEngine x).setCur n { s.dev.cur n with stopped := false } →
    e = (d.raise (curPage n) cCurTakeover).count (curPage n) 7 →
    (e.curMode n = 2 ∧ (e.lk n).retry ≠ [] → f = e.setLk n { e.lk n with replayAt := some 0, oweReplay := true }) →
    (¬ (e.curMode n = 2 ∧ (e.lk n).retry ≠ []) → f = e) →
    exec (.takeoverDone n) s = .next (s.after (((f.unstall n).curArrived n).curPump n))) ∧
  (∀ (s : State) (e : Fin 156) (pass : Bool), sget (fun _ => 0) s.dev.engines e.val = 1 →
    exec (.engineSelfTestDone e pass) s = .next (s.after (s.dev.setEngine e.val (if pass then 0 else 2)))) ∧
  (∀ (s : State) (g : Fin 12),
    exec (.spareSelfTest g true) s = .next (s.after s.dev) ∧
    (∀ e, s.dev.spareOf g.val = some e → exec (.spareSelfTest g false) s =
      .next (s.after ((s.dev.raise (.cur (Fin.ofNat 156 (144 + g.val))) cCurSpareFault).setEngine e 2))) ∧
    (s.dev.spareOf g.val = none → exec (.spareSelfTest g false) s = .next (s.after s.dev)))

/-- SYNC is taken where it is found. A HEADER is taken, or aborts with RECORD_BAD, HEADER or MODE; a taken header of each class
goes on to the broadcast, the key wraps or the body, and a sealed one aborts with KEY where its slot is empty and with OVERUSE
above 2^26 bytes. BROADCAST forwards to its peers; a KEY_WRAP is kept, and the last one gives the stream key; a segment that
opens adds its plaintext and one that does not counts and aborts with AUTH. PAD and skippable records are taken; FRAME_ADDR sets
the address; CRC_CHECK goes on or aborts with CRC; START_SEQ sets the order or aborts with RECORD_BAD; KEY_ROLL sets the next
key; SUBSTRATE_TABLE loads its range or aborts. (R290, R291, R299, R294, R293, R288, R300, R304, R303, R295, R302) -/
def Obligations.StreamRecordsAreTaken : Prop :=
  ∀ (s : State),
    (∀ o rest, s.dev.load.phase = .sync → syncSearch 1025 s.dev.load.offset s.dev.load.buf = (o, rest, some true) →
      ∀ d t, d = (s.dev.takeBytes (s.dev.load.buf.length - rest.length)).2 →
        t = (d.setLoad { d.load with offset := o }).takeBytes 8 →
        exec .sync s = .next (s.after ((t.2.setLoad { t.2.load with phase := .header, prologue := t.1 }).loadStep))) ∧
    (∀ t, s.dev.load.phase = .header → 36 ≤ s.dev.load.buf.length → t = s.dev.takeBytes 36 →
      (wordAt t.1 0 ≠ 0x01000008 → exec .header s = .next (s.after (t.2.loadAbort abRecord))) ∧
      (wordAt t.1 0 = 0x01000008 → hdrAccepted stepping t.1 = false → exec .header s = .next (s.after (t.2.loadAbort abHeader))) ∧
      (∀ h d, wordAt t.1 0 = 0x01000008 → hdrAccepted stepping t.1 = true → h = hdrOf t.1 →
        d = (t.2.put .cfg fCfgLoadStatusKind h.kind).put .cfg fCfgLoadStatusClass h.cls →
        (d.kindAllowed h.kind = false → exec .header s = .next (s.after (d.loadAbort abMode))) ∧
        (∀ d1 e, d.kindAllowed h.kind = true →
          d1 = d.setLoad { d.load with hdr := some h, head := t.1, prologue := d.load.prologue ++ t.1 } →
          e = (if h.kind = 0 then d1.enterLoad else d1) →
          (∀ k, h.cls = 2 → e.sealedKey h.slot = some k → h.bodyBytes ≤ 2 ^ 26 →
            exec .header s = .next (s.after ((e.setLoad { e.load with key := some k, phase := .body }).loadStep))) ∧
          (h.cls = 2 → e.sealedKey h.slot = none → h.bodyBytes ≤ 2 ^ 26 →
            exec .header s = .next (s.after (((e.raise .keys cKeysSealEmpty).count .keys 3).loadAbort abKey))) ∧
          (h.cls = 2 → 2 ^ 26 < h.bodyBytes → exec .header s = .next (s.after (e.loadAbort abOveruse))) ∧
          (h.cls ≠ 2 → h.broadcast = true → exec .header s = .next (s.after (e.setLoad { e.load with phase := .broadcast }))) ∧
          (h.cls = 1 → h.broadcast = false → exec .header s = .next (s.after (e.setLoad { e.load with phase := .wraps }))) ∧
          (h.cls ≠ 2 → h.cls ≠ 1 → h.broadcast = false →
            exec .header s = .next (s.after ((e.setLoad { e.load with phase := .body }).loadStep)))))) ∧
    (∀ head len t w0 n self ws, s.dev.load.phase = .broadcast → 4 ≤ s.dev.load.buf.length → head = wordAt s.dev.load.buf 0 →
      len = head % 2 ^ 24 → head / 2 ^ 24 = 0x09 → 2 ≤ len → len ≤ 16 → 4 + 4 * len ≤ s.dev.load.buf.length →
      t = s.dev.takeBytes (4 + 4 * len) → w0 = wordAt t.1 1 → n = w0 % 16 → self = w0.testBit 8 →
      ws = (List.range n).map (fun i => wordAt t.1 (2 + i)) → n ≠ 0 → len = 1 + n →
      (s.dev.load.hdr.map (·.wraps)) = some (n + self.toNat) → (∀ w ∈ ws, w % 256 ≤ 143) → s.dev.load.src ≠ 4 →
      exec .broadcast s = .next (s.after (t.2.setLoad { t.2.load with
        prologue := s.dev.load.prologue ++ t.1, relay := !self, phase := .wraps
        peers := ws.map fun w => { link := w % 256, node := BitVec.ofNat 10 (natBits w 8 10)
                                   bytes := s.dev.load.prologue ++ t.1, stopped := false : Peer } }).loadStep)) ∧
    (∀ t wraps d, s.dev.load.phase = .wraps → 52 ≤ s.dev.load.buf.length → t = s.dev.takeBytes 52 →
      wraps = s.dev.load.wraps ++ [t.1.drop 4] → d = t.2.setLoad { t.2.load with wraps := wraps, prologue := s.dev.load.prologue ++ t.1 } →
      (wordAt t.1 0 ≠ 0x0300000C → exec .keyWrap s = .next (s.after (t.2.loadAbort abRecord))) ∧
      (wordAt t.1 0 = 0x0300000C → some wraps.length ≠ s.dev.load.hdr.map (·.wraps) → exec .keyWrap s = .next (s.after d)) ∧
      (∀ k, wordAt t.1 0 = 0x0300000C → some wraps.length = s.dev.load.hdr.map (·.wraps) → s.dev.load.relay = false →
        streamKey dieSerial Config.dieKey wraps = some k →
        exec .keyWrap s = .next (s.after (d.setLoad { d.load with key := some k, phase := .body }).loadStep))) ∧
    (∀ h n t l k, s.dev.load.phase = .body → s.dev.load.hdr = some h → h.cls ≠ 0 → s.dev.load.verified < h.bodyBytes →
      s.dev.load.ready = false → s.dev.load.relay = false → s.dev.load.nextKey = none →
      keyOverused h s.dev.load.keyUsed s.dev.load.seg = false → n = segBytes h s.dev.load.seg → n + 16 ≤ s.dev.load.buf.length →
      t = s.dev.takeBytes (n + 16) → l = { t.2.load with seg := s.dev.load.seg + 1, verified := s.dev.load.verified + n } →
      l.relay = false → l.key = some k →
      ∀ res, openSegment k h (l.seg - 1) (if l.seg = 1 then l.prologue else l.head) (t.1.take n) (t.1.drop n) = res →
      (res = none → exec .segmentVerify s = .next (s.after ((t.2.count .cfg 2).loadAbort abAuth))) ∧
      (∀ plain, res = some plain → exec .segmentVerify s =
        .next (s.after (t.2.setLoad { l with body := l.body ++ plain, keyUsed := l.keyUsed + n }).loadStep))) ∧
    (∀ body d, s.dev.takeRecord rtPad = some (body, d) → exec .pad s = .next (s.after d.loadStep)) ∧
    (∀ t len body d, s.dev.load.next = some (t, len) → 128 ≤ t → s.dev.takeRecord t = some (body, d) →
      exec .skippableRecord s = .next (s.after d.loadStep)) ∧
    (∀ body d, s.dev.takeRecord rtFrameAddr = some (body, d) →
      exec .frameAddr s = .next (s.after (d.setLoad { d.load with addr := some (wordAt body 0) }).loadStep)) ∧
    (∀ body d, s.dev.takeRecord rtCrcCheck = some (body, d) →
      (wordAt body 0 = crcValue d.load.crc → exec .crcCheck s = .next (s.after d.loadStep)) ∧
      (wordAt body 0 ≠ crcValue d.load.crc → exec .crcCheck s = .next (s.after (d.loadAbort abCrc)))) ∧
    (∀ body d, s.dev.takeRecord rtStartSeq = some (body, d) →
      (stepsLegal (wordAt body 0) = true →
        exec .startSeq s = .next (s.after (d.setLoad { d.load with order := some (wordAt body 0) }).loadStep)) ∧
      (stepsLegal (wordAt body 0) = false → exec .startSeq s = .next (s.after (d.loadAbort abRecord)))) ∧
    (∀ body d h, s.dev.takeRecord rtKeyRoll = some (body, d) → s.dev.load.hdr = some h →
      ∀ stop, stop = (d.load.used + 2 ^ (h.segLog2 + 10) - 1) / 2 ^ (h.segLog2 + 10) * 2 ^ (h.segLog2 + 10) →
      exec .keyRoll s = .next (s.after (d.setLoad { d.load with
        nextKey := some (BitVec.ofNat 256 (natBE (body.map (·.toNat)))), rollEnd := stop }).loadStep)) ∧
    (∀ body d first count, s.dev.takeRecord rtSubstrate = some (body, d) → first = natBits (wordAt body 0) 0 8 →
      count = natBits (wordAt body 0) 8 8 →
      (body.length = 4 * (1 + 16 * count) → first + count ≤ 144 →
        exec .substrateTable s = .next (s.after (d.substrateTable first count (body.drop 4)).loadStep)) ∧
      (body.length ≠ 4 * (1 + 16 * count) ∨ 144 < first + count → exec .substrateTable s = .next (s.after (d.loadAbort abRecord))))

/-- WINDOW takes its bays out of service, or aborts with BUSY, also for a bay of a golden call; FRAME_DATA and FRAME_REPEAT run
their frames, and go on with those left; a repeat with nothing to repeat aborts; READBACK reads its frames out; END of a
complete load puts the written settings in force and starts start-up, ends a readback, or aborts with CRC. A frame of a bay
outside the window aborts, and one of a bay whose shutter is not closed waits. (R330, R300, R301, R305, R304) -/
def Obligations.FramesAndWindowsAreTaken : Prop :=
  (∀ (s : State) (h : StreamHdr), s.dev.load.hdr = some h →
    (∀ body d bays, s.dev.takeRecord rtWindow = some (body, d) → bays = windowBays body → bays ≠ [] →
      (∀ b ∈ bays, b < (if h.absolute then 112 else 104)) →
      (bays.any (fun b => d.windowBusy h.absolute b) = true →
        exec .window s = .next (s.after ((d.raise .cfg cCfgPrBusy).loadAbort abBusy))) ∧
      (((windowBody s.dev).load.window.getD []).any (fun p => s.dev.goldenCalls.contains p) = true →
        exec .window s = .next (s.after ((d.raise .cfg cCfgPrBusy).loadAbort abBusy))) ∧
      (∀ phys, bays.any (fun b => d.windowBusy h.absolute b) = false → s.dev.goldenCalls = [] →
        phys = bays.map (fun b => if h.absolute then b else (d.physOf (Fin.ofNat 104 b)).val) →
        exec .window s = .next (s.after (phys.foldl (fun (d : Device) (p : Nat) =>
          let pb := Fin.ofNat 112 p
          let d := if sget (fun _ => false) d.bayOff p then
            { d.newEpoch (.pbay pb) with bayOff := sset (fun _ => false) d.bayOff p false } else d
          let d := (d.raise (.pbay pb) fPbayBayCfgStateInPr).lower (.pbay pb) fPbayHingeStatusDrowsyGated
          if d.bayShutter pb = shutterOpen then d.put (.pbay pb) fPbayShutterState shutterClosing
          else if d.bayShutter pb = shutterClosed then d.windowShut pb
          else d) (d.setLoad { d.load with window := some phys })).loadStep))) ∧
    (s.dev.load.phase = .body → s.dev.load.relay = false → s.dev.load.framesLeft ≠ 0 →
      exec .frameData s = .next (s.after (Device.frameRun s.dev.load.framesLeft h s.dev).loadStep)) ∧
    (∀ len w count mode typ, s.dev.load.phase = .body → s.dev.load.relay = false → s.dev.load.framesLeft = 0 →
      s.dev.load.next = some (rtFrameData, len) → 8 ≤ s.dev.load.body.length → w = wordAt s.dev.load.body 1 →
      count = w % 2 ^ 16 → mode = natBits w 16 2 → typ = (s.dev.load.addr.map fun a => (frameAddrOf a).typ).getD 0 →
      count ≠ 0 → w / 2 ^ 18 = 0 → len = 1 + count * (if mode = 2 then 130 else 128) → mode ≠ 3 →
      (mode ≠ 0 → typ ≠ 1 ∧ typ ≠ 5) →
      exec .frameData s = .next (s.after (Device.frameRun count h (s.dev.setLoad { s.dev.load with
        body := s.dev.load.body.drop 8, used := s.dev.load.used + 8, framesLeft := count, essMode := mode
        started := true })).loadStep)) ∧
    (s.dev.load.repeatLeft ≠ 0 →
      exec .frameRepeat s = .next (s.after (Device.repeatRun s.dev.load.repeatLeft h s.dev).loadStep)) ∧
    (∀ body d count, s.dev.load.repeatLeft = 0 → s.dev.takeRecord rtFrameRepeat = some (body, d) → count = wordAt body 0 % 2 ^ 16 →
      (count ≠ 0 → d.load.last.isSome = true → exec .frameRepeat s =
        .next (s.after (Device.repeatRun count h (d.setLoad { d.load with repeatLeft := count })).loadStep)) ∧
      (count = 0 ∨ d.load.last = none → exec .frameRepeat s = .next (s.after (d.loadAbort abRecord)))) ∧
    (s.dev.load.readLeft ≠ 0 → exec .readback s =
      .next (s.after (Device.readbackPump 1024 (Device.readRun (s.dev.load.readLeft + 1) h s.dev)).loadStep)) ∧
    (∀ body d w count, s.dev.load.readLeft = 0 → s.dev.takeRecord rtReadback = some (body, d) → w = wordAt body 1 →
      count = w % 2 ^ 16 → count ≠ 0 → w / 2 ^ 17 = 0 →
      exec .readback s = .next (s.after (Device.readbackPump 1024 (Device.readRun (count + 1) h (d.setLoad { d.load with
        readLeft := count, readAddr := some (wordAt body 0), readDest := natLE ((body.drop 8).take 8)
        trailer := w.testBit 16 }))).loadStep)) ∧
    (∀ body d e, s.dev.takeRecord rtEnd = some (body, d) → undefinedBy s.dev e = none → h.bodyBytes ≤ d.load.verified →
      d.load.writesOut = 0 → d.load.writes = [] → padsOnly d.load.body.length d.load.body = true →
      (wordAt body 0 ≠ crcValue d.load.crc ∨ d.load.frames ≠ h.frames → e = d.loadAbort abCrc →
        exec .endRecord s = .next (s.after e)) ∧
      (wordAt body 0 = crcValue d.load.crc → d.load.frames = h.frames → h.kind = 2 → e = d.readbackEnd →
        exec .endRecord s = .next (s.after e)) ∧
      (∀ d1, wordAt body 0 = crcValue d.load.crc → d.load.frames = h.frames → h.kind ≠ 2 →
        d1 = (d.raise .cfg cCfgLoadDone).dropReads → e = (d1.putInForce d1.load.written).startSteps →
        exec .endRecord s = .next (s.after e)))) ∧
  (∀ (d : Device) (h : StreamHdr) (data : List DWord) (ess : DWord) (bits : Nat) (a : FrameAddr) (pb : Fin 112) (w : List Nat),
    d.load.addr = some bits → a = frameAddrOf bits → a.exists_ h.absolute = true → ¬ (a.typ = 4 ∧ a.major = shadowMajor) →
    a.typ ≠ 5 → pb = d.frameBay h a → d.load.window = some w →
    (w.contains pb.val = false → d.putFrame h data ess = (.abort abOutside, d)) ∧
    (w.contains pb.val = true → d.bayShutter pb ≠ shutterClosed → d.putFrame h data ess = (.wait, d)))

/-- LOAD_GO and STARTUP_GO do what their rules give; LOAD_GO with no source, a reserved one, a load or start-up under way, or
where the mode allows no load, only sets LOAD_BUSY. PUSH_TAIL moves the tail; while a load runs, pushed bytes stand in the
window, forwarded words, flash data and the oldest pull completion are delivered in order; a silent flash, one past its end and
a failed pull abort with SOURCE; a late bound load sets LOAD_LATE and aborts with LATE; the load limit, where it is not 0,
aborts an unbound one with LIMIT. (R313, R322, R310, R317, R312, R319, R311) -/
def Obligations.LoadsBeginAndAreFed : Prop :=
  (∀ (s : State) (rq : Requester) (e : Device), s.dev.takes rq .cfg .cfg → undefinedBy s.dev e = none →
    (e = s.dev.loadGo → exec (.loadGo rq) s = .next (s.after e)) ∧ (e = s.dev.startupGo → exec (.startupGo rq) s = .next (s.after e))) ∧
  (∀ (d : Device) (src : Nat), src = d.rd .cfg fCfgLoadSrcSource →
    (src = 0 ∨ 4 < src ∨ d.load.loading = true ∨ d.load.starting = true ∨ d.loadAllowed = false →
      d.loadGo = d.raise .cfg cCfgLoadBusy)) ∧
  (∀ (s : State) (rq : Requester) (w : Word), s.dev.takes rq .cfg .cfg →
    exec (.pushTail rq w) s = .next (s.after (s.dev.pushTail (bitsOf w 0 25)))) ∧
  (∀ (s : State), s.dev.load.loading = true →
    (∀ off bytes, s.dev.load.src = 1 → exec (.pushWrite off bytes) s = .next (s.after { s.dev with
      pushWindow := (List.zip (List.range bytes.length) bytes).foldl (fun m (e : Nat × Byte) =>
        sset (fun _ => 0) m ((off.toNat + e.1) % 2 ^ 24) e.2) s.dev.pushWindow })) ∧
    (∀ w, s.dev.load.src = 4 → exec (.fwdData w) s = .next (s.after (s.dev.deliver (bytesLE 4 w.toNat)))) ∧
    (s.dev.load.src = 3 →
      (∀ bytes, exec (.flashResponse (.data bytes)) s = .next (s.after (s.dev.deliver bytes))) ∧
      exec (.flashResponse .silent) s = .next (s.after (s.dev.loadAbort abSource)) ∧
      exec (.flashResponse .pastEnd) s = .next (s.after (s.dev.loadAbort abSource))) ∧
    (s.dev.load.bound = true → s.dev.rd .cfg fCfgDeadlineStatusDeadline ≠ 0 →
      exec .loadLate s = .next (s.after ((s.dev.raise .cfg cCfgLoadLate).loadAbort abLate))) ∧
    (s.dev.load.bound = false → s.dev.rd .cfg fCfgLoadLimitLimit ≠ 0 →
      exec .loadLimit s = .next (s.after (s.dev.loadAbort abLimit)))) ∧
  (∀ (s : State) (off t : Nat) (r : HostReq), s.dev.oldestPull = some (off, t, r) →
    (∀ bytes, bytes.length = r.len → exec (.pullCompletion .ok bytes) s = .next (s.after ((s.dev.setHostReq t none).deliver bytes))) ∧
    (∀ st bytes, st ≠ .ok → exec (.pullCompletion st bytes) s = .next (s.after ((s.dev.setHostReq t none).loadAbort abSource))))

/-- During start-up LOCK goes on where every pair that the region needs has locked and otherwise aborts; the release of the set-
reset clears the device’s or the region’s; writes are enabled in the region; outputs open the closed shutters of its logical
bays; LATCH_N is released, seen high, or times out. (R323, R326) -/
def Obligations.StartupRunsItsSteps : Prop :=
  ∀ (s : State), s.dev.load.starting = true → ∀ ok,
    ok = ([1, 2, 3, 4].all fun p => !s.dev.pairNeeded s.dev.load.region p || s.dev.flag .clk fClkSrcStatusLocked p) →
    (s.dev.step = stLock →
      (ok = true → exec .lock s = .next (s.after s.dev.nextStep)) ∧
      (ok = false → exec .lockFail s = .next (s.after (s.dev.loadAbort abLock)))) ∧
    (s.dev.step = stGsr →
      (s.dev.fullStartup = true → exec .releaseGsr s = .next (s.after (Device.nextStep { s.dev with gsr := false, bayReset := [] }))) ∧
      (s.dev.fullStartup = false → exec .releaseGsr s = .next (s.after (Device.nextStep { s.dev with
        bayReset := s.dev.load.region.foldl (fun m (p : Nat) => sset (fun _ => false) m p false) s.dev.bayReset })))) ∧
    (s.dev.step = stWrites → exec .enableWrites s = .next (s.after (Device.nextStep { s.dev with
      writesOn := s.dev.load.region.foldl (fun m (p : Nat) => sset (fun _ => false) m p true) s.dev.writesOn }))) ∧
    (∀ e, s.dev.step = stOutputs → undefinedBy s.dev e = none →
      e = (s.dev.load.region.foldl (fun (d : Device) (p : Nat) =>
        let pb := Fin.ofNat 112 p
        if (d.logicalOf pb).isSome ∧ d.bayShutter pb = shutterClosed then
          d.commitBeforeOpen.put (.pbay pb) fPbayShutterState shutterOpen
        else d) s.dev).nextStep →
      exec .releaseOutputs s = .next (s.after e)) ∧
    (s.dev.step = stLatch →
      exec .latch s = .next (s.after (s.dev.lower .cfg fCfgLatchDriving)) ∧
      (s.dev.flag .cfg fCfgLatchDriving = false → (s.dev.raise .cfg fCfgLatchLevel).step = stLatch →
        exec .latchNHigh s = .next (s.after (s.dev.raise .cfg fCfgLatchLevel).nextStep)) ∧
      (s.dev.flag .cfg fCfgLatchDriving = false → s.dev.rd .cfg fCfgLatchLimit ≠ 0 →
        exec .latchTimeout s = .next (s.after (s.dev.loadAbort abLatch))))

/-- Where the scrubber runs it starts a pass, reads the next frame that it does not exclude and ends the pass; a vote that is
corrected records the dissenter, sets VOTE_FIX and counts; a lost vote leaves the golden image empty, resets the scrubber’s
registers and begins again; INJECT of at most 72 bits acts as written; an upset flips one stored configuration bit. (R339, R342,
R347, R349, R367) -/
def Obligations.ScrubberCommands : Prop :=
  (∀ (s : State), s.dev.scrubRuns = true →
    (s.dev.scrubAt = none → exec .passStart s = .next (s.after { s.dev with scrubAt := some 0 })) ∧
    (∀ p, s.dev.scrubAt = some p →
      (Device.scrubFrom 113 s.dev (frameAddrOf p) = none → exec .scrubFrame s = .next (s.after s.dev.passEnd)) ∧
      (∀ a d, Device.scrubFrom 113 s.dev (frameAddrOf p) = some a → d = (s.dev.put .scrub fScrubScrubStatusBay a.bay).scrubAddr a →
        (passNext a = none → exec .scrubFrame s = .next (s.after d.passEnd)) ∧
        (∀ n, passNext a = some n → exec .scrubFrame s = .next (s.after { d with scrubAt := some n.bits }))))) ∧
  (∀ (s : State),
    (∀ c : Fin 3, exec (.voteFix c) s = .next (s.after
      (((s.dev.put .scrub fScrubVoteStatusDissent (2 ^ c.val)).raise .scrub cScrubVoteFix).count .scrub 1))) ∧
    (∀ d e, d = (((((s.dev.put .scrub fScrubVoteStatusDissent 7).raise .scrub cScrubVoteLost).put .scrub fScrubScrubCtrlPassGap
          0).put .scrub hdrEnable 1).put .scrub fScrubInjectAddrFrame 0).put .scrub fScrubInjectWord 0 →
      e = { (d.put .scrub fScrubInjectBit 0).rebuildMaps with golden := [], scrubAt := none } →
      exec .voteLost s = .next (s.after (if e.scrubRuns then { e with scrubAt := some 0 } else e)))) ∧
  (∀ (s : State) (rq : Requester) (w : Word) (e : Device), s.dev.takes rq .scrub .scrub → undefinedBy s.dev e = none → bitsOf (w ||| 0x80000000) 8 7 ≤ 72 →
    e = (s.dev.fieldsWrite .scrub fScrubInjectWord.off (w ||| 0x80000000) (fun _ => false)).injectGo →
    exec (.inject rq w) s = .next (s.after e)) ∧
  (∀ (s : State) (pb : Fin 112) (addr : Word) (col : Fin 66) (bit : Fin 73) (a : FrameAddr),
    a = { frameAddrOf addr.toNat with bay := pb.val } → storedAddr a = true → s.dev.fabricOn = true → (a.typ = 0 ∨ col.val < 64) →
    exec (.configUpset pb addr col bit) s =
      .next (s.after (s.dev.flipCfg pb (cfgKey pb.val a.typ a.major a.minor col.val) bit.val)))

/-- SUBMIT does what its rule gives. MIGRATE answers what it is judged, with NO_SPARE set where there is none, or begins the
migration to the free bay, reading its stream first where one is named; it answers INVALID for a bay that does not exist, and a
row that names another bay than the request changes nothing; RETIRE and SELF_TEST answer an invalid bay and otherwise retire at
once or begin the test, after the hold of an aliased page; LOAD_KEY answers FAILED for an empty seal and otherwise stores the
key; LOAD_SUBSTRATE answers INVALID for a bad range and otherwise reads 16 words a link, and at the end of the reads loads them,
or answers FAILED; GOLDEN reads its bytes and writes the frames judged, or answers FAILED; RESTORE of a failed engine makes it
good where its test passes and answers FAILED otherwise; RECORD_EXPORT writes the record and answers OK, or FAILED where a write
failed; RECORD_IMPORT is denied outside DOORWAY or to a mailbox other than 0, answers AUTH for bytes that are no record, and
otherwise applies it. A row that begins or ends LOAD_SUBSTRATE, GOLDEN or RECORD_EXPORT when that is not due changes nothing.
(R369, R358, R370, R354, R276, R346, R352) -/
def Obligations.WardenServices : Prop :=
  (∀ (s : State) (rq : Requester) (n : Fin 4), s.dev.takes rq (.warden n) (.warden n) →
    exec (.submit rq n) s = .next (s.after (s.dev.submitGo n))) ∧
  (∀ (s : State) (n : Fin 4) (ws : List Word),
    (s.dev.serviceReq n 1 = some ws → ∀ bay : Fin 128,
      (reqWord ws 1 % 128 ≠ bay.val → exec (.migrate n bay) s = .next (s.after s.dev)) ∧
      (reqWord ws 1 % 128 = bay.val → 104 ≤ bay.val → exec (.migrate n bay) s = .next (s.after (s.dev.respond n.val wsInvalid [])))) ∧
    (s.dev.serviceReq n 1 = some ws → ∀ (b : Fin 104) (bay : Fin 128), bay.val = b.val → reqWord ws 1 % 128 = b.val →
      (∀ st, s.dev.migJudge b = st → st ≠ wsOk → st ≠ wsNoSpare →
        exec (.migrate n bay) s = .next (s.after (s.dev.respond n.val st []))) ∧
      (s.dev.migJudge b = wsNoSpare →
        exec (.migrate n bay) s = .next (s.after ((s.dev.raise .repair cRepairNoSpare).respond n.val wsNoSpare []))) ∧
      (∀ p stream d, s.dev.migJudge b = wsOk → s.dev.freeBay (b.val / 13) = some p →
        stream = !(reqWord ws 2 == 0 && reqWord ws 3 == 0) →
        d = (s.dev.serviceWaits n).migStart b p { mbx := some n.val, stream := stream, golden := [], goldenStatus := wsOk, due := none
                                                  holding := none, cloned := 0, since := 0 } →
        (stream = false → exec (.migrate n bay) s = .next (s.after d)) ∧
        (stream = true → exec (.migrate n bay) s = .next (s.after (d.wardenBegin n false (reqAddr ws) (reqWord ws 4) []))))) ∧
    (s.dev.serviceReq n 2 = some ws →
      (∀ st, s.dev.bayRequest ws = .inl st → exec (.retire n) s = .next (s.after (s.dev.respond n.val st []))) ∧
      (∀ pb, s.dev.bayRequest ws = .inr pb →
        ((reqWord ws 1).testBit 8 = true → exec (.retire n) s = .next (s.after ((s.dev.retireBay pb false).respond n.val wsOk []))) ∧
        ((reqWord ws 1).testBit 8 = false →
          exec (.retire n) s = .next (s.after ((s.dev.serviceWaits n).startTest pb (.retireCall n.val)))))) ∧
    (s.dev.serviceReq n 3 = some ws →
      (∀ st, s.dev.bayRequest ws = .inl st → exec (.selfTest n) s = .next (s.after (s.dev.respond n.val st []))) ∧
      (∀ pb, s.dev.bayRequest ws = .inr pb → exec (.selfTest n) s =
        .next (s.after ((s.dev.serviceWaits n).startTest pb (.service n.val ((reqWord ws 1).testBit 8)))))) ∧
    (s.dev.serviceReq n 4 = some ws → (reqWord ws 1).testBit 12 = true → (reqWord ws 1).testBit 16 = false →
      4 ≤ reqWord ws 1 % 256 → reqWord ws 1 % 256 ≤ 11 → reqWord ws 2 ≤ 11 →
      (s.dev.sealedKey (reqWord ws 2) = none → exec (.loadKey n) s = .next (s.after (s.dev.keyOutcome n ws wsFailed 3 cKeysSealEmpty))) ∧
      (∀ k, s.dev.sealedKey (reqWord ws 2) = some k → exec (.loadKey n) s = .next (s.after
        (Device.keyOutcome { s.dev with keyRam := sset (fun _ => none) s.dev.keyRam (reqWord ws 1 % 256) (some k) }
          n ws wsOk 0 cKeysKeyLoaded)))) ∧
    (s.dev.serviceReq n 5 = some ws →
      (natBits (reqWord ws 1) 8 8 = 0 ∨ 144 < reqWord ws 1 % 256 + natBits (reqWord ws 1) 8 8 →
        exec (.loadSubstrate n false) s = .next (s.after (s.dev.respond n.val wsInvalid []))) ∧
      (natBits (reqWord ws 1) 8 8 ≠ 0 → reqWord ws 1 % 256 + natBits (reqWord ws 1) 8 8 ≤ 144 →
        exec (.loadSubstrate n false) s =
          .next (s.after (s.dev.wardenBegin n false (reqAddr ws) (64 * natBits (reqWord ws 1) 8 8) [])))) ∧
    (∀ j, s.dev.serviceDone n 5 = some (ws, j) →
      (j.result = none → exec (.loadSubstrate n true) s = .next (s.after (s.dev.respond n.val wsFailed []))) ∧
      (∀ bytes r, j.result = some bytes → r = s.dev.substrateService (reqWord ws 1 % 256) (natBits (reqWord ws 1) 8 8) bytes →
        exec (.loadSubstrate n true) s = .next (s.after (r.1.respond n.val wsOk [r.2])))) ∧
    (s.dev.serviceReq n 6 = some ws →
      exec (.golden n false) s = .next (s.after (s.dev.wardenBegin n false (reqAddr ws) (reqWord ws 4) []))) ∧
    (∀ j, s.dev.serviceDone n 6 = some (ws, j) →
      (j.result = none → exec (.golden n true) s = .next (s.after (s.dev.respond n.val wsFailed []))) ∧
      (∀ bytes g, j.result = some bytes → s.dev.goldenJudge bytes = g → exec (.golden n true) s = .next (s.after
        ((g.frames.foldl (fun (d : Device) (e : Nat × List DWord × DWord) => d.goldenWrite e.1 e.2.1 e.2.2) s.dev).respond n.val
          g.status [g.reason])))) ∧
    (s.dev.serviceReq n 7 = some ws → reqWord ws 1 % 16 = 3 → ∀ index, index = natBits (reqWord ws 1) 8 8 → index ≤ 155 →
      sget (fun _ => 0) s.dev.engines index = 2 →
      exec (.restore n true) s = .next (s.after (((s.dev.setEngine index 0).raise .repair cRepairRestored).respond n.val wsOk [])) ∧
      exec (.restore n false) s = .next (s.after (s.dev.respond n.val wsFailed []))) ∧
    (s.dev.serviceReq n 8 = some ws →
      exec (.recordExport n false) s = .next (s.after
        (s.dev.wardenBegin n true (reqAddr ws) 4096 ((List.range 4096).map (Config.recordByte s.dev.record))))) ∧
    (∀ j, s.dev.serviceDone n 8 = some (ws, j) →
      exec (.recordExport n true) s = .next (s.after (s.dev.respond n.val (if j.bad then wsFailed else wsOk) []))) ∧
    (∀ k, (k = 5 ∨ k = 6 ∨ k = 8) → ∀ i : Bool → Instr,
      (k = 5 → i = .loadSubstrate n) → (k = 6 → i = .golden n) → (k = 8 → i = .recordExport n) →
      (s.dev.serviceReq n k = some ws → exec (i true) s = .next (s.after s.dev)) ∧
      ∀ j, s.dev.serviceDone n k = some (ws, j) → exec (i false) s = .next (s.after s.dev)) ∧
    (s.dev.serviceReq n 9 = some ws →
      (n.val ≠ 0 ∨ s.dev.mode ≠ mDoorway → ∀ bytes, exec (.recordImport n bytes) s = .next (s.after (s.dev.respond n.val wsDenied []))) ∧
      (n.val = 0 → s.dev.mode = mDoorway → ∀ bs,
        (Config.recordOf bs = none → exec (.recordImport n (some bs)) s = .next (s.after (s.dev.respond n.val wsAuth []))) ∧
        (∀ r, Config.recordOf bs = some r → exec (.recordImport n (some bs)) s = .next (s.after
          ((Device.raise { s.dev.applyRecord r with recordPending := false } .repair fRepairRecordLoaded).respond n.val wsOk []))))))

/-- A clone that is done, once its stream has been read, copies what is left of the bay’s rows and its golden frames, puts the
settings in force and begins the mirror passes; before that it goes on waiting; a pass that ends has mirrored the rows written
and the next follows; a self-test that is due starts; a self-test of a migration’s target that passes records it and arms the
migration; a health update stores the readings and the score, sets HEALTH_LOW where the score falls below the limit, and applies
the policy; a retry in a row without a policy does nothing; a warden that resynchronises records the dissenter, sets
WARDEN_RESYNC and counts; a lost warden answers FAILED to every mailbox and leads to FAULT_HOLD with code 6. (R359, R360, R354,
R355, R357, R356) -/
def Obligations.RepairEvents : Prop :=
  (∀ (s : State) (row : Fin 8) (m : MigSt) (image : Bool) (src dst : Fin 112), s.dev.mig row.val = some m →
    src = s.dev.migSource row.val → dst = s.dev.migTarget row.val →
    (∀ left g c e, s.dev.migPhase row.val = 1 → s.dev.testOf dst = none → s.dev.streamReading m = false →
      g = s.dev.migrateStream row.val (s.dev.rd .repair fRepairMigStateLogical row.val) m →
      c = s.dev.setMig row.val (some { m with stream := false, golden := g.frames, goldenStatus := g.status }) →
      e = g.frames.foldl (fun (d : Device) (e : Nat × List DWord × DWord) =>
          d.writeFrame dst (frameAddrOf e.1).typ (frameAddrOf e.1).major (frameAddrOf e.1).minor e.2.1 e.2.2)
        (c.cloneRest src dst m.cloned ((c.dirtyRows src).filter fun i => left.contains i)) →
      exec (.cloneDone row (left, image)) s = .next (s.after
        (((e.applySettings dst).put .repair fRepairMigStatePhase 2 row.val).passOver row.val image))) ∧
    (∀ left, s.dev.migPhase row.val = 1 → s.dev.streamReading m = true →
      exec (.cloneDone row (left, image)) s = .next (s.after s.dev)) ∧
    (∀ left d, s.dev.migPhase row.val = 2 →
      d = ((s.dev.dirtyRows src).filter fun i => !left.contains i).foldl (fun (d : Device) (i : Nat) =>
        d.copyRow src dst i) s.dev →
      exec (.mirrorPassEnd row left image) s = .next (s.after
        ((d.put .repair fRepairMigProgressPass (d.rd .repair fRepairMigProgressPass row.val + 1) row.val).passOver row.val image)))) ∧
  (∀ (s : State) (pb : Fin 112),
    ((s.dev.mode = mService ∨ s.dev.mode = mDrowse) → s.dev.wardenDead = false → s.dev.steerCode pb.val = codePool →
      s.dev.migPhase (pb.val / 14) = 0 → s.dev.testDue pb = true → s.dev.flag (.pbay pb) fPbayBayCfgStateInPr = false →
      (s.dev.tests.all fun e => e.2.isNone) = true →
      exec (.selfTestDue pb) s = .next (s.after (s.dev.startTest pb .periodic))) ∧
    (∀ r d e, s.dev.testOf pb = some (.prepare r) → d = ((s.dev.setTest pb none).clearBay pb).newEpoch (.pbay pb) →
      e = (((((d.put (.pbay pb) fPbayColSteerLExhausted 0).put (.pbay pb) fPbayColSteerMExhausted 0).raise (.pbay pb)
        fPbayHealthTested).put (.pbay pb) fPbayHealthTestFailed 0).put (.pbay pb) fPbayHealthTestAge 0) →
      exec (.selfTestDone pb true [] []) s = .next (s.after
        (Device.migArm { e with testTick := sset (fun _ => 0) e.testTick pb.val (sget (fun _ => 0) e.healthTick pb.val) } r)))) ∧
  (∀ (s : State) (pb : Fin 112) (drift : List Byte), s.dev.fabricOn = true → sget (fun _ => false) s.dev.bayOff pb.val = false →
    ∀ ds d e, ds = (List.range 16).map (fun i => ((drift[i]?).getD 0).toNat) →
      d = (List.range 4).foldl (fun (d : Device) (i : Nat) => d.put (.pbay pb) fPbayDrift
        (natLE (((List.range 4).map fun j => BitVec.ofNat 8 ((ds[4 * i + j]?).getD 0)))) i) s.dev →
      e = { d with healthTick := sset (fun _ => 0) d.healthTick pb.val (sget (fun _ => 0) d.healthTick pb.val + 1) } →
      e.flag (.pbay pb) fPbayHealthTested = false →
      (e.score pb (ds.foldl max 0) < e.rd .repair fRepairPolicyMigrateAt →
        e.rd .repair fRepairPolicyMigrateAt ≤ e.rd (.pbay pb) fPbayHealthScore →
        exec (.healthUpdate pb drift) s = .next (s.after
          ((((e.put (.pbay pb) fPbayHealthWorst (worstOf ds)).put (.pbay pb) fPbayHealthScore
            (e.score pb (ds.foldl max 0))).raise .repair cRepairHealthLow).policyCheck pb))) ∧
      (e.rd .repair fRepairPolicyMigrateAt ≤ e.score pb (ds.foldl max 0) →
        exec (.healthUpdate pb drift) s = .next (s.after
          (((e.put (.pbay pb) fPbayHealthWorst (worstOf ds)).put (.pbay pb) fPbayHealthScore
            (e.score pb (ds.foldl max 0))).policyCheck pb)))) ∧
  (∀ (s : State) (row : Fin 8), (∀ k : Nat, k < 13 → sget (fun _ => false) s.dev.policy (Fin.ofNat 104 (13 * row.val + k)).val = false) →
    exec (.migrateRetry row) s = .next (s.after s.dev)) ∧
  (∀ (s : State), s.dev.wardenDead = false →
    (∀ c : Fin 3, exec (.wardenResync c) s = .next (s.after
      (((s.dev.put .repair fRepairWardenStatusDissent (2 ^ c.val)).raise .repair cRepairWardenResync).count .repair 2))) ∧
    (∀ d e, d = (s.dev.put .repair fRepairWardenStatusDissent 7).raise .repair cRepairWardenLost →
      e = { d with migs := d.migs.map fun (e : Nat × Option MigSt) => match e.2 with
        | some m => (e.1, some { m with mbx := none })
        | none => e } →
      exec .wardenLost s = .next (s.after
        (((List.range 4).foldl (fun (d : Device) (n : Nat) => d.respond n wsFailed []) e).signal (.faultHold 6)))))

/-- At a function that is ready: a read that no window maps completes as Unsupported Request, one with the shutter closed
aborts, and one that a window maps begins as pieces that do not cross 4 KiB; a write that no window maps sets WIN_MISS and
counts, and one that a window maps becomes non-posted pieces or posted packets of its enabled bytes; a doorbell of another owner
is a violation, and a valid one of the owner sends its MSG with the value, the owner and the number. A completion that fits, and
a timeout, of a request that the fabric, a descriptor fetch or a DMA transfer made is handed to it and the request ends. (R384,
R387, R389, R311) -/
def Obligations.HostWindowsAndDoorbells : Prop :=
  (∀ (s : State) (fn : PcieFn) (owner : Nat), ownerCode fn = some owner →
    (∀ off len ht, s.dev.fnReady fn = true → s.dev.hdmaShut = false →
      (s.dev.hostWindow owner off.toNat = none → exec (.windowRead fn off len ht) s = .next (s.after (s.dev.emit (.completion ht .unsupported [])))) ∧
      (∀ i, s.dev.hostWindow owner off.toNat = some i → exec (.windowRead fn off len ht) s =
        .next (s.after (s.dev.windowBegin (some ht) owner i (s.dev.windowAttr i)
          ((cutSpans 4097 (s.dev.windowTarget i off.toNat) (min len 4096)).map fun x => pieceOf x.1 x.2 []))))) ∧
    (∀ off len ht, s.dev.fnReady fn = true → s.dev.hdmaShut = true →
      exec (.windowRead fn off len ht) s = .next (s.after (s.dev.emit (.completion ht .abort [])))) ∧
    (∀ off bytes be, s.dev.fnReady fn = true → s.dev.hdmaShut = false →
      (s.dev.hostWindow owner off.toNat = none →
        exec (.windowWrite fn off bytes be) s = .next (s.after ((s.dev.raise .pcie cPcieWinMiss).count .pcie 0))) ∧
      (∀ i cuts, s.dev.hostWindow owner off.toNat = some i →
        cuts = (enabledRuns 0 ((bytes.zip be).take 4096)).flatMap (fun r => cutWrites 4097 (s.dev.windowTarget i off.toNat + r.1) r.2) →
        (s.dev.eff .pcie fPcieWinCtrlNp i = 1 → exec (.windowWrite fn off bytes be) s =
          .next (s.after (s.dev.windowBegin none owner i (s.dev.windowAttr i) (cuts.map fun x => pieceOf x.1 x.2.length x.2)))) ∧
        (s.dev.eff .pcie fPcieWinCtrlNp i ≠ 1 → exec (.windowWrite fn off bytes be) s =
          .next (s.after (cuts.foldl (fun (d : Device) (x : Nat × List Byte) =>
            d.hostPosted iniWindow (d.hostPacket 2 0x10 x.1 x.2.length (s.dev.windowAttr i) x.2)) s.dev))))) ∧
    (∀ (n : Fin 64) (w : Word), s.dev.fnReady fn = true →
      (s.dev.eff .pcie fPcieDbCtrlOwner n.val ≠ owner → ∀ off size, exec (.doorbell fn n off size w) s = .next (s.after s.dev.ownerViolation)) ∧
      (s.dev.eff .pcie fPcieDbCtrlOwner n.val = owner → s.dev.hdmaShut = false → s.dev.eff .pcie fPcieDbCtrlValid n.val ≠ 0 →
        ∀ target, target = s.dev.eff .pcie fPcieDbLoTarget n.val * 8 + s.dev.eff .pcie fPcieDbHiTarget n.val * 2 ^ 32 →
        exec (.doorbell fn n 0 4 w) s = .next (s.after (s.dev.hostPosted iniWindow
          (s.dev.hostPacket 2 0x11 target 8 0 (bytesLE 4 w.toNat ++ [BitVec.ofNat 8 owner, BitVec.ofNat 8 n.val, 0, 0]))))))) ∧
  (∀ (s : State) (ht : Nat) (r : HostReq) (st : CplStatus) (bytes : List Byte) (d : Device),
    sget (fun _ => (none : Option HostReq)) s.dev.hostReqs ht = some r → d = s.dev.setHostReq ht none →
    (∀ e p, r.use = .fabric e p →
      ((st = .ok → bytes.length = r.len) →
        exec (.hostCompletion ht st bytes) s = .next (s.after ((d.fabricAnswer p (statusOf st) bytes).hostPump))) ∧
      exec (.pcieCompletionTimeout ht) s = .next (s.after ((d.fabricAnswer p stSlave []).hostPump))) ∧
    (∀ c idx, r.use = .descriptor c idx →
      ((st = .ok → bytes.length = r.len) →
        exec (.hostCompletion ht st bytes) s = .next (s.after ((d.descFetched c idx st bytes).hostPump))) ∧
      exec (.pcieCompletionTimeout ht) s = .next (s.after ((d.descFetched c idx .abort []).hostPump))) ∧
    (∀ c idx off, r.use = .dmaData c idx off →
      ((st = .ok → bytes.length = r.len) →
        exec (.hostCompletion ht st bytes) s = .next (s.after ((d.dataFetched c idx off st bytes).hostPump))) ∧
      exec (.pcieCompletionTimeout ht) s = .next (s.after ((d.dataFetched c idx off .abort []).hostPump))))

/-- Outside DORMANT a hot reset and a link loss do what their rules give, and a link that comes up shows its rate, width and
mode, with LINK_DEGRADED below x16 or the highest rate. A function-level reset of PF0, PF1 or a VF clears that function, with
its channels and windows, and sets FLR_DONE. A configuration access of PF0 is performed and answered; one of another function
before PF1 is ready is not. TAIL, START, STOP and ABORT act on their channel. The oldest descriptor that is over is written back
with its code, HEAD moves, its interrupt is sent where asked; with code 0 the channel goes on, and with another it counts, sets
CH_ERROR, logs and stops in ERROR. (R378, R397, R377, R392, R394) -/
def Obligations.HostResetsAndChannels : Prop :=
  (∀ (s : State), s.dev.mode ≠ mDormant →
    exec (.hotReset false) s = .next (s.after s.dev.hotReset) ∧
    exec (.hotReset true) s = .next (s.after s.dev.linkDown) ∧
    (∀ (rate : BitVec 3) (width : BitVec 5) (flit : Bool) (d : Device), 1 ≤ rate.toNat → rate.toNat ≤ 6 →
      width.toNat ∈ [1, 2, 4, 8, 16] → (rate.toNat = 6 → flit = true) →
      d = ((s.dev.put .pcie fPcieLinkStatusRate rate.toNat).put .pcie fPcieLinkStatusWidth width.toNat).put .pcie
        fPcieLinkStatusFlit flit.toNat →
      exec (.pcieLinkUp rate width flit) s = .next (s.after
        (if width.toNat < 16 ∨ rate.toNat < 6 then d.raise .pcie cPcieLinkDegraded else d).linkAwake))) ∧
  (∀ (s : State), s.dev.fnReady .pf0 = true →
    exec .flrPf0 s = .next (s.after (((s.dev.clearFn 0).hostLoadEnds).raise .pcie cPcieFlrDone)) ∧
    (∀ r, exec (.pcieConfigRequest .pf0 (.read r)) s = .next (s.after (s.dev.emit (.configReply .pf0 (some (s.dev.pciRead .pf0 r)))))) ∧
    (∀ r w, exec (.pcieConfigRequest .pf0 (.write r w)) s =
      .next (s.after (((s.dev.pciWrite .pf0 r w).emit (.configReply .pf0 (some 0))).hostPump)))) ∧
  (∀ (s : State), s.dev.fnReady .pf1 = false → ∀ fn q, fn ≠ .pf0 →
    exec (.pcieConfigRequest fn q) s = .next (s.after (s.dev.emit (.configReply fn none)))) ∧
  (∀ (s : State) (d : Device), s.dev.fnReady .pf1 = true →
    d = (((s.dev.clearFn 1).clearVfs).endChannels (fun _ => true)).dropWindows (fun _ => true) →
    exec .flrPf1 s = .next (s.after ((d.raise .pcie cPcieFlrDone).emit (.frs .pf1)))) ∧
  (∀ (s : State) (v : Fin 32) (d : Device), s.dev.fnReady (.vf v) = true →
    d = ((s.dev.clearFn (2 + v.val)).endChannels (fun o => o == v.val + 1)).dropWindows (fun o => o == v.val + 1) →
    exec (.flrVf v) s = .next (s.after ((d.raise .pcie cPcieFlrDone).emit (.frs (.vf v))))) ∧
  (∀ (s : State) (rq : Requester) (c : Fin 64), s.dev.takes rq .hdma .hdma →
    (∀ w, exec (.dmaTail rq c w) s =
      .next (s.after ((s.dev.fieldsWrite .hdma (0x10C + 0x20 * c.val) w (fun _ => false)).chanPump c.val))) ∧
    exec (.chStart rq c) s = .next (s.after (s.dev.chanStart c.val)) ∧
    exec (.chStop rq c) s = .next (s.after (s.dev.chanStop c.val)) ∧
    exec (.chAbort rq c) s = .next (s.after (s.dev.chanAbort c.val))) ∧
  (∀ (s : State) (c : Fin 64) (x : Descriptor) (rest : List Descriptor) (fn : PcieFn) (bs : List Byte),
    (s.dev.chan c.val).descs = x :: rest → s.dev.chanFn c.val = some fn → s.dev.chState c.val = chRunning → x.over = true →
    x.bytes = some bs → ∀ d1 d2,
    d1 = (s.dev.emit (.hostWrite fn (s.dev.ringAddr c.val x.idx + 24) (bytesLE 8 (2 ^ 31 + x.code * 2 ^ 24 + dUser bs)))).put .hdma
      fHdmaHead ((x.idx + 1) % s.dev.ringSize c.val) c.val →
    d2 = (if dIrq bs then d1.chanVector c.val else d1) →
    (x.code = 0 → exec (.descriptorDone c) s =
      .next (s.after (((d2.count .hdma 0).setChan c.val { d2.chan c.val with descs := rest }).chanPump c.val))) ∧
    (x.code ≠ 0 → exec (.descriptorDone c) s = .next (s.after
      (((((d2.count .hdma 1).raise .hdma cHdmaChError).pushError x.code c.val x.idx).chanDrop c.val).setChState c.val chError))))

/-- For every instruction of a tenant core, with every operand at every value its fields hold, the decoder reads the instruction
from the word that the encoder writes. (R400, R401) -/
def Obligations.CoreInstructionsDecodeAsEncoded : Prop :=  ∀ i : CoreInsn, decodeCore (encodeCore i) = some i

/-- A core that is ready to execute writes the result of each of the register-register and register-immediate instructions and
of LUI to the destination register and moves to the next word; a shift by 32 or more in the immediate form is an illegal
instruction. After a core writes a register and its PC: w0 reads 0; a register other than w0 reads the value written; every
other register reads as before; nothing else of the core, nothing of the other core and nothing else of the device has changed.
(R399, R400, R401) -/
def Obligations.RegisterInstructions : Prop :=
  (∀ (s : State) (c : Fin 2) (e : Device), s.dev.ready c e →
    ∀ (rd ra rb : RegNo) (imm : BitVec 18) (a b x z : Word), a = (e.core c).reg ra → b = (e.core c).reg rb →
      x = imm.signExtend 32 → z = imm.setWidth 32 →
    (∀ v i, (v, i) ∈ [
        (a + b, Instr.insnAdd c rd ra rb), (a - b, .insnSub c rd ra rb), (a &&& b, .insnAnd c rd ra rb),
        (a ||| b, .insnOr c rd ra rb), (a ^^^ b, .insnXor c rd ra rb), (a <<< (b.toNat % 32), .insnSll c rd ra rb),
        (a >>> (b.toNat % 32), .insnSrl c rd ra rb), (a.sshiftRight (b.toNat % 32), .insnSra c rd ra rb),
        (if a.slt b then 1 else 0, .insnSlt c rd ra rb), (if a.ult b then 1 else 0, .insnSltu c rd ra rb),
        (a * b, .insnMul c rd ra rb), (BitVec.ofInt 32 (a.toInt * b.toInt / 2 ^ 32), .insnMulh c rd ra rb),
        (BitVec.ofNat 32 (a.toNat * b.toNat / 2 ^ 32), .insnMulhu c rd ra rb), (if b = 0 then 0xFFFFFFFF else if a = 0x80000000 ∧ b = 0xFFFFFFFF then 0x80000000
          else BitVec.ofInt 32 (a.toInt.tdiv b.toInt), .insnDiv c rd ra rb),
        (if b = 0 then 0xFFFFFFFF else BitVec.ofNat 32 (a.toNat / b.toNat), .insnDivu c rd ra rb),
        (a + x, .insnAddi c rd ra imm), (a &&& z, .insnAndi c rd ra imm), (a ||| z, .insnOri c rd ra imm),
        (a ^^^ z, .insnXori c rd ra imm), (if a.slt x then 1 else 0, .insnSlti c rd ra imm),
        (if a.ult x then 1 else 0, .insnSltiu c rd ra imm)] →
      exec i s = .next (s.after ((e.setCore c ((e.core c).setReg rd v)).setPc c ((e.core c).pc + 4)))) ∧
    (∀ up : BitVec 22, exec (.insnLui c rd up) s =
      .next (s.after ((e.setCore c ((e.core c).setReg rd (up ++ (0 : BitVec 10)))).setPc c ((e.core c).pc + 4)))) ∧
    (∀ v op i, (v, op, i) ∈ [
        (a <<< imm.toNat, ImmOp.slli, Instr.insnSlli c rd ra imm), (a >>> imm.toNat, .srli, .insnSrli c rd ra imm),
        (a.sshiftRight imm.toNat, .srai, .insnSrai c rd ra imm)] →
      (imm.toNat < 32 → exec i s =
        .next (s.after ((e.setCore c ((e.core c).setReg rd v)).setPc c ((e.core c).pc + 4)))) ∧
      (32 ≤ imm.toNat → exec i s = .next (s.after (e.insnExc c (exIllegal (encodeCore (.imm op rd ra imm)))))))) ∧
  (∀ (e : Device) (c : Fin 2) (rd : RegNo) (v pc : Word) (d : Device),
    d = (e.setCore c ((e.core c).setReg rd v)).setPc c pc →
    (d.core c).reg 0 = 0 ∧ (rd ≠ 0 → (d.core c).reg rd = v) ∧ (∀ r, r ≠ rd → (d.core c).reg r = (e.core c).reg r) ∧
    (d.core c).pc = pc ∧ { d.core c with regs := (e.core c).regs, pc := (e.core c).pc } = e.core c ∧
    (∀ c' : Fin 2, c' ≠ c → d.core c' = e.core c') ∧ { d with cores := e.cores } = e)

/-- A load of each size returns the extended value of the addressed bytes of the tightly coupled memories, the register of a
management access, or waits for the mesh; a store of each size writes the low bytes of its register there, as a posted or non-
posted packet in a mesh aperture. Misaligned, unmapped, refused and uncorrectable accesses take the exception that their rule
gives. (R401, R404, R406) -/
def Obligations.LoadsAndStores : Prop :=
  (∀ (s : State) (c : Fin 2) (e : Device), s.dev.ready c e →
    ∀ (rd ra : RegNo) (imm : BitVec 18) (a : Word), a = (e.core c).reg ra + imm.signExtend 32 →
    ∀ k i, (k, i) ∈ [(LoadKind.sb, Instr.insnLb c rd ra imm), (.ub, .insnLbu c rd ra imm), (.sh, .insnLh c rd ra imm),
        (.uh, .insnLhu c rd ra imm), (.w, .insnLw c rd ra imm)] →
    (misalignedAt a (loadSize k) = true → exec i s = .next (s.after (e.insnExc c (exMisaligned a)))) ∧
    (misalignedAt a (loadSize k) = false → regionOf a = .itcm ∨ regionOf a = .dtcm →
      (∀ bs e1, e.tcmRead c a.toNat (loadSize k) = (some bs, e1) → e1.unwatched c →
        exec i s = .next (s.after
          ((e1.setCore c ((e1.core c).setReg rd (loadValue k (natLE bs)))).setPc c ((e.core c).pc + 4)))) ∧
      (∀ e1, e.tcmRead c a.toNat (loadSize k) = (none, e1) → exec i s = .next (s.after (e1.insnExc c (exBus a busTcm))))) ∧
    (∀ off, regionOf a = .mgmt off →
      (loadSize k = 4 → off % 4 = 0 → ∀ v e1, e.mgmtRead (.core c) false off = (v, e1) → e1.unwatched c →
        exec i s = .next (s.after ((e1.setCore c ((e1.core c).setReg rd v)).setPc c ((e.core c).pc + 4)))) ∧
      (loadSize k ≠ 4 ∨ off % 4 ≠ 0 → exec i s = .next (s.after (e.insnExc c (exBus a busMgmt))))) ∧
    (misalignedAt a (loadSize k) = false → ∀ ap x, regionOf a = .aperture ap x → e.apValid c ap = true → ∀ iss,
      e.coreIssue c (.core c.val) (e.corePacket 0 0x00 (e.apGlobal c ap x) (loadSize k) (e.apAttr c ap) []) = iss →
      (∀ t e1, iss = .sent t e1 → exec i s = .next (s.after (e1.setCore c { e1.core c with
        mode := .waiting, wait := some (.load rd.toNat k a), waitTag := some t, fed := false }))) ∧
      (∀ st, iss = .refused st → exec i s = .next (s.after (e.insnExc c (exMesh a ap st))))) ∧
    (misalignedAt a (loadSize k) = false → (regionOf a = .hole ∨ ∃ ap x, regionOf a = .aperture ap x ∧ e.apValid c ap = false) →
      exec i s = .next (s.after (e.insnExc c (exBus a busUnmapped))))) ∧
  (∀ (s : State) (c : Fin 2) (e : Device), s.dev.ready c e →
    ∀ (rd ra : RegNo) (imm : BitVec 18) (a v : Word), a = (e.core c).reg ra + imm.signExtend 32 → v = (e.core c).reg rd →
    ∀ n i, (n, i) ∈ [(1, Instr.insnSb c rd ra imm), (2, .insnSh c rd ra imm), (4, .insnSw c rd ra imm)] →
    ∀ E, undefinedBy s.dev E = none →
    (misalignedAt a n = true → E = e.insnExc c (exMisaligned a) → exec i s = .next (s.after E)) ∧
    (misalignedAt a n = false → regionOf a = .itcm ∨ regionOf a = .dtcm →
      ∀ ok e1, e.tcmWrite c a.toNat (bytesLE n v.toNat) = (ok, e1) →
      (ok = true → e1.unwatched c → E = e1.setPc c ((e.core c).pc + 4) → exec i s = .next (s.after E)) ∧
      (ok = false → E = e1.insnExc c (exBus a busTcm) → exec i s = .next (s.after E))) ∧
    (∀ off, regionOf a = .mgmt off →
      (∀ e1, n = 4 → off % 4 = 0 → e.mgmtWrite0 (.core c) off v = some e1 → e1.unwatched c →
        E = e1.setPc c ((e.core c).pc + 4) → exec i s = .next (s.after E)) ∧
      (n ≠ 4 ∨ off % 4 ≠ 0 ∨ e.mgmtWrite0 (.core c) off v = none →
        E = e.insnExc c (exBus a busMgmt) → exec i s = .next (s.after E))) ∧
    (misalignedAt a n = false → ∀ ap x, regionOf a = .aperture ap x → e.apValid c ap = true →
      (∀ e1, e.apNp c ap = false →
        e1 = e.corePosted c.val (e.corePacket 2 0x10 (e.apGlobal c ap x) n (e.apAttr c ap) (bytesLE n v.toNat)) → e1.unwatched c →
        E = e1.setPc c ((e.core c).pc + 4) → exec i s = .next (s.after E)) ∧
      (∀ t e1, e.apNp c ap = true → e.coreIssue c (.coreStore c.val ap a)
          (e.corePacket 0 0x01 (e.apGlobal c ap x) n (e.apAttr c ap) (bytesLE n v.toNat)) = .sent t e1 → e1.unwatched c →
        E = e1.setPc c ((e.core c).pc + 4) → exec i s = .next (s.after E))) ∧
    (misalignedAt a n = false → (regionOf a = .hole ∨ ∃ ap x, regionOf a = .aperture ap x ∧ e.apValid c ap = false) →
      E = e.insnExc c (exBus a busUnmapped) → exec i s = .next (s.after E)))

/-- A branch goes to its target where its condition holds, with a trace record, and to the next word where it does not; JAL
writes w15 and JALR its register, and both jump with a trace record, JALR to an unaligned address being misaligned; TRAP takes
its exception with the next word as EPC; RFE returns where EXL is set and is illegal where it is not; WFI waits where no
interrupt is pending and goes on where one is. (R399, R401, R408, R409) -/
def Obligations.ControlTransfers : Prop :=
  ∀ (s : State) (c : Fin 2) (e : Device), s.dev.ready c e →
    ∀ (rd ra rb : RegNo) (imm : BitVec 18) (a b pc : Word), a = (e.core c).reg ra → b = (e.core c).reg rb → pc = (e.core c).pc →
    (∀ p i, (p, i) ∈ [(a = b, Instr.insnBeq c ra rb imm), (a ≠ b, .insnBne c ra rb imm), (a.slt b = true, .insnBlt c ra rb imm),
        (a.slt b = false, .insnBge c ra rb imm), (a.ult b = true, .insnBltu c ra rb imm), (a.ult b = false, .insnBgeu c ra rb imm)] →
      (p → exec i s = .next (s.after ((e.setPc c (pc + imm.signExtend 32 * 4)).traceRecord c
        (traceWord traceBranch pc (pc + imm.signExtend 32 * 4).toNat)))) ∧
      (¬ p → exec i s = .next (s.after (e.setPc c (pc + 4))))) ∧
    (∀ off : BitVec 26, exec (.insnJal c off) s =
      .next (s.after (((e.setCore c ((e.core c).setReg 15 (pc + 4))).setPc c (pc + off.signExtend 32 * 4)).traceRecord c
        (traceWord traceBranch pc (pc + off.signExtend 32 * 4).toNat)))) ∧
    ((a + imm.signExtend 32).toNat % 4 = 0 → exec (.insnJalr c rd ra imm) s =
      .next (s.after (((e.setCore c ((e.core c).setReg rd (pc + 4))).setPc c (a + imm.signExtend 32)).traceRecord c
        (traceWord traceBranch pc (a + imm.signExtend 32).toNat)))) ∧
    ((a + imm.signExtend 32).toNat % 4 ≠ 0 → exec (.insnJalr c rd ra imm) s =
      .next (s.after (e.insnExc c (exMisaligned (a + imm.signExtend 32))))) ∧
    (∀ code : BitVec 8, exec (.insnTrap c code) s =
      .next (s.after ((e.takeExc c { code := excTrap, einfo := code.setWidth 32, berr := 0 } (pc + 4)).stepEnds c))) ∧
    ((e.core c).exl = true → (e.returnExc c).unwatched c → exec (.insnRfe c) s = .next (s.after (e.returnExc c))) ∧
    ((e.core c).exl = false → exec (.insnRfe c) s = .next (s.after (e.insnExc c (exIllegal (encodeCore .rfe))))) ∧
    (∀ e1, e1 = e.setCore c { e.core c with pc := pc + 4, mode := .wfi } →
      ((e1.irqSources c).isEmpty = true → exec (.insnWfi c) s = .next (s.after e1)) ∧
      ((e1.irqSources c).isEmpty = false → exec (.insnWfi c) s =
        .next (s.after (e1.setCore c { e1.core c with mode := .running }))))

/-- Where EXL is clear, or the exception is not one that resets the core there, and no debugger catches it: an exception saves
the PC, its cause and information, the bus error word of a bus error, moves IE to PIE, clears IE, sets EXL, goes to EVBASE +
0x20 × cause, ends the reservation and leaves the registers and the tightly coupled memories as they are. (R409) -/
def Obligations.ExceptionsSaveAndEnter : Prop :=
  ∀ (d : Device) (c : Fin 2) (x : Exc) (epc : Word),
    ((d.core c).exl = false ∨ x.code = 0 ∨ 4 < x.code) → (d.dbgRd c fDbgcRunCtrlCatch).testBit (x.code - 1) = false →
    ∀ k, k = (d.takeExc c x epc).core c →
      k.cr crEpc = epc ∧ k.cr crEcause = BitVec.ofNat 32 x.code ∧ k.cr crEinfo = x.einfo ∧
      (x.code = excBus → k.cr crBerr = x.berr) ∧ k.cr crStatus = statusWord false (d.core c).ie true ∧
      k.pc = (d.core c).cr crEvbase + BitVec.ofNat 32 (0x20 * x.code) ∧ k.resv = none ∧ k.mode = .running ∧
      k.regs = (d.core c).regs ∧ (d.takeExc c x epc).tcm = d.tcm

/-- An atomic of a core that names w0 or an odd register is illegal; an aligned one in a valid aperture issues its packet and
the core waits, or takes the bus error of the refusal; MSG sends its posted packet and goes on, or takes a bus error outside the
apertures; MFENCE goes on with nothing outstanding, waits otherwise, and takes the deferred bus error of a store that failed.
(R405, R406) -/
def Obligations.MeshInstructions : Prop :=
  ∀ (s : State) (c : Fin 2) (e : Device), s.dev.ready c e →
    ∀ (rd ra rb : RegNo) (a pc : Word), a = (e.core c).reg ra → pc = (e.core c).pc →
    (∀ op i, (op, i) ∈ [(AtomicOp.fadd, Instr.insnMfadd c rd ra rb), (.swap, .insnMswap c rd ra rb), (.cas, .insnMcas c rd ra rb)] →
      ((pairReg rd && pairReg rb) = false →
        exec i s = .next (s.after (e.insnExc c (exIllegal (encodeCore (.atomic op rd ra rb)))))) ∧
      ((pairReg rd && pairReg rb) = true → a.toNat % 8 = 0 → ∀ ap x, regionOf a = .aperture ap x → e.apValid c ap = true →
        ∀ code data, (e.core c).atomicPacket op rd rb = (code, data) → ∀ iss,
        e.coreIssue c (.core c.val) (e.corePacket 0 code (e.apGlobal c ap x) data.length (e.apAttr c ap) data) = iss →
        (∀ t e1, iss = .sent t e1 → exec i s = .next (s.after (e1.setCore c { e1.core c with
          mode := .waiting, wait := some (.atomic rd.toNat a), waitTag := some t, fed := false }))) ∧
        (∀ st, iss = .refused st → exec i s = .next (s.after (e.insnExc c (exMesh a ap st)))))) ∧
    (∀ ap x, regionOf a = .aperture ap x → e.apValid c ap = true → ∀ e1,
      e1 = e.corePosted c.val (e.corePacket 2 0x11 (e.apGlobal c ap x) 8 (e.apAttr c ap)
        (bytesLE 4 ((e.core c).reg rd).toNat ++ bytesLE 4 ((e.core c).reg rb).toNat)) →
      e1.unwatched c → exec (.insnMsg c rd ra rb) s = .next (s.after (e1.setPc c (pc + 4)))) ∧
    (regionOf a = .hole ∨ regionOf a = .itcm ∨ regionOf a = .dtcm →
      exec (.insnMsg c rd ra rb) s = .next (s.after (e.insnExc c (exBus a busUnmapped)))) ∧
    (e.coreOutstanding c = 0 → (e.core c).fail = none → exec (.insnMfence c) s = .next (s.after (e.setPc c (pc + 4)))) ∧
    (e.coreOutstanding c ≠ 0 → exec (.insnMfence c) s = .next (s.after (e.setCore c { e.core c with
      mode := .waiting, wait := some .fence, waitTag := none, fed := false }))) ∧
    (∀ ap st la, e.coreOutstanding c = 0 → (e.core c).fail = some (ap, st, la) → exec (.insnMfence c) s =
      .next (s.after ((e.setCore c { e.core c with fail := none }).insnExc c
        { code := excBus, einfo := la, berr := berrWord ap false st busDeferred })))

/-- LDX of an aligned word of the data memory returns it and reserves its doubleword; STX with that reservation stores and
returns 0, without it returns 1 and stores nothing, and ends it either way; MFC reads and MTC writes a listed control register
and an unlisted one is illegal; TAKE returns what the porter gives, YIELD and SLEEP give the task back, and SLEEP of 2^24 ticks
or more is illegal. (R407, R401, R424) -/
def Obligations.ReservationsAndControlRegisters : Prop :=
  ∀ (s : State) (c : Fin 2) (e : Device), s.dev.ready c e →
    ∀ (rd ra rb : RegNo) (a pc : Word), a = (e.core c).reg ra → pc = (e.core c).pc →
    (a.toNat % 4 = 0 → regionOf a = .dtcm → ∀ bs e1, e.tcmRead c a.toNat 4 = (some bs, e1) → e1.unwatched c →
      ∀ e2, e2 = e1.setCore c ((e1.core c).setReg rd (BitVec.ofNat 32 (natLE bs))) →
      exec (.insnLdx c rd ra) s = .next (s.after ((e2.setCore c { e2.core c with resv := some (a.toNat / 8) }).setPc c (pc + 4)))) ∧
    (a.toNat % 4 = 0 → regionOf a = .dtcm → (e.core c).resv = some (a.toNat / 8) →
      ∀ e1, e.tcmWrite c a.toNat (bytesLE 4 ((e.core c).reg rb).toNat) = (true, e1) → e1.unwatched c →
      exec (.insnStx c rd ra rb) s = .next (s.after ((e1.setCore c
        { (e1.core c).setReg rd 0 with resv := none }).setPc c (pc + 4)))) ∧
    (a.toNat % 4 = 0 → regionOf a = .dtcm → (e.core c).resv ≠ some (a.toNat / 8) →
      exec (.insnStx c rd ra rb) s = .next (s.after ((e.setCore c
        { (e.core c).setReg rd 1 with resv := none }).setPc c (pc + 4)))) ∧
    (∀ n : BitVec 6, crListed n.toNat = true →
      exec (.insnMfc c rd n) s = .next (s.after ((e.setCore c ((e.core c).setReg rd (e.readCr c n.toNat))).setPc c (pc + 4))) ∧
      ((e.writeCr c n.toNat a).unwatched c → exec (.insnMtc c ra n) s = .next (s.after ((e.writeCr c n.toNat a).setPc c (pc + 4))))) ∧
    (∀ n : BitVec 6, crListed n.toNat = false →
      exec (.insnMfc c rd n) s = .next (s.after (e.insnExc c (exIllegal (encodeCore (.mfc rd n))))) ∧
      exec (.insnMtc c ra n) s = .next (s.after (e.insnExc c (exIllegal (encodeCore (.mtc ra n)))))) ∧
    (∀ v e1, e.take c.val = (v, e1) → e1.unwatched c →
      exec (.insnTake c rd) s = .next (s.after ((e1.setCore c ((e1.core c).setReg rd v)).setPc c (pc + 4)))) ∧
    ((e.yieldTask c.val).unwatched c → exec (.insnYield c) s = .next (s.after ((e.yieldTask c.val).setPc c (pc + 4)))) ∧
    (a.toNat < 2 ^ 24 → (e.sleepTask c.val a.toNat).unwatched c →
      exec (.insnSleep c ra) s = .next (s.after ((e.sleepTask c.val a.toNat).setPc c (pc + 4)))) ∧
    (2 ^ 24 ≤ a.toNat → exec (.insnSleep c ra) s = .next (s.after (e.insnExc c (exIllegal (encodeCore (.sleep ra))))))

/-- An interrupt that can be taken by a running core enters its handler with the source as information; the cycle counter
reaches the timer’s comparison; an expired watchdog resets the core, counts and reloads; HOLD resets a core and its release
starts it, or halts it where HALT_ON_RESET is set; a sweep reads one doubleword of a tightly coupled memory or the porter RAM,
and an upset flips one stored bit of it. (R411, R399, R412, R414, R404) -/
def Obligations.CoreEvents : Prop :=
  ∀ (s : State) (c : Fin 2),
    (∀ src, (s.dev.core c).mode = .running → s.dev.irqNow c = some src →
      exec (.interrupt c) s = .next (s.after (s.dev.takeExc c
        { code := excIrq, einfo := BitVec.ofNat 32 src, berr := 0 } (s.dev.core c).pc))) ∧
    (∀ cmp, cmp = ((s.dev.core c).cr 14).toNat + ((s.dev.core c).cr 15).toNat * 2 ^ 32 →
      (s.dev.core c).mode ≠ .reset → s.dev.coreClock = true → (s.dev.core c).cycle.toNat < cmp →
      exec (.timerMatch c) s = .next (s.after (s.dev.setCore c { s.dev.core c with cycle := BitVec.ofNat 64 cmp }))) ∧
    (∀ d, d = ((s.dev.raise (.tcore c) cTcoreWdExpired).count (.tcore c) 5).coreReset c →
      s.dev.flag (.tcore c) fTcoreWdCtrlEn = true → s.dev.coreClock = true →
      ((s.dev.core c).mode ≠ .halted ∨ s.dev.flag (.tcore c) fTcoreWdCtrlWdDebugPolicy = true) →
      ∀ e, e = d.put (.tcore c) fTcoreWdCount (d.rd (.tcore c) fTcoreWdLoad) → e.flag (.tcore c) fTcoreCoreCtrlHold = false →
      exec (.wdExpire c) s = .next (s.after (e.coreStart c))) ∧
    (∀ rq, s.dev.takes rq (.tcore c) (.tcore c) →
      (s.dev.flag (.tcore c) fTcoreCoreCtrlHold = false →
        exec (.hold rq c) s = .next (s.after ((s.dev.raise (.tcore c) fTcoreCoreCtrlHold).coreReset c))) ∧
      (∀ e, e = (s.dev.lower (.tcore c) fTcoreCoreCtrlHold).coreStart c →
        s.dev.flag (.tcore c) fTcoreCoreCtrlHold = true → e.dbgFlag c fDbgcRunCtrlHaltOnReset = false →
        exec (.holdRelease rq c) s = .next (s.after e)) ∧
      (∀ e, e = (s.dev.lower (.tcore c) fTcoreCoreCtrlHold).coreStart c →
        s.dev.flag (.tcore c) fTcoreCoreCtrlHold = true → e.dbgFlag c fDbgcRunCtrlHaltOnReset = true →
        exec (.holdRelease rq c) s = .next (s.after (e.halt c haltReset 0)))) ∧
    (∀ (m : Fin 2) (w : BitVec 14),
      (s.dev.coreClock = true → exec (.tcmSweep (.tcm c m) w) s =
        .next (s.after (s.dev.tcmRead c (0x20000 * m.val + 8 * w.toNat) 8).2)) ∧
      (s.dev.coreClock = true → w.toNat < 8192 → exec (.tcmSweep .porter w) s =
        .next (s.after (s.dev.porterRead (8 * w.toNat) 8).2)) ∧
      (∀ bit : Fin 72, exec (.tcmUpset (.tcm c m) w bit) s =
          .next (s.after { s.dev with tcm := ramFlip s.dev.tcm (tcmByte c (0x20000 * m.val) / 8 + w.toNat) bit.val }) ∧
        (w.toNat < 8192 → exec (.tcmUpset .porter w bit) s =
          .next (s.after { s.dev with porterRam := ramFlip s.dev.porterRam w.toNat bit.val }))))

/-- With a good descriptor: ACTIVATE makes a free task blocked and refuses any other; POST makes a blocked or not yet due
delayed task ready, marks a ready or running one pending, wakes a due one first, and is refused for a free one; RETIRE frees a
task that does not run and is refused otherwise; SET_PRIO sets the priority of a task and moves a ready one to the end of its
new list, and is refused for a free or running one. A tick counts; an expiry makes the due task ready, records and counts; a
descriptor with an error that cannot be corrected is dropped; a trace flush writes the burst out. (R423, R427, R422, R429) -/
def Obligations.PorterTasks : Prop :=
  (∀ (s : State) (rq : Requester) (t : Task), s.dev.takes rq .porter .porter →
      eccVerdict (sget ramDflt s.dev.porterRam (8 * t.toNat)) = .good → ∀ st, st = s.dev.taskState t.toNat →
    (st = tFree →
      exec (.activate rq t) s = .next (s.after (s.dev.setState t.toNat tBlocked)) ∧
      exec (.post rq t) s = .next (s.after (s.dev.raise .porter cPorterCmdRefused)) ∧
      exec (.taskRetire rq t) s = .next (s.after (s.dev.raise .porter cPorterCmdRefused)) ∧
      ∀ prio, exec (.setPrio rq t prio) s = .next (s.after (s.dev.raise .porter cPorterCmdRefused))) ∧
    (st ≠ tFree → exec (.activate rq t) s = .next (s.after (s.dev.raise .porter cPorterCmdRefused))) ∧
    (st = tBlocked → exec (.post rq t) s = .next (s.after
      (((s.dev.setTaskWord t.toNat 3 0).makeReady t.toNat).porterRecord kReady none false (some t.toNat) 0))) ∧
    (st = tReady ∨ st = tRunning → exec (.post rq t) s = .next (s.after (s.dev.pend t.toNat 0))) ∧
    (st = tDelayed → (s.dev.wakeDue t.toNat = true → exec (.post rq t) s = .next (s.after ((s.dev.expire t.toNat).pend t.toNat 0))) ∧
      (s.dev.wakeDue t.toNat = false → exec (.post rq t) s = .next (s.after
        ((((s.dev.unlist t.toNat).setTaskWord t.toNat 3 0).makeReady t.toNat).porterRecord kReady none false (some t.toNat) 0)))) ∧
    (st = tBlocked ∨ st = tReady ∨ st = tDelayed → exec (.taskRetire rq t) s =
      .next (s.after (((s.dev.unlist t.toNat).leaveSlot t.toNat).setState t.toNat tFree))) ∧
    (st = tRunning → exec (.taskRetire rq t) s = .next (s.after (s.dev.raise .porter cPorterCmdRefused)) ∧
      ∀ prio, exec (.setPrio rq t prio) s = .next (s.after (s.dev.raise .porter cPorterCmdRefused))) ∧
    (st = tBlocked ∨ st = tDelayed → ∀ prio, exec (.setPrio rq t prio) s =
      .next (s.after (s.dev.setTask t.toNat 0 5 prio.toNat))) ∧
    (∀ d prio, st = tReady → d = (s.dev.unlist t.toNat).setTask t.toNat 0 5 prio.toNat →
      exec (.setPrio rq t prio) s =
        .next (s.after (d.setReady prio.toNat (d.readyList prio.toNat ++ [t.toNat]))))) ∧
  (∀ (s : State), s.dev.coreClock = true →
    exec .porterTick s = .next (s.after (s.dev.put .porter fPorterTickCount (s.dev.tick + 1))) ∧
    (∀ t, (s.dev.porter.delay.find? fun t => s.dev.wakeDue t) = some t →
      eccVerdict (sget ramDflt s.dev.porterRam (8 * t)) = .good → s.dev.taskState t = tDelayed →
      ∀ e, e = ((s.dev.unlist t).setTaskWord t 3 0x40000000).makeReady t →
      exec .delayExpiry s = .next (s.after ((e.porterRecord kWake none false (some t) 0).count .porter 4)))) ∧
  (∀ (s : State) (t : Task), eccVerdict (sget ramDflt s.dev.porterRam (8 * t.toNat)) = .bad →
    exec (.descBad t) s = .next (s.after (s.dev.descBad t.toNat))) ∧
  (∀ (s : State) (rq : Requester) (w : Word), s.dev.takes rq .porter .porter →
    ∀ e, e = (if s.dev.flag .porter fPorterTraceCtrlStream then s.dev.traceBurst else s.dev).fieldsWrite .porter
        fPorterTraceCtrlEn.off (w &&& ~~~(2 : Word)) (fun _ => false) →
      undefinedBy s.dev e = none → exec (.traceFlush rq w) s = .next (s.after e))

/-- A port that may use the DBG page claims it where it has no owner and releases its own; begins map and mesh accesses; halts,
resumes and steps a core that is not sealed, writes its registers, feeds it words and sets its trace; a sealed core refuses
REG_DATA and TRACE_CTRL and sets SEALED_REFUSED; the peephole acknowledges and takes words; a data comparator that matches in a
running core and has not acted acts. (R437, R438, R440, R443, R442, R447, R449, R445) -/
def Obligations.DebuggersControlCores : Prop :=
  ∀ (s : State) (p : DbgPort), s.dev.debugs p →
    (s.dev.rd .dbg fDbgOwner = 0 → exec (.claim p) s = .next (s.after (s.dev.put .dbg fDbgOwner (portCode p)))) ∧
    (s.dev.rd .dbg fDbgOwner = portCode p → exec (.release p) s = .next (s.after (s.dev.put .dbg fDbgOwner 0))) ∧
    (∀ write e, e = s.dev.mapAccess p write → undefinedBy s.dev e = none → exec (.mapGo p write) s = .next (s.after e)) ∧
    (∀ write (size : BitVec 2) d, s.dev.memBusy = false →
      d = s.dev.fieldsWrite .dbg 0x05C (BitVec.ofNat 32 (1 + 2 * write.toNat + 4 * size.toNat)) (fun _ => false) →
      exec (.memGo p write size) s = .next (s.after ((d.lower .dbg fDbgMemCtrlDone).put .dbg fDbgMemCtrlStatus 0).memIssue)) ∧
    (∀ (c : Fin 2), s.dev.coreSealed c = false →
      (∀ d, d = s.dev.fieldsWrite .dbg (dbgCore c) (s.dev.word (0xA000 + dbgCore c) ||| 1) (fun _ => false) → d.coreSealed c = false →
        exec (.haltReq p c) s = .next (s.after (d.halt c haltReq 0))) ∧
      (∀ d, d = s.dev.fieldsWrite .dbg (dbgCore c) (s.dev.word (0xA000 + dbgCore c) ||| 2) (fun _ => false) →
        (s.dev.word (0xA000 + dbgCore c)).getLsbD 0 = false →
        exec (.resume p c) s = .next (s.after (d.coreResume c true))) ∧
      (∀ d, d = s.dev.fieldsWrite .dbg (dbgCore c) (s.dev.word (0xA000 + dbgCore c) ||| 4) (fun _ => false) → d.coreSealed c = false →
        (s.dev.word (0xA000 + dbgCore c)).getLsbD 0 = false → (s.dev.word (0xA000 + dbgCore c)).getLsbD 1 = false →
        undefinedBy s.dev (d.stepCore c) = none → exec (.step p c) s = .next (s.after (d.stepCore c))) ∧
      (∀ w, s.dev.feedReady c = true →
        exec (.regData p c w) s = .next (s.after (s.dev.regDataWrite c w)) ∧
        (∀ e, e = s.dev.feedWord c w → s.dev.coreClock = true → undefinedBy s.dev e = none →
          exec (.feed p c w) s = .next (s.after e))) ∧
      (∀ w, exec (.traceEnable p c w) s = .next (s.after
        ((s.dev.fieldsWrite .dbg (dbgCore c + 0xA0) w (fun _ => false)).traceEnabled c (s.dev.dbgFlag c fDbgcTraceCtrlEn))))) ∧
    (∀ (c : Fin 2), s.dev.coreSealed c = true → ∀ w,
      exec (.regData p c w) s = .next (s.after (s.dev.raise .dbg cDbgSealedRefused)) ∧
      exec (.traceEnable p c w) s = .next (s.after (s.dev.raise .dbg cDbgSealedRefused))) ∧
    (∀ (c : Fin 2), exec (.peepAck p c) s = .next (s.after (s.dev.peepTxPop c))) ∧
    (∀ (c : Fin 2) (w : Word) (rq : Requester), s.dev.takes rq (.tcore c) (.tcore c) →
      exec (.peepRx rq c w) s = .next (s.after (s.dev.peepRxWrite c w))) ∧
    (∀ (c : Fin 2) (i : Fin 8) (x : CompAccess), (s.dev.core c).mode = .running → (s.dev.core c).acted.contains i.val = false →
      4 ≤ i.val → s.dev.dataMatch c i.val x = true →
      exec (.compMatch c i x) s = .next (s.after (s.dev.compAct c [i.val] (s.dev.core c).pc).2))

/-- EXTEST and SAMPLE shift the boundary cells; IDCODE shifts the identity; CLAMP, HIGHZ, BYPASS and the reset select their
instruction; DBGACC shifts out the last status and data and then reads a register of the DBG page, writes one, or does nothing;
wrapper accesses shift the die’s register, load a wrapper’s instruction, and shift its bypass bit or its boundary. (R433, R435,
R439, R436, R434) -/
def Obligations.TestAccessPort : Prop :=
  (∀ (s : State) (x : ScanIn),
    exec (.extest x) s = .next (s.after ({ s.dev with tap := { s.dev.tap with ir := 0x0, seen := x.captured, cells := x.shifted } }.emit
      (.tdo x.captured))) ∧
    exec (.samplePreload x) s = .next (s.after ({ s.dev with tap := { s.dev.tap with
      ir := 0x1, seen := x.captured, cells := x.shifted } }.emit (.tdo x.captured)))) ∧
  (∀ (s : State),
    exec .idcode s = .next (s.after ({ s.dev with tap := { s.dev.tap with ir := 0x2 } }.emit (.tdo (bitList 32 idcode)))) ∧
    exec .clamp s = .next (s.after { s.dev with tap := { s.dev.tap with ir := 0x3 } }) ∧
    exec .highz s = .next (s.after { s.dev with tap := { s.dev.tap with ir := 0x4 } }) ∧
    exec .tapReset s = .next (s.after { s.dev with tap := { s.dev.tap with ir := 0x2 } }) ∧
    ∀ bit, exec (.bypass bit) s = .next (s.after ({ s.dev with tap := { s.dev.tap with ir := 0xF, bypass := bit } }.emit
      (.tdo [false])))) ∧
  (∀ (s : State) (dr : BitVec 44) (o : Nat) (d : Device), o = (dr.extractLsb' 2 10).toNat * 4 →
      d = ({ s.dev with free := s.dev.free + 1, tap := { s.dev.tap with ir := 0x8 } }.emit (.tdo (bitList 2 s.dev.tap.status ++
        bitList 10 (Config.freeWord (s.dev.free + 1)).toNat ++ bitList 32 s.dev.tap.data.toNat))) →
    ∀ e, undefinedBy s.dev e = none →
    (∀ v d1, dr.extractLsb' 0 2 = 1 → d.mgmtRead .debugPort true (0xA000 + o) = (v, d1) →
      e = { d1 with tap := { d1.tap with status := 0, data := v } } → exec (.dbgacc dr) s = .next (s.after e)) ∧
    (∀ ok d1, dr.extractLsb' 0 2 = 2 → 0x040 ≤ o → d.dbgWrite .port o (dr.extractLsb' 12 32) = (ok, d1) →
      e = { d1 with tap := { d1.tap with status := if ok then 0 else 2 } } → exec (.dbgacc dr) s = .next (s.after e)) ∧
    (dr.extractLsb' 0 2 = 0 ∨ dr.extractLsb' 0 2 = 3 → e = d → exec (.dbgacc dr) s = .next (s.after e))) ∧
  (∀ (s : State) (t : TapSt), t = { s.dev.tap with ir := 0x9 } →
    (∀ x, exec (.wrapAccess (.dwr x)) s =
      .next (s.after ({ s.dev with tap := { t with dwrSeen := x.captured, dwr := x.shifted } }.emit (.tdo x.captured)))) ∧
    (∀ w code keyed, exec (.wrapAccess (.wir w code keyed)) s =
      .next (s.after { s.dev with tap := { t with wir := sset (fun _ => 0) t.wir w.val (if keyed then wirBypass else code.toNat) } })) ∧
    (∀ w bit, exec (.wrapAccess (.wby w bit)) s =
      .next (s.after ({ s.dev with tap := { t with wby := sset (fun _ => false) t.wby w.val bit } }.emit (.tdo [false])))) ∧
    (∀ w x, sget (fun _ => 0) t.wir w.val ≠ wirBypass → exec (.wrapAccess (.wbr w x)) s =
      .next (s.after ({ s.dev with tap := { t with wbr := sset (fun _ => []) t.wbr w.val x.shifted
                                                   wbrSeen := sset (fun _ => []) t.wbrSeen w.val x.captured } }.emit
        (.tdo x.captured)))))

/-- Outside FAULT_HOLD and with no change under way a request is allowed exactly for the pairs of modes of the transition table,
QUIESCED only with no load and no golden call running, and in FAULT_HOLD exactly for DORMANT, DOORWAY and, where FAULT.SEEN
shows neither cause 3 nor cause 6 (bits 2 and 5), the mode before it (LOAD after STARTUP); one that is allowed begins the change
and one that is not sets MODE_REFUSED and counts; the quiesce limit disables the links that are still awake and sets
LINK_FORCED. (R452, R453, R456, R458, R459, R461) -/
def Obligations.ModesAreRequested : Prop :=
  (∀ (d : Device) (t : Nat), t < 8 → d.mode ≠ mFaultHold → d.flag .pwr fPwrModeStatusBusy = false →
    (d.modeAllowed t = true ↔ ((t = mDormant ∧ d.mode ≠ mDormant) ∨
      (d.mode, t) ∈ [(mLoad, mDoorway), (mService, mDoorway), (mDrowse, mDoorway), (mQuiesced, mDoorway), (mService, mDrowse),
        (mDrowse, mDrowse), (mDrowse, mService), (mQuiesced, mService)] ∨
      (t = mQuiesced ∧ (d.mode = mService ∨ d.mode = mDrowse) ∧ d.loadBusy = false ∧ d.goldenRunning = false)))) ∧
  (∀ (d : Device) (t : Nat), d.mode = mFaultHold → d.flag .pwr fPwrModeStatusBusy = false →
    (d.modeAllowed t = true ↔ t ≠ mStartup ∧ t ≠ mFaultHold ∧ (t = mDormant ∨ t = mDoorway ∨
      (t = (if d.rd .sill fSillFaultFrom = mStartup then mLoad else d.rd .sill fSillFaultFrom) ∧
        (d.rd .sill fSillFaultSeen).testBit 2 = false ∧ (d.rd .sill fSillFaultSeen).testBit 5 = false)))) ∧
  (∀ (s : State) (rq : Requester), s.dev.takes rq .pwr .pwr →
    (∀ t i, (t, i) ∈ [(mDormant, Instr.modeReqDormant rq), (mDoorway, .modeReqDoorway rq), (mDrowse, .modeReqDrowse rq),
        (mQuiesced, .modeReqQuiesced rq)] →
      (s.dev.modeAllowed t = true → exec i s = .next (s.after (s.dev.beginMode t))) ∧
      (s.dev.modeAllowed t = false → exec i s = .next (s.after ((s.dev.raise .pwr cPwrModeRefused).count .pwr 1)))) ∧
    (∀ t i, (t, i) ∈ [(mService, Instr.modeReqService rq), (mLoad, .modeReqLoad rq)] → ∀ e, undefinedBy s.dev e = none →
      (s.dev.modeAllowed t = true → e = s.dev.beginMode t → exec i s = .next (s.after e)) ∧
      (s.dev.modeAllowed t = false → e = (s.dev.raise .pwr cPwrModeRefused).count .pwr 1 → exec i s = .next (s.after e)))) ∧
  (∀ (s : State) (awake : List (Fin 144)), s.dev.modeStep = some .asleep → awake = (List.finRange 144).filter s.dev.linkAwakeNow →
    awake ≠ [] → exec .quiesceLimit s = .next (s.after
      ((awake.foldl (fun (d : Device) (l : Fin 144) => linkDisable l d) s.dev).raise .pwr cPwrLinkForced)))

/-- An entry to L1.2 with the link going down is a link loss, and one without puts a link that is up to sleep, and leaving it
wakes it; a wake of a link is detected; PERST_N makes the device dormant, and its release wakes it; in DORMANT an enabled wake
holds its source until the references are judged good, and the sill timer wakes; the first good reference leaves DORMANT. (R453,
R455, R457, R456, R248, R497) -/
def Obligations.WakesAndResets : Prop :=
  (∀ (s : State), s.dev.mode ≠ mDormant →
    exec (.pcieL12Entry true) s = .next (s.after s.dev.linkDown) ∧
    (s.dev.rd .pcie fPcieLinkStatusRate ≠ 0 →
      exec (.pcieL12Entry false) s = .next (s.after (s.dev.put .pcie fPcieLinkStatusPm 4))) ∧
    (s.dev.rd .pcie fPcieLinkStatusPm = 4 → s.dev.modeStep = none → exec .pcieL12Exit s = .next (s.after s.dev.linkAwake)) ∧
    (∀ l, s.dev.modeStep = none → exec (.linkWakeDetect l) s = .next (s.after (s.dev.wakeDetected l))) ∧
    (∀ low, low = (s.dev.flag .pwr fPwrTempValid 15 && decide ((BitVec.ofNat 12 (s.dev.rd .pwr fPwrTemp 15)).toInt < 400)) →
      exec .perstNAssert s = .next (s.after (Device.tripRelease
        (Device.enterDormant { s.dev with perst := true, heldWake := none, lateWake := none, judging := [] } 1) low)))) ∧
  (∀ (s : State) (d : Device), s.dev.mode = mDormant → s.dev.perst = false → s.dev.heldWake = none →
    s.dev.rd .sill fSillWakeSrcSource = 0 →
    (∀ src link i, (src, link, i) ∈ [(4, 0, Instr.wakeN)] ++ (List.finRange 144).map (fun l => (3, l.val, Instr.linkWakeDetect l)) →
      s.dev.wakeEnabled src link = true →
      d = (s.dev.put .sill fSillWakeSrcSource src).put .sill fSillWakeSrcLink link →
      exec i s = .next (s.after { ((d.lower .clk fClkRefStatusAGood).lower .clk fClkRefStatusBGood).lower .clk
        fClkRefStatusPcieRefGood with heldWake := some (src, link), judging := [.a, .b, .pcie] }))) ∧
  (∀ (s : State), s.dev.mode = mDormant → s.dev.rd .sill fSillTimerCmp ≠ 0 → s.dev.flag .clk fClkSillClkDead = false →
    exec .sillTimer s = .next (s.after ((s.dev.put .sill fSillTimerCount (s.dev.rd .sill fSillTimerCmp)).wake wakeTimer 0))) ∧
  (∀ (s : State), s.dev.perst = true → exec .perstNDeassert s = .next (s.after (Device.wake { s.dev with perst := false } wakePerst 0))) ∧
  (∀ (s : State) (r : RefClk) (g : Fld), (r, g) ∈ [(RefClk.a, fClkRefStatusAGood), (.b, fClkRefStatusBGood), (.pcie, fClkRefStatusPcieRefGood)] →
    s.dev.judging.contains r = true → ∀ d, d = Device.raise { s.dev with judging := s.dev.judging.erase r } .clk g →
    ∀ e, undefinedBy s.dev e = none →
    (r = .pcie → e = d → exec (.referenceJudgedGood r) s = .next (s.after e)) ∧
    (r ≠ .pcie → s.dev.heldWake ≠ none → e = d.leaveDormant (r == .b) → exec (.referenceJudgedGood r) s = .next (s.after e)))

/-- Where the sensor is read, a reading of 115 degrees or more trips; TEMP_MAX is cleared; a lost supply leaves the fresh device
with its keys, and a power-on loses them, with KEYRAM_LOST, where the battery is low. (R455, R457, R485, R486, R473, R368, R471)
-/
def Obligations.TemperatureAndSupplies : Prop :=
  (∀ (s : State) (temps : List Temp) (k : Nat) (t : Temp), k < 16 → s.dev.mode ≠ mDormant ∨ k = 15 → temps[k]? = some t →
    ∃ e, exec (.thermRead temps) s = .next (s.after e) ∧
      (460 ≤ t.toInt → e.flag .pwr fPwrTripStatusTripped = true)) ∧
  (∀ (s : State) (rq : Requester), s.dev.takes rq .pwr .pwr → exec (.tempMaxClear rq) s = .next (s.after s.dev.tempMaxClear)) ∧
  (∀ (s : State), exec .vbatLow s = .next (s.after { s.dev with vbatLow := true }) ∧
    exec .supplyLoss s = .next (s.after { Device.fresh with
      out := s.dev.out, free := s.dev.free, stuck := s.dev.stuck, keyRam := s.dev.keyRam, vbatLow := s.dev.vbatLow }) ∧
    (∀ n, n = { Device.fresh with out := s.dev.out, free := s.dev.free + 1, stuck := s.dev.stuck,
                                  keyRam := if s.dev.vbatLow then [] else s.dev.keyRam } →
      Config.freeBool s.dev.free = false → exec .sillPowerOn s =
        .next (s.after (if s.dev.vbatLow then n.raise .sill cSillKeyramLost else n))))
end

