-- ==== Sys2Proof/Laws/Sparse.lean ====
section
/-! SUPPORT. Sparse maps: a read after a write gives the value written, a write leaves every other key alone, and every operation keeps
the canonical form. -/

namespace Sys2Proof.Machine

variable {α : Type}

/-! ### What is read after a write -/

@[simp] theorem sget_nil (dflt : Nat → α) (k : Nat) : sget dflt [] k = dflt k := rfl

theorem sget_cons (dflt : Nat → α) (a : Nat) (v : α) (m : Sparse α) (k : Nat) :
    sget dflt ((a, v) :: m) k = if k = a then v else sget dflt m k := rfl

theorem sget_sins_self (dflt : Nat → α) (m : Sparse α) (k : Nat) (v : α) : sget dflt (sins m k v) k = v := by
  induction m with
  | nil => simp [sins, sget]
  | cons e m ih =>
    obtain ⟨a, x⟩ := e
    unfold sins
    split
    · simp [sget]
    · split
      · simp [sget]
      · simp [sget, *]

theorem sget_sins_ne (dflt : Nat → α) (m : Sparse α) (k j : Nat) (v : α) (h : j ≠ k) :
    sget dflt (sins m k v) j = sget dflt m j := by
  induction m with
  | nil => simp [sins, sget, h]
  | cons e m ih =>
    obtain ⟨a, x⟩ := e
    unfold sins
    split
    · simp [sget, h]
    · split
      · next h2 => subst h2; simp [sget, h]
      · simp [sget, ih]

theorem sget_sdel_self (dflt : Nat → α) (m : Sparse α) (k : Nat) : sget dflt (sdel m k) k = dflt k := by
  induction m with
  | nil => rfl
  | cons e m ih =>
    obtain ⟨a, x⟩ := e
    unfold sdel
    split
    · exact ih
    · simp [sget, *]

theorem sget_sdel_ne (dflt : Nat → α) (m : Sparse α) (k j : Nat) (h : j ≠ k) : sget dflt (sdel m k) j = sget dflt m j := by
  induction m with
  | nil => rfl
  | cons e m ih =>
    obtain ⟨a, x⟩ := e
    unfold sdel
    split
    · next h2 => subst h2; simp [sget, h, ih]
    · simp [sget, ih]

@[simp] theorem sget_sset_self [DecidableEq α] (dflt : Nat → α) (m : Sparse α) (k : Nat) (v : α) :
    sget dflt (sset dflt m k v) k = v := by
  unfold sset
  split
  · next h => rw [sget_sdel_self, h]
  · exact sget_sins_self dflt m k v

theorem sget_sset_ne [DecidableEq α] (dflt : Nat → α) (m : Sparse α) (k j : Nat) (v : α) (h : j ≠ k) :
    sget dflt (sset dflt m k v) j = sget dflt m j := by
  unfold sset
  split
  · exact sget_sdel_ne dflt m k j h
  · exact sget_sins_ne dflt m k j v h

/-! ### The canonical form -/

theorem srising_weaken (m : Sparse α) (lo lo' : Nat) (h : lo' ≤ lo) (hm : srising lo m = true) : srising lo' m = true := by
  cases m with
  | nil => rfl
  | cons e m =>
    obtain ⟨a, v⟩ := e
    simp only [srising, Bool.and_eq_true, decide_eq_true_eq] at hm ⊢
    exact ⟨by omega, hm.2⟩

theorem srising_sins (m : Sparse α) (lo k : Nat) (v : α) (hk : lo ≤ k) (hm : srising lo m = true) :
    srising lo (sins m k v) = true := by
  induction m generalizing lo with
  | nil => simp [sins, srising, hk]
  | cons e m ih =>
    obtain ⟨a, x⟩ := e
    simp only [srising, Bool.and_eq_true, decide_eq_true_eq] at hm
    unfold sins
    split
    · next h =>
      simp only [srising, Bool.and_eq_true, decide_eq_true_eq]
      exact ⟨hk, by omega, hm.2⟩
    · split
      · next h =>
        subst h
        simp only [srising, Bool.and_eq_true, decide_eq_true_eq]
        exact ⟨hk, hm.2⟩
      · simp only [srising, Bool.and_eq_true, decide_eq_true_eq]
        exact ⟨hm.1, ih (a + 1) (by omega) hm.2⟩

theorem srising_sdel (m : Sparse α) (lo k : Nat) (hm : srising lo m = true) : srising lo (sdel m k) = true := by
  induction m generalizing lo with
  | nil => rfl
  | cons e m ih =>
    obtain ⟨a, x⟩ := e
    simp only [srising, Bool.and_eq_true, decide_eq_true_eq] at hm
    unfold sdel
    split
    · exact ih lo (srising_weaken m (a + 1) lo (by omega) hm.2)
    · simp only [srising, Bool.and_eq_true, decide_eq_true_eq]
      exact ⟨hm.1, ih (a + 1) hm.2⟩

theorem srising_sclear (p : Nat → Bool) (m : Sparse α) (lo : Nat) (hm : srising lo m = true) : srising lo (sclear p m) = true := by
  induction m generalizing lo with
  | nil => rfl
  | cons e m ih =>
    obtain ⟨a, x⟩ := e
    simp only [srising, Bool.and_eq_true, decide_eq_true_eq] at hm
    simp only [sclear, List.filter]
    split
    · simp only [srising, Bool.and_eq_true, decide_eq_true_eq]
      exact ⟨hm.1, ih (a + 1) hm.2⟩
    · exact ih lo (srising_weaken m (a + 1) lo (by omega) hm.2)

theorem mem_sins (m : Sparse α) (k : Nat) (v : α) (e : Nat × α) (he : e ∈ sins m k v) : e = (k, v) ∨ e ∈ m := by
  induction m with
  | nil => simpa [sins] using he
  | cons f m ih =>
    obtain ⟨a, x⟩ := f
    unfold sins at he
    split at he
    · simpa using he
    · split at he
      · rcases List.mem_cons.mp he with he | he
        · exact .inl he
        · exact .inr (List.mem_cons_of_mem _ he)
      · rcases List.mem_cons.mp he with he | he
        · exact .inr (by simp [he])
        · rcases ih he with h | h
          · exact .inl h
          · exact .inr (List.mem_cons_of_mem _ h)

theorem mem_sdel (m : Sparse α) (k : Nat) (e : Nat × α) (he : e ∈ sdel m k) : e ∈ m := by
  induction m with
  | nil => simp [sdel] at he
  | cons f m ih =>
    obtain ⟨a, x⟩ := f
    unfold sdel at he
    split at he
    · exact List.mem_cons_of_mem _ (ih he)
    · rcases List.mem_cons.mp he with he | he
      · simp [he]
      · exact List.mem_cons_of_mem _ (ih he)

/-- A write keeps the canonical form. -/
theorem wf_sset [DecidableEq α] (dflt : Nat → α) (m : Sparse α) (k : Nat) (v : α) (hm : Memory.wf dflt m) :
    Memory.wf dflt (sset dflt m k v) := by
  simp only [Memory.wf, swf, Bool.and_eq_true, List.all_eq_true, decide_eq_true_eq] at hm ⊢
  unfold sset
  split
  · exact ⟨srising_sdel m 0 k hm.1, fun e he => hm.2 e (mem_sdel m k e he)⟩
  · next h =>
    refine ⟨srising_sins m 0 k v (Nat.zero_le k) hm.1, fun e he => ?_⟩
    rcases mem_sins m k v e he with rfl | he
    · exact h
    · exact hm.2 e he

theorem wf_ssetAll [DecidableEq α] (dflt : Nat → α) (vs : List α) (m : Sparse α) (k : Nat) (hm : Memory.wf dflt m) :
    Memory.wf dflt (ssetAll dflt m k vs) := by
  induction vs generalizing m k with
  | nil => exact hm
  | cons v vs ih => exact ih (sset dflt m k v) (k + 1) (wf_sset dflt m k v hm)

theorem wf_sclear [DecidableEq α] (dflt : Nat → α) (p : Nat → Bool) (m : Sparse α) (hm : Memory.wf dflt m) :
    Memory.wf dflt (sclear p m) := by
  simp only [Memory.wf, swf, Bool.and_eq_true, List.all_eq_true, decide_eq_true_eq] at hm ⊢
  refine ⟨srising_sclear p m 0 hm.1, fun e he => hm.2 e ?_⟩
  simp only [sclear, List.mem_filter] at he
  exact he.1

/-- Memories are in canonical form at reset. -/
theorem reset_memoriesWf : State.reset.dev.memoriesWf := ⟨rfl, rfl, rfl, rfl, rfl⟩

end Sys2Proof.Machine
end

