-- ==== Sys2Proof/Laws/Bits.lean ====
section
/-! SUPPORT. Bits of a register: what a field reads after a field is written. -/

namespace Sys2Proof.Machine

open Sys2Proof

/-- One bit of a register whose field `lo + n - 1` to `lo` was written. -/
theorem getLsbD_setBits (w : Word) (lo n v i : Nat) (hi : i < 32) :
    (setBits w lo n v).getLsbD i = if lo ≤ i ∧ i < lo + n then v.testBit (i - lo) else w.getLsbD i := by
  simp only [setBits, BitVec.getLsbD_or, BitVec.getLsbD_and, BitVec.getLsbD_not, BitVec.getLsbD_ofNat, hi, decide_true,
    Bool.true_and, Nat.testBit_mul_two_pow, Nat.testBit_two_pow_sub_one, Nat.testBit_mod_two_pow]
  by_cases h1 : lo ≤ i
  · by_cases h2 : i - lo < n
    · simp [h1, h2, show i < lo + n by omega]
    · simp [h1, h2, show ¬ i < lo + n by omega]
  · simp [h1]

/-- A field of a register, bit by bit. -/
theorem testBit_bitsOf (w : Word) (lo n i : Nat) : (bitsOf w lo n).testBit i = (decide (i < n) && w.getLsbD (lo + i)) := by
  rw [bitsOf, BitVec.testBit_toNat, BitVec.getLsbD_extractLsb']

/-- A field written reads back its value modulo its width. -/
theorem bitsOf_setBits_self (w : Word) (lo n v : Nat) (h : lo + n ≤ 32) : bitsOf (setBits w lo n v) lo n = v % 2 ^ n := by
  refine Nat.eq_of_testBit_eq fun i => ?_
  rw [testBit_bitsOf, Nat.testBit_mod_two_pow]
  by_cases hi : i < n
  · rw [getLsbD_setBits _ _ _ _ _ (by omega), if_pos (by omega)]
    simp [hi, show lo + i - lo = i by omega]
  · simp [hi]

/-- A field written leaves the fields beside it as they were. -/
theorem bitsOf_setBits_ne (w : Word) (lo n v lo' n' : Nat) (hd : lo + n ≤ lo' ∨ lo' + n' ≤ lo) (h : lo' + n' ≤ 32) :
    bitsOf (setBits w lo n v) lo' n' = bitsOf w lo' n' := by
  refine Nat.eq_of_testBit_eq fun i => ?_
  rw [testBit_bitsOf, testBit_bitsOf]
  by_cases hi : i < n'
  · rw [getLsbD_setBits _ _ _ _ _ (by omega), if_neg (by omega)]
  · simp [hi]

/-! ### Registers and fields of the device -/

@[simp] theorem word_setWord_self (d : Device) (k : Nat) (w : Word) : (d.setWord k w).word k = w := by
  simp [Device.setWord, Device.word]

theorem word_setWord_ne (d : Device) (k j : Nat) (w : Word) (h : j ≠ k) : (d.setWord k w).word j = d.word j := by
  simp [Device.setWord, Device.word, sget_sset_ne _ _ _ _ _ h]

/-- A field put reads back. -/
theorem rd_put_self (d : Device) (pg : PageRef) (f : Fld) (v i : Nat) (h : f.lo + f.width ≤ 32) :
    (d.put pg f v i).rd pg f i = v % 2 ^ f.width := by
  simp only [Device.rd, Device.put, word_setWord_self, bitsOf_setBits_self _ _ _ _ h]

/-- A field of another register is left as it was. -/
theorem rd_put_key (d : Device) (pg pg' : PageRef) (f f' : Fld) (v i j : Nat) (h : fldKey pg' f' j ≠ fldKey pg f i) :
    (d.put pg f v i).rd pg' f' j = d.rd pg' f' j := by
  simp only [Device.rd, Device.put, word_setWord_ne _ _ _ _ h]

/-- A field beside it in the same register is left as it was. -/
theorem rd_put_beside (d : Device) (pg : PageRef) (f f' : Fld) (v i j : Nat) (hk : fldKey pg f' j = fldKey pg f i)
    (hd : f.lo + f.width ≤ f'.lo ∨ f'.lo + f'.width ≤ f.lo) (h : f'.lo + f'.width ≤ 32) :
    (d.put pg f v i).rd pg f' j = d.rd pg f' j := by
  simp only [Device.rd, Device.put, hk, word_setWord_self, bitsOf_setBits_ne _ _ _ _ _ _ hd h]

/-- A flag of another register is left as it was. -/
theorem flag_put_key (d : Device) (pg pg' : PageRef) (f f' : Fld) (v i j : Nat) (h : fldKey pg' f' j ≠ fldKey pg f i) :
    (d.put pg f v i).flag pg' f' j = d.flag pg' f' j := by
  simp only [Device.flag, rd_put_key _ _ _ _ _ _ _ _ h]

/-- A flag beside it is left as it was. -/
theorem flag_put_beside (d : Device) (pg : PageRef) (f f' : Fld) (v i j : Nat) (hk : fldKey pg f' j = fldKey pg f i)
    (hd : f.lo + f.width ≤ f'.lo ∨ f'.lo + f'.width ≤ f.lo) (h : f'.lo + f'.width ≤ 32) :
    (d.put pg f v i).flag pg f' j = d.flag pg f' j := by
  simp only [Device.flag, rd_put_beside _ _ _ _ _ _ _ hk hd h]

/-- A flag raised is set, a flag lowered is clear. -/
theorem flag_raise (d : Device) (pg : PageRef) (f : Fld) (i : Nat) (h : f.lo + f.width ≤ 32) (hw : f.width ≠ 0) :
    (d.raise pg f i).flag pg f i = true := by
  simp only [Device.flag, Device.raise, rd_put_self _ _ _ _ _ h, bne_iff_ne]
  rw [Nat.mod_eq_of_lt (Nat.one_lt_two_pow hw)]
  decide

theorem flag_lower (d : Device) (pg : PageRef) (f : Fld) (i : Nat) (h : f.lo + f.width ≤ 32) :
    (d.lower pg f i).flag pg f i = false := by
  simp [Device.flag, Device.lower, rd_put_self _ _ _ _ _ h]

end Sys2Proof.Machine
end

