-- ==== Sys2Proof/Laws/Cells.lean ====
section
/-! SUPPORT. What a cell does at an edge: set/reset, load and hold of its flip-flops, and a bit of an adder. -/

namespace Sys2Proof.Machine

/-- Set/reset wins (R51). -/
theorem flop_setReset {x : CellIn} (h : x.setReset = true) (sr d q : Bool) : flopNext x sr d q = sr := by simp [flopNext, h]

/-- Under the clock enable a flip-flop loads (R51). -/
theorem flop_load {x : CellIn} (h : x.setReset = false) (e : x.enable = true) (sr d q : Bool) : flopNext x sr d q = d := by
  simp [flopNext, h, e]

/-- Otherwise it holds (R51). -/
theorem flop_hold {x : CellIn} (h : x.setReset = false) (e : x.enable = false) (sr d q : Bool) : flopNext x sr d q = q := by
  simp [flopNext, h, e]

/-- A cell whose W is the XOR of two bits and whose N is one of them adds them: CO is the carry of a + b + CI (R50, R52). -/
theorem co_adds (c : CellCfg) (x : CellIn) (mem : BitVec 64) (a b ci : Bool) (hw : c.w x mem = xor a b) (hn : c.n x = a) :
    2 * (c.co x mem ci).toNat + (xor (c.w x mem) ci).toNat = a.toNat + b.toNat + ci.toNat := by
  unfold CellCfg.co; rw [hw, hn]; cases a <;> cases b <;> cases ci <;> rfl

/-- What a bay without settings makes of an edge: nothing (R51). -/
theorem cellEdges_none (d : Device) (pb : Fin 112) (mask : Word) (h : sget (fun _ => BayCfg.empty) d.bayCfg pb.val = BayCfg.empty) :
    d.cellEdges pb mask = d := by
  unfold Device.cellEdges; rw [h]; split <;> rfl

/-- A bay that is not live keeps its cells (R61). -/
theorem cellEdges_held (d : Device) (pb : Fin 112) (mask : Word) (h : d.bayLive pb = false) : d.cellEdges pb mask = d := by
  unfold Device.cellEdges; simp [h]

/-- Outside RAM and shift mode a cell holds no contents to change (R53). -/
theorem memNext_logic (c : CellCfg) (x : CellIn) (mem : BitVec 64) (h : c.mode = .logic) : c.memNext x mem = mem := by
  unfold CellCfg.memNext; rw [h]

end Sys2Proof.Machine
end

