-- ==== Sys2Proof/Laws/State.lean ====
section
/-! SUPPORT. What each named update of the device leaves as it was, field by field, and what it makes the field it is for. Each
lemma holds by unfolding the update once; later proofs unfold none. -/

namespace Sys2Proof.Machine

open Sys2Proof

/-! ### The state after a command -/

@[simp] theorem State.after_pending (s : State) (d : Device) : (s.after d).pending = s.pending := by
  simp only [State.after]
@[simp] theorem State.after_dev (s : State) (d : Device) : (s.after d).dev = settle s.dev d := by
  simp only [State.after]

/-! ### What an update is for -/

@[simp] theorem Device.emit_out (d : Device) (o : Out) : (d.emit o).out = d.out ++ [o] := rfl
@[simp] theorem Device.signal_signals (d : Device) (x : Signal) : (d.signal x).signals = d.signals ++ [x] := rfl
@[simp] theorem Device.setLoad_load (d : Device) (l : LoadSt) : (d.setLoad l).load = l := rfl
@[simp] theorem Device.setCore_core (d : Device) (c : Fin 2) (k : CoreSt) : (d.setCore c k).core c = k := by
  simp [Device.core, Device.setCore]
@[simp] theorem Device.setLk_lk (d : Device) (l : Fin 144) (k : LinkSt) : (d.setLk l k).lk l = k := by
  simp [Device.lk, Device.setLk]
@[simp] theorem Device.setCur_cur (d : Device) (n : Fin 144) (k : CurSt) : (d.setCur n k).cur n = k := by
  simp [Device.cur, Device.setCur]
@[simp] theorem Device.setReq_req (d : Device) (n : NodeKind) (tag : Nat) (r : Option Req) : (d.setReq n tag r).req n tag = r := by
  simp [Device.req, Device.setReq]
@[simp] theorem Device.setRow_row (d : Device) (pb : Fin 112) (m r : Nat) (v : BitVec 72) : (d.setRow pb m r v).row pb m r = v := by
  simp [Device.row, Device.setRow]
@[simp] theorem Device.setSlice_slice (d : Device) (pb : Fin 112) (m : Nat) (x : SliceSt) : (d.setSlice pb m x).slice pb m = x := by
  simp [Device.slice, Device.setSlice]
@[simp] theorem Device.setChan_chan (d : Device) (c : Nat) (x : ChanSt) : (d.setChan c x).chan c = x := by
  simp [Device.chan, Device.setChan]

theorem Device.setCore_core_ne (d : Device) (c c' : Fin 2) (k : CoreSt) (h : c' ≠ c) : (d.setCore c k).core c' = d.core c' := by
  simp only [Device.core, Device.setCore]; exact sget_sset_ne _ _ _ _ _ fun e => h (Fin.ext e)
theorem Device.setLk_lk_ne (d : Device) (l l' : Fin 144) (k : LinkSt) (h : l' ≠ l) : (d.setLk l k).lk l' = d.lk l' := by
  simp only [Device.lk, Device.setLk]; exact sget_sset_ne _ _ _ _ _ fun e => h (Fin.ext e)
theorem Device.setCur_cur_ne (d : Device) (n n' : Fin 144) (k : CurSt) (h : n' ≠ n) : (d.setCur n k).cur n' = d.cur n' := by
  simp only [Device.cur, Device.setCur]; exact sget_sset_ne _ _ _ _ _ fun e => h (Fin.ext e)

/-! ### The canonical form of the addressed memories -/

theorem Device.setRow_wf (d : Device) (pb : Fin 112) (m r : Nat) (v : BitVec 72) (h : Memory.wf rowDflt d.bram) :
    Memory.wf rowDflt (d.setRow pb m r v).bram := wf_sset _ _ _ _ h

/-! ### What an update leaves -/

@[simp] theorem Device.setWord_committed (d : Device) (k : Nat) (w : Word) : (d.setWord k w).committed = d.committed := rfl
@[simp] theorem Device.setWord_copied (d : Device) (k : Nat) (w : Word) : (d.setWord k w).copied = d.copied := rfl
@[simp] theorem Device.setWord_routeStaged (d : Device) (k : Nat) (w : Word) : (d.setWord k w).routeStaged = d.routeStaged := rfl
@[simp] theorem Device.setWord_routeCommitted (d : Device) (k : Nat) (w : Word) : (d.setWord k w).routeCommitted = d.routeCommitted := rfl
@[simp] theorem Device.setWord_routeCopied (d : Device) (k : Nat) (w : Word) : (d.setWord k w).routeCopied = d.routeCopied := rfl
@[simp] theorem Device.setWord_out (d : Device) (k : Nat) (w : Word) : (d.setWord k w).out = d.out := rfl
@[simp] theorem Device.setWord_free (d : Device) (k : Nat) (w : Word) : (d.setWord k w).free = d.free := rfl
@[simp] theorem Device.setWord_tally (d : Device) (k : Nat) (w : Word) : (d.setWord k w).tally = d.tally := rfl
@[simp] theorem Device.setWord_tallyBroken (d : Device) (k : Nat) (w : Word) : (d.setWord k w).tallyBroken = d.tallyBroken := rfl
@[simp] theorem Device.setWord_bayCfg (d : Device) (k : Nat) (w : Word) : (d.setWord k w).bayCfg = d.bayCfg := rfl
@[simp] theorem Device.setWord_bramCfg (d : Device) (k : Nat) (w : Word) : (d.setWord k w).bramCfg = d.bramCfg := rfl
@[simp] theorem Device.setWord_sliceCfg (d : Device) (k : Nat) (w : Word) : (d.setWord k w).sliceCfg = d.sliceCfg := rfl
@[simp] theorem Device.setWord_gsr (d : Device) (k : Nat) (w : Word) : (d.setWord k w).gsr = d.gsr := rfl
@[simp] theorem Device.setWord_bayReset (d : Device) (k : Nat) (w : Word) : (d.setWord k w).bayReset = d.bayReset := rfl
@[simp] theorem Device.setWord_writesOn (d : Device) (k : Nat) (w : Word) : (d.setWord k w).writesOn = d.writesOn := rfl
@[simp] theorem Device.setWord_ffs (d : Device) (k : Nat) (w : Word) : (d.setWord k w).ffs = d.ffs := rfl
@[simp] theorem Device.setWord_mram (d : Device) (k : Nat) (w : Word) : (d.setWord k w).mram = d.mram := rfl
@[simp] theorem Device.setWord_hinges (d : Device) (k : Nat) (w : Word) : (d.setWord k w).hinges = d.hinges := rfl
@[simp] theorem Device.setWord_hingeCredits (d : Device) (k : Nat) (w : Word) : (d.setWord k w).hingeCredits = d.hingeCredits := rfl
@[simp] theorem Device.setWord_hingeOutReg (d : Device) (k : Nat) (w : Word) : (d.setWord k w).hingeOutReg = d.hingeOutReg := rfl
@[simp] theorem Device.setWord_stiles (d : Device) (k : Nat) (w : Word) : (d.setWord k w).stiles = d.stiles := rfl
@[simp] theorem Device.setWord_stileCredits (d : Device) (k : Nat) (w : Word) : (d.setWord k w).stileCredits = d.stileCredits := rfl
@[simp] theorem Device.setWord_stileOutReg (d : Device) (k : Nat) (w : Word) : (d.setWord k w).stileOutReg = d.stileOutReg := rfl
@[simp] theorem Device.setWord_sbOut (d : Device) (k : Nat) (w : Word) : (d.setWord k w).sbOut = d.sbOut := rfl
@[simp] theorem Device.setWord_shadow (d : Device) (k : Nat) (w : Word) : (d.setWord k w).shadow = d.shadow := rfl
@[simp] theorem Device.setWord_captureAll (d : Device) (k : Nat) (w : Word) : (d.setWord k w).captureAll = d.captureAll := rfl
@[simp] theorem Device.setWord_readingShadow (d : Device) (k : Nat) (w : Word) : (d.setWord k w).readingShadow = d.readingShadow := rfl
@[simp] theorem Device.setWord_bram (d : Device) (k : Nat) (w : Word) : (d.setWord k w).bram = d.bram := rfl
@[simp] theorem Device.setWord_rowWas (d : Device) (k : Nat) (w : Word) : (d.setWord k w).rowWas = d.rowWas := rfl
@[simp] theorem Device.setWord_bramOut (d : Device) (k : Nat) (w : Word) : (d.setWord k w).bramOut = d.bramOut := rfl
@[simp] theorem Device.setWord_writeback (d : Device) (k : Nat) (w : Word) : (d.setWord k w).writeback = d.writeback := rfl
@[simp] theorem Device.setWord_dirty (d : Device) (k : Nat) (w : Word) : (d.setWord k w).dirty = d.dirty := rfl
@[simp] theorem Device.setWord_slices (d : Device) (k : Nat) (w : Word) : (d.setWord k w).slices = d.slices := rfl
@[simp] theorem Device.setWord_mesh (d : Device) (k : Nat) (w : Word) : (d.setWord k w).mesh = d.mesh := rfl
@[simp] theorem Device.setWord_meshTime (d : Device) (k : Nat) (w : Word) : (d.setWord k w).meshTime = d.meshTime := rfl
@[simp] theorem Device.setWord_meshHeld (d : Device) (k : Nat) (w : Word) : (d.setWord k w).meshHeld = d.meshHeld := rfl
@[simp] theorem Device.setWord_arbs (d : Device) (k : Nat) (w : Word) : (d.setWord k w).arbs = d.arbs := rfl
@[simp] theorem Device.setWord_cfgArb (d : Device) (k : Nat) (w : Word) : (d.setWord k w).cfgArb = d.cfgArb := rfl
@[simp] theorem Device.setWord_cfgTime (d : Device) (k : Nat) (w : Word) : (d.setWord k w).cfgTime = d.cfgTime := rfl
@[simp] theorem Device.setWord_reqs (d : Device) (k : Nat) (w : Word) : (d.setWord k w).reqs = d.reqs := rfl
@[simp] theorem Device.setWord_accepted (d : Device) (k : Nat) (w : Word) : (d.setWord k w).accepted = d.accepted := rfl
@[simp] theorem Device.setWord_bayHeld (d : Device) (k : Nat) (w : Word) : (d.setWord k w).bayHeld = d.bayHeld := rfl
@[simp] theorem Device.setWord_detours (d : Device) (k : Nat) (w : Word) : (d.setWord k w).detours = d.detours := rfl
@[simp] theorem Device.setWord_links (d : Device) (k : Nat) (w : Word) : (d.setWord k w).links = d.links := rfl
@[simp] theorem Device.setWord_curs (d : Device) (k : Nat) (w : Word) : (d.setWord k w).curs = d.curs := rfl
@[simp] theorem Device.setWord_engines (d : Device) (k : Nat) (w : Word) : (d.setWord k w).engines = d.engines := rfl
@[simp] theorem Device.setWord_refSwitch (d : Device) (k : Nat) (w : Word) : (d.setWord k w).refSwitch = d.refSwitch := rfl
@[simp] theorem Device.setWord_trimming (d : Device) (k : Nat) (w : Word) : (d.setWord k w).trimming = d.trimming := rfl
@[simp] theorem Device.setWord_rcDead (d : Device) (k : Nat) (w : Word) : (d.setWord k w).rcDead = d.rcDead := rfl
@[simp] theorem Device.setWord_drowsed (d : Device) (k : Nat) (w : Word) : (d.setWord k w).drowsed = d.drowsed := rfl
@[simp] theorem Device.setWord_fabricOn (d : Device) (k : Nat) (w : Word) : (d.setWord k w).fabricOn = d.fabricOn := rfl
@[simp] theorem Device.setWord_bayOff (d : Device) (k : Nat) (w : Word) : (d.setWord k w).bayOff = d.bayOff := rfl
@[simp] theorem Device.setWord_cfgMem (d : Device) (k : Nat) (w : Word) : (d.setWord k w).cfgMem = d.cfgMem := rfl
@[simp] theorem Device.setWord_stuck (d : Device) (k : Nat) (w : Word) : (d.setWord k w).stuck = d.stuck := rfl
@[simp] theorem Device.setWord_exclMap (d : Device) (k : Nat) (w : Word) : (d.setWord k w).exclMap = d.exclMap := rfl
@[simp] theorem Device.setWord_golden (d : Device) (k : Nat) (w : Word) : (d.setWord k w).golden = d.golden := rfl
@[simp] theorem Device.setWord_goldenPop (d : Device) (k : Nat) (w : Word) : (d.setWord k w).goldenPop = d.goldenPop := rfl
@[simp] theorem Device.setWord_scrubAt (d : Device) (k : Nat) (w : Word) : (d.setWord k w).scrubAt = d.scrubAt := rfl
@[simp] theorem Device.setWord_tcm (d : Device) (k : Nat) (w : Word) : (d.setWord k w).tcm = d.tcm := rfl
@[simp] theorem Device.setWord_load (d : Device) (k : Nat) (w : Word) : (d.setWord k w).load = d.load := rfl
@[simp] theorem Device.setWord_keyRam (d : Device) (k : Nat) (w : Word) : (d.setWord k w).keyRam = d.keyRam := rfl
@[simp] theorem Device.setWord_pushWindow (d : Device) (k : Nat) (w : Word) : (d.setWord k w).pushWindow = d.pushWindow := rfl
@[simp] theorem Device.setWord_hostReqs (d : Device) (k : Nat) (w : Word) : (d.setWord k w).hostReqs = d.hostReqs := rfl
@[simp] theorem Device.setWord_hostWait (d : Device) (k : Nat) (w : Word) : (d.setWord k w).hostWait = d.hostWait := rfl
@[simp] theorem Device.setWord_msixWait (d : Device) (k : Nat) (w : Word) : (d.setWord k w).msixWait = d.msixWait := rfl
@[simp] theorem Device.setWord_restaged (d : Device) (k : Nat) (w : Word) : (d.setWord k w).restaged = d.restaged := rfl
@[simp] theorem Device.setWord_pciCfg (d : Device) (k : Nat) (w : Word) : (d.setWord k w).pciCfg = d.pciCfg := rfl
@[simp] theorem Device.setWord_msixMask (d : Device) (k : Nat) (w : Word) : (d.setWord k w).msixMask = d.msixMask := rfl
@[simp] theorem Device.setWord_msixPend (d : Device) (k : Nat) (w : Word) : (d.setWord k w).msixPend = d.msixPend := rfl
@[simp] theorem Device.setWord_winOps (d : Device) (k : Nat) (w : Word) : (d.setWord k w).winOps = d.winOps := rfl
@[simp] theorem Device.setWord_winNext (d : Device) (k : Nat) (w : Word) : (d.setWord k w).winNext = d.winNext := rfl
@[simp] theorem Device.setWord_chans (d : Device) (k : Nat) (w : Word) : (d.setWord k w).chans = d.chans := rfl
@[simp] theorem Device.setWord_dmaErrs (d : Device) (k : Nat) (w : Word) : (d.setWord k w).dmaErrs = d.dmaErrs := rfl
@[simp] theorem Device.setWord_pf1Ready (d : Device) (k : Nat) (w : Word) : (d.setWord k w).pf1Ready = d.pf1Ready := rfl
@[simp] theorem Device.setWord_barLog2 (d : Device) (k : Nat) (w : Word) : (d.setWord k w).barLog2 = d.barLog2 := rfl
@[simp] theorem Device.setWord_migs (d : Device) (k : Nat) (w : Word) : (d.setWord k w).migs = d.migs := rfl
@[simp] theorem Device.setWord_tests (d : Device) (k : Nat) (w : Word) : (d.setWord k w).tests = d.tests := rfl
@[simp] theorem Device.setWord_mbx (d : Device) (k : Nat) (w : Word) : (d.setWord k w).mbx = d.mbx := rfl
@[simp] theorem Device.setWord_policy (d : Device) (k : Nat) (w : Word) : (d.setWord k w).policy = d.policy := rfl
@[simp] theorem Device.setWord_healthTick (d : Device) (k : Nat) (w : Word) : (d.setWord k w).healthTick = d.healthTick := rfl
@[simp] theorem Device.setWord_testTick (d : Device) (k : Nat) (w : Word) : (d.setWord k w).testTick = d.testTick := rfl
@[simp] theorem Device.setWord_fixes (d : Device) (k : Nat) (w : Word) : (d.setWord k w).fixes = d.fixes := rfl
@[simp] theorem Device.setWord_stuckSeen (d : Device) (k : Nat) (w : Word) : (d.setWord k w).stuckSeen = d.stuckSeen := rfl
@[simp] theorem Device.setWord_recordPending (d : Device) (k : Nat) (w : Word) : (d.setWord k w).recordPending = d.recordPending := rfl
@[simp] theorem Device.setWord_porterRam (d : Device) (k : Nat) (w : Word) : (d.setWord k w).porterRam = d.porterRam := rfl
@[simp] theorem Device.setWord_porter (d : Device) (k : Nat) (w : Word) : (d.setWord k w).porter = d.porter := rfl
@[simp] theorem Device.setWord_cores (d : Device) (k : Nat) (w : Word) : (d.setWord k w).cores = d.cores := rfl
@[simp] theorem Device.setWord_modeStep (d : Device) (k : Nat) (w : Word) : (d.setWord k w).modeStep = d.modeStep := rfl
@[simp] theorem Device.setWord_perst (d : Device) (k : Nat) (w : Word) : (d.setWord k w).perst = d.perst := rfl
@[simp] theorem Device.setWord_heldWake (d : Device) (k : Nat) (w : Word) : (d.setWord k w).heldWake = d.heldWake := rfl
@[simp] theorem Device.setWord_lateWake (d : Device) (k : Nat) (w : Word) : (d.setWord k w).lateWake = d.lateWake := rfl
@[simp] theorem Device.setWord_judging (d : Device) (k : Nat) (w : Word) : (d.setWord k w).judging = d.judging := rfl
@[simp] theorem Device.setWord_reopen (d : Device) (k : Nat) (w : Word) : (d.setWord k w).reopen = d.reopen := rfl
@[simp] theorem Device.setWord_stopped (d : Device) (k : Nat) (w : Word) : (d.setWord k w).stopped = d.stopped := rfl
@[simp] theorem Device.setWord_faultShut (d : Device) (k : Nat) (w : Word) : (d.setWord k w).faultShut = d.faultShut := rfl
@[simp] theorem Device.setWord_drowsedLinks (d : Device) (k : Nat) (w : Word) : (d.setWord k w).drowsedLinks = d.drowsedLinks := rfl
@[simp] theorem Device.setWord_fabricLost (d : Device) (k : Nat) (w : Word) : (d.setWord k w).fabricLost = d.fabricLost := rfl
@[simp] theorem Device.setWord_vbatLow (d : Device) (k : Nat) (w : Word) : (d.setWord k w).vbatLow = d.vbatLow := rfl
@[simp] theorem Device.setWord_tap (d : Device) (k : Nat) (w : Word) : (d.setWord k w).tap = d.tap := rfl
@[simp] theorem Device.setWord_memWait (d : Device) (k : Nat) (w : Word) : (d.setWord k w).memWait = d.memWait := rfl
@[simp] theorem Device.setWord_maxSeen (d : Device) (k : Nat) (w : Word) : (d.setWord k w).maxSeen = d.maxSeen := rfl
@[simp] theorem Device.setWord_signals (d : Device) (k : Nat) (w : Word) : (d.setWord k w).signals = d.signals := rfl
@[simp] theorem Device.setWord_lost (d : Device) (k : Nat) (w : Word) : (d.setWord k w).lost = d.lost := rfl

@[simp] theorem Device.put_committed (d : Device) (pg : PageRef) (f : Fld) (v i : Nat) : (d.put pg f v i).committed = d.committed := rfl
@[simp] theorem Device.put_copied (d : Device) (pg : PageRef) (f : Fld) (v i : Nat) : (d.put pg f v i).copied = d.copied := rfl
@[simp] theorem Device.put_routeStaged (d : Device) (pg : PageRef) (f : Fld) (v i : Nat) : (d.put pg f v i).routeStaged = d.routeStaged := rfl
@[simp] theorem Device.put_routeCommitted (d : Device) (pg : PageRef) (f : Fld) (v i : Nat) : (d.put pg f v i).routeCommitted = d.routeCommitted := rfl
@[simp] theorem Device.put_routeCopied (d : Device) (pg : PageRef) (f : Fld) (v i : Nat) : (d.put pg f v i).routeCopied = d.routeCopied := rfl
@[simp] theorem Device.put_out (d : Device) (pg : PageRef) (f : Fld) (v i : Nat) : (d.put pg f v i).out = d.out := rfl
@[simp] theorem Device.put_free (d : Device) (pg : PageRef) (f : Fld) (v i : Nat) : (d.put pg f v i).free = d.free := rfl
@[simp] theorem Device.put_tally (d : Device) (pg : PageRef) (f : Fld) (v i : Nat) : (d.put pg f v i).tally = d.tally := rfl
@[simp] theorem Device.put_tallyBroken (d : Device) (pg : PageRef) (f : Fld) (v i : Nat) : (d.put pg f v i).tallyBroken = d.tallyBroken := rfl
@[simp] theorem Device.put_bayCfg (d : Device) (pg : PageRef) (f : Fld) (v i : Nat) : (d.put pg f v i).bayCfg = d.bayCfg := rfl
@[simp] theorem Device.put_bramCfg (d : Device) (pg : PageRef) (f : Fld) (v i : Nat) : (d.put pg f v i).bramCfg = d.bramCfg := rfl
@[simp] theorem Device.put_sliceCfg (d : Device) (pg : PageRef) (f : Fld) (v i : Nat) : (d.put pg f v i).sliceCfg = d.sliceCfg := rfl
@[simp] theorem Device.put_gsr (d : Device) (pg : PageRef) (f : Fld) (v i : Nat) : (d.put pg f v i).gsr = d.gsr := rfl
@[simp] theorem Device.put_bayReset (d : Device) (pg : PageRef) (f : Fld) (v i : Nat) : (d.put pg f v i).bayReset = d.bayReset := rfl
@[simp] theorem Device.put_writesOn (d : Device) (pg : PageRef) (f : Fld) (v i : Nat) : (d.put pg f v i).writesOn = d.writesOn := rfl
@[simp] theorem Device.put_ffs (d : Device) (pg : PageRef) (f : Fld) (v i : Nat) : (d.put pg f v i).ffs = d.ffs := rfl
@[simp] theorem Device.put_mram (d : Device) (pg : PageRef) (f : Fld) (v i : Nat) : (d.put pg f v i).mram = d.mram := rfl
@[simp] theorem Device.put_hinges (d : Device) (pg : PageRef) (f : Fld) (v i : Nat) : (d.put pg f v i).hinges = d.hinges := rfl
@[simp] theorem Device.put_hingeCredits (d : Device) (pg : PageRef) (f : Fld) (v i : Nat) : (d.put pg f v i).hingeCredits = d.hingeCredits := rfl
@[simp] theorem Device.put_hingeOutReg (d : Device) (pg : PageRef) (f : Fld) (v i : Nat) : (d.put pg f v i).hingeOutReg = d.hingeOutReg := rfl
@[simp] theorem Device.put_stiles (d : Device) (pg : PageRef) (f : Fld) (v i : Nat) : (d.put pg f v i).stiles = d.stiles := rfl
@[simp] theorem Device.put_stileCredits (d : Device) (pg : PageRef) (f : Fld) (v i : Nat) : (d.put pg f v i).stileCredits = d.stileCredits := rfl
@[simp] theorem Device.put_stileOutReg (d : Device) (pg : PageRef) (f : Fld) (v i : Nat) : (d.put pg f v i).stileOutReg = d.stileOutReg := rfl
@[simp] theorem Device.put_sbOut (d : Device) (pg : PageRef) (f : Fld) (v i : Nat) : (d.put pg f v i).sbOut = d.sbOut := rfl
@[simp] theorem Device.put_shadow (d : Device) (pg : PageRef) (f : Fld) (v i : Nat) : (d.put pg f v i).shadow = d.shadow := rfl
@[simp] theorem Device.put_captureAll (d : Device) (pg : PageRef) (f : Fld) (v i : Nat) : (d.put pg f v i).captureAll = d.captureAll := rfl
@[simp] theorem Device.put_readingShadow (d : Device) (pg : PageRef) (f : Fld) (v i : Nat) : (d.put pg f v i).readingShadow = d.readingShadow := rfl
@[simp] theorem Device.put_bram (d : Device) (pg : PageRef) (f : Fld) (v i : Nat) : (d.put pg f v i).bram = d.bram := rfl
@[simp] theorem Device.put_rowWas (d : Device) (pg : PageRef) (f : Fld) (v i : Nat) : (d.put pg f v i).rowWas = d.rowWas := rfl
@[simp] theorem Device.put_bramOut (d : Device) (pg : PageRef) (f : Fld) (v i : Nat) : (d.put pg f v i).bramOut = d.bramOut := rfl
@[simp] theorem Device.put_writeback (d : Device) (pg : PageRef) (f : Fld) (v i : Nat) : (d.put pg f v i).writeback = d.writeback := rfl
@[simp] theorem Device.put_dirty (d : Device) (pg : PageRef) (f : Fld) (v i : Nat) : (d.put pg f v i).dirty = d.dirty := rfl
@[simp] theorem Device.put_slices (d : Device) (pg : PageRef) (f : Fld) (v i : Nat) : (d.put pg f v i).slices = d.slices := rfl
@[simp] theorem Device.put_mesh (d : Device) (pg : PageRef) (f : Fld) (v i : Nat) : (d.put pg f v i).mesh = d.mesh := rfl
@[simp] theorem Device.put_meshTime (d : Device) (pg : PageRef) (f : Fld) (v i : Nat) : (d.put pg f v i).meshTime = d.meshTime := rfl
@[simp] theorem Device.put_meshHeld (d : Device) (pg : PageRef) (f : Fld) (v i : Nat) : (d.put pg f v i).meshHeld = d.meshHeld := rfl
@[simp] theorem Device.put_arbs (d : Device) (pg : PageRef) (f : Fld) (v i : Nat) : (d.put pg f v i).arbs = d.arbs := rfl
@[simp] theorem Device.put_cfgArb (d : Device) (pg : PageRef) (f : Fld) (v i : Nat) : (d.put pg f v i).cfgArb = d.cfgArb := rfl
@[simp] theorem Device.put_cfgTime (d : Device) (pg : PageRef) (f : Fld) (v i : Nat) : (d.put pg f v i).cfgTime = d.cfgTime := rfl
@[simp] theorem Device.put_reqs (d : Device) (pg : PageRef) (f : Fld) (v i : Nat) : (d.put pg f v i).reqs = d.reqs := rfl
@[simp] theorem Device.put_accepted (d : Device) (pg : PageRef) (f : Fld) (v i : Nat) : (d.put pg f v i).accepted = d.accepted := rfl
@[simp] theorem Device.put_bayHeld (d : Device) (pg : PageRef) (f : Fld) (v i : Nat) : (d.put pg f v i).bayHeld = d.bayHeld := rfl
@[simp] theorem Device.put_detours (d : Device) (pg : PageRef) (f : Fld) (v i : Nat) : (d.put pg f v i).detours = d.detours := rfl
@[simp] theorem Device.put_links (d : Device) (pg : PageRef) (f : Fld) (v i : Nat) : (d.put pg f v i).links = d.links := rfl
@[simp] theorem Device.put_curs (d : Device) (pg : PageRef) (f : Fld) (v i : Nat) : (d.put pg f v i).curs = d.curs := rfl
@[simp] theorem Device.put_engines (d : Device) (pg : PageRef) (f : Fld) (v i : Nat) : (d.put pg f v i).engines = d.engines := rfl
@[simp] theorem Device.put_refSwitch (d : Device) (pg : PageRef) (f : Fld) (v i : Nat) : (d.put pg f v i).refSwitch = d.refSwitch := rfl
@[simp] theorem Device.put_trimming (d : Device) (pg : PageRef) (f : Fld) (v i : Nat) : (d.put pg f v i).trimming = d.trimming := rfl
@[simp] theorem Device.put_rcDead (d : Device) (pg : PageRef) (f : Fld) (v i : Nat) : (d.put pg f v i).rcDead = d.rcDead := rfl
@[simp] theorem Device.put_drowsed (d : Device) (pg : PageRef) (f : Fld) (v i : Nat) : (d.put pg f v i).drowsed = d.drowsed := rfl
@[simp] theorem Device.put_fabricOn (d : Device) (pg : PageRef) (f : Fld) (v i : Nat) : (d.put pg f v i).fabricOn = d.fabricOn := rfl
@[simp] theorem Device.put_bayOff (d : Device) (pg : PageRef) (f : Fld) (v i : Nat) : (d.put pg f v i).bayOff = d.bayOff := rfl
@[simp] theorem Device.put_cfgMem (d : Device) (pg : PageRef) (f : Fld) (v i : Nat) : (d.put pg f v i).cfgMem = d.cfgMem := rfl
@[simp] theorem Device.put_stuck (d : Device) (pg : PageRef) (f : Fld) (v i : Nat) : (d.put pg f v i).stuck = d.stuck := rfl
@[simp] theorem Device.put_exclMap (d : Device) (pg : PageRef) (f : Fld) (v i : Nat) : (d.put pg f v i).exclMap = d.exclMap := rfl
@[simp] theorem Device.put_golden (d : Device) (pg : PageRef) (f : Fld) (v i : Nat) : (d.put pg f v i).golden = d.golden := rfl
@[simp] theorem Device.put_goldenPop (d : Device) (pg : PageRef) (f : Fld) (v i : Nat) : (d.put pg f v i).goldenPop = d.goldenPop := rfl
@[simp] theorem Device.put_scrubAt (d : Device) (pg : PageRef) (f : Fld) (v i : Nat) : (d.put pg f v i).scrubAt = d.scrubAt := rfl
@[simp] theorem Device.put_tcm (d : Device) (pg : PageRef) (f : Fld) (v i : Nat) : (d.put pg f v i).tcm = d.tcm := rfl
@[simp] theorem Device.put_load (d : Device) (pg : PageRef) (f : Fld) (v i : Nat) : (d.put pg f v i).load = d.load := rfl
@[simp] theorem Device.put_keyRam (d : Device) (pg : PageRef) (f : Fld) (v i : Nat) : (d.put pg f v i).keyRam = d.keyRam := rfl
@[simp] theorem Device.put_pushWindow (d : Device) (pg : PageRef) (f : Fld) (v i : Nat) : (d.put pg f v i).pushWindow = d.pushWindow := rfl
@[simp] theorem Device.put_hostReqs (d : Device) (pg : PageRef) (f : Fld) (v i : Nat) : (d.put pg f v i).hostReqs = d.hostReqs := rfl
@[simp] theorem Device.put_hostWait (d : Device) (pg : PageRef) (f : Fld) (v i : Nat) : (d.put pg f v i).hostWait = d.hostWait := rfl
@[simp] theorem Device.put_msixWait (d : Device) (pg : PageRef) (f : Fld) (v i : Nat) : (d.put pg f v i).msixWait = d.msixWait := rfl
@[simp] theorem Device.put_restaged (d : Device) (pg : PageRef) (f : Fld) (v i : Nat) : (d.put pg f v i).restaged = d.restaged := rfl
@[simp] theorem Device.put_pciCfg (d : Device) (pg : PageRef) (f : Fld) (v i : Nat) : (d.put pg f v i).pciCfg = d.pciCfg := rfl
@[simp] theorem Device.put_msixMask (d : Device) (pg : PageRef) (f : Fld) (v i : Nat) : (d.put pg f v i).msixMask = d.msixMask := rfl
@[simp] theorem Device.put_msixPend (d : Device) (pg : PageRef) (f : Fld) (v i : Nat) : (d.put pg f v i).msixPend = d.msixPend := rfl
@[simp] theorem Device.put_winOps (d : Device) (pg : PageRef) (f : Fld) (v i : Nat) : (d.put pg f v i).winOps = d.winOps := rfl
@[simp] theorem Device.put_winNext (d : Device) (pg : PageRef) (f : Fld) (v i : Nat) : (d.put pg f v i).winNext = d.winNext := rfl
@[simp] theorem Device.put_chans (d : Device) (pg : PageRef) (f : Fld) (v i : Nat) : (d.put pg f v i).chans = d.chans := rfl
@[simp] theorem Device.put_dmaErrs (d : Device) (pg : PageRef) (f : Fld) (v i : Nat) : (d.put pg f v i).dmaErrs = d.dmaErrs := rfl
@[simp] theorem Device.put_pf1Ready (d : Device) (pg : PageRef) (f : Fld) (v i : Nat) : (d.put pg f v i).pf1Ready = d.pf1Ready := rfl
@[simp] theorem Device.put_barLog2 (d : Device) (pg : PageRef) (f : Fld) (v i : Nat) : (d.put pg f v i).barLog2 = d.barLog2 := rfl
@[simp] theorem Device.put_migs (d : Device) (pg : PageRef) (f : Fld) (v i : Nat) : (d.put pg f v i).migs = d.migs := rfl
@[simp] theorem Device.put_tests (d : Device) (pg : PageRef) (f : Fld) (v i : Nat) : (d.put pg f v i).tests = d.tests := rfl
@[simp] theorem Device.put_mbx (d : Device) (pg : PageRef) (f : Fld) (v i : Nat) : (d.put pg f v i).mbx = d.mbx := rfl
@[simp] theorem Device.put_policy (d : Device) (pg : PageRef) (f : Fld) (v i : Nat) : (d.put pg f v i).policy = d.policy := rfl
@[simp] theorem Device.put_healthTick (d : Device) (pg : PageRef) (f : Fld) (v i : Nat) : (d.put pg f v i).healthTick = d.healthTick := rfl
@[simp] theorem Device.put_testTick (d : Device) (pg : PageRef) (f : Fld) (v i : Nat) : (d.put pg f v i).testTick = d.testTick := rfl
@[simp] theorem Device.put_fixes (d : Device) (pg : PageRef) (f : Fld) (v i : Nat) : (d.put pg f v i).fixes = d.fixes := rfl
@[simp] theorem Device.put_stuckSeen (d : Device) (pg : PageRef) (f : Fld) (v i : Nat) : (d.put pg f v i).stuckSeen = d.stuckSeen := rfl
@[simp] theorem Device.put_recordPending (d : Device) (pg : PageRef) (f : Fld) (v i : Nat) : (d.put pg f v i).recordPending = d.recordPending := rfl
@[simp] theorem Device.put_porterRam (d : Device) (pg : PageRef) (f : Fld) (v i : Nat) : (d.put pg f v i).porterRam = d.porterRam := rfl
@[simp] theorem Device.put_porter (d : Device) (pg : PageRef) (f : Fld) (v i : Nat) : (d.put pg f v i).porter = d.porter := rfl
@[simp] theorem Device.put_cores (d : Device) (pg : PageRef) (f : Fld) (v i : Nat) : (d.put pg f v i).cores = d.cores := rfl
@[simp] theorem Device.put_modeStep (d : Device) (pg : PageRef) (f : Fld) (v i : Nat) : (d.put pg f v i).modeStep = d.modeStep := rfl
@[simp] theorem Device.put_perst (d : Device) (pg : PageRef) (f : Fld) (v i : Nat) : (d.put pg f v i).perst = d.perst := rfl
@[simp] theorem Device.put_heldWake (d : Device) (pg : PageRef) (f : Fld) (v i : Nat) : (d.put pg f v i).heldWake = d.heldWake := rfl
@[simp] theorem Device.put_lateWake (d : Device) (pg : PageRef) (f : Fld) (v i : Nat) : (d.put pg f v i).lateWake = d.lateWake := rfl
@[simp] theorem Device.put_judging (d : Device) (pg : PageRef) (f : Fld) (v i : Nat) : (d.put pg f v i).judging = d.judging := rfl
@[simp] theorem Device.put_reopen (d : Device) (pg : PageRef) (f : Fld) (v i : Nat) : (d.put pg f v i).reopen = d.reopen := rfl
@[simp] theorem Device.put_stopped (d : Device) (pg : PageRef) (f : Fld) (v i : Nat) : (d.put pg f v i).stopped = d.stopped := rfl
@[simp] theorem Device.put_faultShut (d : Device) (pg : PageRef) (f : Fld) (v i : Nat) : (d.put pg f v i).faultShut = d.faultShut := rfl
@[simp] theorem Device.put_drowsedLinks (d : Device) (pg : PageRef) (f : Fld) (v i : Nat) : (d.put pg f v i).drowsedLinks = d.drowsedLinks := rfl
@[simp] theorem Device.put_fabricLost (d : Device) (pg : PageRef) (f : Fld) (v i : Nat) : (d.put pg f v i).fabricLost = d.fabricLost := rfl
@[simp] theorem Device.put_vbatLow (d : Device) (pg : PageRef) (f : Fld) (v i : Nat) : (d.put pg f v i).vbatLow = d.vbatLow := rfl
@[simp] theorem Device.put_tap (d : Device) (pg : PageRef) (f : Fld) (v i : Nat) : (d.put pg f v i).tap = d.tap := rfl
@[simp] theorem Device.put_memWait (d : Device) (pg : PageRef) (f : Fld) (v i : Nat) : (d.put pg f v i).memWait = d.memWait := rfl
@[simp] theorem Device.put_maxSeen (d : Device) (pg : PageRef) (f : Fld) (v i : Nat) : (d.put pg f v i).maxSeen = d.maxSeen := rfl
@[simp] theorem Device.put_signals (d : Device) (pg : PageRef) (f : Fld) (v i : Nat) : (d.put pg f v i).signals = d.signals := rfl
@[simp] theorem Device.put_lost (d : Device) (pg : PageRef) (f : Fld) (v i : Nat) : (d.put pg f v i).lost = d.lost := rfl

@[simp] theorem Device.emit_regs (d : Device) (o : Out) : (d.emit o).regs = d.regs := rfl
@[simp] theorem Device.emit_committed (d : Device) (o : Out) : (d.emit o).committed = d.committed := rfl
@[simp] theorem Device.emit_copied (d : Device) (o : Out) : (d.emit o).copied = d.copied := rfl
@[simp] theorem Device.emit_routeStaged (d : Device) (o : Out) : (d.emit o).routeStaged = d.routeStaged := rfl
@[simp] theorem Device.emit_routeCommitted (d : Device) (o : Out) : (d.emit o).routeCommitted = d.routeCommitted := rfl
@[simp] theorem Device.emit_routeCopied (d : Device) (o : Out) : (d.emit o).routeCopied = d.routeCopied := rfl
@[simp] theorem Device.emit_free (d : Device) (o : Out) : (d.emit o).free = d.free := rfl
@[simp] theorem Device.emit_tally (d : Device) (o : Out) : (d.emit o).tally = d.tally := rfl
@[simp] theorem Device.emit_tallyBroken (d : Device) (o : Out) : (d.emit o).tallyBroken = d.tallyBroken := rfl
@[simp] theorem Device.emit_bayCfg (d : Device) (o : Out) : (d.emit o).bayCfg = d.bayCfg := rfl
@[simp] theorem Device.emit_bramCfg (d : Device) (o : Out) : (d.emit o).bramCfg = d.bramCfg := rfl
@[simp] theorem Device.emit_sliceCfg (d : Device) (o : Out) : (d.emit o).sliceCfg = d.sliceCfg := rfl
@[simp] theorem Device.emit_gsr (d : Device) (o : Out) : (d.emit o).gsr = d.gsr := rfl
@[simp] theorem Device.emit_bayReset (d : Device) (o : Out) : (d.emit o).bayReset = d.bayReset := rfl
@[simp] theorem Device.emit_writesOn (d : Device) (o : Out) : (d.emit o).writesOn = d.writesOn := rfl
@[simp] theorem Device.emit_ffs (d : Device) (o : Out) : (d.emit o).ffs = d.ffs := rfl
@[simp] theorem Device.emit_mram (d : Device) (o : Out) : (d.emit o).mram = d.mram := rfl
@[simp] theorem Device.emit_hinges (d : Device) (o : Out) : (d.emit o).hinges = d.hinges := rfl
@[simp] theorem Device.emit_hingeCredits (d : Device) (o : Out) : (d.emit o).hingeCredits = d.hingeCredits := rfl
@[simp] theorem Device.emit_hingeOutReg (d : Device) (o : Out) : (d.emit o).hingeOutReg = d.hingeOutReg := rfl
@[simp] theorem Device.emit_stiles (d : Device) (o : Out) : (d.emit o).stiles = d.stiles := rfl
@[simp] theorem Device.emit_stileCredits (d : Device) (o : Out) : (d.emit o).stileCredits = d.stileCredits := rfl
@[simp] theorem Device.emit_stileOutReg (d : Device) (o : Out) : (d.emit o).stileOutReg = d.stileOutReg := rfl
@[simp] theorem Device.emit_sbOut (d : Device) (o : Out) : (d.emit o).sbOut = d.sbOut := rfl
@[simp] theorem Device.emit_shadow (d : Device) (o : Out) : (d.emit o).shadow = d.shadow := rfl
@[simp] theorem Device.emit_captureAll (d : Device) (o : Out) : (d.emit o).captureAll = d.captureAll := rfl
@[simp] theorem Device.emit_readingShadow (d : Device) (o : Out) : (d.emit o).readingShadow = d.readingShadow := rfl
@[simp] theorem Device.emit_bram (d : Device) (o : Out) : (d.emit o).bram = d.bram := rfl
@[simp] theorem Device.emit_rowWas (d : Device) (o : Out) : (d.emit o).rowWas = d.rowWas := rfl
@[simp] theorem Device.emit_bramOut (d : Device) (o : Out) : (d.emit o).bramOut = d.bramOut := rfl
@[simp] theorem Device.emit_writeback (d : Device) (o : Out) : (d.emit o).writeback = d.writeback := rfl
@[simp] theorem Device.emit_dirty (d : Device) (o : Out) : (d.emit o).dirty = d.dirty := rfl
@[simp] theorem Device.emit_slices (d : Device) (o : Out) : (d.emit o).slices = d.slices := rfl
@[simp] theorem Device.emit_mesh (d : Device) (o : Out) : (d.emit o).mesh = d.mesh := rfl
@[simp] theorem Device.emit_meshTime (d : Device) (o : Out) : (d.emit o).meshTime = d.meshTime := rfl
@[simp] theorem Device.emit_meshHeld (d : Device) (o : Out) : (d.emit o).meshHeld = d.meshHeld := rfl
@[simp] theorem Device.emit_arbs (d : Device) (o : Out) : (d.emit o).arbs = d.arbs := rfl
@[simp] theorem Device.emit_cfgArb (d : Device) (o : Out) : (d.emit o).cfgArb = d.cfgArb := rfl
@[simp] theorem Device.emit_cfgTime (d : Device) (o : Out) : (d.emit o).cfgTime = d.cfgTime := rfl
@[simp] theorem Device.emit_reqs (d : Device) (o : Out) : (d.emit o).reqs = d.reqs := rfl
@[simp] theorem Device.emit_accepted (d : Device) (o : Out) : (d.emit o).accepted = d.accepted := rfl
@[simp] theorem Device.emit_bayHeld (d : Device) (o : Out) : (d.emit o).bayHeld = d.bayHeld := rfl
@[simp] theorem Device.emit_detours (d : Device) (o : Out) : (d.emit o).detours = d.detours := rfl
@[simp] theorem Device.emit_links (d : Device) (o : Out) : (d.emit o).links = d.links := rfl
@[simp] theorem Device.emit_curs (d : Device) (o : Out) : (d.emit o).curs = d.curs := rfl
@[simp] theorem Device.emit_engines (d : Device) (o : Out) : (d.emit o).engines = d.engines := rfl
@[simp] theorem Device.emit_refSwitch (d : Device) (o : Out) : (d.emit o).refSwitch = d.refSwitch := rfl
@[simp] theorem Device.emit_trimming (d : Device) (o : Out) : (d.emit o).trimming = d.trimming := rfl
@[simp] theorem Device.emit_rcDead (d : Device) (o : Out) : (d.emit o).rcDead = d.rcDead := rfl
@[simp] theorem Device.emit_drowsed (d : Device) (o : Out) : (d.emit o).drowsed = d.drowsed := rfl
@[simp] theorem Device.emit_fabricOn (d : Device) (o : Out) : (d.emit o).fabricOn = d.fabricOn := rfl
@[simp] theorem Device.emit_bayOff (d : Device) (o : Out) : (d.emit o).bayOff = d.bayOff := rfl
@[simp] theorem Device.emit_cfgMem (d : Device) (o : Out) : (d.emit o).cfgMem = d.cfgMem := rfl
@[simp] theorem Device.emit_stuck (d : Device) (o : Out) : (d.emit o).stuck = d.stuck := rfl
@[simp] theorem Device.emit_exclMap (d : Device) (o : Out) : (d.emit o).exclMap = d.exclMap := rfl
@[simp] theorem Device.emit_golden (d : Device) (o : Out) : (d.emit o).golden = d.golden := rfl
@[simp] theorem Device.emit_goldenPop (d : Device) (o : Out) : (d.emit o).goldenPop = d.goldenPop := rfl
@[simp] theorem Device.emit_scrubAt (d : Device) (o : Out) : (d.emit o).scrubAt = d.scrubAt := rfl
@[simp] theorem Device.emit_tcm (d : Device) (o : Out) : (d.emit o).tcm = d.tcm := rfl
@[simp] theorem Device.emit_load (d : Device) (o : Out) : (d.emit o).load = d.load := rfl
@[simp] theorem Device.emit_keyRam (d : Device) (o : Out) : (d.emit o).keyRam = d.keyRam := rfl
@[simp] theorem Device.emit_pushWindow (d : Device) (o : Out) : (d.emit o).pushWindow = d.pushWindow := rfl
@[simp] theorem Device.emit_hostReqs (d : Device) (o : Out) : (d.emit o).hostReqs = d.hostReqs := rfl
@[simp] theorem Device.emit_hostWait (d : Device) (o : Out) : (d.emit o).hostWait = d.hostWait := rfl
@[simp] theorem Device.emit_msixWait (d : Device) (o : Out) : (d.emit o).msixWait = d.msixWait := rfl
@[simp] theorem Device.emit_restaged (d : Device) (o : Out) : (d.emit o).restaged = d.restaged := rfl
@[simp] theorem Device.emit_pciCfg (d : Device) (o : Out) : (d.emit o).pciCfg = d.pciCfg := rfl
@[simp] theorem Device.emit_msixMask (d : Device) (o : Out) : (d.emit o).msixMask = d.msixMask := rfl
@[simp] theorem Device.emit_msixPend (d : Device) (o : Out) : (d.emit o).msixPend = d.msixPend := rfl
@[simp] theorem Device.emit_winOps (d : Device) (o : Out) : (d.emit o).winOps = d.winOps := rfl
@[simp] theorem Device.emit_winNext (d : Device) (o : Out) : (d.emit o).winNext = d.winNext := rfl
@[simp] theorem Device.emit_chans (d : Device) (o : Out) : (d.emit o).chans = d.chans := rfl
@[simp] theorem Device.emit_dmaErrs (d : Device) (o : Out) : (d.emit o).dmaErrs = d.dmaErrs := rfl
@[simp] theorem Device.emit_pf1Ready (d : Device) (o : Out) : (d.emit o).pf1Ready = d.pf1Ready := rfl
@[simp] theorem Device.emit_barLog2 (d : Device) (o : Out) : (d.emit o).barLog2 = d.barLog2 := rfl
@[simp] theorem Device.emit_migs (d : Device) (o : Out) : (d.emit o).migs = d.migs := rfl
@[simp] theorem Device.emit_tests (d : Device) (o : Out) : (d.emit o).tests = d.tests := rfl
@[simp] theorem Device.emit_mbx (d : Device) (o : Out) : (d.emit o).mbx = d.mbx := rfl
@[simp] theorem Device.emit_policy (d : Device) (o : Out) : (d.emit o).policy = d.policy := rfl
@[simp] theorem Device.emit_healthTick (d : Device) (o : Out) : (d.emit o).healthTick = d.healthTick := rfl
@[simp] theorem Device.emit_testTick (d : Device) (o : Out) : (d.emit o).testTick = d.testTick := rfl
@[simp] theorem Device.emit_fixes (d : Device) (o : Out) : (d.emit o).fixes = d.fixes := rfl
@[simp] theorem Device.emit_stuckSeen (d : Device) (o : Out) : (d.emit o).stuckSeen = d.stuckSeen := rfl
@[simp] theorem Device.emit_recordPending (d : Device) (o : Out) : (d.emit o).recordPending = d.recordPending := rfl
@[simp] theorem Device.emit_porterRam (d : Device) (o : Out) : (d.emit o).porterRam = d.porterRam := rfl
@[simp] theorem Device.emit_porter (d : Device) (o : Out) : (d.emit o).porter = d.porter := rfl
@[simp] theorem Device.emit_cores (d : Device) (o : Out) : (d.emit o).cores = d.cores := rfl
@[simp] theorem Device.emit_modeStep (d : Device) (o : Out) : (d.emit o).modeStep = d.modeStep := rfl
@[simp] theorem Device.emit_perst (d : Device) (o : Out) : (d.emit o).perst = d.perst := rfl
@[simp] theorem Device.emit_heldWake (d : Device) (o : Out) : (d.emit o).heldWake = d.heldWake := rfl
@[simp] theorem Device.emit_lateWake (d : Device) (o : Out) : (d.emit o).lateWake = d.lateWake := rfl
@[simp] theorem Device.emit_judging (d : Device) (o : Out) : (d.emit o).judging = d.judging := rfl
@[simp] theorem Device.emit_reopen (d : Device) (o : Out) : (d.emit o).reopen = d.reopen := rfl
@[simp] theorem Device.emit_stopped (d : Device) (o : Out) : (d.emit o).stopped = d.stopped := rfl
@[simp] theorem Device.emit_faultShut (d : Device) (o : Out) : (d.emit o).faultShut = d.faultShut := rfl
@[simp] theorem Device.emit_drowsedLinks (d : Device) (o : Out) : (d.emit o).drowsedLinks = d.drowsedLinks := rfl
@[simp] theorem Device.emit_fabricLost (d : Device) (o : Out) : (d.emit o).fabricLost = d.fabricLost := rfl
@[simp] theorem Device.emit_vbatLow (d : Device) (o : Out) : (d.emit o).vbatLow = d.vbatLow := rfl
@[simp] theorem Device.emit_tap (d : Device) (o : Out) : (d.emit o).tap = d.tap := rfl
@[simp] theorem Device.emit_memWait (d : Device) (o : Out) : (d.emit o).memWait = d.memWait := rfl
@[simp] theorem Device.emit_maxSeen (d : Device) (o : Out) : (d.emit o).maxSeen = d.maxSeen := rfl
@[simp] theorem Device.emit_signals (d : Device) (o : Out) : (d.emit o).signals = d.signals := rfl
@[simp] theorem Device.emit_lost (d : Device) (o : Out) : (d.emit o).lost = d.lost := rfl

@[simp] theorem Device.signal_regs (d : Device) (x : Signal) : (d.signal x).regs = d.regs := rfl
@[simp] theorem Device.signal_committed (d : Device) (x : Signal) : (d.signal x).committed = d.committed := rfl
@[simp] theorem Device.signal_copied (d : Device) (x : Signal) : (d.signal x).copied = d.copied := rfl
@[simp] theorem Device.signal_routeStaged (d : Device) (x : Signal) : (d.signal x).routeStaged = d.routeStaged := rfl
@[simp] theorem Device.signal_routeCommitted (d : Device) (x : Signal) : (d.signal x).routeCommitted = d.routeCommitted := rfl
@[simp] theorem Device.signal_routeCopied (d : Device) (x : Signal) : (d.signal x).routeCopied = d.routeCopied := rfl
@[simp] theorem Device.signal_out (d : Device) (x : Signal) : (d.signal x).out = d.out := rfl
@[simp] theorem Device.signal_free (d : Device) (x : Signal) : (d.signal x).free = d.free := rfl
@[simp] theorem Device.signal_tally (d : Device) (x : Signal) : (d.signal x).tally = d.tally := rfl
@[simp] theorem Device.signal_tallyBroken (d : Device) (x : Signal) : (d.signal x).tallyBroken = d.tallyBroken := rfl
@[simp] theorem Device.signal_bayCfg (d : Device) (x : Signal) : (d.signal x).bayCfg = d.bayCfg := rfl
@[simp] theorem Device.signal_bramCfg (d : Device) (x : Signal) : (d.signal x).bramCfg = d.bramCfg := rfl
@[simp] theorem Device.signal_sliceCfg (d : Device) (x : Signal) : (d.signal x).sliceCfg = d.sliceCfg := rfl
@[simp] theorem Device.signal_gsr (d : Device) (x : Signal) : (d.signal x).gsr = d.gsr := rfl
@[simp] theorem Device.signal_bayReset (d : Device) (x : Signal) : (d.signal x).bayReset = d.bayReset := rfl
@[simp] theorem Device.signal_writesOn (d : Device) (x : Signal) : (d.signal x).writesOn = d.writesOn := rfl
@[simp] theorem Device.signal_ffs (d : Device) (x : Signal) : (d.signal x).ffs = d.ffs := rfl
@[simp] theorem Device.signal_mram (d : Device) (x : Signal) : (d.signal x).mram = d.mram := rfl
@[simp] theorem Device.signal_hinges (d : Device) (x : Signal) : (d.signal x).hinges = d.hinges := rfl
@[simp] theorem Device.signal_hingeCredits (d : Device) (x : Signal) : (d.signal x).hingeCredits = d.hingeCredits := rfl
@[simp] theorem Device.signal_hingeOutReg (d : Device) (x : Signal) : (d.signal x).hingeOutReg = d.hingeOutReg := rfl
@[simp] theorem Device.signal_stiles (d : Device) (x : Signal) : (d.signal x).stiles = d.stiles := rfl
@[simp] theorem Device.signal_stileCredits (d : Device) (x : Signal) : (d.signal x).stileCredits = d.stileCredits := rfl
@[simp] theorem Device.signal_stileOutReg (d : Device) (x : Signal) : (d.signal x).stileOutReg = d.stileOutReg := rfl
@[simp] theorem Device.signal_sbOut (d : Device) (x : Signal) : (d.signal x).sbOut = d.sbOut := rfl
@[simp] theorem Device.signal_shadow (d : Device) (x : Signal) : (d.signal x).shadow = d.shadow := rfl
@[simp] theorem Device.signal_captureAll (d : Device) (x : Signal) : (d.signal x).captureAll = d.captureAll := rfl
@[simp] theorem Device.signal_readingShadow (d : Device) (x : Signal) : (d.signal x).readingShadow = d.readingShadow := rfl
@[simp] theorem Device.signal_bram (d : Device) (x : Signal) : (d.signal x).bram = d.bram := rfl
@[simp] theorem Device.signal_rowWas (d : Device) (x : Signal) : (d.signal x).rowWas = d.rowWas := rfl
@[simp] theorem Device.signal_bramOut (d : Device) (x : Signal) : (d.signal x).bramOut = d.bramOut := rfl
@[simp] theorem Device.signal_writeback (d : Device) (x : Signal) : (d.signal x).writeback = d.writeback := rfl
@[simp] theorem Device.signal_dirty (d : Device) (x : Signal) : (d.signal x).dirty = d.dirty := rfl
@[simp] theorem Device.signal_slices (d : Device) (x : Signal) : (d.signal x).slices = d.slices := rfl
@[simp] theorem Device.signal_mesh (d : Device) (x : Signal) : (d.signal x).mesh = d.mesh := rfl
@[simp] theorem Device.signal_meshTime (d : Device) (x : Signal) : (d.signal x).meshTime = d.meshTime := rfl
@[simp] theorem Device.signal_meshHeld (d : Device) (x : Signal) : (d.signal x).meshHeld = d.meshHeld := rfl
@[simp] theorem Device.signal_arbs (d : Device) (x : Signal) : (d.signal x).arbs = d.arbs := rfl
@[simp] theorem Device.signal_cfgArb (d : Device) (x : Signal) : (d.signal x).cfgArb = d.cfgArb := rfl
@[simp] theorem Device.signal_cfgTime (d : Device) (x : Signal) : (d.signal x).cfgTime = d.cfgTime := rfl
@[simp] theorem Device.signal_reqs (d : Device) (x : Signal) : (d.signal x).reqs = d.reqs := rfl
@[simp] theorem Device.signal_accepted (d : Device) (x : Signal) : (d.signal x).accepted = d.accepted := rfl
@[simp] theorem Device.signal_bayHeld (d : Device) (x : Signal) : (d.signal x).bayHeld = d.bayHeld := rfl
@[simp] theorem Device.signal_detours (d : Device) (x : Signal) : (d.signal x).detours = d.detours := rfl
@[simp] theorem Device.signal_links (d : Device) (x : Signal) : (d.signal x).links = d.links := rfl
@[simp] theorem Device.signal_curs (d : Device) (x : Signal) : (d.signal x).curs = d.curs := rfl
@[simp] theorem Device.signal_engines (d : Device) (x : Signal) : (d.signal x).engines = d.engines := rfl
@[simp] theorem Device.signal_refSwitch (d : Device) (x : Signal) : (d.signal x).refSwitch = d.refSwitch := rfl
@[simp] theorem Device.signal_trimming (d : Device) (x : Signal) : (d.signal x).trimming = d.trimming := rfl
@[simp] theorem Device.signal_rcDead (d : Device) (x : Signal) : (d.signal x).rcDead = d.rcDead := rfl
@[simp] theorem Device.signal_drowsed (d : Device) (x : Signal) : (d.signal x).drowsed = d.drowsed := rfl
@[simp] theorem Device.signal_fabricOn (d : Device) (x : Signal) : (d.signal x).fabricOn = d.fabricOn := rfl
@[simp] theorem Device.signal_bayOff (d : Device) (x : Signal) : (d.signal x).bayOff = d.bayOff := rfl
@[simp] theorem Device.signal_cfgMem (d : Device) (x : Signal) : (d.signal x).cfgMem = d.cfgMem := rfl
@[simp] theorem Device.signal_stuck (d : Device) (x : Signal) : (d.signal x).stuck = d.stuck := rfl
@[simp] theorem Device.signal_exclMap (d : Device) (x : Signal) : (d.signal x).exclMap = d.exclMap := rfl
@[simp] theorem Device.signal_golden (d : Device) (x : Signal) : (d.signal x).golden = d.golden := rfl
@[simp] theorem Device.signal_goldenPop (d : Device) (x : Signal) : (d.signal x).goldenPop = d.goldenPop := rfl
@[simp] theorem Device.signal_scrubAt (d : Device) (x : Signal) : (d.signal x).scrubAt = d.scrubAt := rfl
@[simp] theorem Device.signal_tcm (d : Device) (x : Signal) : (d.signal x).tcm = d.tcm := rfl
@[simp] theorem Device.signal_load (d : Device) (x : Signal) : (d.signal x).load = d.load := rfl
@[simp] theorem Device.signal_keyRam (d : Device) (x : Signal) : (d.signal x).keyRam = d.keyRam := rfl
@[simp] theorem Device.signal_pushWindow (d : Device) (x : Signal) : (d.signal x).pushWindow = d.pushWindow := rfl
@[simp] theorem Device.signal_hostReqs (d : Device) (x : Signal) : (d.signal x).hostReqs = d.hostReqs := rfl
@[simp] theorem Device.signal_hostWait (d : Device) (x : Signal) : (d.signal x).hostWait = d.hostWait := rfl
@[simp] theorem Device.signal_msixWait (d : Device) (x : Signal) : (d.signal x).msixWait = d.msixWait := rfl
@[simp] theorem Device.signal_restaged (d : Device) (x : Signal) : (d.signal x).restaged = d.restaged := rfl
@[simp] theorem Device.signal_pciCfg (d : Device) (x : Signal) : (d.signal x).pciCfg = d.pciCfg := rfl
@[simp] theorem Device.signal_msixMask (d : Device) (x : Signal) : (d.signal x).msixMask = d.msixMask := rfl
@[simp] theorem Device.signal_msixPend (d : Device) (x : Signal) : (d.signal x).msixPend = d.msixPend := rfl
@[simp] theorem Device.signal_winOps (d : Device) (x : Signal) : (d.signal x).winOps = d.winOps := rfl
@[simp] theorem Device.signal_winNext (d : Device) (x : Signal) : (d.signal x).winNext = d.winNext := rfl
@[simp] theorem Device.signal_chans (d : Device) (x : Signal) : (d.signal x).chans = d.chans := rfl
@[simp] theorem Device.signal_dmaErrs (d : Device) (x : Signal) : (d.signal x).dmaErrs = d.dmaErrs := rfl
@[simp] theorem Device.signal_pf1Ready (d : Device) (x : Signal) : (d.signal x).pf1Ready = d.pf1Ready := rfl
@[simp] theorem Device.signal_barLog2 (d : Device) (x : Signal) : (d.signal x).barLog2 = d.barLog2 := rfl
@[simp] theorem Device.signal_migs (d : Device) (x : Signal) : (d.signal x).migs = d.migs := rfl
@[simp] theorem Device.signal_tests (d : Device) (x : Signal) : (d.signal x).tests = d.tests := rfl
@[simp] theorem Device.signal_mbx (d : Device) (x : Signal) : (d.signal x).mbx = d.mbx := rfl
@[simp] theorem Device.signal_policy (d : Device) (x : Signal) : (d.signal x).policy = d.policy := rfl
@[simp] theorem Device.signal_healthTick (d : Device) (x : Signal) : (d.signal x).healthTick = d.healthTick := rfl
@[simp] theorem Device.signal_testTick (d : Device) (x : Signal) : (d.signal x).testTick = d.testTick := rfl
@[simp] theorem Device.signal_fixes (d : Device) (x : Signal) : (d.signal x).fixes = d.fixes := rfl
@[simp] theorem Device.signal_stuckSeen (d : Device) (x : Signal) : (d.signal x).stuckSeen = d.stuckSeen := rfl
@[simp] theorem Device.signal_recordPending (d : Device) (x : Signal) : (d.signal x).recordPending = d.recordPending := rfl
@[simp] theorem Device.signal_porterRam (d : Device) (x : Signal) : (d.signal x).porterRam = d.porterRam := rfl
@[simp] theorem Device.signal_porter (d : Device) (x : Signal) : (d.signal x).porter = d.porter := rfl
@[simp] theorem Device.signal_cores (d : Device) (x : Signal) : (d.signal x).cores = d.cores := rfl
@[simp] theorem Device.signal_modeStep (d : Device) (x : Signal) : (d.signal x).modeStep = d.modeStep := rfl
@[simp] theorem Device.signal_perst (d : Device) (x : Signal) : (d.signal x).perst = d.perst := rfl
@[simp] theorem Device.signal_heldWake (d : Device) (x : Signal) : (d.signal x).heldWake = d.heldWake := rfl
@[simp] theorem Device.signal_lateWake (d : Device) (x : Signal) : (d.signal x).lateWake = d.lateWake := rfl
@[simp] theorem Device.signal_judging (d : Device) (x : Signal) : (d.signal x).judging = d.judging := rfl
@[simp] theorem Device.signal_reopen (d : Device) (x : Signal) : (d.signal x).reopen = d.reopen := rfl
@[simp] theorem Device.signal_stopped (d : Device) (x : Signal) : (d.signal x).stopped = d.stopped := rfl
@[simp] theorem Device.signal_faultShut (d : Device) (x : Signal) : (d.signal x).faultShut = d.faultShut := rfl
@[simp] theorem Device.signal_drowsedLinks (d : Device) (x : Signal) : (d.signal x).drowsedLinks = d.drowsedLinks := rfl
@[simp] theorem Device.signal_fabricLost (d : Device) (x : Signal) : (d.signal x).fabricLost = d.fabricLost := rfl
@[simp] theorem Device.signal_vbatLow (d : Device) (x : Signal) : (d.signal x).vbatLow = d.vbatLow := rfl
@[simp] theorem Device.signal_tap (d : Device) (x : Signal) : (d.signal x).tap = d.tap := rfl
@[simp] theorem Device.signal_memWait (d : Device) (x : Signal) : (d.signal x).memWait = d.memWait := rfl
@[simp] theorem Device.signal_maxSeen (d : Device) (x : Signal) : (d.signal x).maxSeen = d.maxSeen := rfl
@[simp] theorem Device.signal_lost (d : Device) (x : Signal) : (d.signal x).lost = d.lost := rfl

@[simp] theorem Device.raise_out (d : Device) (pg : PageRef) (f : Fld) (i : Nat) : (d.raise pg f i).out = d.out := rfl
@[simp] theorem Device.raise_free (d : Device) (pg : PageRef) (f : Fld) (i : Nat) : (d.raise pg f i).free = d.free := rfl
@[simp] theorem Device.raise_signals (d : Device) (pg : PageRef) (f : Fld) (i : Nat) : (d.raise pg f i).signals = d.signals := rfl
@[simp] theorem Device.raise_links (d : Device) (pg : PageRef) (f : Fld) (i : Nat) : (d.raise pg f i).links = d.links := rfl
@[simp] theorem Device.raise_curs (d : Device) (pg : PageRef) (f : Fld) (i : Nat) : (d.raise pg f i).curs = d.curs := rfl
@[simp] theorem Device.raise_cores (d : Device) (pg : PageRef) (f : Fld) (i : Nat) : (d.raise pg f i).cores = d.cores := rfl
@[simp] theorem Device.raise_porter (d : Device) (pg : PageRef) (f : Fld) (i : Nat) : (d.raise pg f i).porter = d.porter := rfl
@[simp] theorem Device.raise_porterRam (d : Device) (pg : PageRef) (f : Fld) (i : Nat) : (d.raise pg f i).porterRam = d.porterRam := rfl
@[simp] theorem Device.raise_load (d : Device) (pg : PageRef) (f : Fld) (i : Nat) : (d.raise pg f i).load = d.load := rfl
@[simp] theorem Device.raise_mesh (d : Device) (pg : PageRef) (f : Fld) (i : Nat) : (d.raise pg f i).mesh = d.mesh := rfl
@[simp] theorem Device.raise_reqs (d : Device) (pg : PageRef) (f : Fld) (i : Nat) : (d.raise pg f i).reqs = d.reqs := rfl
@[simp] theorem Device.raise_committed (d : Device) (pg : PageRef) (f : Fld) (i : Nat) : (d.raise pg f i).committed = d.committed := rfl
@[simp] theorem Device.raise_bram (d : Device) (pg : PageRef) (f : Fld) (i : Nat) : (d.raise pg f i).bram = d.bram := rfl
@[simp] theorem Device.raise_tcm (d : Device) (pg : PageRef) (f : Fld) (i : Nat) : (d.raise pg f i).tcm = d.tcm := rfl
@[simp] theorem Device.raise_modeStep (d : Device) (pg : PageRef) (f : Fld) (i : Nat) : (d.raise pg f i).modeStep = d.modeStep := rfl
@[simp] theorem Device.raise_migs (d : Device) (pg : PageRef) (f : Fld) (i : Nat) : (d.raise pg f i).migs = d.migs := rfl
@[simp] theorem Device.raise_drowsed (d : Device) (pg : PageRef) (f : Fld) (i : Nat) : (d.raise pg f i).drowsed = d.drowsed := rfl
@[simp] theorem Device.raise_drowsedLinks (d : Device) (pg : PageRef) (f : Fld) (i : Nat) : (d.raise pg f i).drowsedLinks = d.drowsedLinks := rfl
@[simp] theorem Device.raise_perst (d : Device) (pg : PageRef) (f : Fld) (i : Nat) : (d.raise pg f i).perst = d.perst := rfl
@[simp] theorem Device.raise_tap (d : Device) (pg : PageRef) (f : Fld) (i : Nat) : (d.raise pg f i).tap = d.tap := rfl
@[simp] theorem Device.raise_cfgMem (d : Device) (pg : PageRef) (f : Fld) (i : Nat) : (d.raise pg f i).cfgMem = d.cfgMem := rfl
@[simp] theorem Device.raise_detours (d : Device) (pg : PageRef) (f : Fld) (i : Nat) : (d.raise pg f i).detours = d.detours := rfl
@[simp] theorem Device.raise_engines (d : Device) (pg : PageRef) (f : Fld) (i : Nat) : (d.raise pg f i).engines = d.engines := rfl

@[simp] theorem Device.lower_out (d : Device) (pg : PageRef) (f : Fld) (i : Nat) : (d.lower pg f i).out = d.out := rfl
@[simp] theorem Device.lower_free (d : Device) (pg : PageRef) (f : Fld) (i : Nat) : (d.lower pg f i).free = d.free := rfl
@[simp] theorem Device.lower_signals (d : Device) (pg : PageRef) (f : Fld) (i : Nat) : (d.lower pg f i).signals = d.signals := rfl
@[simp] theorem Device.lower_links (d : Device) (pg : PageRef) (f : Fld) (i : Nat) : (d.lower pg f i).links = d.links := rfl
@[simp] theorem Device.lower_curs (d : Device) (pg : PageRef) (f : Fld) (i : Nat) : (d.lower pg f i).curs = d.curs := rfl
@[simp] theorem Device.lower_cores (d : Device) (pg : PageRef) (f : Fld) (i : Nat) : (d.lower pg f i).cores = d.cores := rfl
@[simp] theorem Device.lower_porter (d : Device) (pg : PageRef) (f : Fld) (i : Nat) : (d.lower pg f i).porter = d.porter := rfl
@[simp] theorem Device.lower_porterRam (d : Device) (pg : PageRef) (f : Fld) (i : Nat) : (d.lower pg f i).porterRam = d.porterRam := rfl
@[simp] theorem Device.lower_load (d : Device) (pg : PageRef) (f : Fld) (i : Nat) : (d.lower pg f i).load = d.load := rfl
@[simp] theorem Device.lower_mesh (d : Device) (pg : PageRef) (f : Fld) (i : Nat) : (d.lower pg f i).mesh = d.mesh := rfl
@[simp] theorem Device.lower_reqs (d : Device) (pg : PageRef) (f : Fld) (i : Nat) : (d.lower pg f i).reqs = d.reqs := rfl
@[simp] theorem Device.lower_committed (d : Device) (pg : PageRef) (f : Fld) (i : Nat) : (d.lower pg f i).committed = d.committed := rfl
@[simp] theorem Device.lower_bram (d : Device) (pg : PageRef) (f : Fld) (i : Nat) : (d.lower pg f i).bram = d.bram := rfl
@[simp] theorem Device.lower_tcm (d : Device) (pg : PageRef) (f : Fld) (i : Nat) : (d.lower pg f i).tcm = d.tcm := rfl
@[simp] theorem Device.lower_modeStep (d : Device) (pg : PageRef) (f : Fld) (i : Nat) : (d.lower pg f i).modeStep = d.modeStep := rfl
@[simp] theorem Device.lower_migs (d : Device) (pg : PageRef) (f : Fld) (i : Nat) : (d.lower pg f i).migs = d.migs := rfl
@[simp] theorem Device.lower_drowsed (d : Device) (pg : PageRef) (f : Fld) (i : Nat) : (d.lower pg f i).drowsed = d.drowsed := rfl
@[simp] theorem Device.lower_drowsedLinks (d : Device) (pg : PageRef) (f : Fld) (i : Nat) : (d.lower pg f i).drowsedLinks = d.drowsedLinks := rfl
@[simp] theorem Device.lower_perst (d : Device) (pg : PageRef) (f : Fld) (i : Nat) : (d.lower pg f i).perst = d.perst := rfl
@[simp] theorem Device.lower_tap (d : Device) (pg : PageRef) (f : Fld) (i : Nat) : (d.lower pg f i).tap = d.tap := rfl
@[simp] theorem Device.lower_cfgMem (d : Device) (pg : PageRef) (f : Fld) (i : Nat) : (d.lower pg f i).cfgMem = d.cfgMem := rfl
@[simp] theorem Device.lower_detours (d : Device) (pg : PageRef) (f : Fld) (i : Nat) : (d.lower pg f i).detours = d.detours := rfl
@[simp] theorem Device.lower_engines (d : Device) (pg : PageRef) (f : Fld) (i : Nat) : (d.lower pg f i).engines = d.engines := rfl

@[simp] theorem Device.setCore_regs (d : Device) (c : Fin 2) (k : CoreSt) : (d.setCore c k).regs = d.regs := rfl
@[simp] theorem Device.setCore_out (d : Device) (c : Fin 2) (k : CoreSt) : (d.setCore c k).out = d.out := rfl
@[simp] theorem Device.setCore_free (d : Device) (c : Fin 2) (k : CoreSt) : (d.setCore c k).free = d.free := rfl
@[simp] theorem Device.setCore_signals (d : Device) (c : Fin 2) (k : CoreSt) : (d.setCore c k).signals = d.signals := rfl
@[simp] theorem Device.setCore_links (d : Device) (c : Fin 2) (k : CoreSt) : (d.setCore c k).links = d.links := rfl
@[simp] theorem Device.setCore_curs (d : Device) (c : Fin 2) (k : CoreSt) : (d.setCore c k).curs = d.curs := rfl
@[simp] theorem Device.setCore_porter (d : Device) (c : Fin 2) (k : CoreSt) : (d.setCore c k).porter = d.porter := rfl
@[simp] theorem Device.setCore_porterRam (d : Device) (c : Fin 2) (k : CoreSt) : (d.setCore c k).porterRam = d.porterRam := rfl
@[simp] theorem Device.setCore_load (d : Device) (c : Fin 2) (k : CoreSt) : (d.setCore c k).load = d.load := rfl
@[simp] theorem Device.setCore_mesh (d : Device) (c : Fin 2) (k : CoreSt) : (d.setCore c k).mesh = d.mesh := rfl
@[simp] theorem Device.setCore_reqs (d : Device) (c : Fin 2) (k : CoreSt) : (d.setCore c k).reqs = d.reqs := rfl
@[simp] theorem Device.setCore_committed (d : Device) (c : Fin 2) (k : CoreSt) : (d.setCore c k).committed = d.committed := rfl
@[simp] theorem Device.setCore_bram (d : Device) (c : Fin 2) (k : CoreSt) : (d.setCore c k).bram = d.bram := rfl
@[simp] theorem Device.setCore_tcm (d : Device) (c : Fin 2) (k : CoreSt) : (d.setCore c k).tcm = d.tcm := rfl
@[simp] theorem Device.setCore_modeStep (d : Device) (c : Fin 2) (k : CoreSt) : (d.setCore c k).modeStep = d.modeStep := rfl
@[simp] theorem Device.setCore_migs (d : Device) (c : Fin 2) (k : CoreSt) : (d.setCore c k).migs = d.migs := rfl
@[simp] theorem Device.setCore_drowsed (d : Device) (c : Fin 2) (k : CoreSt) : (d.setCore c k).drowsed = d.drowsed := rfl
@[simp] theorem Device.setCore_drowsedLinks (d : Device) (c : Fin 2) (k : CoreSt) : (d.setCore c k).drowsedLinks = d.drowsedLinks := rfl
@[simp] theorem Device.setCore_perst (d : Device) (c : Fin 2) (k : CoreSt) : (d.setCore c k).perst = d.perst := rfl
@[simp] theorem Device.setCore_tap (d : Device) (c : Fin 2) (k : CoreSt) : (d.setCore c k).tap = d.tap := rfl
@[simp] theorem Device.setCore_cfgMem (d : Device) (c : Fin 2) (k : CoreSt) : (d.setCore c k).cfgMem = d.cfgMem := rfl
@[simp] theorem Device.setCore_detours (d : Device) (c : Fin 2) (k : CoreSt) : (d.setCore c k).detours = d.detours := rfl
@[simp] theorem Device.setCore_engines (d : Device) (c : Fin 2) (k : CoreSt) : (d.setCore c k).engines = d.engines := rfl

@[simp] theorem Device.setLk_regs (d : Device) (l : Fin 144) (k : LinkSt) : (d.setLk l k).regs = d.regs := rfl
@[simp] theorem Device.setLk_out (d : Device) (l : Fin 144) (k : LinkSt) : (d.setLk l k).out = d.out := rfl
@[simp] theorem Device.setLk_free (d : Device) (l : Fin 144) (k : LinkSt) : (d.setLk l k).free = d.free := rfl
@[simp] theorem Device.setLk_signals (d : Device) (l : Fin 144) (k : LinkSt) : (d.setLk l k).signals = d.signals := rfl
@[simp] theorem Device.setLk_curs (d : Device) (l : Fin 144) (k : LinkSt) : (d.setLk l k).curs = d.curs := rfl
@[simp] theorem Device.setLk_cores (d : Device) (l : Fin 144) (k : LinkSt) : (d.setLk l k).cores = d.cores := rfl
@[simp] theorem Device.setLk_porter (d : Device) (l : Fin 144) (k : LinkSt) : (d.setLk l k).porter = d.porter := rfl
@[simp] theorem Device.setLk_porterRam (d : Device) (l : Fin 144) (k : LinkSt) : (d.setLk l k).porterRam = d.porterRam := rfl
@[simp] theorem Device.setLk_load (d : Device) (l : Fin 144) (k : LinkSt) : (d.setLk l k).load = d.load := rfl
@[simp] theorem Device.setLk_mesh (d : Device) (l : Fin 144) (k : LinkSt) : (d.setLk l k).mesh = d.mesh := rfl
@[simp] theorem Device.setLk_reqs (d : Device) (l : Fin 144) (k : LinkSt) : (d.setLk l k).reqs = d.reqs := rfl
@[simp] theorem Device.setLk_committed (d : Device) (l : Fin 144) (k : LinkSt) : (d.setLk l k).committed = d.committed := rfl
@[simp] theorem Device.setLk_bram (d : Device) (l : Fin 144) (k : LinkSt) : (d.setLk l k).bram = d.bram := rfl
@[simp] theorem Device.setLk_tcm (d : Device) (l : Fin 144) (k : LinkSt) : (d.setLk l k).tcm = d.tcm := rfl
@[simp] theorem Device.setLk_modeStep (d : Device) (l : Fin 144) (k : LinkSt) : (d.setLk l k).modeStep = d.modeStep := rfl
@[simp] theorem Device.setLk_migs (d : Device) (l : Fin 144) (k : LinkSt) : (d.setLk l k).migs = d.migs := rfl
@[simp] theorem Device.setLk_drowsed (d : Device) (l : Fin 144) (k : LinkSt) : (d.setLk l k).drowsed = d.drowsed := rfl
@[simp] theorem Device.setLk_drowsedLinks (d : Device) (l : Fin 144) (k : LinkSt) : (d.setLk l k).drowsedLinks = d.drowsedLinks := rfl
@[simp] theorem Device.setLk_perst (d : Device) (l : Fin 144) (k : LinkSt) : (d.setLk l k).perst = d.perst := rfl
@[simp] theorem Device.setLk_tap (d : Device) (l : Fin 144) (k : LinkSt) : (d.setLk l k).tap = d.tap := rfl
@[simp] theorem Device.setLk_cfgMem (d : Device) (l : Fin 144) (k : LinkSt) : (d.setLk l k).cfgMem = d.cfgMem := rfl
@[simp] theorem Device.setLk_detours (d : Device) (l : Fin 144) (k : LinkSt) : (d.setLk l k).detours = d.detours := rfl
@[simp] theorem Device.setLk_engines (d : Device) (l : Fin 144) (k : LinkSt) : (d.setLk l k).engines = d.engines := rfl

@[simp] theorem Device.setCur_regs (d : Device) (n : Fin 144) (k : CurSt) : (d.setCur n k).regs = d.regs := rfl
@[simp] theorem Device.setCur_out (d : Device) (n : Fin 144) (k : CurSt) : (d.setCur n k).out = d.out := rfl
@[simp] theorem Device.setCur_free (d : Device) (n : Fin 144) (k : CurSt) : (d.setCur n k).free = d.free := rfl
@[simp] theorem Device.setCur_signals (d : Device) (n : Fin 144) (k : CurSt) : (d.setCur n k).signals = d.signals := rfl
@[simp] theorem Device.setCur_links (d : Device) (n : Fin 144) (k : CurSt) : (d.setCur n k).links = d.links := rfl
@[simp] theorem Device.setCur_cores (d : Device) (n : Fin 144) (k : CurSt) : (d.setCur n k).cores = d.cores := rfl
@[simp] theorem Device.setCur_porter (d : Device) (n : Fin 144) (k : CurSt) : (d.setCur n k).porter = d.porter := rfl
@[simp] theorem Device.setCur_porterRam (d : Device) (n : Fin 144) (k : CurSt) : (d.setCur n k).porterRam = d.porterRam := rfl
@[simp] theorem Device.setCur_load (d : Device) (n : Fin 144) (k : CurSt) : (d.setCur n k).load = d.load := rfl
@[simp] theorem Device.setCur_mesh (d : Device) (n : Fin 144) (k : CurSt) : (d.setCur n k).mesh = d.mesh := rfl
@[simp] theorem Device.setCur_reqs (d : Device) (n : Fin 144) (k : CurSt) : (d.setCur n k).reqs = d.reqs := rfl
@[simp] theorem Device.setCur_committed (d : Device) (n : Fin 144) (k : CurSt) : (d.setCur n k).committed = d.committed := rfl
@[simp] theorem Device.setCur_bram (d : Device) (n : Fin 144) (k : CurSt) : (d.setCur n k).bram = d.bram := rfl
@[simp] theorem Device.setCur_tcm (d : Device) (n : Fin 144) (k : CurSt) : (d.setCur n k).tcm = d.tcm := rfl
@[simp] theorem Device.setCur_modeStep (d : Device) (n : Fin 144) (k : CurSt) : (d.setCur n k).modeStep = d.modeStep := rfl
@[simp] theorem Device.setCur_migs (d : Device) (n : Fin 144) (k : CurSt) : (d.setCur n k).migs = d.migs := rfl
@[simp] theorem Device.setCur_drowsed (d : Device) (n : Fin 144) (k : CurSt) : (d.setCur n k).drowsed = d.drowsed := rfl
@[simp] theorem Device.setCur_drowsedLinks (d : Device) (n : Fin 144) (k : CurSt) : (d.setCur n k).drowsedLinks = d.drowsedLinks := rfl
@[simp] theorem Device.setCur_perst (d : Device) (n : Fin 144) (k : CurSt) : (d.setCur n k).perst = d.perst := rfl
@[simp] theorem Device.setCur_tap (d : Device) (n : Fin 144) (k : CurSt) : (d.setCur n k).tap = d.tap := rfl
@[simp] theorem Device.setCur_cfgMem (d : Device) (n : Fin 144) (k : CurSt) : (d.setCur n k).cfgMem = d.cfgMem := rfl
@[simp] theorem Device.setCur_detours (d : Device) (n : Fin 144) (k : CurSt) : (d.setCur n k).detours = d.detours := rfl
@[simp] theorem Device.setCur_engines (d : Device) (n : Fin 144) (k : CurSt) : (d.setCur n k).engines = d.engines := rfl

@[simp] theorem Device.setReq_regs (d : Device) (n : NodeKind) (tag : Nat) (r : Option Req) : (d.setReq n tag r).regs = d.regs := rfl
@[simp] theorem Device.setReq_out (d : Device) (n : NodeKind) (tag : Nat) (r : Option Req) : (d.setReq n tag r).out = d.out := rfl
@[simp] theorem Device.setReq_free (d : Device) (n : NodeKind) (tag : Nat) (r : Option Req) : (d.setReq n tag r).free = d.free := rfl
@[simp] theorem Device.setReq_signals (d : Device) (n : NodeKind) (tag : Nat) (r : Option Req) : (d.setReq n tag r).signals = d.signals := rfl
@[simp] theorem Device.setReq_links (d : Device) (n : NodeKind) (tag : Nat) (r : Option Req) : (d.setReq n tag r).links = d.links := rfl
@[simp] theorem Device.setReq_curs (d : Device) (n : NodeKind) (tag : Nat) (r : Option Req) : (d.setReq n tag r).curs = d.curs := rfl
@[simp] theorem Device.setReq_cores (d : Device) (n : NodeKind) (tag : Nat) (r : Option Req) : (d.setReq n tag r).cores = d.cores := rfl
@[simp] theorem Device.setReq_porter (d : Device) (n : NodeKind) (tag : Nat) (r : Option Req) : (d.setReq n tag r).porter = d.porter := rfl
@[simp] theorem Device.setReq_porterRam (d : Device) (n : NodeKind) (tag : Nat) (r : Option Req) : (d.setReq n tag r).porterRam = d.porterRam := rfl
@[simp] theorem Device.setReq_load (d : Device) (n : NodeKind) (tag : Nat) (r : Option Req) : (d.setReq n tag r).load = d.load := rfl
@[simp] theorem Device.setReq_mesh (d : Device) (n : NodeKind) (tag : Nat) (r : Option Req) : (d.setReq n tag r).mesh = d.mesh := rfl
@[simp] theorem Device.setReq_committed (d : Device) (n : NodeKind) (tag : Nat) (r : Option Req) : (d.setReq n tag r).committed = d.committed := rfl
@[simp] theorem Device.setReq_bram (d : Device) (n : NodeKind) (tag : Nat) (r : Option Req) : (d.setReq n tag r).bram = d.bram := rfl
@[simp] theorem Device.setReq_tcm (d : Device) (n : NodeKind) (tag : Nat) (r : Option Req) : (d.setReq n tag r).tcm = d.tcm := rfl
@[simp] theorem Device.setReq_modeStep (d : Device) (n : NodeKind) (tag : Nat) (r : Option Req) : (d.setReq n tag r).modeStep = d.modeStep := rfl
@[simp] theorem Device.setReq_migs (d : Device) (n : NodeKind) (tag : Nat) (r : Option Req) : (d.setReq n tag r).migs = d.migs := rfl
@[simp] theorem Device.setReq_drowsed (d : Device) (n : NodeKind) (tag : Nat) (r : Option Req) : (d.setReq n tag r).drowsed = d.drowsed := rfl
@[simp] theorem Device.setReq_drowsedLinks (d : Device) (n : NodeKind) (tag : Nat) (r : Option Req) : (d.setReq n tag r).drowsedLinks = d.drowsedLinks := rfl
@[simp] theorem Device.setReq_perst (d : Device) (n : NodeKind) (tag : Nat) (r : Option Req) : (d.setReq n tag r).perst = d.perst := rfl
@[simp] theorem Device.setReq_tap (d : Device) (n : NodeKind) (tag : Nat) (r : Option Req) : (d.setReq n tag r).tap = d.tap := rfl
@[simp] theorem Device.setReq_cfgMem (d : Device) (n : NodeKind) (tag : Nat) (r : Option Req) : (d.setReq n tag r).cfgMem = d.cfgMem := rfl
@[simp] theorem Device.setReq_detours (d : Device) (n : NodeKind) (tag : Nat) (r : Option Req) : (d.setReq n tag r).detours = d.detours := rfl
@[simp] theorem Device.setReq_engines (d : Device) (n : NodeKind) (tag : Nat) (r : Option Req) : (d.setReq n tag r).engines = d.engines := rfl

@[simp] theorem Device.setLoad_regs (d : Device) (l : LoadSt) : (d.setLoad l).regs = d.regs := rfl
@[simp] theorem Device.setLoad_out (d : Device) (l : LoadSt) : (d.setLoad l).out = d.out := rfl
@[simp] theorem Device.setLoad_free (d : Device) (l : LoadSt) : (d.setLoad l).free = d.free := rfl
@[simp] theorem Device.setLoad_signals (d : Device) (l : LoadSt) : (d.setLoad l).signals = d.signals := rfl
@[simp] theorem Device.setLoad_links (d : Device) (l : LoadSt) : (d.setLoad l).links = d.links := rfl
@[simp] theorem Device.setLoad_curs (d : Device) (l : LoadSt) : (d.setLoad l).curs = d.curs := rfl
@[simp] theorem Device.setLoad_cores (d : Device) (l : LoadSt) : (d.setLoad l).cores = d.cores := rfl
@[simp] theorem Device.setLoad_porter (d : Device) (l : LoadSt) : (d.setLoad l).porter = d.porter := rfl
@[simp] theorem Device.setLoad_porterRam (d : Device) (l : LoadSt) : (d.setLoad l).porterRam = d.porterRam := rfl
@[simp] theorem Device.setLoad_mesh (d : Device) (l : LoadSt) : (d.setLoad l).mesh = d.mesh := rfl
@[simp] theorem Device.setLoad_reqs (d : Device) (l : LoadSt) : (d.setLoad l).reqs = d.reqs := rfl
@[simp] theorem Device.setLoad_committed (d : Device) (l : LoadSt) : (d.setLoad l).committed = d.committed := rfl
@[simp] theorem Device.setLoad_bram (d : Device) (l : LoadSt) : (d.setLoad l).bram = d.bram := rfl
@[simp] theorem Device.setLoad_tcm (d : Device) (l : LoadSt) : (d.setLoad l).tcm = d.tcm := rfl
@[simp] theorem Device.setLoad_modeStep (d : Device) (l : LoadSt) : (d.setLoad l).modeStep = d.modeStep := rfl
@[simp] theorem Device.setLoad_migs (d : Device) (l : LoadSt) : (d.setLoad l).migs = d.migs := rfl
@[simp] theorem Device.setLoad_drowsed (d : Device) (l : LoadSt) : (d.setLoad l).drowsed = d.drowsed := rfl
@[simp] theorem Device.setLoad_drowsedLinks (d : Device) (l : LoadSt) : (d.setLoad l).drowsedLinks = d.drowsedLinks := rfl
@[simp] theorem Device.setLoad_perst (d : Device) (l : LoadSt) : (d.setLoad l).perst = d.perst := rfl
@[simp] theorem Device.setLoad_tap (d : Device) (l : LoadSt) : (d.setLoad l).tap = d.tap := rfl
@[simp] theorem Device.setLoad_cfgMem (d : Device) (l : LoadSt) : (d.setLoad l).cfgMem = d.cfgMem := rfl
@[simp] theorem Device.setLoad_detours (d : Device) (l : LoadSt) : (d.setLoad l).detours = d.detours := rfl
@[simp] theorem Device.setLoad_engines (d : Device) (l : LoadSt) : (d.setLoad l).engines = d.engines := rfl

@[simp] theorem Device.setEngine_regs (d : Device) (n v : Nat) : (d.setEngine n v).regs = d.regs := rfl
@[simp] theorem Device.setEngine_out (d : Device) (n v : Nat) : (d.setEngine n v).out = d.out := rfl
@[simp] theorem Device.setEngine_free (d : Device) (n v : Nat) : (d.setEngine n v).free = d.free := rfl
@[simp] theorem Device.setEngine_signals (d : Device) (n v : Nat) : (d.setEngine n v).signals = d.signals := rfl
@[simp] theorem Device.setEngine_links (d : Device) (n v : Nat) : (d.setEngine n v).links = d.links := rfl
@[simp] theorem Device.setEngine_curs (d : Device) (n v : Nat) : (d.setEngine n v).curs = d.curs := rfl
@[simp] theorem Device.setEngine_cores (d : Device) (n v : Nat) : (d.setEngine n v).cores = d.cores := rfl
@[simp] theorem Device.setEngine_porter (d : Device) (n v : Nat) : (d.setEngine n v).porter = d.porter := rfl
@[simp] theorem Device.setEngine_porterRam (d : Device) (n v : Nat) : (d.setEngine n v).porterRam = d.porterRam := rfl
@[simp] theorem Device.setEngine_load (d : Device) (n v : Nat) : (d.setEngine n v).load = d.load := rfl
@[simp] theorem Device.setEngine_mesh (d : Device) (n v : Nat) : (d.setEngine n v).mesh = d.mesh := rfl
@[simp] theorem Device.setEngine_reqs (d : Device) (n v : Nat) : (d.setEngine n v).reqs = d.reqs := rfl
@[simp] theorem Device.setEngine_committed (d : Device) (n v : Nat) : (d.setEngine n v).committed = d.committed := rfl
@[simp] theorem Device.setEngine_bram (d : Device) (n v : Nat) : (d.setEngine n v).bram = d.bram := rfl
@[simp] theorem Device.setEngine_tcm (d : Device) (n v : Nat) : (d.setEngine n v).tcm = d.tcm := rfl
@[simp] theorem Device.setEngine_modeStep (d : Device) (n v : Nat) : (d.setEngine n v).modeStep = d.modeStep := rfl
@[simp] theorem Device.setEngine_migs (d : Device) (n v : Nat) : (d.setEngine n v).migs = d.migs := rfl
@[simp] theorem Device.setEngine_drowsed (d : Device) (n v : Nat) : (d.setEngine n v).drowsed = d.drowsed := rfl
@[simp] theorem Device.setEngine_drowsedLinks (d : Device) (n v : Nat) : (d.setEngine n v).drowsedLinks = d.drowsedLinks := rfl
@[simp] theorem Device.setEngine_perst (d : Device) (n v : Nat) : (d.setEngine n v).perst = d.perst := rfl
@[simp] theorem Device.setEngine_tap (d : Device) (n v : Nat) : (d.setEngine n v).tap = d.tap := rfl
@[simp] theorem Device.setEngine_cfgMem (d : Device) (n v : Nat) : (d.setEngine n v).cfgMem = d.cfgMem := rfl
@[simp] theorem Device.setEngine_detours (d : Device) (n v : Nat) : (d.setEngine n v).detours = d.detours := rfl

@[simp] theorem Device.setRow_regs (d : Device) (pb : Fin 112) (m r : Nat) (v : BitVec 72) : (d.setRow pb m r v).regs = d.regs := rfl
@[simp] theorem Device.setRow_out (d : Device) (pb : Fin 112) (m r : Nat) (v : BitVec 72) : (d.setRow pb m r v).out = d.out := rfl
@[simp] theorem Device.setRow_free (d : Device) (pb : Fin 112) (m r : Nat) (v : BitVec 72) : (d.setRow pb m r v).free = d.free := rfl
@[simp] theorem Device.setRow_signals (d : Device) (pb : Fin 112) (m r : Nat) (v : BitVec 72) : (d.setRow pb m r v).signals = d.signals := rfl
@[simp] theorem Device.setRow_links (d : Device) (pb : Fin 112) (m r : Nat) (v : BitVec 72) : (d.setRow pb m r v).links = d.links := rfl
@[simp] theorem Device.setRow_curs (d : Device) (pb : Fin 112) (m r : Nat) (v : BitVec 72) : (d.setRow pb m r v).curs = d.curs := rfl
@[simp] theorem Device.setRow_cores (d : Device) (pb : Fin 112) (m r : Nat) (v : BitVec 72) : (d.setRow pb m r v).cores = d.cores := rfl
@[simp] theorem Device.setRow_porter (d : Device) (pb : Fin 112) (m r : Nat) (v : BitVec 72) : (d.setRow pb m r v).porter = d.porter := rfl
@[simp] theorem Device.setRow_porterRam (d : Device) (pb : Fin 112) (m r : Nat) (v : BitVec 72) : (d.setRow pb m r v).porterRam = d.porterRam := rfl
@[simp] theorem Device.setRow_load (d : Device) (pb : Fin 112) (m r : Nat) (v : BitVec 72) : (d.setRow pb m r v).load = d.load := rfl
@[simp] theorem Device.setRow_mesh (d : Device) (pb : Fin 112) (m r : Nat) (v : BitVec 72) : (d.setRow pb m r v).mesh = d.mesh := rfl
@[simp] theorem Device.setRow_reqs (d : Device) (pb : Fin 112) (m r : Nat) (v : BitVec 72) : (d.setRow pb m r v).reqs = d.reqs := rfl
@[simp] theorem Device.setRow_committed (d : Device) (pb : Fin 112) (m r : Nat) (v : BitVec 72) : (d.setRow pb m r v).committed = d.committed := rfl
@[simp] theorem Device.setRow_tcm (d : Device) (pb : Fin 112) (m r : Nat) (v : BitVec 72) : (d.setRow pb m r v).tcm = d.tcm := rfl
@[simp] theorem Device.setRow_modeStep (d : Device) (pb : Fin 112) (m r : Nat) (v : BitVec 72) : (d.setRow pb m r v).modeStep = d.modeStep := rfl
@[simp] theorem Device.setRow_migs (d : Device) (pb : Fin 112) (m r : Nat) (v : BitVec 72) : (d.setRow pb m r v).migs = d.migs := rfl
@[simp] theorem Device.setRow_drowsed (d : Device) (pb : Fin 112) (m r : Nat) (v : BitVec 72) : (d.setRow pb m r v).drowsed = d.drowsed := rfl
@[simp] theorem Device.setRow_drowsedLinks (d : Device) (pb : Fin 112) (m r : Nat) (v : BitVec 72) : (d.setRow pb m r v).drowsedLinks = d.drowsedLinks := rfl
@[simp] theorem Device.setRow_perst (d : Device) (pb : Fin 112) (m r : Nat) (v : BitVec 72) : (d.setRow pb m r v).perst = d.perst := rfl
@[simp] theorem Device.setRow_tap (d : Device) (pb : Fin 112) (m r : Nat) (v : BitVec 72) : (d.setRow pb m r v).tap = d.tap := rfl
@[simp] theorem Device.setRow_cfgMem (d : Device) (pb : Fin 112) (m r : Nat) (v : BitVec 72) : (d.setRow pb m r v).cfgMem = d.cfgMem := rfl
@[simp] theorem Device.setRow_detours (d : Device) (pb : Fin 112) (m r : Nat) (v : BitVec 72) : (d.setRow pb m r v).detours = d.detours := rfl
@[simp] theorem Device.setRow_engines (d : Device) (pb : Fin 112) (m r : Nat) (v : BitVec 72) : (d.setRow pb m r v).engines = d.engines := rfl

@[simp] theorem Device.setSlice_regs (d : Device) (pb : Fin 112) (m : Nat) (x : SliceSt) : (d.setSlice pb m x).regs = d.regs := rfl
@[simp] theorem Device.setSlice_out (d : Device) (pb : Fin 112) (m : Nat) (x : SliceSt) : (d.setSlice pb m x).out = d.out := rfl
@[simp] theorem Device.setSlice_free (d : Device) (pb : Fin 112) (m : Nat) (x : SliceSt) : (d.setSlice pb m x).free = d.free := rfl
@[simp] theorem Device.setSlice_signals (d : Device) (pb : Fin 112) (m : Nat) (x : SliceSt) : (d.setSlice pb m x).signals = d.signals := rfl
@[simp] theorem Device.setSlice_links (d : Device) (pb : Fin 112) (m : Nat) (x : SliceSt) : (d.setSlice pb m x).links = d.links := rfl
@[simp] theorem Device.setSlice_curs (d : Device) (pb : Fin 112) (m : Nat) (x : SliceSt) : (d.setSlice pb m x).curs = d.curs := rfl
@[simp] theorem Device.setSlice_cores (d : Device) (pb : Fin 112) (m : Nat) (x : SliceSt) : (d.setSlice pb m x).cores = d.cores := rfl
@[simp] theorem Device.setSlice_porter (d : Device) (pb : Fin 112) (m : Nat) (x : SliceSt) : (d.setSlice pb m x).porter = d.porter := rfl
@[simp] theorem Device.setSlice_porterRam (d : Device) (pb : Fin 112) (m : Nat) (x : SliceSt) : (d.setSlice pb m x).porterRam = d.porterRam := rfl
@[simp] theorem Device.setSlice_load (d : Device) (pb : Fin 112) (m : Nat) (x : SliceSt) : (d.setSlice pb m x).load = d.load := rfl
@[simp] theorem Device.setSlice_mesh (d : Device) (pb : Fin 112) (m : Nat) (x : SliceSt) : (d.setSlice pb m x).mesh = d.mesh := rfl
@[simp] theorem Device.setSlice_reqs (d : Device) (pb : Fin 112) (m : Nat) (x : SliceSt) : (d.setSlice pb m x).reqs = d.reqs := rfl
@[simp] theorem Device.setSlice_committed (d : Device) (pb : Fin 112) (m : Nat) (x : SliceSt) : (d.setSlice pb m x).committed = d.committed := rfl
@[simp] theorem Device.setSlice_bram (d : Device) (pb : Fin 112) (m : Nat) (x : SliceSt) : (d.setSlice pb m x).bram = d.bram := rfl
@[simp] theorem Device.setSlice_tcm (d : Device) (pb : Fin 112) (m : Nat) (x : SliceSt) : (d.setSlice pb m x).tcm = d.tcm := rfl
@[simp] theorem Device.setSlice_modeStep (d : Device) (pb : Fin 112) (m : Nat) (x : SliceSt) : (d.setSlice pb m x).modeStep = d.modeStep := rfl
@[simp] theorem Device.setSlice_migs (d : Device) (pb : Fin 112) (m : Nat) (x : SliceSt) : (d.setSlice pb m x).migs = d.migs := rfl
@[simp] theorem Device.setSlice_drowsed (d : Device) (pb : Fin 112) (m : Nat) (x : SliceSt) : (d.setSlice pb m x).drowsed = d.drowsed := rfl
@[simp] theorem Device.setSlice_drowsedLinks (d : Device) (pb : Fin 112) (m : Nat) (x : SliceSt) : (d.setSlice pb m x).drowsedLinks = d.drowsedLinks := rfl
@[simp] theorem Device.setSlice_perst (d : Device) (pb : Fin 112) (m : Nat) (x : SliceSt) : (d.setSlice pb m x).perst = d.perst := rfl
@[simp] theorem Device.setSlice_tap (d : Device) (pb : Fin 112) (m : Nat) (x : SliceSt) : (d.setSlice pb m x).tap = d.tap := rfl
@[simp] theorem Device.setSlice_cfgMem (d : Device) (pb : Fin 112) (m : Nat) (x : SliceSt) : (d.setSlice pb m x).cfgMem = d.cfgMem := rfl
@[simp] theorem Device.setSlice_detours (d : Device) (pb : Fin 112) (m : Nat) (x : SliceSt) : (d.setSlice pb m x).detours = d.detours := rfl
@[simp] theorem Device.setSlice_engines (d : Device) (pb : Fin 112) (m : Nat) (x : SliceSt) : (d.setSlice pb m x).engines = d.engines := rfl

@[simp] theorem Device.setChan_regs (d : Device) (c : Nat) (x : ChanSt) : (d.setChan c x).regs = d.regs := rfl
@[simp] theorem Device.setChan_out (d : Device) (c : Nat) (x : ChanSt) : (d.setChan c x).out = d.out := rfl
@[simp] theorem Device.setChan_free (d : Device) (c : Nat) (x : ChanSt) : (d.setChan c x).free = d.free := rfl
@[simp] theorem Device.setChan_signals (d : Device) (c : Nat) (x : ChanSt) : (d.setChan c x).signals = d.signals := rfl
@[simp] theorem Device.setChan_links (d : Device) (c : Nat) (x : ChanSt) : (d.setChan c x).links = d.links := rfl
@[simp] theorem Device.setChan_curs (d : Device) (c : Nat) (x : ChanSt) : (d.setChan c x).curs = d.curs := rfl
@[simp] theorem Device.setChan_cores (d : Device) (c : Nat) (x : ChanSt) : (d.setChan c x).cores = d.cores := rfl
@[simp] theorem Device.setChan_porter (d : Device) (c : Nat) (x : ChanSt) : (d.setChan c x).porter = d.porter := rfl
@[simp] theorem Device.setChan_porterRam (d : Device) (c : Nat) (x : ChanSt) : (d.setChan c x).porterRam = d.porterRam := rfl
@[simp] theorem Device.setChan_load (d : Device) (c : Nat) (x : ChanSt) : (d.setChan c x).load = d.load := rfl
@[simp] theorem Device.setChan_mesh (d : Device) (c : Nat) (x : ChanSt) : (d.setChan c x).mesh = d.mesh := rfl
@[simp] theorem Device.setChan_reqs (d : Device) (c : Nat) (x : ChanSt) : (d.setChan c x).reqs = d.reqs := rfl
@[simp] theorem Device.setChan_committed (d : Device) (c : Nat) (x : ChanSt) : (d.setChan c x).committed = d.committed := rfl
@[simp] theorem Device.setChan_bram (d : Device) (c : Nat) (x : ChanSt) : (d.setChan c x).bram = d.bram := rfl
@[simp] theorem Device.setChan_tcm (d : Device) (c : Nat) (x : ChanSt) : (d.setChan c x).tcm = d.tcm := rfl
@[simp] theorem Device.setChan_modeStep (d : Device) (c : Nat) (x : ChanSt) : (d.setChan c x).modeStep = d.modeStep := rfl
@[simp] theorem Device.setChan_migs (d : Device) (c : Nat) (x : ChanSt) : (d.setChan c x).migs = d.migs := rfl
@[simp] theorem Device.setChan_drowsed (d : Device) (c : Nat) (x : ChanSt) : (d.setChan c x).drowsed = d.drowsed := rfl
@[simp] theorem Device.setChan_drowsedLinks (d : Device) (c : Nat) (x : ChanSt) : (d.setChan c x).drowsedLinks = d.drowsedLinks := rfl
@[simp] theorem Device.setChan_perst (d : Device) (c : Nat) (x : ChanSt) : (d.setChan c x).perst = d.perst := rfl
@[simp] theorem Device.setChan_tap (d : Device) (c : Nat) (x : ChanSt) : (d.setChan c x).tap = d.tap := rfl
@[simp] theorem Device.setChan_cfgMem (d : Device) (c : Nat) (x : ChanSt) : (d.setChan c x).cfgMem = d.cfgMem := rfl
@[simp] theorem Device.setChan_detours (d : Device) (c : Nat) (x : ChanSt) : (d.setChan c x).detours = d.detours := rfl
@[simp] theorem Device.setChan_engines (d : Device) (c : Nat) (x : ChanSt) : (d.setChan c x).engines = d.engines := rfl

@[simp] theorem Device.setHostReq_regs (d : Device) (tag : Nat) (r : Option HostReq) : (d.setHostReq tag r).regs = d.regs := rfl
@[simp] theorem Device.setHostReq_out (d : Device) (tag : Nat) (r : Option HostReq) : (d.setHostReq tag r).out = d.out := rfl
@[simp] theorem Device.setHostReq_free (d : Device) (tag : Nat) (r : Option HostReq) : (d.setHostReq tag r).free = d.free := rfl
@[simp] theorem Device.setHostReq_signals (d : Device) (tag : Nat) (r : Option HostReq) : (d.setHostReq tag r).signals = d.signals := rfl
@[simp] theorem Device.setHostReq_links (d : Device) (tag : Nat) (r : Option HostReq) : (d.setHostReq tag r).links = d.links := rfl
@[simp] theorem Device.setHostReq_curs (d : Device) (tag : Nat) (r : Option HostReq) : (d.setHostReq tag r).curs = d.curs := rfl
@[simp] theorem Device.setHostReq_cores (d : Device) (tag : Nat) (r : Option HostReq) : (d.setHostReq tag r).cores = d.cores := rfl
@[simp] theorem Device.setHostReq_porter (d : Device) (tag : Nat) (r : Option HostReq) : (d.setHostReq tag r).porter = d.porter := rfl
@[simp] theorem Device.setHostReq_porterRam (d : Device) (tag : Nat) (r : Option HostReq) : (d.setHostReq tag r).porterRam = d.porterRam := rfl
@[simp] theorem Device.setHostReq_load (d : Device) (tag : Nat) (r : Option HostReq) : (d.setHostReq tag r).load = d.load := rfl
@[simp] theorem Device.setHostReq_mesh (d : Device) (tag : Nat) (r : Option HostReq) : (d.setHostReq tag r).mesh = d.mesh := rfl
@[simp] theorem Device.setHostReq_reqs (d : Device) (tag : Nat) (r : Option HostReq) : (d.setHostReq tag r).reqs = d.reqs := rfl
@[simp] theorem Device.setHostReq_committed (d : Device) (tag : Nat) (r : Option HostReq) : (d.setHostReq tag r).committed = d.committed := rfl
@[simp] theorem Device.setHostReq_bram (d : Device) (tag : Nat) (r : Option HostReq) : (d.setHostReq tag r).bram = d.bram := rfl
@[simp] theorem Device.setHostReq_tcm (d : Device) (tag : Nat) (r : Option HostReq) : (d.setHostReq tag r).tcm = d.tcm := rfl
@[simp] theorem Device.setHostReq_modeStep (d : Device) (tag : Nat) (r : Option HostReq) : (d.setHostReq tag r).modeStep = d.modeStep := rfl
@[simp] theorem Device.setHostReq_migs (d : Device) (tag : Nat) (r : Option HostReq) : (d.setHostReq tag r).migs = d.migs := rfl
@[simp] theorem Device.setHostReq_drowsed (d : Device) (tag : Nat) (r : Option HostReq) : (d.setHostReq tag r).drowsed = d.drowsed := rfl
@[simp] theorem Device.setHostReq_drowsedLinks (d : Device) (tag : Nat) (r : Option HostReq) : (d.setHostReq tag r).drowsedLinks = d.drowsedLinks := rfl
@[simp] theorem Device.setHostReq_perst (d : Device) (tag : Nat) (r : Option HostReq) : (d.setHostReq tag r).perst = d.perst := rfl
@[simp] theorem Device.setHostReq_tap (d : Device) (tag : Nat) (r : Option HostReq) : (d.setHostReq tag r).tap = d.tap := rfl
@[simp] theorem Device.setHostReq_cfgMem (d : Device) (tag : Nat) (r : Option HostReq) : (d.setHostReq tag r).cfgMem = d.cfgMem := rfl
@[simp] theorem Device.setHostReq_detours (d : Device) (tag : Nat) (r : Option HostReq) : (d.setHostReq tag r).detours = d.detours := rfl
@[simp] theorem Device.setHostReq_engines (d : Device) (tag : Nat) (r : Option HostReq) : (d.setHostReq tag r).engines = d.engines := rfl

@[simp] theorem Device.setMailbox_regs (d : Device) (n : Nat) (m : Mailbox) : (d.setMailbox n m).regs = d.regs := rfl
@[simp] theorem Device.setMailbox_out (d : Device) (n : Nat) (m : Mailbox) : (d.setMailbox n m).out = d.out := rfl
@[simp] theorem Device.setMailbox_free (d : Device) (n : Nat) (m : Mailbox) : (d.setMailbox n m).free = d.free := rfl
@[simp] theorem Device.setMailbox_signals (d : Device) (n : Nat) (m : Mailbox) : (d.setMailbox n m).signals = d.signals := rfl
@[simp] theorem Device.setMailbox_links (d : Device) (n : Nat) (m : Mailbox) : (d.setMailbox n m).links = d.links := rfl
@[simp] theorem Device.setMailbox_curs (d : Device) (n : Nat) (m : Mailbox) : (d.setMailbox n m).curs = d.curs := rfl
@[simp] theorem Device.setMailbox_cores (d : Device) (n : Nat) (m : Mailbox) : (d.setMailbox n m).cores = d.cores := rfl
@[simp] theorem Device.setMailbox_porter (d : Device) (n : Nat) (m : Mailbox) : (d.setMailbox n m).porter = d.porter := rfl
@[simp] theorem Device.setMailbox_porterRam (d : Device) (n : Nat) (m : Mailbox) : (d.setMailbox n m).porterRam = d.porterRam := rfl
@[simp] theorem Device.setMailbox_load (d : Device) (n : Nat) (m : Mailbox) : (d.setMailbox n m).load = d.load := rfl
@[simp] theorem Device.setMailbox_mesh (d : Device) (n : Nat) (m : Mailbox) : (d.setMailbox n m).mesh = d.mesh := rfl
@[simp] theorem Device.setMailbox_reqs (d : Device) (n : Nat) (m : Mailbox) : (d.setMailbox n m).reqs = d.reqs := rfl
@[simp] theorem Device.setMailbox_committed (d : Device) (n : Nat) (m : Mailbox) : (d.setMailbox n m).committed = d.committed := rfl
@[simp] theorem Device.setMailbox_bram (d : Device) (n : Nat) (m : Mailbox) : (d.setMailbox n m).bram = d.bram := rfl
@[simp] theorem Device.setMailbox_tcm (d : Device) (n : Nat) (m : Mailbox) : (d.setMailbox n m).tcm = d.tcm := rfl
@[simp] theorem Device.setMailbox_modeStep (d : Device) (n : Nat) (m : Mailbox) : (d.setMailbox n m).modeStep = d.modeStep := rfl
@[simp] theorem Device.setMailbox_migs (d : Device) (n : Nat) (m : Mailbox) : (d.setMailbox n m).migs = d.migs := rfl
@[simp] theorem Device.setMailbox_drowsed (d : Device) (n : Nat) (m : Mailbox) : (d.setMailbox n m).drowsed = d.drowsed := rfl
@[simp] theorem Device.setMailbox_drowsedLinks (d : Device) (n : Nat) (m : Mailbox) : (d.setMailbox n m).drowsedLinks = d.drowsedLinks := rfl
@[simp] theorem Device.setMailbox_perst (d : Device) (n : Nat) (m : Mailbox) : (d.setMailbox n m).perst = d.perst := rfl
@[simp] theorem Device.setMailbox_tap (d : Device) (n : Nat) (m : Mailbox) : (d.setMailbox n m).tap = d.tap := rfl
@[simp] theorem Device.setMailbox_cfgMem (d : Device) (n : Nat) (m : Mailbox) : (d.setMailbox n m).cfgMem = d.cfgMem := rfl
@[simp] theorem Device.setMailbox_detours (d : Device) (n : Nat) (m : Mailbox) : (d.setMailbox n m).detours = d.detours := rfl
@[simp] theorem Device.setMailbox_engines (d : Device) (n : Nat) (m : Mailbox) : (d.setMailbox n m).engines = d.engines := rfl

@[simp] theorem Device.setHeld_regs (d : Device) (n : Fin 104) (c : Nat) (ps : List Packet) : (d.setHeld n c ps).regs = d.regs := rfl
@[simp] theorem Device.setHeld_out (d : Device) (n : Fin 104) (c : Nat) (ps : List Packet) : (d.setHeld n c ps).out = d.out := rfl
@[simp] theorem Device.setHeld_free (d : Device) (n : Fin 104) (c : Nat) (ps : List Packet) : (d.setHeld n c ps).free = d.free := rfl
@[simp] theorem Device.setHeld_signals (d : Device) (n : Fin 104) (c : Nat) (ps : List Packet) : (d.setHeld n c ps).signals = d.signals := rfl
@[simp] theorem Device.setHeld_links (d : Device) (n : Fin 104) (c : Nat) (ps : List Packet) : (d.setHeld n c ps).links = d.links := rfl
@[simp] theorem Device.setHeld_curs (d : Device) (n : Fin 104) (c : Nat) (ps : List Packet) : (d.setHeld n c ps).curs = d.curs := rfl
@[simp] theorem Device.setHeld_cores (d : Device) (n : Fin 104) (c : Nat) (ps : List Packet) : (d.setHeld n c ps).cores = d.cores := rfl
@[simp] theorem Device.setHeld_porter (d : Device) (n : Fin 104) (c : Nat) (ps : List Packet) : (d.setHeld n c ps).porter = d.porter := rfl
@[simp] theorem Device.setHeld_porterRam (d : Device) (n : Fin 104) (c : Nat) (ps : List Packet) : (d.setHeld n c ps).porterRam = d.porterRam := rfl
@[simp] theorem Device.setHeld_load (d : Device) (n : Fin 104) (c : Nat) (ps : List Packet) : (d.setHeld n c ps).load = d.load := rfl
@[simp] theorem Device.setHeld_mesh (d : Device) (n : Fin 104) (c : Nat) (ps : List Packet) : (d.setHeld n c ps).mesh = d.mesh := rfl
@[simp] theorem Device.setHeld_reqs (d : Device) (n : Fin 104) (c : Nat) (ps : List Packet) : (d.setHeld n c ps).reqs = d.reqs := rfl
@[simp] theorem Device.setHeld_committed (d : Device) (n : Fin 104) (c : Nat) (ps : List Packet) : (d.setHeld n c ps).committed = d.committed := rfl
@[simp] theorem Device.setHeld_bram (d : Device) (n : Fin 104) (c : Nat) (ps : List Packet) : (d.setHeld n c ps).bram = d.bram := rfl
@[simp] theorem Device.setHeld_tcm (d : Device) (n : Fin 104) (c : Nat) (ps : List Packet) : (d.setHeld n c ps).tcm = d.tcm := rfl
@[simp] theorem Device.setHeld_modeStep (d : Device) (n : Fin 104) (c : Nat) (ps : List Packet) : (d.setHeld n c ps).modeStep = d.modeStep := rfl
@[simp] theorem Device.setHeld_migs (d : Device) (n : Fin 104) (c : Nat) (ps : List Packet) : (d.setHeld n c ps).migs = d.migs := rfl
@[simp] theorem Device.setHeld_drowsed (d : Device) (n : Fin 104) (c : Nat) (ps : List Packet) : (d.setHeld n c ps).drowsed = d.drowsed := rfl
@[simp] theorem Device.setHeld_drowsedLinks (d : Device) (n : Fin 104) (c : Nat) (ps : List Packet) : (d.setHeld n c ps).drowsedLinks = d.drowsedLinks := rfl
@[simp] theorem Device.setHeld_perst (d : Device) (n : Fin 104) (c : Nat) (ps : List Packet) : (d.setHeld n c ps).perst = d.perst := rfl
@[simp] theorem Device.setHeld_tap (d : Device) (n : Fin 104) (c : Nat) (ps : List Packet) : (d.setHeld n c ps).tap = d.tap := rfl
@[simp] theorem Device.setHeld_cfgMem (d : Device) (n : Fin 104) (c : Nat) (ps : List Packet) : (d.setHeld n c ps).cfgMem = d.cfgMem := rfl
@[simp] theorem Device.setHeld_detours (d : Device) (n : Fin 104) (c : Nat) (ps : List Packet) : (d.setHeld n c ps).detours = d.detours := rfl
@[simp] theorem Device.setHeld_engines (d : Device) (n : Fin 104) (c : Nat) (ps : List Packet) : (d.setHeld n c ps).engines = d.engines := rfl

@[simp] theorem Device.setTest_regs (d : Device) (pb : Fin 112) (x : Option TestFor) : (d.setTest pb x).regs = d.regs := rfl
@[simp] theorem Device.setTest_out (d : Device) (pb : Fin 112) (x : Option TestFor) : (d.setTest pb x).out = d.out := rfl
@[simp] theorem Device.setTest_free (d : Device) (pb : Fin 112) (x : Option TestFor) : (d.setTest pb x).free = d.free := rfl
@[simp] theorem Device.setTest_signals (d : Device) (pb : Fin 112) (x : Option TestFor) : (d.setTest pb x).signals = d.signals := rfl
@[simp] theorem Device.setTest_links (d : Device) (pb : Fin 112) (x : Option TestFor) : (d.setTest pb x).links = d.links := rfl
@[simp] theorem Device.setTest_curs (d : Device) (pb : Fin 112) (x : Option TestFor) : (d.setTest pb x).curs = d.curs := rfl
@[simp] theorem Device.setTest_cores (d : Device) (pb : Fin 112) (x : Option TestFor) : (d.setTest pb x).cores = d.cores := rfl
@[simp] theorem Device.setTest_porter (d : Device) (pb : Fin 112) (x : Option TestFor) : (d.setTest pb x).porter = d.porter := rfl
@[simp] theorem Device.setTest_porterRam (d : Device) (pb : Fin 112) (x : Option TestFor) : (d.setTest pb x).porterRam = d.porterRam := rfl
@[simp] theorem Device.setTest_load (d : Device) (pb : Fin 112) (x : Option TestFor) : (d.setTest pb x).load = d.load := rfl
@[simp] theorem Device.setTest_mesh (d : Device) (pb : Fin 112) (x : Option TestFor) : (d.setTest pb x).mesh = d.mesh := rfl
@[simp] theorem Device.setTest_reqs (d : Device) (pb : Fin 112) (x : Option TestFor) : (d.setTest pb x).reqs = d.reqs := rfl
@[simp] theorem Device.setTest_committed (d : Device) (pb : Fin 112) (x : Option TestFor) : (d.setTest pb x).committed = d.committed := rfl
@[simp] theorem Device.setTest_bram (d : Device) (pb : Fin 112) (x : Option TestFor) : (d.setTest pb x).bram = d.bram := rfl
@[simp] theorem Device.setTest_tcm (d : Device) (pb : Fin 112) (x : Option TestFor) : (d.setTest pb x).tcm = d.tcm := rfl
@[simp] theorem Device.setTest_modeStep (d : Device) (pb : Fin 112) (x : Option TestFor) : (d.setTest pb x).modeStep = d.modeStep := rfl
@[simp] theorem Device.setTest_migs (d : Device) (pb : Fin 112) (x : Option TestFor) : (d.setTest pb x).migs = d.migs := rfl
@[simp] theorem Device.setTest_drowsed (d : Device) (pb : Fin 112) (x : Option TestFor) : (d.setTest pb x).drowsed = d.drowsed := rfl
@[simp] theorem Device.setTest_drowsedLinks (d : Device) (pb : Fin 112) (x : Option TestFor) : (d.setTest pb x).drowsedLinks = d.drowsedLinks := rfl
@[simp] theorem Device.setTest_perst (d : Device) (pb : Fin 112) (x : Option TestFor) : (d.setTest pb x).perst = d.perst := rfl
@[simp] theorem Device.setTest_tap (d : Device) (pb : Fin 112) (x : Option TestFor) : (d.setTest pb x).tap = d.tap := rfl
@[simp] theorem Device.setTest_cfgMem (d : Device) (pb : Fin 112) (x : Option TestFor) : (d.setTest pb x).cfgMem = d.cfgMem := rfl
@[simp] theorem Device.setTest_detours (d : Device) (pb : Fin 112) (x : Option TestFor) : (d.setTest pb x).detours = d.detours := rfl
@[simp] theorem Device.setTest_engines (d : Device) (pb : Fin 112) (x : Option TestFor) : (d.setTest pb x).engines = d.engines := rfl

end Sys2Proof.Machine
end

