-- ==== Sys2Proof/Laws/Core.lean ====
section
/-! SUPPORT. How a tenant core that nothing debugs executes an instruction: what the word does, then the next PC. -/

namespace Sys2Proof.Machine

open Sys2Proof

/-- A debug flag is not in the cores. -/
theorem dbgFlag_setCore (d : Device) (c c' : Fin 2) (k : CoreSt) (f : Fld) (i : Nat) : (d.setCore c k).dbgFlag c' f i = d.dbgFlag c' f i := rfl

/-- A core that is not watched stays so while it runs and does not step. -/
theorem unw_set {d : Device} {c : Fin 2} (h : d.unwatched c) (k : CoreSt) (hm : k.mode = .running) (hs : k.stepping = false) : (d.setCore c k).unwatched c :=
  ⟨by rw [Device.setCore_core]; exact hm, by rw [Device.setCore_core]; exact hs, h.2.2⟩

/-- A register write leaves the mode. -/
theorem setReg_mode (k : CoreSt) (r : RegNo) (v : Word) : (k.setReg r v).mode = k.mode := by unfold CoreSt.setReg; split <;> rfl

/-- A register write leaves the step under way. -/
theorem setReg_stepping (k : CoreSt) (r : RegNo) (v : Word) : (k.setReg r v).stepping = k.stepping := by unfold CoreSt.setReg; split <;> rfl

/-- Nothing debugs the end of an instruction of a core that is not watched. -/
theorem insnDone_unw {d : Device} {c : Fin 2} (h : d.unwatched c) (acc : Option CompAccess) : d.insnDone c acc = d := by
  have h1 : ∀ x, ([4, 5, 6, 7].filter fun i => d.dataMatch c i x) = [] := by
    intro x
    simp [Device.dataMatch, h.2.2 4, h.2.2 5, h.2.2 6, h.2.2 7]
  unfold Device.insnDone
  cases acc with
  | none => simp [Device.stepEnds, h.2.1]
  | some x => simp [h1, Device.stepEnds, h.2.1]

/-- An instruction that goes on to the next word. -/
theorem end_seq {e r : Device} {c : Fin 2} (h : r.unwatched c) (acc : Option CompAccess) :
    e.insnEnd c { dev := r, eff := .seq, acc := acc } = r.setPc c ((e.core c).pc + 4) := by
  unfold Device.insnEnd
  simp only [h.1, if_true]
  exact insnDone_unw (unw_set h _ (by exact h.1) (by exact h.2.1)) acc

/-- An instruction that writes a register and goes on to the next word. -/
theorem end_set {e r : Device} {c : Fin 2} (h : r.unwatched c) (rd : RegNo) (v : Word) (acc : Option CompAccess) :
   e.insnEnd c { dev := r.setCore c ((r.core c).setReg rd v), eff := .seq, acc := acc } = (r.setCore c ((r.core c).setReg rd v)).setPc c ((e.core c).pc + 4) :=
  end_seq (unw_set h _ (by rw [setReg_mode]; exact h.1) (by rw [setReg_stepping]; exact h.2.1)) acc

/-- A core that is ready executes the word of the instruction. -/
theorem insn_ready {d e : Device} {c : Fin 2} (h : d.ready c e) (i : CoreInsn) : insnBody c i d = e.execWord c (encodeCore i) := by
  obtain ⟨⟨hm, hs, hc⟩, hk, hf, hu⟩ := h
  have hw : d.wfiEnds c = d := by simp [Device.wfiEnds, hm]
  unfold insnBody
  rw [hw, if_pos ⟨hm, hk⟩]
  have hh : ((if ((d.coreCycles c).core c).quiet then [] else [0, 1, 2, 3].filter fun i => (d.coreCycles c).insnMatch c i ((d.coreCycles c).core c).pc)) = [] := by
    split
    · rfl
    · have : ∀ i, (d.coreCycles c).dbgFlag c fDbgcCompCtrlEn i = d.dbgFlag c fDbgcCompCtrlEn i := fun _ => rfl
      simp [Device.insnMatch, this, hc 0, hc 1, hc 2, hc 3]
  unfold Device.runInsn
  simp only [hh]
  have : (d.coreCycles c).setCore c { (d.coreCycles c).core c with quiet := false, acted := [] } = d.atInsn c := rfl
  simp only [List.isEmpty_nil, if_true, this, hf]
  rfl

/-- A trace record changes the trace alone (R447). -/
theorem trace_core (d : Device) (c : Fin 2) (r : DWord) : ∃ t b p, d.traceRecord c r = d ∨ d.traceRecord c r = d.setCore c { d.core c with trace := t, tracing := b, post := p } := by
  unfold Device.traceRecord
  dsimp only
  by_cases h1 : (!(d.core c).tracing) = true
  · rw [if_pos h1]; exact ⟨[], false, none, .inl rfl⟩
  · rw [if_neg h1]
    by_cases h2 : d.dbgFlag c fDbgcTraceCtrlMode = true
    · rw [if_pos h2]; exact ⟨_, _, _, .inr rfl⟩
    · rw [if_neg h2]
      cases (d.core c).post with
      | none => exact ⟨_, _, _, .inr rfl⟩
      | some n => exact ⟨_, _, _, .inr rfl⟩

/-- A trace record leaves a core that is not watched so. -/
theorem unw_trace {d : Device} {c : Fin 2} (h : d.unwatched c) (r : DWord) : (d.traceRecord c r).unwatched c := by
  obtain ⟨t, b, p, h' | h'⟩ := trace_core d c r <;> rw [h']
  · exact h
  · exact unw_set h _ h.1 h.2.1

/-- An instruction that jumps. -/
theorem end_to {e r : Device} {c : Fin 2} (h : r.unwatched c) (t : Word) :
    e.insnEnd c (.plain r (.to t)) = (r.setPc c t).traceRecord c (traceWord traceBranch (e.core c).pc t.toNat) := by
  have h1 : (r.setPc c t).unwatched c := unw_set h _ h.1 h.2.1
  exact insnDone_unw (unw_trace h1 _) none

/-- A core that is ready executes an instruction that its word decodes to (R400, R402). -/
theorem insn_exec {d e : Device} {c : Fin 2} (h : d.ready c e) (i : CoreInsn) (hd : decodeCore (encodeCore i) = some i)
    (hl : insnLegal i = true) : insnBody c i d = e.insnEnd c (e.insnEffect c false (encodeCore i) i) := by
  rw [insn_ready h]; unfold Device.execWord legalInsn; rw [hd]; simp only [hl, if_true]

/-- A word that R402 rejects is an illegal instruction. -/
theorem insn_illegal {d e : Device} {c : Fin 2} (h : d.ready c e) (i : CoreInsn) (hd : decodeCore (encodeCore i) = some i)
    (hl : insnLegal i = false) : insnBody c i d = e.insnExc c (exIllegal (encodeCore i)) := by
  rw [insn_ready h]; unfold Device.execWord legalInsn; rw [hd]; simp only [hl, Bool.false_eq_true, if_false]

end Sys2Proof.Machine
end

