-- ==== Sys2Proof/Laws/Exec.lean ====
section
/-! SUPPORT. What exec does with each command: the meaning that its arm calls. -/

namespace Sys2Proof.Machine

open Sys2Proof

@[simp] theorem exec_registerWrite (rq : Requester) (off : BitVec 26) (size : Nat) (w : Word) (s : State) :
    exec (.registerWrite rq off size w) s = execRegisterWrite rq off size w s := rfl
@[simp] theorem exec_commit (rq : Requester) (pg : PageRef) (tag : Byte) (en : Bool) (s : State) :
    exec (.commit rq pg tag en) s = execCommit rq pg tag en s := rfl
@[simp] theorem exec_stagedSetApply (pg : PageRef) (s : State) : exec (.stagedSetApply pg) s = execStagedSetApply pg s := rfl
@[simp] theorem exec_enable (rq : Requester) (pg : PageRef) (tag : Byte) (en : Bool) (s : State) :
    exec (.enable rq pg tag en) s = execEnable rq pg tag en s := rfl
@[simp] theorem exec_abortRequest (rq : Requester) (pg : PageRef) (tag : Byte) (s : State) :
    exec (.abortRequest rq pg tag) s = execAbortRequest rq pg tag s := rfl
@[simp] theorem exec_abortDone (pg : PageRef) (s : State) : exec (.abortDone pg) s = execAbortDone pg s := rfl
@[simp] theorem exec_abortClear (rq : Requester) (pg : PageRef) (tag : Byte) (s : State) :
    exec (.abortClear rq pg tag) s = execAbortClear rq pg tag s := rfl
@[simp] theorem exec_pageCauseClear (rq : Requester) (pg : PageRef) (w : Word) (s : State) :
    exec (.pageCauseClear rq pg w) s = execPageCauseClear rq pg w s := rfl
@[simp] theorem exec_pageCauseSet (rq : Requester) (pg : PageRef) (w : Word) (s : State) :
    exec (.pageCauseSet rq pg w) s = execPageCauseSet rq pg w s := rfl
@[simp] theorem exec_alertRearm (rq : Requester) (w : Word) (s : State) : exec (.alertRearm rq w) s = execAlertRearm rq w s := rfl
@[simp] theorem exec_alertMsixSend (s : State) : exec .alertMsixSend s = execAlertMsixSend s := rfl
@[simp] theorem exec_msixUnmask (fn : PcieFn) (vec : Fin 64) (mask : Bool) (s : State) :
    exec (.msixUnmask fn vec mask) s = execMsixUnmask fn vec mask s := rfl
@[simp] theorem exec_peepTx (rq : Requester) (c : Fin 2) (s : State) : exec (.peepTx rq c) s = execPeepTx rq c s := rfl
@[simp] theorem exec_tracePopHi (rq : Requester) (s : State) : exec (.tracePopHi rq) s = execTracePopHi rq s := rfl
@[simp] theorem exec_goldenPop (rq : Requester) (s : State) : exec (.goldenPop rq) s = execGoldenPop rq s := rfl
@[simp] theorem exec_errPop (rq : Requester) (s : State) : exec (.errPop rq) s = execErrPop rq s := rfl
@[simp] theorem exec_mbxResp (rq : Requester) (n : Fin 4) (s : State) : exec (.mbxResp rq n) s = execMbxResp rq n s := rfl
@[simp] theorem exec_debugPeek (port : PopPort) (s : State) : exec (.debugPeek port) s = execDebugPeek port s := rfl
@[simp] theorem exec_tallyClear (rq : Requester) (w : Word) (s : State) : exec (.tallyClear rq w) s = execTallyClear rq w s := rfl
@[simp] theorem exec_tallyEccError (idx : BitVec 13) (double : Bool) (s : State) :
    exec (.tallyEccError idx double) s = execTallyEccError idx double s := rfl
@[simp] theorem exec_tallyRecompute (idx : BitVec 13) (s : State) : exec (.tallyRecompute idx) s = execTallyRecompute idx s := rfl
@[simp] theorem exec_logFree (rq : Requester) (log : LogRef) (s : State) : exec (.logFree rq log) s = execLogFree rq log s := rfl
@[simp] theorem exec_capture (rq : Requester) (b : BayPage) (s : State) : exec (.capture rq b) s = execCapture rq b s := rfl
@[simp] theorem exec_captureAll (rq : Requester) (b : BayPage) (s : State) : exec (.captureAll rq b) s = execCaptureAll rq b s := rfl
@[simp] theorem exec_captureComplete (pb : Fin 112) (s : State) : exec (.captureComplete pb) s = execCaptureComplete pb s := rfl
@[simp] theorem exec_hingeWordSend (bay : Fin 104) (ch : Fin 8) (word : BitVec 70 × Option (Fin 128)) (s : State) :
    exec (.hingeWordSend bay ch word) s = execHingeWordSend bay ch word s := rfl
@[simp] theorem exec_hingeWordArrive (bay : Fin 104) (ch : Fin 8) (s : State) :
    exec (.hingeWordArrive bay ch) s = execHingeWordArrive bay ch s := rfl
@[simp] theorem exec_hingeCreditReturn (bay : Fin 104) (ch : Fin 8) (s : State) :
    exec (.hingeCreditReturn bay ch) s = execHingeCreditReturn bay ch s := rfl
@[simp] theorem exec_stileWordSend (bay : Fin 104) (ch : Fin 4) (word : BitVec 70 × Option (Fin 128)) (s : State) :
    exec (.stileWordSend bay ch word) s = execStileWordSend bay ch word s := rfl
@[simp] theorem exec_stileWordArrive (bay : Fin 104) (ch : Fin 4) (s : State) :
    exec (.stileWordArrive bay ch) s = execStileWordArrive bay ch s := rfl
@[simp] theorem exec_sidebandChange (bay : Fin 104) (k : Fin 32) (v : Bool) (s : State) :
    exec (.sidebandChange bay k v) s = execSidebandChange bay k v s := rfl
@[simp] theorem exec_jambInput (j : Fin 48) (v : Bool) (s : State) : exec (.jambInput j v) s = execJambInput j v s := rfl
@[simp] theorem exec_bramRead (pb : Fin 112) (m : Fin 128) (port : BramPort) (acc : BitVec 15 × Bool) (other : Option OtherPort) (s : State) :
    exec (.bramRead pb m port acc other) s = execBramRead pb m port acc other s := rfl
@[simp] theorem exec_bramWrite (pb : Fin 112) (m : Fin 128) (port : BramPort) (acc : BramAccess) (other : Option OtherPort) (s : State) :
    exec (.bramWrite pb m port acc other) s = execBramWrite pb m port acc other s := rfl
@[simp] theorem exec_bramWriteback (pb : Fin 112) (m : Fin 128) (s : State) : exec (.bramWriteback pb m) s = execBramWriteback pb m s := rfl
@[simp] theorem exec_bramUpset (pb : Fin 112) (m : Fin 128) (row : Fin 512) (bit : Fin 72) (s : State) :
    exec (.bramUpset pb m row bit) s = execBramUpset pb m row bit s := rfl
@[simp] theorem exec_opmodeHold (pb : Fin 112) (sl : Fin 128) (x : SliceIn) (s : State) :
    exec (.opmodeHold pb sl x) s = execOpmodeHold pb sl x s := rfl
@[simp] theorem exec_opmodeLoad (pb : Fin 112) (sl : Fin 128) (x : SliceIn) (s : State) :
    exec (.opmodeLoad pb sl x) s = execOpmodeLoad pb sl x s := rfl
@[simp] theorem exec_opmodeAdd (pb : Fin 112) (sl : Fin 128) (x : SliceIn) (s : State) :
    exec (.opmodeAdd pb sl x) s = execOpmodeAdd pb sl x s := rfl
@[simp] theorem exec_opmodeSub (pb : Fin 112) (sl : Fin 128) (x : SliceIn) (s : State) :
    exec (.opmodeSub pb sl x) s = execOpmodeSub pb sl x s := rfl
@[simp] theorem exec_opmodeCascAdd (pb : Fin 112) (sl : Fin 128) (x : SliceIn) (s : State) :
    exec (.opmodeCascAdd pb sl x) s = execOpmodeCascAdd pb sl x s := rfl
@[simp] theorem exec_opmodeCascSub (pb : Fin 112) (sl : Fin 128) (x : SliceIn) (s : State) :
    exec (.opmodeCascSub pb sl x) s = execOpmodeCascSub pb sl x s := rfl
@[simp] theorem exec_opmodeClear (pb : Fin 112) (sl : Fin 128) (x : SliceIn) (s : State) :
    exec (.opmodeClear pb sl x) s = execOpmodeClear pb sl x s := rfl
@[simp] theorem exec_opmodeCascLoad (pb : Fin 112) (sl : Fin 128) (x : SliceIn) (s : State) :
    exec (.opmodeCascLoad pb sl x) s = execOpmodeCascLoad pb sl x s := rfl
@[simp] theorem exec_clrOvf (pb : Fin 112) (sl : Fin 128) (s : State) : exec (.clrOvf pb sl) s = execClrOvf pb sl s := rfl
@[simp] theorem exec_agLoad (pb : Fin 112) (sl : Fin 128) (k : Fin 2) (v : BitVec 15) (s : State) :
    exec (.agLoad pb sl k v) s = execAgLoad pb sl k v s := rfl
@[simp] theorem exec_agStep (pb : Fin 112) (sl : Fin 128) (k : Fin 2) (s : State) : exec (.agStep pb sl k) s = execAgStep pb sl k s := rfl
@[simp] theorem exec_blockStart (pb : Fin 112) (c : Fin 4) (alsoEnd : Bool) (clr : Bool) (s : State) :
    exec (.blockStart pb c alsoEnd clr) s = execBlockStart pb c alsoEnd clr s := rfl
@[simp] theorem exec_blockEnd (pb : Fin 112) (c : Fin 4) (clr : Bool) (s : State) :
    exec (.blockEnd pb c clr) s = execBlockEnd pb c clr s := rfl
@[simp] theorem exec_ecumClr (pb : Fin 112) (c : Fin 4) (s : State) : exec (.ecumClr pb c) s = execEcumClr pb c s := rfl
@[simp] theorem exec_refclkFail (r : RefClk) (s : State) : exec (.refclkFail r) s = execRefclkFail r s := rfl
@[simp] theorem exec_refSwitchDone (s : State) : exec .refSwitchDone s = execRefSwitchDone s := rfl
@[simp] theorem exec_refclkRecover (r : RefClk) (s : State) : exec (.refclkRecover r) s = execRefclkRecover r s := rfl
@[simp] theorem exec_prefer (rq : Requester) (w : Word) (s : State) : exec (.prefer rq w) s = execPrefer rq w s := rfl
@[simp] theorem exec_srcSel (rq : Requester) (w : Word) (s : State) : exec (.srcSel rq w) s = execSrcSel rq w s := rfl
@[simp] theorem exec_trimGo (rq : Requester) (s : State) : exec (.trimGo rq) s = execTrimGo rq s := rfl
@[simp] theorem exec_trimPeriodic (s : State) : exec .trimPeriodic s = execTrimPeriodic s := rfl
@[simp] theorem exec_trimDone (code : Byte) (s : State) : exec (.trimDone code) s = execTrimDone code s := rfl
@[simp] theorem exec_sillClkFail (s : State) : exec .sillClkFail s = execSillClkFail s := rfl
@[simp] theorem exec_srcRunStart (rq : Requester) (src : Fin 11) (s : State) :
    exec (.srcRunStart rq src) s = execSrcRunStart rq src s := rfl
@[simp] theorem exec_srcRunStop (rq : Requester) (src : Fin 11) (s : State) : exec (.srcRunStop rq src) s = execSrcRunStop rq src s := rfl
@[simp] theorem exec_pllLock (src : Fin 11) (s : State) : exec (.pllLock src) s = execPllLock src s := rfl
@[simp] theorem exec_twinSwitch (src : Fin 11) (s : State) : exec (.twinSwitch src) s = execTwinSwitch src s := rfl
@[simp] theorem exec_twinPairFail (src : Fin 11) (s : State) : exec (.twinPairFail src) s = execTwinPairFail src s := rfl
@[simp] theorem exec_linkPllFail (e : Fin 4) (s : State) : exec (.linkPllFail e) s = execLinkPllFail e s := rfl
@[simp] theorem exec_pciePllFail (s : State) : exec .pciePllFail s = execPciePllFail s := rfl
@[simp] theorem exec_corePllFail (s : State) : exec .corePllFail s = execCorePllFail s := rfl
@[simp] theorem exec_drowsyGate (bay : Fin 104) (s : State) : exec (.drowsyGate bay) s = execDrowsyGate bay s := rfl
@[simp] theorem exec_drowsyWake (bay : Fin 104) (s : State) : exec (.drowsyWake bay) s = execDrowsyWake bay s := rfl
@[simp] theorem exec_rd (k : Nat) (s : State) : exec (.rd k) s = execRd k s := rfl
@[simp] theorem exec_wrNp (k : Nat) (s : State) : exec (.wrNp k) s = execWrNp k s := rfl
@[simp] theorem exec_fadd64 (k : Nat) (s : State) : exec (.fadd64 k) s = execFadd64 k s := rfl
@[simp] theorem exec_swap64 (k : Nat) (s : State) : exec (.swap64 k) s = execSwap64 k s := rfl
@[simp] theorem exec_cas64 (k : Nat) (s : State) : exec (.cas64 k) s = execCas64 k s := rfl
@[simp] theorem exec_fadd128 (k : Nat) (s : State) : exec (.fadd128 k) s = execFadd128 k s := rfl
@[simp] theorem exec_swap128 (k : Nat) (s : State) : exec (.swap128 k) s = execSwap128 k s := rfl
@[simp] theorem exec_cas128 (k : Nat) (s : State) : exec (.cas128 k) s = execCas128 k s := rfl
@[simp] theorem exec_wrP (k : Nat) (s : State) : exec (.wrP k) s = execWrP k s := rfl
@[simp] theorem exec_msg (k : Nat) (s : State) : exec (.msg k) s = execMsg k s := rfl
@[simp] theorem exec_mrd (k : Nat) (s : State) : exec (.mrd k) s = execMrd k s := rfl
@[simp] theorem exec_mwr (k : Nat) (s : State) : exec (.mwr k) s = execMwr k s := rfl
@[simp] theorem exec_rsp (k : Nat) (s : State) : exec (.rsp k) s = execRsp k s := rfl
@[simp] theorem exec_rspData (k : Nat) (s : State) : exec (.rspData k) s = execRspData k s := rfl
@[simp] theorem exec_verifyOk (k : Nat) (s : State) : exec (.verifyOk k) s = execVerifyOk k s := rfl
@[simp] theorem exec_verifyFail (k : Nat) (s : State) : exec (.verifyFail k) s = execVerifyFail k s := rfl
@[simp] theorem exec_initiatorTimeout (n : NodeKind) (tag : BitVec 12) (s : State) :
    exec (.initiatorTimeout n tag) s = execInitiatorTimeout n tag s := rfl
@[simp] theorem exec_tagQuarantineEnd (n : NodeKind) (tag : BitVec 12) (s : State) :
    exec (.tagQuarantineEnd n tag) s = execTagQuarantineEnd n tag s := rfl
@[simp] theorem exec_bayPortSend (bay : Fin 104) (p : Packet) (s : State) : exec (.bayPortSend bay p) s = execBayPortSend bay p s := rfl
@[simp] theorem exec_bayPortIssue (bay : Fin 104) (cls : Fin 4) (s : State) :
    exec (.bayPortIssue bay cls) s = execBayPortIssue bay cls s := rfl
@[simp] theorem exec_segmentFail (at_ : RouterAt) (out : Fin 5) (s : State) :
    exec (.segmentFail at_ out) s = execSegmentFail at_ out s := rfl
@[simp] theorem exec_routerFail (at_ : RouterAt) (s : State) : exec (.routerFail at_) s = execRouterFail at_ s := rfl
@[simp] theorem exec_segmentBitError (at_ : RouterAt) (out : Fin 5) (s : State) :
    exec (.segmentBitError at_ out) s = execSegmentBitError at_ out s := rfl
@[simp] theorem exec_shutterClose (rq : Requester) (sh : ShutterRef) (s : State) :
    exec (.shutterClose rq sh) s = execShutterClose rq sh s := rfl
@[simp] theorem exec_shutterClosed (sh : ShutterRef) (s : State) : exec (.shutterClosed sh) s = execShutterClosed sh s := rfl
@[simp] theorem exec_shutterDrainExpire (sh : ShutterRef) (s : State) : exec (.shutterDrainExpire sh) s = execShutterDrainExpire sh s := rfl
@[simp] theorem exec_shutterOpen (rq : Requester) (sh : ShutterRef) (s : State) :
    exec (.shutterOpen rq sh) s = execShutterOpen rq sh s := rfl
@[simp] theorem exec_train (l : Fin 144) (f : TrainFlit) (s : State) : exec (.train l f) s = execTrain l f s := rfl
@[simp] theorem exec_trainEnd (flit : Fin 144 × TrainFlit) (s : State) : exec (.trainEnd flit) s = execTrainEnd flit s := rfl
@[simp] theorem exec_dllLock (l : Fin 144) (o : AlignOutcome) (s : State) : exec (.dllLock l o) s = execDllLock l o s := rfl
@[simp] theorem exec_trainRestart (l : Fin 144) (s : State) : exec (.trainRestart l) s = execTrainRestart l s := rfl
@[simp] theorem exec_dataLaneFail (l : Fin 144) (lane : Fin 5) (s : State) :
    exec (.dataLaneFail l lane) s = execDataLaneFail l lane s := rfl
@[simp] theorem exec_marginWindow (l : Fin 144) (lane : Fin 5) (count : Nat) (s : State) :
    exec (.marginWindow l lane count) s = execMarginWindow l lane count s := rfl
@[simp] theorem exec_spareLaneFail (l : Fin 144) (wrong : Nat) (s : State) :
    exec (.spareLaneFail l wrong) s = execSpareLaneFail l wrong s := rfl
@[simp] theorem exec_clockLaneFail (l : Fin 144) (s : State) : exec (.clockLaneFail l) s = execClockLaneFail l s := rfl
@[simp] theorem exec_dswapMarker (flit : Fin 144 × BitVec 132) (s : State) : exec (.dswapMarker flit) s = execDswapMarker flit s := rfl
@[simp] theorem exec_dataGo (rq : Requester) (l : Fin 144) (lane : Fin 4) (s : State) :
    exec (.dataGo rq l lane) s = execDataGo rq l lane s := rfl
@[simp] theorem exec_clkGo (rq : Requester) (l : Fin 144) (s : State) : exec (.clkGo rq l) s = execClkGo rq l s := rfl
@[simp] theorem exec_sole (l : Fin 144) (body : BitVec 512) (s : State) : exec (.sole l body) s = execSole l body s := rfl
@[simp] theorem exec_head (l : Fin 144) (body : BitVec 512) (s : State) : exec (.head l body) s = execHead l body s := rfl
@[simp] theorem exec_mid (l : Fin 144) (body : BitVec 512) (s : State) : exec (.mid l body) s = execMid l body s := rfl
@[simp] theorem exec_tail (l : Fin 144) (body : BitVec 512) (s : State) : exec (.tail l body) s = execTail l body s := rfl
@[simp] theorem exec_badFlit (l : Fin 144) (s : State) : exec (.badFlit l) s = execBadFlit l s := rfl
@[simp] theorem exec_linkFlit (l : Fin 144) (body : BitVec 512) (s : State) : exec (.linkFlit l body) s = execLinkFlit l body s := rfl
@[simp] theorem exec_nak (l : Fin 144) (body : BitVec 512) (s : State) : exec (.nak l body) s = execNak l body s := rfl
@[simp] theorem exec_replay (l : Fin 144) (body : BitVec 512) (s : State) : exec (.replay l body) s = execReplay l body s := rfl
@[simp] theorem exec_enterIdle (l : Fin 144) (body : BitVec 512) (s : State) : exec (.enterIdle l body) s = execEnterIdle l body s := rfl
@[simp] theorem exec_sleepReq (l : Fin 144) (body : BitVec 512) (s : State) : exec (.sleepReq l body) s = execSleepReq l body s := rfl
@[simp] theorem exec_sleepAck (l : Fin 144) (body : BitVec 512) (s : State) : exec (.sleepAck l body) s = execSleepAck l body s := rfl
@[simp] theorem exec_sleepNak (l : Fin 144) (body : BitVec 512) (s : State) : exec (.sleepNak l body) s = execSleepNak l body s := rfl
@[simp] theorem exec_dswapReq (l : Fin 144) (body : BitVec 512) (s : State) : exec (.dswapReq l body) s = execDswapReq l body s := rfl
@[simp] theorem exec_cswapReq (l : Fin 144) (body : BitVec 512) (s : State) : exec (.cswapReq l body) s = execCswapReq l body s := rfl
@[simp] theorem exec_retrainReq (l : Fin 144) (body : BitVec 512) (s : State) : exec (.retrainReq l body) s = execRetrainReq l body s := rfl
@[simp] theorem exec_fault (l : Fin 144) (body : BitVec 512) (s : State) : exec (.fault l body) s = execFault l body s := rfl
@[simp] theorem exec_hello (l : Fin 144) (body : BitVec 512) (s : State) : exec (.hello l body) s = execHello l body s := rfl
@[simp] theorem exec_tagFlit (l : Fin 144) (body : BitVec 512) (s : State) : exec (.tagFlit l body) s = execTagFlit l body s := rfl
@[simp] theorem exec_replayTimeout (l : Fin 144) (s : State) : exec (.replayTimeout l) s = execReplayTimeout l s := rfl
@[simp] theorem exec_nakRepeat (l : Fin 144) (s : State) : exec (.nakRepeat l) s = execNakRepeat l s := rfl
@[simp] theorem exec_rxSilence (l : Fin 144) (s : State) : exec (.rxSilence l) s = execRxSilence l s := rfl
@[simp] theorem exec_dswapTimeout (l : Fin 144) (s : State) : exec (.dswapTimeout l) s = execDswapTimeout l s := rfl
@[simp] theorem exec_bringupLate (l : Fin 144) (s : State) : exec (.bringupLate l) s = execBringupLate l s := rfl
@[simp] theorem exec_bringupLimit (l : Fin 144) (s : State) : exec (.bringupLimit l) s = execBringupLimit l s := rfl
@[simp] theorem exec_idleEnter (l : Fin 144) (s : State) : exec (.idleEnter l) s = execIdleEnter l s := rfl
@[simp] theorem exec_idleResume (l : Fin 144) (s : State) : exec (.idleResume l) s = execIdleResume l s := rfl
@[simp] theorem exec_sleepRetry (l : Fin 144) (s : State) : exec (.sleepRetry l) s = execSleepRetry l s := rfl
@[simp] theorem exec_linkWakeDetect (l : Fin 144) (s : State) : exec (.linkWakeDetect l) s = execLinkWakeDetect l s := rfl
@[simp] theorem exec_creditStall (l : Fin 144) (cls : Fin 4) (s : State) : exec (.creditStall l cls) s = execCreditStall l cls s := rfl
@[simp] theorem exec_linkEnable (rq : Requester) (l : Fin 144) (tag : Byte) (s : State) :
    exec (.linkEnable rq l tag) s = execLinkEnable rq l tag s := rfl
@[simp] theorem exec_linkDisable (rq : Requester) (l : Fin 144) (tag : Byte) (s : State) :
    exec (.linkDisable rq l tag) s = execLinkDisable rq l tag s := rfl
@[simp] theorem exec_pmCtrlSleep (rq : Requester) (l : Fin 144) (s : State) : exec (.pmCtrlSleep rq l) s = execPmCtrlSleep rq l s := rfl
@[simp] theorem exec_pmCtrlWake (rq : Requester) (l : Fin 144) (s : State) : exec (.pmCtrlWake rq l) s = execPmCtrlWake rq l s := rfl
@[simp] theorem exec_pmCtrlRetrain (rq : Requester) (l : Fin 144) (s : State) :
    exec (.pmCtrlRetrain rq l) s = execPmCtrlRetrain rq l s := rfl
@[simp] theorem exec_init (rq : Requester) (n : Fin 144) (win : Fin 4) (s : State) : exec (.init rq n win) s = execInit rq n win s := rfl
@[simp] theorem exec_initDone (n : Fin 144) (s : State) : exec (.initDone n) s = execInitDone n s := rfl
@[simp] theorem exec_cacheFetchDone (n : Fin 144) (s : State) : exec (.cacheFetchDone n) s = execCacheFetchDone n s := rfl
@[simp] theorem exec_tagCheckDone (n : Fin 144) (s : State) : exec (.tagCheckDone n) s = execTagCheckDone n s := rfl
@[simp] theorem exec_reencryptDone (n : Fin 144) (page : Nat) (s : State) :
    exec (.reencryptDone n page) s = execReencryptDone n page s := rfl
@[simp] theorem exec_partialWriteDone (n : Fin 144) (s : State) : exec (.partialWriteDone n) s = execPartialWriteDone n s := rfl
@[simp] theorem exec_quarRelease (rq : Requester) (n : Fin 144) (idx : Fin 32) (poison : Bool) (s : State) :
    exec (.quarRelease rq n idx poison) s = execQuarRelease rq n idx poison s := rfl
@[simp] theorem exec_roll (rq : Requester) (n : Fin 144) (s : State) : exec (.roll rq n) s = execRoll rq n s := rfl
@[simp] theorem exec_rollDone (n : Fin 144) (s : State) : exec (.rollDone n) s = execRollDone n s := rfl
@[simp] theorem exec_aesParityFail (n : Fin 144) (s : State) : exec (.aesParityFail n) s = execAesParityFail n s := rfl
@[simp] theorem exec_takeoverDone (n : Fin 144) (s : State) : exec (.takeoverDone n) s = execTakeoverDone n s := rfl
@[simp] theorem exec_spareSelfTest (g : Fin 12) (pass : Bool) (s : State) :
    exec (.spareSelfTest g pass) s = execSpareSelfTest g pass s := rfl
@[simp] theorem exec_loadGo (rq : Requester) (s : State) : exec (.loadGo rq) s = execLoadGo rq s := rfl
@[simp] theorem exec_startupGo (rq : Requester) (s : State) : exec (.startupGo rq) s = execStartupGo rq s := rfl
@[simp] theorem exec_sync (s : State) : exec .sync s = execSync s := rfl
@[simp] theorem exec_header (s : State) : exec .header s = execHeader s := rfl
@[simp] theorem exec_broadcast (s : State) : exec .broadcast s = execBroadcast s := rfl
@[simp] theorem exec_keyWrap (s : State) : exec .keyWrap s = execKeyWrap s := rfl
@[simp] theorem exec_segmentVerify (s : State) : exec .segmentVerify s = execSegmentVerify s := rfl
@[simp] theorem exec_window (s : State) : exec .window s = execWindow s := rfl
@[simp] theorem exec_substrateTable (s : State) : exec .substrateTable s = execSubstrateTable s := rfl
@[simp] theorem exec_frameAddr (s : State) : exec .frameAddr s = execFrameAddr s := rfl
@[simp] theorem exec_frameData (s : State) : exec .frameData s = execFrameData s := rfl
@[simp] theorem exec_frameRepeat (s : State) : exec .frameRepeat s = execFrameRepeat s := rfl
@[simp] theorem exec_keyRoll (s : State) : exec .keyRoll s = execKeyRoll s := rfl
@[simp] theorem exec_crcCheck (s : State) : exec .crcCheck s = execCrcCheck s := rfl
@[simp] theorem exec_startSeq (s : State) : exec .startSeq s = execStartSeq s := rfl
@[simp] theorem exec_readback (s : State) : exec .readback s = execReadback s := rfl
@[simp] theorem exec_pad (s : State) : exec .pad s = execPad s := rfl
@[simp] theorem exec_skippableRecord (s : State) : exec .skippableRecord s = execSkippableRecord s := rfl
@[simp] theorem exec_endRecord (s : State) : exec .endRecord s = execEndRecord s := rfl
@[simp] theorem exec_pushWrite (off : BitVec 24) (bytes : List Byte) (s : State) :
    exec (.pushWrite off bytes) s = execPushWrite off bytes s := rfl
@[simp] theorem exec_pushTail (rq : Requester) (w : Word) (s : State) : exec (.pushTail rq w) s = execPushTail rq w s := rfl
@[simp] theorem exec_pullCompletion (st : CplStatus) (bytes : List Byte) (s : State) :
    exec (.pullCompletion st bytes) s = execPullCompletion st bytes s := rfl
@[simp] theorem exec_fwdData (w : Word) (s : State) : exec (.fwdData w) s = execFwdData w s := rfl
@[simp] theorem exec_loadLate (s : State) : exec .loadLate s = execLoadLate s := rfl
@[simp] theorem exec_loadLimit (s : State) : exec .loadLimit s = execLoadLimit s := rfl
@[simp] theorem exec_lock (s : State) : exec .lock s = execLock s := rfl
@[simp] theorem exec_lockFail (s : State) : exec .lockFail s = execLockFail s := rfl
@[simp] theorem exec_releaseGsr (s : State) : exec .releaseGsr s = execReleaseGsr s := rfl
@[simp] theorem exec_enableWrites (s : State) : exec .enableWrites s = execEnableWrites s := rfl
@[simp] theorem exec_releaseOutputs (s : State) : exec .releaseOutputs s = execReleaseOutputs s := rfl
@[simp] theorem exec_latch (s : State) : exec .latch s = execLatch s := rfl
@[simp] theorem exec_latchNHigh (s : State) : exec .latchNHigh s = execLatchNHigh s := rfl
@[simp] theorem exec_latchTimeout (s : State) : exec .latchTimeout s = execLatchTimeout s := rfl
@[simp] theorem exec_scrubFrame (s : State) : exec .scrubFrame s = execScrubFrame s := rfl
@[simp] theorem exec_passStart (s : State) : exec .passStart s = execPassStart s := rfl
@[simp] theorem exec_voteFix (copy : Fin 3) (s : State) : exec (.voteFix copy) s = execVoteFix copy s := rfl
@[simp] theorem exec_voteLost (s : State) : exec .voteLost s = execVoteLost s := rfl
@[simp] theorem exec_inject (rq : Requester) (w : Word) (s : State) : exec (.inject rq w) s = execInject rq w s := rfl
@[simp] theorem exec_configUpset (pb : Fin 112) (addr : Word) (col : Fin 66) (bit : Fin 73) (s : State) :
    exec (.configUpset pb addr col bit) s = execConfigUpset pb addr col bit s := rfl
@[simp] theorem exec_submit (rq : Requester) (n : Fin 4) (s : State) : exec (.submit rq n) s = execSubmit rq n s := rfl
@[simp] theorem exec_migrate (n : Fin 4) (bay : Fin 128) (s : State) : exec (.migrate n bay) s = execMigrate n bay s := rfl
@[simp] theorem exec_retire (n : Fin 4) (s : State) : exec (.retire n) s = execRetire n s := rfl
@[simp] theorem exec_selfTest (n : Fin 4) (s : State) : exec (.selfTest n) s = execSelfTest n s := rfl
@[simp] theorem exec_loadKey (n : Fin 4) (s : State) : exec (.loadKey n) s = execLoadKey n s := rfl
@[simp] theorem exec_loadSubstrate (n : Fin 4) (ends : Bool) (s : State) :
    exec (.loadSubstrate n ends) s = execLoadSubstrate n ends s := rfl
@[simp] theorem exec_golden (n : Fin 4) (ends : Bool) (s : State) : exec (.golden n ends) s = execGolden n ends s := rfl
@[simp] theorem exec_restore (n : Fin 4) (pass : Bool) (s : State) : exec (.restore n pass) s = execRestore n pass s := rfl
@[simp] theorem exec_recordExport (n : Fin 4) (ends : Bool) (s : State) : exec (.recordExport n ends) s = execRecordExport n ends s := rfl
@[simp] theorem exec_recordImport (n : Fin 4) (bytes : Option (List Byte)) (s : State) :
    exec (.recordImport n bytes) s = execRecordImport n bytes s := rfl
@[simp] theorem exec_cloneDone (row : Fin 8) (copied : List Nat × Bool) (s : State) :
    exec (.cloneDone row copied) s = execCloneDone row copied s := rfl
@[simp] theorem exec_mirrorPassEnd (row : Fin 8) (left : List Nat) (image : Bool) (s : State) :
    exec (.mirrorPassEnd row left image) s = execMirrorPassEnd row left image s := rfl
@[simp] theorem exec_selfTestDone (pb : Fin 112) (pass : Bool) (lf : List Nat) (mf : List Nat) (s : State) :
    exec (.selfTestDone pb pass lf mf) s = execSelfTestDone pb pass lf mf s := rfl
@[simp] theorem exec_selfTestDue (pb : Fin 112) (s : State) : exec (.selfTestDue pb) s = execSelfTestDue pb s := rfl
@[simp] theorem exec_healthUpdate (pb : Fin 112) (drift : List Byte) (s : State) :
    exec (.healthUpdate pb drift) s = execHealthUpdate pb drift s := rfl
@[simp] theorem exec_migrateRetry (row : Fin 8) (s : State) : exec (.migrateRetry row) s = execMigrateRetry row s := rfl
@[simp] theorem exec_wardenResync (core : Fin 3) (s : State) : exec (.wardenResync core) s = execWardenResync core s := rfl
@[simp] theorem exec_wardenLost (s : State) : exec .wardenLost s = execWardenLost s := rfl
@[simp] theorem exec_perstNAssert (s : State) : exec .perstNAssert s = execPerstNAssert s := rfl
@[simp] theorem exec_perstNDeassert (s : State) : exec .perstNDeassert s = execPerstNDeassert s := rfl
@[simp] theorem exec_pcieConfigRequest (fn : PcieFn) (q : CfgRequest) (s : State) :
    exec (.pcieConfigRequest fn q) s = execPcieConfigRequest fn q s := rfl
@[simp] theorem exec_hotReset (down : Bool) (s : State) : exec (.hotReset down) s = execHotReset down s := rfl
@[simp] theorem exec_flrPf0 (s : State) : exec .flrPf0 s = execFlrPf0 s := rfl
@[simp] theorem exec_flrPf1 (s : State) : exec .flrPf1 s = execFlrPf1 s := rfl
@[simp] theorem exec_flrVf (v : Fin 32) (s : State) : exec (.flrVf v) s = execFlrVf v s := rfl
@[simp] theorem exec_windowRead (fn : PcieFn) (off : BitVec 64) (len : Nat) (ht : Nat) (s : State) :
    exec (.windowRead fn off len ht) s = execWindowRead fn off len ht s := rfl
@[simp] theorem exec_windowWrite (fn : PcieFn) (off : BitVec 64) (bytes : List Byte) (be : List Bool) (s : State) :
    exec (.windowWrite fn off bytes be) s = execWindowWrite fn off bytes be s := rfl
@[simp] theorem exec_doorbell (fn : PcieFn) (d : Fin 64) (off : BitVec 12) (size : Nat) (w : Word) (s : State) :
    exec (.doorbell fn d off size w) s = execDoorbell fn d off size w s := rfl
@[simp] theorem exec_hostCompletion (ht : Nat) (st : CplStatus) (bytes : List Byte) (s : State) :
    exec (.hostCompletion ht st bytes) s = execHostCompletion ht st bytes s := rfl
@[simp] theorem exec_dmaTail (rq : Requester) (ch : Fin 64) (w : Word) (s : State) :
    exec (.dmaTail rq ch w) s = execDmaTail rq ch w s := rfl
@[simp] theorem exec_chStart (rq : Requester) (ch : Fin 64) (s : State) : exec (.chStart rq ch) s = execChStart rq ch s := rfl
@[simp] theorem exec_chStop (rq : Requester) (ch : Fin 64) (s : State) : exec (.chStop rq ch) s = execChStop rq ch s := rfl
@[simp] theorem exec_chAbort (rq : Requester) (ch : Fin 64) (s : State) : exec (.chAbort rq ch) s = execChAbort rq ch s := rfl
@[simp] theorem exec_descriptorDone (ch : Fin 64) (s : State) : exec (.descriptorDone ch) s = execDescriptorDone ch s := rfl
@[simp] theorem exec_insnAdd (c : Fin 2) (rd : BitVec 4) (ra : BitVec 4) (rb : BitVec 4) (s : State) :
    exec (.insnAdd c rd ra rb) s = execInsnAdd c rd ra rb s := rfl
@[simp] theorem exec_insnSub (c : Fin 2) (rd : BitVec 4) (ra : BitVec 4) (rb : BitVec 4) (s : State) :
    exec (.insnSub c rd ra rb) s = execInsnSub c rd ra rb s := rfl
@[simp] theorem exec_insnAnd (c : Fin 2) (rd : BitVec 4) (ra : BitVec 4) (rb : BitVec 4) (s : State) :
    exec (.insnAnd c rd ra rb) s = execInsnAnd c rd ra rb s := rfl
@[simp] theorem exec_insnOr (c : Fin 2) (rd : BitVec 4) (ra : BitVec 4) (rb : BitVec 4) (s : State) :
    exec (.insnOr c rd ra rb) s = execInsnOr c rd ra rb s := rfl
@[simp] theorem exec_insnXor (c : Fin 2) (rd : BitVec 4) (ra : BitVec 4) (rb : BitVec 4) (s : State) :
    exec (.insnXor c rd ra rb) s = execInsnXor c rd ra rb s := rfl
@[simp] theorem exec_insnSll (c : Fin 2) (rd : BitVec 4) (ra : BitVec 4) (rb : BitVec 4) (s : State) :
    exec (.insnSll c rd ra rb) s = execInsnSll c rd ra rb s := rfl
@[simp] theorem exec_insnSrl (c : Fin 2) (rd : BitVec 4) (ra : BitVec 4) (rb : BitVec 4) (s : State) :
    exec (.insnSrl c rd ra rb) s = execInsnSrl c rd ra rb s := rfl
@[simp] theorem exec_insnSra (c : Fin 2) (rd : BitVec 4) (ra : BitVec 4) (rb : BitVec 4) (s : State) :
    exec (.insnSra c rd ra rb) s = execInsnSra c rd ra rb s := rfl
@[simp] theorem exec_insnSlt (c : Fin 2) (rd : BitVec 4) (ra : BitVec 4) (rb : BitVec 4) (s : State) :
    exec (.insnSlt c rd ra rb) s = execInsnSlt c rd ra rb s := rfl
@[simp] theorem exec_insnSltu (c : Fin 2) (rd : BitVec 4) (ra : BitVec 4) (rb : BitVec 4) (s : State) :
    exec (.insnSltu c rd ra rb) s = execInsnSltu c rd ra rb s := rfl
@[simp] theorem exec_insnMul (c : Fin 2) (rd : BitVec 4) (ra : BitVec 4) (rb : BitVec 4) (s : State) :
    exec (.insnMul c rd ra rb) s = execInsnMul c rd ra rb s := rfl
@[simp] theorem exec_insnMulh (c : Fin 2) (rd : BitVec 4) (ra : BitVec 4) (rb : BitVec 4) (s : State) :
    exec (.insnMulh c rd ra rb) s = execInsnMulh c rd ra rb s := rfl
@[simp] theorem exec_insnMulhu (c : Fin 2) (rd : BitVec 4) (ra : BitVec 4) (rb : BitVec 4) (s : State) :
    exec (.insnMulhu c rd ra rb) s = execInsnMulhu c rd ra rb s := rfl
@[simp] theorem exec_insnDiv (c : Fin 2) (rd : BitVec 4) (ra : BitVec 4) (rb : BitVec 4) (s : State) :
    exec (.insnDiv c rd ra rb) s = execInsnDiv c rd ra rb s := rfl
@[simp] theorem exec_insnDivu (c : Fin 2) (rd : BitVec 4) (ra : BitVec 4) (rb : BitVec 4) (s : State) :
    exec (.insnDivu c rd ra rb) s = execInsnDivu c rd ra rb s := rfl
@[simp] theorem exec_insnAddi (c : Fin 2) (rd : BitVec 4) (ra : BitVec 4) (imm : BitVec 18) (s : State) :
    exec (.insnAddi c rd ra imm) s = execInsnAddi c rd ra imm s := rfl
@[simp] theorem exec_insnAndi (c : Fin 2) (rd : BitVec 4) (ra : BitVec 4) (imm : BitVec 18) (s : State) :
    exec (.insnAndi c rd ra imm) s = execInsnAndi c rd ra imm s := rfl
@[simp] theorem exec_insnOri (c : Fin 2) (rd : BitVec 4) (ra : BitVec 4) (imm : BitVec 18) (s : State) :
    exec (.insnOri c rd ra imm) s = execInsnOri c rd ra imm s := rfl
@[simp] theorem exec_insnXori (c : Fin 2) (rd : BitVec 4) (ra : BitVec 4) (imm : BitVec 18) (s : State) :
    exec (.insnXori c rd ra imm) s = execInsnXori c rd ra imm s := rfl
@[simp] theorem exec_insnSlli (c : Fin 2) (rd : BitVec 4) (ra : BitVec 4) (imm : BitVec 18) (s : State) :
    exec (.insnSlli c rd ra imm) s = execInsnSlli c rd ra imm s := rfl
@[simp] theorem exec_insnSrli (c : Fin 2) (rd : BitVec 4) (ra : BitVec 4) (imm : BitVec 18) (s : State) :
    exec (.insnSrli c rd ra imm) s = execInsnSrli c rd ra imm s := rfl
@[simp] theorem exec_insnSrai (c : Fin 2) (rd : BitVec 4) (ra : BitVec 4) (imm : BitVec 18) (s : State) :
    exec (.insnSrai c rd ra imm) s = execInsnSrai c rd ra imm s := rfl
@[simp] theorem exec_insnSlti (c : Fin 2) (rd : BitVec 4) (ra : BitVec 4) (imm : BitVec 18) (s : State) :
    exec (.insnSlti c rd ra imm) s = execInsnSlti c rd ra imm s := rfl
@[simp] theorem exec_insnSltiu (c : Fin 2) (rd : BitVec 4) (ra : BitVec 4) (imm : BitVec 18) (s : State) :
    exec (.insnSltiu c rd ra imm) s = execInsnSltiu c rd ra imm s := rfl
@[simp] theorem exec_insnLui (c : Fin 2) (rd : BitVec 4) (imm : BitVec 22) (s : State) :
    exec (.insnLui c rd imm) s = execInsnLui c rd imm s := rfl
@[simp] theorem exec_insnLb (c : Fin 2) (rd : BitVec 4) (ra : BitVec 4) (imm : BitVec 18) (s : State) :
    exec (.insnLb c rd ra imm) s = execInsnLb c rd ra imm s := rfl
@[simp] theorem exec_insnLbu (c : Fin 2) (rd : BitVec 4) (ra : BitVec 4) (imm : BitVec 18) (s : State) :
    exec (.insnLbu c rd ra imm) s = execInsnLbu c rd ra imm s := rfl
@[simp] theorem exec_insnLh (c : Fin 2) (rd : BitVec 4) (ra : BitVec 4) (imm : BitVec 18) (s : State) :
    exec (.insnLh c rd ra imm) s = execInsnLh c rd ra imm s := rfl
@[simp] theorem exec_insnLhu (c : Fin 2) (rd : BitVec 4) (ra : BitVec 4) (imm : BitVec 18) (s : State) :
    exec (.insnLhu c rd ra imm) s = execInsnLhu c rd ra imm s := rfl
@[simp] theorem exec_insnLw (c : Fin 2) (rd : BitVec 4) (ra : BitVec 4) (imm : BitVec 18) (s : State) :
    exec (.insnLw c rd ra imm) s = execInsnLw c rd ra imm s := rfl
@[simp] theorem exec_insnSb (c : Fin 2) (rd : BitVec 4) (ra : BitVec 4) (imm : BitVec 18) (s : State) :
    exec (.insnSb c rd ra imm) s = execInsnSb c rd ra imm s := rfl
@[simp] theorem exec_insnSh (c : Fin 2) (rd : BitVec 4) (ra : BitVec 4) (imm : BitVec 18) (s : State) :
    exec (.insnSh c rd ra imm) s = execInsnSh c rd ra imm s := rfl
@[simp] theorem exec_insnSw (c : Fin 2) (rd : BitVec 4) (ra : BitVec 4) (imm : BitVec 18) (s : State) :
    exec (.insnSw c rd ra imm) s = execInsnSw c rd ra imm s := rfl
@[simp] theorem exec_insnBeq (c : Fin 2) (ra : BitVec 4) (rb : BitVec 4) (off : BitVec 18) (s : State) :
    exec (.insnBeq c ra rb off) s = execInsnBeq c ra rb off s := rfl
@[simp] theorem exec_insnBne (c : Fin 2) (ra : BitVec 4) (rb : BitVec 4) (off : BitVec 18) (s : State) :
    exec (.insnBne c ra rb off) s = execInsnBne c ra rb off s := rfl
@[simp] theorem exec_insnBlt (c : Fin 2) (ra : BitVec 4) (rb : BitVec 4) (off : BitVec 18) (s : State) :
    exec (.insnBlt c ra rb off) s = execInsnBlt c ra rb off s := rfl
@[simp] theorem exec_insnBge (c : Fin 2) (ra : BitVec 4) (rb : BitVec 4) (off : BitVec 18) (s : State) :
    exec (.insnBge c ra rb off) s = execInsnBge c ra rb off s := rfl
@[simp] theorem exec_insnBltu (c : Fin 2) (ra : BitVec 4) (rb : BitVec 4) (off : BitVec 18) (s : State) :
    exec (.insnBltu c ra rb off) s = execInsnBltu c ra rb off s := rfl
@[simp] theorem exec_insnBgeu (c : Fin 2) (ra : BitVec 4) (rb : BitVec 4) (off : BitVec 18) (s : State) :
    exec (.insnBgeu c ra rb off) s = execInsnBgeu c ra rb off s := rfl
@[simp] theorem exec_insnJal (c : Fin 2) (off : BitVec 26) (s : State) : exec (.insnJal c off) s = execInsnJal c off s := rfl
@[simp] theorem exec_insnJalr (c : Fin 2) (rd : BitVec 4) (ra : BitVec 4) (imm : BitVec 18) (s : State) :
    exec (.insnJalr c rd ra imm) s = execInsnJalr c rd ra imm s := rfl
@[simp] theorem exec_insnLdx (c : Fin 2) (rd : BitVec 4) (ra : BitVec 4) (s : State) :
    exec (.insnLdx c rd ra) s = execInsnLdx c rd ra s := rfl
@[simp] theorem exec_insnStx (c : Fin 2) (rd : BitVec 4) (ra : BitVec 4) (rb : BitVec 4) (s : State) :
    exec (.insnStx c rd ra rb) s = execInsnStx c rd ra rb s := rfl
@[simp] theorem exec_insnMfadd (c : Fin 2) (rd : BitVec 4) (ra : BitVec 4) (rb : BitVec 4) (s : State) :
    exec (.insnMfadd c rd ra rb) s = execInsnMfadd c rd ra rb s := rfl
@[simp] theorem exec_insnMswap (c : Fin 2) (rd : BitVec 4) (ra : BitVec 4) (rb : BitVec 4) (s : State) :
    exec (.insnMswap c rd ra rb) s = execInsnMswap c rd ra rb s := rfl
@[simp] theorem exec_insnMcas (c : Fin 2) (rd : BitVec 4) (ra : BitVec 4) (rb : BitVec 4) (s : State) :
    exec (.insnMcas c rd ra rb) s = execInsnMcas c rd ra rb s := rfl
@[simp] theorem exec_insnMsg (c : Fin 2) (rd : BitVec 4) (ra : BitVec 4) (rb : BitVec 4) (s : State) :
    exec (.insnMsg c rd ra rb) s = execInsnMsg c rd ra rb s := rfl
@[simp] theorem exec_insnMfence (c : Fin 2) (s : State) : exec (.insnMfence c) s = execInsnMfence c s := rfl
@[simp] theorem exec_insnMfc (c : Fin 2) (r : BitVec 4) (cr : BitVec 6) (s : State) : exec (.insnMfc c r cr) s = execInsnMfc c r cr s := rfl
@[simp] theorem exec_insnMtc (c : Fin 2) (r : BitVec 4) (cr : BitVec 6) (s : State) : exec (.insnMtc c r cr) s = execInsnMtc c r cr s := rfl
@[simp] theorem exec_insnTrap (c : Fin 2) (code : BitVec 8) (s : State) : exec (.insnTrap c code) s = execInsnTrap c code s := rfl
@[simp] theorem exec_insnRfe (c : Fin 2) (s : State) : exec (.insnRfe c) s = execInsnRfe c s := rfl
@[simp] theorem exec_insnWfi (c : Fin 2) (s : State) : exec (.insnWfi c) s = execInsnWfi c s := rfl
@[simp] theorem exec_insnTake (c : Fin 2) (rd : BitVec 4) (s : State) : exec (.insnTake c rd) s = execInsnTake c rd s := rfl
@[simp] theorem exec_insnYield (c : Fin 2) (s : State) : exec (.insnYield c) s = execInsnYield c s := rfl
@[simp] theorem exec_insnSleep (c : Fin 2) (ra : BitVec 4) (s : State) : exec (.insnSleep c ra) s = execInsnSleep c ra s := rfl
@[simp] theorem exec_interrupt (c : Fin 2) (s : State) : exec (.interrupt c) s = execInterrupt c s := rfl
@[simp] theorem exec_timerMatch (c : Fin 2) (s : State) : exec (.timerMatch c) s = execTimerMatch c s := rfl
@[simp] theorem exec_wdExpire (c : Fin 2) (s : State) : exec (.wdExpire c) s = execWdExpire c s := rfl
@[simp] theorem exec_hold (rq : Requester) (c : Fin 2) (s : State) : exec (.hold rq c) s = execHold rq c s := rfl
@[simp] theorem exec_holdRelease (rq : Requester) (c : Fin 2) (s : State) : exec (.holdRelease rq c) s = execHoldRelease rq c s := rfl
@[simp] theorem exec_tcmSweep (mem : TcmRef) (word : BitVec 14) (s : State) : exec (.tcmSweep mem word) s = execTcmSweep mem word s := rfl
@[simp] theorem exec_activate (rq : Requester) (t : Task) (s : State) : exec (.activate rq t) s = execActivate rq t s := rfl
@[simp] theorem exec_post (rq : Requester) (t : Task) (s : State) : exec (.post rq t) s = execPost rq t s := rfl
@[simp] theorem exec_taskRetire (rq : Requester) (t : Task) (s : State) : exec (.taskRetire rq t) s = execTaskRetire rq t s := rfl
@[simp] theorem exec_setPrio (rq : Requester) (t : Task) (prio : BitVec 5) (s : State) :
    exec (.setPrio rq t prio) s = execSetPrio rq t prio s := rfl
@[simp] theorem exec_porterTick (s : State) : exec .porterTick s = execPorterTick s := rfl
@[simp] theorem exec_delayExpiry (s : State) : exec .delayExpiry s = execDelayExpiry s := rfl
@[simp] theorem exec_descBad (t : Task) (s : State) : exec (.descBad t) s = execDescBad t s := rfl
@[simp] theorem exec_traceFlush (rq : Requester) (w : Word) (s : State) : exec (.traceFlush rq w) s = execTraceFlush rq w s := rfl
@[simp] theorem exec_extest (bits : ScanIn) (s : State) : exec (.extest bits) s = execExtest bits s := rfl
@[simp] theorem exec_samplePreload (bits : ScanIn) (s : State) : exec (.samplePreload bits) s = execSamplePreload bits s := rfl
@[simp] theorem exec_idcode (s : State) : exec .idcode s = execIdcode s := rfl
@[simp] theorem exec_clamp (s : State) : exec .clamp s = execClamp s := rfl
@[simp] theorem exec_highz (s : State) : exec .highz s = execHighz s := rfl
@[simp] theorem exec_dbgacc (dr : BitVec 44) (s : State) : exec (.dbgacc dr) s = execDbgacc dr s := rfl
@[simp] theorem exec_wrapAccess (a : WrapAccess) (s : State) : exec (.wrapAccess a) s = execWrapAccess a s := rfl
@[simp] theorem exec_bypass (bit : Bool) (s : State) : exec (.bypass bit) s = execBypass bit s := rfl
@[simp] theorem exec_tapReset (s : State) : exec .tapReset s = execTapReset s := rfl
@[simp] theorem exec_claim (p : DbgPort) (s : State) : exec (.claim p) s = execClaim p s := rfl
@[simp] theorem exec_release (p : DbgPort) (s : State) : exec (.release p) s = execRelease p s := rfl
@[simp] theorem exec_mapGo (p : DbgPort) (write : Bool) (s : State) : exec (.mapGo p write) s = execMapGo p write s := rfl
@[simp] theorem exec_memGo (p : DbgPort) (write : Bool) (size : BitVec 2) (s : State) :
    exec (.memGo p write size) s = execMemGo p write size s := rfl
@[simp] theorem exec_haltReq (p : DbgPort) (c : Fin 2) (s : State) : exec (.haltReq p c) s = execHaltReq p c s := rfl
@[simp] theorem exec_resume (p : DbgPort) (c : Fin 2) (s : State) : exec (.resume p c) s = execResume p c s := rfl
@[simp] theorem exec_step (p : DbgPort) (c : Fin 2) (s : State) : exec (.step p c) s = execStep p c s := rfl
@[simp] theorem exec_regData (p : DbgPort) (c : Fin 2) (w : Word) (s : State) : exec (.regData p c w) s = execRegData p c w s := rfl
@[simp] theorem exec_feed (p : DbgPort) (c : Fin 2) (w : Word) (s : State) : exec (.feed p c w) s = execFeed p c w s := rfl
@[simp] theorem exec_peepAck (p : DbgPort) (c : Fin 2) (s : State) : exec (.peepAck p c) s = execPeepAck p c s := rfl
@[simp] theorem exec_peepRx (rq : Requester) (c : Fin 2) (w : Word) (s : State) : exec (.peepRx rq c w) s = execPeepRx rq c w s := rfl
@[simp] theorem exec_traceEnable (p : DbgPort) (c : Fin 2) (w : Word) (s : State) :
    exec (.traceEnable p c w) s = execTraceEnable p c w s := rfl
@[simp] theorem exec_compMatch (c : Fin 2) (k : Fin 8) (acc : CompAccess) (s : State) :
    exec (.compMatch c k acc) s = execCompMatch c k acc s := rfl
@[simp] theorem exec_modeReqDormant (rq : Requester) (s : State) : exec (.modeReqDormant rq) s = execModeReqDormant rq s := rfl
@[simp] theorem exec_modeReqDoorway (rq : Requester) (s : State) : exec (.modeReqDoorway rq) s = execModeReqDoorway rq s := rfl
@[simp] theorem exec_modeReqService (rq : Requester) (s : State) : exec (.modeReqService rq) s = execModeReqService rq s := rfl
@[simp] theorem exec_modeReqDrowse (rq : Requester) (s : State) : exec (.modeReqDrowse rq) s = execModeReqDrowse rq s := rfl
@[simp] theorem exec_modeReqQuiesced (rq : Requester) (s : State) : exec (.modeReqQuiesced rq) s = execModeReqQuiesced rq s := rfl
@[simp] theorem exec_modeReqLoad (rq : Requester) (s : State) : exec (.modeReqLoad rq) s = execModeReqLoad rq s := rfl
@[simp] theorem exec_quiesceLimit (s : State) : exec .quiesceLimit s = execQuiesceLimit s := rfl
@[simp] theorem exec_pcieL12Entry (down : Bool) (s : State) : exec (.pcieL12Entry down) s = execPcieL12Entry down s := rfl
@[simp] theorem exec_pcieL12Exit (s : State) : exec .pcieL12Exit s = execPcieL12Exit s := rfl
@[simp] theorem exec_wakeN (s : State) : exec .wakeN s = execWakeN s := rfl
@[simp] theorem exec_sillTimer (s : State) : exec .sillTimer s = execSillTimer s := rfl
@[simp] theorem exec_thermRead (temps : List Temp) (s : State) : exec (.thermRead temps) s = execThermRead temps s := rfl
@[simp] theorem exec_tempMaxClear (rq : Requester) (s : State) : exec (.tempMaxClear rq) s = execTempMaxClear rq s := rfl
@[simp] theorem exec_sillPowerOn (s : State) : exec .sillPowerOn s = execSillPowerOn s := rfl
@[simp] theorem exec_vbatLow (s : State) : exec .vbatLow s = execVbatLow s := rfl
@[simp] theorem exec_supplyLoss (s : State) : exec .supplyLoss s = execSupplyLoss s := rfl
@[simp] theorem exec_flashResponse (a : FlashAnswer) (s : State) : exec (.flashResponse a) s = execFlashResponse a s := rfl
@[simp] theorem exec_pcieCompletionTimeout (ht : Nat) (s : State) :
    exec (.pcieCompletionTimeout ht) s = execPcieCompletionTimeout ht s := rfl
@[simp] theorem exec_pcieLinkUp (rate : BitVec 3) (width : BitVec 5) (flit : Bool) (s : State) :
    exec (.pcieLinkUp rate width flit) s = execPcieLinkUp rate width flit s := rfl
@[simp] theorem exec_stileCreditReturn (bay : Fin 104) (ch : Fin 4) (s : State) :
    exec (.stileCreditReturn bay ch) s = execStileCreditReturn bay ch s := rfl
@[simp] theorem exec_referenceJudgedGood (r : RefClk) (s : State) : exec (.referenceJudgedGood r) s = execReferenceJudgedGood r s := rfl
@[simp] theorem exec_tcmUpset (mem : TcmRef) (word : BitVec 14) (bit : Fin 72) (s : State) :
    exec (.tcmUpset mem word bit) s = execTcmUpset mem word bit s := rfl
@[simp] theorem exec_flitSlot (l : Fin 144) (s : State) : exec (.flitSlot l) s = execFlitSlot l s := rfl
@[simp] theorem exec_resumeTrainTimeout (l : Fin 144) (s : State) : exec (.resumeTrainTimeout l) s = execResumeTrainTimeout l s := rfl
@[simp] theorem exec_engineSelfTestDone (n : Fin 156) (pass : Bool) (s : State) :
    exec (.engineSelfTestDone n pass) s = execEngineSelfTestDone n pass s := rfl

end Sys2Proof.Machine
end

