-- ==== Sys2Proof/Laws/ExecForm.lean ====
section
/-! SUPPORT. What every command is: something done to the device, and then what that sets off; for a few commands the check for
undefined behaviour stands between. -/

namespace Sys2Proof.Machine

open Sys2Proof

/-- A meaning does something to the device and always leads to a next state, or it is one of those that check for undefined
behaviour. -/
def RunForm (i : Instr) : Prop :=
  (∃ body, ∀ s, exec i s = run body s) ∨ (mayLose i = true ∧ ∃ body, ∀ s, exec i s = runChecked body s)

/-- Every command has that form. -/
theorem exec_form : ∀ i : Instr, RunForm i
  | .registerWrite _ _ _ _ => .inr ⟨rfl, _, fun s => (exec_registerWrite _ _ _ _ s).trans rfl⟩
  | .commit _ _ _ _ => .inr ⟨rfl, _, fun s => (exec_commit _ _ _ _ s).trans rfl⟩
  | .stagedSetApply _ => .inr ⟨rfl, _, fun s => (exec_stagedSetApply _ s).trans rfl⟩
  | .enable _ _ _ _ => .inr ⟨rfl, _, fun s => (exec_enable _ _ _ _ s).trans rfl⟩
  | .abortRequest _ _ _ => .inr ⟨rfl, _, fun s => (exec_abortRequest _ _ _ s).trans rfl⟩
  | .abortDone _ => .inl ⟨_, fun s => (exec_abortDone _ s).trans rfl⟩
  | .abortClear _ _ _ => .inl ⟨_, fun s => (exec_abortClear _ _ _ s).trans rfl⟩
  | .pageCauseClear _ _ _ => .inl ⟨_, fun s => (exec_pageCauseClear _ _ _ s).trans rfl⟩
  | .pageCauseSet _ _ _ => .inl ⟨_, fun s => (exec_pageCauseSet _ _ _ s).trans rfl⟩
  | .alertRearm _ _ => .inl ⟨_, fun s => (exec_alertRearm _ _ s).trans rfl⟩
  | .alertMsixSend => .inl ⟨_, fun s => (exec_alertMsixSend s).trans rfl⟩
  | .msixUnmask _ _ _ => .inl ⟨_, fun s => (exec_msixUnmask _ _ _ s).trans rfl⟩
  | .peepTx _ _ => .inl ⟨_, fun s => (exec_peepTx _ _ s).trans rfl⟩
  | .tracePopHi _ => .inl ⟨_, fun s => (exec_tracePopHi _ s).trans rfl⟩
  | .goldenPop _ => .inl ⟨_, fun s => (exec_goldenPop _ s).trans rfl⟩
  | .errPop _ => .inl ⟨_, fun s => (exec_errPop _ s).trans rfl⟩
  | .mbxResp _ _ => .inl ⟨_, fun s => (exec_mbxResp _ _ s).trans rfl⟩
  | .debugPeek _ => .inl ⟨_, fun s => (exec_debugPeek _ s).trans rfl⟩
  | .tallyClear _ _ => .inl ⟨_, fun s => (exec_tallyClear _ _ s).trans rfl⟩
  | .tallyEccError _ _ => .inl ⟨_, fun s => (exec_tallyEccError _ _ s).trans rfl⟩
  | .tallyRecompute _ => .inl ⟨_, fun s => (exec_tallyRecompute _ s).trans rfl⟩
  | .logFree _ _ => .inl ⟨_, fun s => (exec_logFree _ _ s).trans rfl⟩
  | .capture _ _ => .inl ⟨_, fun s => (exec_capture _ _ s).trans rfl⟩
  | .captureAll _ _ => .inl ⟨_, fun s => (exec_captureAll _ _ s).trans rfl⟩
  | .captureComplete _ => .inl ⟨_, fun s => (exec_captureComplete _ s).trans rfl⟩
  | .hingeWordSend _ _ _ => .inl ⟨_, fun s => (exec_hingeWordSend _ _ _ s).trans rfl⟩
  | .hingeWordArrive _ _ => .inl ⟨_, fun s => (exec_hingeWordArrive _ _ s).trans rfl⟩
  | .hingeCreditReturn _ _ => .inl ⟨_, fun s => (exec_hingeCreditReturn _ _ s).trans rfl⟩
  | .stileWordSend _ _ _ => .inl ⟨_, fun s => (exec_stileWordSend _ _ _ s).trans rfl⟩
  | .stileWordArrive _ _ => .inl ⟨_, fun s => (exec_stileWordArrive _ _ s).trans rfl⟩
  | .sidebandChange _ _ _ => .inl ⟨_, fun s => (exec_sidebandChange _ _ _ s).trans rfl⟩
  | .jambInput _ _ => .inl ⟨_, fun s => (exec_jambInput _ _ s).trans rfl⟩
  | .bramRead _ _ _ _ _ => .inl ⟨_, fun s => (exec_bramRead _ _ _ _ _ s).trans rfl⟩
  | .bramWrite _ _ _ _ _ => .inl ⟨_, fun s => (exec_bramWrite _ _ _ _ _ s).trans rfl⟩
  | .bramWriteback _ _ => .inl ⟨_, fun s => (exec_bramWriteback _ _ s).trans rfl⟩
  | .bramUpset _ _ _ _ => .inl ⟨_, fun s => (exec_bramUpset _ _ _ _ s).trans rfl⟩
  | .opmodeHold _ _ _ => .inl ⟨_, fun s => (exec_opmodeHold _ _ _ s).trans rfl⟩
  | .opmodeLoad _ _ _ => .inl ⟨_, fun s => (exec_opmodeLoad _ _ _ s).trans rfl⟩
  | .opmodeAdd _ _ _ => .inl ⟨_, fun s => (exec_opmodeAdd _ _ _ s).trans rfl⟩
  | .opmodeSub _ _ _ => .inl ⟨_, fun s => (exec_opmodeSub _ _ _ s).trans rfl⟩
  | .opmodeCascAdd _ _ _ => .inl ⟨_, fun s => (exec_opmodeCascAdd _ _ _ s).trans rfl⟩
  | .opmodeCascSub _ _ _ => .inl ⟨_, fun s => (exec_opmodeCascSub _ _ _ s).trans rfl⟩
  | .opmodeClear _ _ _ => .inl ⟨_, fun s => (exec_opmodeClear _ _ _ s).trans rfl⟩
  | .opmodeCascLoad _ _ _ => .inl ⟨_, fun s => (exec_opmodeCascLoad _ _ _ s).trans rfl⟩
  | .clrOvf _ _ => .inl ⟨_, fun s => (exec_clrOvf _ _ s).trans rfl⟩
  | .agLoad _ _ _ _ => .inl ⟨_, fun s => (exec_agLoad _ _ _ _ s).trans rfl⟩
  | .agStep _ _ _ => .inl ⟨_, fun s => (exec_agStep _ _ _ s).trans rfl⟩
  | .blockStart _ _ _ _ => .inl ⟨_, fun s => (exec_blockStart _ _ _ _ s).trans rfl⟩
  | .blockEnd _ _ _ => .inl ⟨_, fun s => (exec_blockEnd _ _ _ s).trans rfl⟩
  | .ecumClr _ _ => .inl ⟨_, fun s => (exec_ecumClr _ _ s).trans rfl⟩
  | .refclkFail _ => .inl ⟨_, fun s => (exec_refclkFail _ s).trans rfl⟩
  | .refSwitchDone => .inl ⟨_, fun s => (exec_refSwitchDone s).trans rfl⟩
  | .refclkRecover _ => .inl ⟨_, fun s => (exec_refclkRecover _ s).trans rfl⟩
  | .prefer _ _ => .inl ⟨_, fun s => (exec_prefer _ _ s).trans rfl⟩
  | .srcSel _ _ => .inl ⟨_, fun s => (exec_srcSel _ _ s).trans rfl⟩
  | .trimGo _ => .inl ⟨_, fun s => (exec_trimGo _ s).trans rfl⟩
  | .trimPeriodic => .inl ⟨_, fun s => (exec_trimPeriodic s).trans rfl⟩
  | .trimDone _ => .inl ⟨_, fun s => (exec_trimDone _ s).trans rfl⟩
  | .sillClkFail => .inl ⟨_, fun s => (exec_sillClkFail s).trans rfl⟩
  | .srcRunStart _ _ => .inr ⟨rfl, _, fun s => (exec_srcRunStart _ _ s).trans rfl⟩
  | .srcRunStop _ _ => .inl ⟨_, fun s => (exec_srcRunStop _ _ s).trans rfl⟩
  | .pllLock _ => .inl ⟨_, fun s => (exec_pllLock _ s).trans rfl⟩
  | .twinSwitch _ => .inl ⟨_, fun s => (exec_twinSwitch _ s).trans rfl⟩
  | .twinPairFail _ => .inl ⟨_, fun s => (exec_twinPairFail _ s).trans rfl⟩
  | .linkPllFail _ => .inl ⟨_, fun s => (exec_linkPllFail _ s).trans rfl⟩
  | .pciePllFail => .inl ⟨_, fun s => (exec_pciePllFail s).trans rfl⟩
  | .corePllFail => .inl ⟨_, fun s => (exec_corePllFail s).trans rfl⟩
  | .drowsyGate _ => .inl ⟨_, fun s => (exec_drowsyGate _ s).trans rfl⟩
  | .drowsyWake _ => .inl ⟨_, fun s => (exec_drowsyWake _ s).trans rfl⟩
  | .rd _ => .inl ⟨_, fun s => (exec_rd _ s).trans rfl⟩
  | .wrNp _ => .inl ⟨_, fun s => (exec_wrNp _ s).trans rfl⟩
  | .fadd64 _ => .inl ⟨_, fun s => (exec_fadd64 _ s).trans rfl⟩
  | .swap64 _ => .inl ⟨_, fun s => (exec_swap64 _ s).trans rfl⟩
  | .cas64 _ => .inl ⟨_, fun s => (exec_cas64 _ s).trans rfl⟩
  | .fadd128 _ => .inl ⟨_, fun s => (exec_fadd128 _ s).trans rfl⟩
  | .swap128 _ => .inl ⟨_, fun s => (exec_swap128 _ s).trans rfl⟩
  | .cas128 _ => .inl ⟨_, fun s => (exec_cas128 _ s).trans rfl⟩
  | .wrP _ => .inl ⟨_, fun s => (exec_wrP _ s).trans rfl⟩
  | .msg _ => .inl ⟨_, fun s => (exec_msg _ s).trans rfl⟩
  | .mrd _ => .inl ⟨_, fun s => (exec_mrd _ s).trans rfl⟩
  | .mwr _ => .inr ⟨rfl, _, fun s => (exec_mwr _ s).trans rfl⟩
  | .rsp _ => .inl ⟨_, fun s => (exec_rsp _ s).trans rfl⟩
  | .rspData _ => .inl ⟨_, fun s => (exec_rspData _ s).trans rfl⟩
  | .verifyOk _ => .inl ⟨_, fun s => (exec_verifyOk _ s).trans rfl⟩
  | .verifyFail _ => .inl ⟨_, fun s => (exec_verifyFail _ s).trans rfl⟩
  | .initiatorTimeout _ _ => .inl ⟨_, fun s => (exec_initiatorTimeout _ _ s).trans rfl⟩
  | .tagQuarantineEnd _ _ => .inl ⟨_, fun s => (exec_tagQuarantineEnd _ _ s).trans rfl⟩
  | .bayPortSend _ _ => .inl ⟨_, fun s => (exec_bayPortSend _ _ s).trans rfl⟩
  | .bayPortIssue _ _ => .inl ⟨_, fun s => (exec_bayPortIssue _ _ s).trans rfl⟩
  | .segmentFail _ _ => .inl ⟨_, fun s => (exec_segmentFail _ _ s).trans rfl⟩
  | .routerFail _ => .inl ⟨_, fun s => (exec_routerFail _ s).trans rfl⟩
  | .segmentBitError _ _ => .inl ⟨_, fun s => (exec_segmentBitError _ _ s).trans rfl⟩
  | .shutterClose _ _ => .inl ⟨_, fun s => (exec_shutterClose _ _ s).trans rfl⟩
  | .shutterClosed _ => .inl ⟨_, fun s => (exec_shutterClosed _ s).trans rfl⟩
  | .shutterDrainExpire _ => .inl ⟨_, fun s => (exec_shutterDrainExpire _ s).trans rfl⟩
  | .shutterOpen _ _ => .inr ⟨rfl, _, fun s => (exec_shutterOpen _ _ s).trans rfl⟩
  | .train _ _ => .inl ⟨_, fun s => (exec_train _ _ s).trans rfl⟩
  | .trainEnd _ => .inl ⟨_, fun s => (exec_trainEnd _ s).trans rfl⟩
  | .dllLock _ _ => .inl ⟨_, fun s => (exec_dllLock _ _ s).trans rfl⟩
  | .trainRestart _ => .inl ⟨_, fun s => (exec_trainRestart _ s).trans rfl⟩
  | .dataLaneFail _ _ => .inl ⟨_, fun s => (exec_dataLaneFail _ _ s).trans rfl⟩
  | .marginWindow _ _ _ => .inl ⟨_, fun s => (exec_marginWindow _ _ _ s).trans rfl⟩
  | .spareLaneFail _ _ => .inl ⟨_, fun s => (exec_spareLaneFail _ _ s).trans rfl⟩
  | .clockLaneFail _ => .inl ⟨_, fun s => (exec_clockLaneFail _ s).trans rfl⟩
  | .dswapMarker _ => .inl ⟨_, fun s => (exec_dswapMarker _ s).trans rfl⟩
  | .dataGo _ _ _ => .inl ⟨_, fun s => (exec_dataGo _ _ _ s).trans rfl⟩
  | .clkGo _ _ => .inl ⟨_, fun s => (exec_clkGo _ _ s).trans rfl⟩
  | .sole _ _ => .inl ⟨_, fun s => (exec_sole _ _ s).trans rfl⟩
  | .head _ _ => .inl ⟨_, fun s => (exec_head _ _ s).trans rfl⟩
  | .mid _ _ => .inl ⟨_, fun s => (exec_mid _ _ s).trans rfl⟩
  | .tail _ _ => .inl ⟨_, fun s => (exec_tail _ _ s).trans rfl⟩
  | .badFlit _ => .inl ⟨_, fun s => (exec_badFlit _ s).trans rfl⟩
  | .linkFlit _ _ => .inl ⟨_, fun s => (exec_linkFlit _ _ s).trans rfl⟩
  | .nak _ _ => .inl ⟨_, fun s => (exec_nak _ _ s).trans rfl⟩
  | .replay _ _ => .inl ⟨_, fun s => (exec_replay _ _ s).trans rfl⟩
  | .enterIdle _ _ => .inl ⟨_, fun s => (exec_enterIdle _ _ s).trans rfl⟩
  | .sleepReq _ _ => .inl ⟨_, fun s => (exec_sleepReq _ _ s).trans rfl⟩
  | .sleepAck _ _ => .inl ⟨_, fun s => (exec_sleepAck _ _ s).trans rfl⟩
  | .sleepNak _ _ => .inl ⟨_, fun s => (exec_sleepNak _ _ s).trans rfl⟩
  | .dswapReq _ _ => .inl ⟨_, fun s => (exec_dswapReq _ _ s).trans rfl⟩
  | .cswapReq _ _ => .inl ⟨_, fun s => (exec_cswapReq _ _ s).trans rfl⟩
  | .retrainReq _ _ => .inl ⟨_, fun s => (exec_retrainReq _ _ s).trans rfl⟩
  | .fault _ _ => .inl ⟨_, fun s => (exec_fault _ _ s).trans rfl⟩
  | .hello _ _ => .inl ⟨_, fun s => (exec_hello _ _ s).trans rfl⟩
  | .tagFlit _ _ => .inl ⟨_, fun s => (exec_tagFlit _ _ s).trans rfl⟩
  | .replayTimeout _ => .inl ⟨_, fun s => (exec_replayTimeout _ s).trans rfl⟩
  | .nakRepeat _ => .inl ⟨_, fun s => (exec_nakRepeat _ s).trans rfl⟩
  | .rxSilence _ => .inl ⟨_, fun s => (exec_rxSilence _ s).trans rfl⟩
  | .dswapTimeout _ => .inl ⟨_, fun s => (exec_dswapTimeout _ s).trans rfl⟩
  | .bringupLate _ => .inl ⟨_, fun s => (exec_bringupLate _ s).trans rfl⟩
  | .bringupLimit _ => .inl ⟨_, fun s => (exec_bringupLimit _ s).trans rfl⟩
  | .idleEnter _ => .inl ⟨_, fun s => (exec_idleEnter _ s).trans rfl⟩
  | .idleResume _ => .inl ⟨_, fun s => (exec_idleResume _ s).trans rfl⟩
  | .sleepRetry _ => .inl ⟨_, fun s => (exec_sleepRetry _ s).trans rfl⟩
  | .linkWakeDetect _ => .inl ⟨_, fun s => (exec_linkWakeDetect _ s).trans rfl⟩
  | .creditStall _ _ => .inl ⟨_, fun s => (exec_creditStall _ _ s).trans rfl⟩
  | .linkEnable _ _ _ => .inl ⟨_, fun s => (exec_linkEnable _ _ _ s).trans rfl⟩
  | .linkDisable _ _ _ => .inl ⟨_, fun s => (exec_linkDisable _ _ _ s).trans rfl⟩
  | .pmCtrlSleep _ _ => .inl ⟨_, fun s => (exec_pmCtrlSleep _ _ s).trans rfl⟩
  | .pmCtrlWake _ _ => .inl ⟨_, fun s => (exec_pmCtrlWake _ _ s).trans rfl⟩
  | .pmCtrlRetrain _ _ => .inl ⟨_, fun s => (exec_pmCtrlRetrain _ _ s).trans rfl⟩
  | .init _ _ _ => .inl ⟨_, fun s => (exec_init _ _ _ s).trans rfl⟩
  | .initDone _ => .inl ⟨_, fun s => (exec_initDone _ s).trans rfl⟩
  | .cacheFetchDone _ => .inl ⟨_, fun s => (exec_cacheFetchDone _ s).trans rfl⟩
  | .tagCheckDone _ => .inl ⟨_, fun s => (exec_tagCheckDone _ s).trans rfl⟩
  | .reencryptDone _ _ => .inl ⟨_, fun s => (exec_reencryptDone _ _ s).trans rfl⟩
  | .partialWriteDone _ => .inl ⟨_, fun s => (exec_partialWriteDone _ s).trans rfl⟩
  | .quarRelease _ _ _ _ => .inl ⟨_, fun s => (exec_quarRelease _ _ _ _ s).trans rfl⟩
  | .roll _ _ => .inl ⟨_, fun s => (exec_roll _ _ s).trans rfl⟩
  | .rollDone _ => .inl ⟨_, fun s => (exec_rollDone _ s).trans rfl⟩
  | .aesParityFail _ => .inl ⟨_, fun s => (exec_aesParityFail _ s).trans rfl⟩
  | .takeoverDone _ => .inl ⟨_, fun s => (exec_takeoverDone _ s).trans rfl⟩
  | .spareSelfTest _ _ => .inl ⟨_, fun s => (exec_spareSelfTest _ _ s).trans rfl⟩
  | .loadGo _ => .inr ⟨rfl, _, fun s => (exec_loadGo _ s).trans rfl⟩
  | .startupGo _ => .inr ⟨rfl, _, fun s => (exec_startupGo _ s).trans rfl⟩
  | .sync => .inl ⟨_, fun s => (exec_sync s).trans rfl⟩
  | .header => .inl ⟨_, fun s => (exec_header s).trans rfl⟩
  | .broadcast => .inl ⟨_, fun s => (exec_broadcast s).trans rfl⟩
  | .keyWrap => .inl ⟨_, fun s => (exec_keyWrap s).trans rfl⟩
  | .segmentVerify => .inl ⟨_, fun s => (exec_segmentVerify s).trans rfl⟩
  | .window => .inl ⟨_, fun s => (exec_window s).trans rfl⟩
  | .substrateTable => .inl ⟨_, fun s => (exec_substrateTable s).trans rfl⟩
  | .frameAddr => .inl ⟨_, fun s => (exec_frameAddr s).trans rfl⟩
  | .frameData => .inl ⟨_, fun s => (exec_frameData s).trans rfl⟩
  | .frameRepeat => .inl ⟨_, fun s => (exec_frameRepeat s).trans rfl⟩
  | .keyRoll => .inl ⟨_, fun s => (exec_keyRoll s).trans rfl⟩
  | .crcCheck => .inl ⟨_, fun s => (exec_crcCheck s).trans rfl⟩
  | .startSeq => .inl ⟨_, fun s => (exec_startSeq s).trans rfl⟩
  | .readback => .inl ⟨_, fun s => (exec_readback s).trans rfl⟩
  | .pad => .inl ⟨_, fun s => (exec_pad s).trans rfl⟩
  | .skippableRecord => .inl ⟨_, fun s => (exec_skippableRecord s).trans rfl⟩
  | .endRecord => .inr ⟨rfl, _, fun s => (exec_endRecord s).trans rfl⟩
  | .pushWrite _ _ => .inl ⟨_, fun s => (exec_pushWrite _ _ s).trans rfl⟩
  | .pushTail _ _ => .inl ⟨_, fun s => (exec_pushTail _ _ s).trans rfl⟩
  | .pullCompletion _ _ => .inl ⟨_, fun s => (exec_pullCompletion _ _ s).trans rfl⟩
  | .fwdData _ => .inl ⟨_, fun s => (exec_fwdData _ s).trans rfl⟩
  | .loadLate => .inl ⟨_, fun s => (exec_loadLate s).trans rfl⟩
  | .loadLimit => .inl ⟨_, fun s => (exec_loadLimit s).trans rfl⟩
  | .lock => .inl ⟨_, fun s => (exec_lock s).trans rfl⟩
  | .lockFail => .inl ⟨_, fun s => (exec_lockFail s).trans rfl⟩
  | .releaseGsr => .inl ⟨_, fun s => (exec_releaseGsr s).trans rfl⟩
  | .enableWrites => .inl ⟨_, fun s => (exec_enableWrites s).trans rfl⟩
  | .releaseOutputs => .inr ⟨rfl, _, fun s => (exec_releaseOutputs s).trans rfl⟩
  | .latch => .inl ⟨_, fun s => (exec_latch s).trans rfl⟩
  | .latchNHigh => .inl ⟨_, fun s => (exec_latchNHigh s).trans rfl⟩
  | .latchTimeout => .inl ⟨_, fun s => (exec_latchTimeout s).trans rfl⟩
  | .scrubFrame => .inl ⟨_, fun s => (exec_scrubFrame s).trans rfl⟩
  | .passStart => .inl ⟨_, fun s => (exec_passStart s).trans rfl⟩
  | .voteFix _ => .inl ⟨_, fun s => (exec_voteFix _ s).trans rfl⟩
  | .voteLost => .inl ⟨_, fun s => (exec_voteLost s).trans rfl⟩
  | .inject _ _ => .inr ⟨rfl, _, fun s => (exec_inject _ _ s).trans rfl⟩
  | .configUpset _ _ _ _ => .inl ⟨_, fun s => (exec_configUpset _ _ _ _ s).trans rfl⟩
  | .submit _ _ => .inl ⟨_, fun s => (exec_submit _ _ s).trans rfl⟩
  | .migrate _ _ => .inl ⟨_, fun s => (exec_migrate _ _ s).trans rfl⟩
  | .retire _ => .inl ⟨_, fun s => (exec_retire _ s).trans rfl⟩
  | .selfTest _ => .inl ⟨_, fun s => (exec_selfTest _ s).trans rfl⟩
  | .loadKey _ => .inl ⟨_, fun s => (exec_loadKey _ s).trans rfl⟩
  | .loadSubstrate _ _ => .inl ⟨_, fun s => (exec_loadSubstrate _ _ s).trans rfl⟩
  | .golden _ _ => .inl ⟨_, fun s => (exec_golden _ _ s).trans rfl⟩
  | .restore _ _ => .inl ⟨_, fun s => (exec_restore _ _ s).trans rfl⟩
  | .recordExport _ _ => .inl ⟨_, fun s => (exec_recordExport _ _ s).trans rfl⟩
  | .recordImport _ _ => .inl ⟨_, fun s => (exec_recordImport _ _ s).trans rfl⟩
  | .cloneDone _ _ => .inl ⟨_, fun s => (exec_cloneDone _ _ s).trans rfl⟩
  | .mirrorPassEnd _ _ _ => .inl ⟨_, fun s => (exec_mirrorPassEnd _ _ _ s).trans rfl⟩
  | .selfTestDone _ _ _ _ => .inl ⟨_, fun s => (exec_selfTestDone _ _ _ _ s).trans rfl⟩
  | .selfTestDue _ => .inl ⟨_, fun s => (exec_selfTestDue _ s).trans rfl⟩
  | .healthUpdate _ _ => .inl ⟨_, fun s => (exec_healthUpdate _ _ s).trans rfl⟩
  | .migrateRetry _ => .inl ⟨_, fun s => (exec_migrateRetry _ s).trans rfl⟩
  | .wardenResync _ => .inl ⟨_, fun s => (exec_wardenResync _ s).trans rfl⟩
  | .wardenLost => .inl ⟨_, fun s => (exec_wardenLost s).trans rfl⟩
  | .perstNAssert => .inl ⟨_, fun s => (exec_perstNAssert s).trans rfl⟩
  | .perstNDeassert => .inl ⟨_, fun s => (exec_perstNDeassert s).trans rfl⟩
  | .pcieConfigRequest _ _ => .inl ⟨_, fun s => (exec_pcieConfigRequest _ _ s).trans rfl⟩
  | .hotReset _ => .inl ⟨_, fun s => (exec_hotReset _ s).trans rfl⟩
  | .flrPf0 => .inl ⟨_, fun s => (exec_flrPf0 s).trans rfl⟩
  | .flrPf1 => .inl ⟨_, fun s => (exec_flrPf1 s).trans rfl⟩
  | .flrVf _ => .inl ⟨_, fun s => (exec_flrVf _ s).trans rfl⟩
  | .windowRead _ _ _ _ => .inl ⟨_, fun s => (exec_windowRead _ _ _ _ s).trans rfl⟩
  | .windowWrite _ _ _ _ => .inl ⟨_, fun s => (exec_windowWrite _ _ _ _ s).trans rfl⟩
  | .doorbell _ _ _ _ _ => .inl ⟨_, fun s => (exec_doorbell _ _ _ _ _ s).trans rfl⟩
  | .hostCompletion _ _ _ => .inl ⟨_, fun s => (exec_hostCompletion _ _ _ s).trans rfl⟩
  | .dmaTail _ _ _ => .inl ⟨_, fun s => (exec_dmaTail _ _ _ s).trans rfl⟩
  | .chStart _ _ => .inl ⟨_, fun s => (exec_chStart _ _ s).trans rfl⟩
  | .chStop _ _ => .inl ⟨_, fun s => (exec_chStop _ _ s).trans rfl⟩
  | .chAbort _ _ => .inl ⟨_, fun s => (exec_chAbort _ _ s).trans rfl⟩
  | .descriptorDone _ => .inl ⟨_, fun s => (exec_descriptorDone _ s).trans rfl⟩
  | .insnAdd _ _ _ _ => .inl ⟨_, fun s => (exec_insnAdd _ _ _ _ s).trans rfl⟩
  | .insnSub _ _ _ _ => .inl ⟨_, fun s => (exec_insnSub _ _ _ _ s).trans rfl⟩
  | .insnAnd _ _ _ _ => .inl ⟨_, fun s => (exec_insnAnd _ _ _ _ s).trans rfl⟩
  | .insnOr _ _ _ _ => .inl ⟨_, fun s => (exec_insnOr _ _ _ _ s).trans rfl⟩
  | .insnXor _ _ _ _ => .inl ⟨_, fun s => (exec_insnXor _ _ _ _ s).trans rfl⟩
  | .insnSll _ _ _ _ => .inl ⟨_, fun s => (exec_insnSll _ _ _ _ s).trans rfl⟩
  | .insnSrl _ _ _ _ => .inl ⟨_, fun s => (exec_insnSrl _ _ _ _ s).trans rfl⟩
  | .insnSra _ _ _ _ => .inl ⟨_, fun s => (exec_insnSra _ _ _ _ s).trans rfl⟩
  | .insnSlt _ _ _ _ => .inl ⟨_, fun s => (exec_insnSlt _ _ _ _ s).trans rfl⟩
  | .insnSltu _ _ _ _ => .inl ⟨_, fun s => (exec_insnSltu _ _ _ _ s).trans rfl⟩
  | .insnMul _ _ _ _ => .inl ⟨_, fun s => (exec_insnMul _ _ _ _ s).trans rfl⟩
  | .insnMulh _ _ _ _ => .inl ⟨_, fun s => (exec_insnMulh _ _ _ _ s).trans rfl⟩
  | .insnMulhu _ _ _ _ => .inl ⟨_, fun s => (exec_insnMulhu _ _ _ _ s).trans rfl⟩
  | .insnDiv _ _ _ _ => .inl ⟨_, fun s => (exec_insnDiv _ _ _ _ s).trans rfl⟩
  | .insnDivu _ _ _ _ => .inl ⟨_, fun s => (exec_insnDivu _ _ _ _ s).trans rfl⟩
  | .insnAddi _ _ _ _ => .inl ⟨_, fun s => (exec_insnAddi _ _ _ _ s).trans rfl⟩
  | .insnAndi _ _ _ _ => .inl ⟨_, fun s => (exec_insnAndi _ _ _ _ s).trans rfl⟩
  | .insnOri _ _ _ _ => .inl ⟨_, fun s => (exec_insnOri _ _ _ _ s).trans rfl⟩
  | .insnXori _ _ _ _ => .inl ⟨_, fun s => (exec_insnXori _ _ _ _ s).trans rfl⟩
  | .insnSlli _ _ _ _ => .inl ⟨_, fun s => (exec_insnSlli _ _ _ _ s).trans rfl⟩
  | .insnSrli _ _ _ _ => .inl ⟨_, fun s => (exec_insnSrli _ _ _ _ s).trans rfl⟩
  | .insnSrai _ _ _ _ => .inl ⟨_, fun s => (exec_insnSrai _ _ _ _ s).trans rfl⟩
  | .insnSlti _ _ _ _ => .inl ⟨_, fun s => (exec_insnSlti _ _ _ _ s).trans rfl⟩
  | .insnSltiu _ _ _ _ => .inl ⟨_, fun s => (exec_insnSltiu _ _ _ _ s).trans rfl⟩
  | .insnLui _ _ _ => .inl ⟨_, fun s => (exec_insnLui _ _ _ s).trans rfl⟩
  | .insnLb _ _ _ _ => .inl ⟨_, fun s => (exec_insnLb _ _ _ _ s).trans rfl⟩
  | .insnLbu _ _ _ _ => .inl ⟨_, fun s => (exec_insnLbu _ _ _ _ s).trans rfl⟩
  | .insnLh _ _ _ _ => .inl ⟨_, fun s => (exec_insnLh _ _ _ _ s).trans rfl⟩
  | .insnLhu _ _ _ _ => .inl ⟨_, fun s => (exec_insnLhu _ _ _ _ s).trans rfl⟩
  | .insnLw _ _ _ _ => .inl ⟨_, fun s => (exec_insnLw _ _ _ _ s).trans rfl⟩
  | .insnSb _ _ _ _ => .inr ⟨rfl, _, fun s => (exec_insnSb _ _ _ _ s).trans rfl⟩
  | .insnSh _ _ _ _ => .inr ⟨rfl, _, fun s => (exec_insnSh _ _ _ _ s).trans rfl⟩
  | .insnSw _ _ _ _ => .inr ⟨rfl, _, fun s => (exec_insnSw _ _ _ _ s).trans rfl⟩
  | .insnBeq _ _ _ _ => .inl ⟨_, fun s => (exec_insnBeq _ _ _ _ s).trans rfl⟩
  | .insnBne _ _ _ _ => .inl ⟨_, fun s => (exec_insnBne _ _ _ _ s).trans rfl⟩
  | .insnBlt _ _ _ _ => .inl ⟨_, fun s => (exec_insnBlt _ _ _ _ s).trans rfl⟩
  | .insnBge _ _ _ _ => .inl ⟨_, fun s => (exec_insnBge _ _ _ _ s).trans rfl⟩
  | .insnBltu _ _ _ _ => .inl ⟨_, fun s => (exec_insnBltu _ _ _ _ s).trans rfl⟩
  | .insnBgeu _ _ _ _ => .inl ⟨_, fun s => (exec_insnBgeu _ _ _ _ s).trans rfl⟩
  | .insnJal _ _ => .inl ⟨_, fun s => (exec_insnJal _ _ s).trans rfl⟩
  | .insnJalr _ _ _ _ => .inl ⟨_, fun s => (exec_insnJalr _ _ _ _ s).trans rfl⟩
  | .insnLdx _ _ _ => .inl ⟨_, fun s => (exec_insnLdx _ _ _ s).trans rfl⟩
  | .insnStx _ _ _ _ => .inl ⟨_, fun s => (exec_insnStx _ _ _ _ s).trans rfl⟩
  | .insnMfadd _ _ _ _ => .inl ⟨_, fun s => (exec_insnMfadd _ _ _ _ s).trans rfl⟩
  | .insnMswap _ _ _ _ => .inl ⟨_, fun s => (exec_insnMswap _ _ _ _ s).trans rfl⟩
  | .insnMcas _ _ _ _ => .inl ⟨_, fun s => (exec_insnMcas _ _ _ _ s).trans rfl⟩
  | .insnMsg _ _ _ _ => .inl ⟨_, fun s => (exec_insnMsg _ _ _ _ s).trans rfl⟩
  | .insnMfence _ => .inl ⟨_, fun s => (exec_insnMfence _ s).trans rfl⟩
  | .insnMfc _ _ _ => .inl ⟨_, fun s => (exec_insnMfc _ _ _ s).trans rfl⟩
  | .insnMtc _ _ _ => .inl ⟨_, fun s => (exec_insnMtc _ _ _ s).trans rfl⟩
  | .insnTrap _ _ => .inl ⟨_, fun s => (exec_insnTrap _ _ s).trans rfl⟩
  | .insnRfe _ => .inl ⟨_, fun s => (exec_insnRfe _ s).trans rfl⟩
  | .insnWfi _ => .inl ⟨_, fun s => (exec_insnWfi _ s).trans rfl⟩
  | .insnTake _ _ => .inl ⟨_, fun s => (exec_insnTake _ _ s).trans rfl⟩
  | .insnYield _ => .inl ⟨_, fun s => (exec_insnYield _ s).trans rfl⟩
  | .insnSleep _ _ => .inl ⟨_, fun s => (exec_insnSleep _ _ s).trans rfl⟩
  | .interrupt _ => .inl ⟨_, fun s => (exec_interrupt _ s).trans rfl⟩
  | .timerMatch _ => .inl ⟨_, fun s => (exec_timerMatch _ s).trans rfl⟩
  | .wdExpire _ => .inl ⟨_, fun s => (exec_wdExpire _ s).trans rfl⟩
  | .hold _ _ => .inl ⟨_, fun s => (exec_hold _ _ s).trans rfl⟩
  | .holdRelease _ _ => .inl ⟨_, fun s => (exec_holdRelease _ _ s).trans rfl⟩
  | .tcmSweep _ _ => .inl ⟨_, fun s => (exec_tcmSweep _ _ s).trans rfl⟩
  | .activate _ _ => .inl ⟨_, fun s => (exec_activate _ _ s).trans rfl⟩
  | .post _ _ => .inl ⟨_, fun s => (exec_post _ _ s).trans rfl⟩
  | .taskRetire _ _ => .inl ⟨_, fun s => (exec_taskRetire _ _ s).trans rfl⟩
  | .setPrio _ _ _ => .inl ⟨_, fun s => (exec_setPrio _ _ _ s).trans rfl⟩
  | .porterTick => .inl ⟨_, fun s => (exec_porterTick s).trans rfl⟩
  | .delayExpiry => .inl ⟨_, fun s => (exec_delayExpiry s).trans rfl⟩
  | .descBad _ => .inl ⟨_, fun s => (exec_descBad _ s).trans rfl⟩
  | .traceFlush _ _ => .inr ⟨rfl, _, fun s => (exec_traceFlush _ _ s).trans rfl⟩
  | .extest _ => .inl ⟨_, fun s => (exec_extest _ s).trans rfl⟩
  | .samplePreload _ => .inl ⟨_, fun s => (exec_samplePreload _ s).trans rfl⟩
  | .idcode => .inl ⟨_, fun s => (exec_idcode s).trans rfl⟩
  | .clamp => .inl ⟨_, fun s => (exec_clamp s).trans rfl⟩
  | .highz => .inl ⟨_, fun s => (exec_highz s).trans rfl⟩
  | .dbgacc _ => .inr ⟨rfl, _, fun s => (exec_dbgacc _ s).trans rfl⟩
  | .wrapAccess _ => .inl ⟨_, fun s => (exec_wrapAccess _ s).trans rfl⟩
  | .bypass _ => .inl ⟨_, fun s => (exec_bypass _ s).trans rfl⟩
  | .tapReset => .inl ⟨_, fun s => (exec_tapReset s).trans rfl⟩
  | .claim _ => .inl ⟨_, fun s => (exec_claim _ s).trans rfl⟩
  | .release _ => .inl ⟨_, fun s => (exec_release _ s).trans rfl⟩
  | .mapGo _ _ => .inr ⟨rfl, _, fun s => (exec_mapGo _ _ s).trans rfl⟩
  | .memGo _ _ _ => .inl ⟨_, fun s => (exec_memGo _ _ _ s).trans rfl⟩
  | .haltReq _ _ => .inl ⟨_, fun s => (exec_haltReq _ _ s).trans rfl⟩
  | .resume _ _ => .inl ⟨_, fun s => (exec_resume _ _ s).trans rfl⟩
  | .step _ _ => .inr ⟨rfl, _, fun s => (exec_step _ _ s).trans rfl⟩
  | .regData _ _ _ => .inl ⟨_, fun s => (exec_regData _ _ _ s).trans rfl⟩
  | .feed _ _ _ => .inr ⟨rfl, _, fun s => (exec_feed _ _ _ s).trans rfl⟩
  | .peepAck _ _ => .inl ⟨_, fun s => (exec_peepAck _ _ s).trans rfl⟩
  | .peepRx _ _ _ => .inl ⟨_, fun s => (exec_peepRx _ _ _ s).trans rfl⟩
  | .traceEnable _ _ _ => .inl ⟨_, fun s => (exec_traceEnable _ _ _ s).trans rfl⟩
  | .compMatch _ _ _ => .inl ⟨_, fun s => (exec_compMatch _ _ _ s).trans rfl⟩
  | .modeReqDormant _ => .inl ⟨_, fun s => (exec_modeReqDormant _ s).trans rfl⟩
  | .modeReqDoorway _ => .inl ⟨_, fun s => (exec_modeReqDoorway _ s).trans rfl⟩
  | .modeReqService _ => .inr ⟨rfl, _, fun s => (exec_modeReqService _ s).trans rfl⟩
  | .modeReqDrowse _ => .inl ⟨_, fun s => (exec_modeReqDrowse _ s).trans rfl⟩
  | .modeReqQuiesced _ => .inl ⟨_, fun s => (exec_modeReqQuiesced _ s).trans rfl⟩
  | .modeReqLoad _ => .inr ⟨rfl, _, fun s => (exec_modeReqLoad _ s).trans rfl⟩
  | .quiesceLimit => .inl ⟨_, fun s => (exec_quiesceLimit s).trans rfl⟩
  | .pcieL12Entry _ => .inl ⟨_, fun s => (exec_pcieL12Entry _ s).trans rfl⟩
  | .pcieL12Exit => .inl ⟨_, fun s => (exec_pcieL12Exit s).trans rfl⟩
  | .wakeN => .inl ⟨_, fun s => (exec_wakeN s).trans rfl⟩
  | .sillTimer => .inl ⟨_, fun s => (exec_sillTimer s).trans rfl⟩
  | .thermRead _ => .inl ⟨_, fun s => (exec_thermRead _ s).trans rfl⟩
  | .tempMaxClear _ => .inl ⟨_, fun s => (exec_tempMaxClear _ s).trans rfl⟩
  | .sillPowerOn => .inl ⟨_, fun s => (exec_sillPowerOn s).trans rfl⟩
  | .vbatLow => .inl ⟨_, fun s => (exec_vbatLow s).trans rfl⟩
  | .supplyLoss => .inl ⟨_, fun s => (exec_supplyLoss s).trans rfl⟩
  | .flashResponse _ => .inl ⟨_, fun s => (exec_flashResponse _ s).trans rfl⟩
  | .pcieCompletionTimeout _ => .inl ⟨_, fun s => (exec_pcieCompletionTimeout _ s).trans rfl⟩
  | .pcieLinkUp _ _ _ => .inl ⟨_, fun s => (exec_pcieLinkUp _ _ _ s).trans rfl⟩
  | .stileCreditReturn _ _ => .inl ⟨_, fun s => (exec_stileCreditReturn _ _ s).trans rfl⟩
  | .referenceJudgedGood _ => .inr ⟨rfl, _, fun s => (exec_referenceJudgedGood _ s).trans rfl⟩
  | .tcmUpset _ _ _ => .inl ⟨_, fun s => (exec_tcmUpset _ _ _ s).trans rfl⟩
  | .flitSlot _ => .inl ⟨_, fun s => (exec_flitSlot _ s).trans rfl⟩
  | .resumeTrainTimeout _ => .inl ⟨_, fun s => (exec_resumeTrainTimeout _ s).trans rfl⟩
  | .engineSelfTestDone _ _ => .inl ⟨_, fun s => (exec_engineSelfTestDone _ _ s).trans rfl⟩

end Sys2Proof.Machine
end

