-- ==== Sys2Proof/Laws/Memory.lean ====
section
/-! SUPPORT. Every operation on an addressed memory keeps its canonical form: block memories, configuration memory, tightly coupled
memories, porter RAM, the push window. -/

namespace Sys2Proof.Machine

open Sys2Proof

/-- Writes one after another keep the canonical form, wherever each goes and whatever it writes. -/
theorem wf_foldl {α β : Type} [DecidableEq α] (dflt : Nat → α) (k : Sparse α → β → Nat) (v : Sparse α → β → α) (xs : List β)
    (m : Sparse α) (h : Memory.wf dflt m) : Memory.wf dflt (xs.foldl (fun m x => sset dflt m (k m x) (v m x)) m) := by
  induction xs generalizing m with
  | nil => exact h
  | cons x xs ih => exact ih _ (wf_sset _ _ _ _ h)

/-- A row of a block memory (R83). -/
theorem wf_setRow (d : Device) (pb : Fin 112) (m r : Nat) (v : BitVec 72) (h : Memory.wf rowDflt d.bram) :
    Memory.wf rowDflt (d.setRow pb m r v).bram := wf_sset _ _ _ _ h

/-- A word of configuration memory (R285, R343). -/
theorem wf_cfgWrite (d : Device) (key : Nat) (w : BitVec 73) (h : Memory.wf cfgDflt d.cfgMem) :
    Memory.wf cfgDflt (d.cfgWrite key w).cfgMem := wf_sset _ _ _ _ h

/-- Bytes of a memory that corrects errors (R404, R420). -/
theorem wf_ramWrite (m : Ram) (a : Nat) (bytes : List Byte) (h : Memory.wf ramDflt m) : Memory.wf ramDflt (ramWrite m a bytes) :=
  wf_foldl ramDflt (fun _ k => k) (fun m k => eccRow (natLE (overlay (rowBytes (sget ramDflt m k)) (ramPart a bytes k).1
    (ramPart a bytes k).2))) (ramSpan a bytes.length) m h

/-- Corrected words written back (R404). -/
theorem wf_ramFix (m : Ram) (ks : List Nat) (h : Memory.wf ramDflt m) : Memory.wf ramDflt (ramFix m ks) :=
  wf_foldl ramDflt (fun _ k => k) (fun m k => eccFix (sget ramDflt m k)) ks m h

/-- An upset of one bit (R404). -/
theorem wf_ramFlip (m : Ram) (k bit : Nat) (h : Memory.wf ramDflt m) : Memory.wf ramDflt (ramFlip m k bit) := wf_sset _ _ _ _ h

/-- A frame of a tightly coupled memory (R416). -/
theorem wf_tcmFrame (m : Ram) (k : Nat) (data : List (BitVec 72)) (h : Memory.wf tcmDflt m) :
    Memory.wf tcmDflt (ssetAll tcmDflt m k data) := wf_ssetAll _ _ _ _ h

/-- What a bay holds copied to its spare (R361). -/
theorem wf_scopy {α : Type} [DecidableEq α] (dflt : Nat → α) (per src dst : Nat) (m : Sparse α) (h : Memory.wf dflt m) :
    Memory.wf dflt (scopy dflt per src dst m) :=
  wf_foldl dflt (fun _ (e : Nat × α) => dst * per + e.1 % per) (fun _ e => e.2) _ _ (wf_sclear _ _ _ h)

/-- Bytes pushed (R310). -/
theorem wf_push (m : Sparse Byte) (off : Nat) (bytes : List (Nat × Byte)) (h : Memory.wf (fun _ => (0 : Byte)) m) :
    Memory.wf (fun _ => (0 : Byte)) (bytes.foldl (fun m (e : Nat × Byte) => sset (fun _ => 0) m ((off + e.1) % 2 ^ 24) e.2) m) :=
  wf_foldl (fun _ => 0) (fun _ e => (off + e.1) % 2 ^ 24) (fun _ e => e.2) bytes m h

end Sys2Proof.Machine
end

