-- ==== Sys2Proof/Laws/Mgmt.lean ====
section
/-! SUPPORT. Where a write of the management space lands: a page's base leads back to the page, and a write that is answered
reaches its header or the block registers behind it. -/

namespace Sys2Proof.Machine

open Sys2Proof

theorem pageBase_add_mod (pg : PageRef) (o : Nat) (ho : o < 0x1000) : (pageBase pg + o) % 0x1000 = o := by
  cases pg <;> simp only [pageBase] <;> omega

theorem pageOf_pageBase (pg : PageRef) (o : Nat) (ho : o < 0x1000) : pageOf (pageBase pg + o) = some pg := by
  cases pg with
  | tcore c =>
    have h : (pageBase (.tcore c) + o) / 0x1000 = 8 + c.val := by simp only [pageBase]; omega
    match c, h with
    | 0, h => simp only [pageOf, h]; rfl
    | 1, h => simp only [pageOf, h]; rfl
  | pbay n =>
    have h : (pageBase (.pbay n) + o) / 0x1000 = 0x100 + n.val := by simp only [pageBase]; omega
    have hn := n.isLt
    simp only [pageOf, h]
    rw [if_neg (by omega), dif_pos (by omega)]
    simp
  | bay n =>
    have h : (pageBase (.bay n) + o) / 0x1000 = 0x200 + n.val := by simp only [pageBase]; omega
    have hn := n.isLt
    simp only [pageOf, h]
    rw [if_neg (by omega), dif_neg (by omega), dif_pos (by omega)]
    simp
  | txl n =>
    have h : (pageBase (.txl n) + o) / 0x1000 = 0x300 + n.val := by simp only [pageBase]; omega
    have hn := n.isLt
    simp only [pageOf, h]
    rw [if_neg (by omega), dif_neg (by omega), dif_neg (by omega), dif_pos (by omega)]
    simp
  | cur n =>
    have h : (pageBase (.cur n) + o) / 0x1000 = 0x400 + n.val := by simp only [pageBase]; omega
    have hn := n.isLt
    simp only [pageOf, h]
    rw [if_neg (by omega), dif_neg (by omega), dif_neg (by omega), dif_neg (by omega), dif_pos (by omega)]
    simp
  | portr n =>
    have h : (pageBase (.portr n) + o) / 0x1000 = 0x500 + n.val := by simp only [pageBase]; omega
    have hn := n.isLt
    simp only [pageOf, h]
    rw [if_neg (by omega), dif_neg (by omega), dif_neg (by omega), dif_neg (by omega), dif_neg (by omega), dif_pos (by omega)]
    simp
  | warden n =>
    have h : (pageBase (.warden n) + o) / 0x1000 = 0x600 + n.val := by simp only [pageBase]; omega
    have hn := n.isLt
    simp only [pageOf, h]
    rw [if_neg (by omega), dif_neg (by omega), dif_neg (by omega), dif_neg (by omega), dif_neg (by omega), dif_neg (by omega),
      dif_pos (by omega)]
    simp
  | sill =>
    have h : (pageBase .sill + o) / 0x1000 = 0 := by simp only [pageBase]; omega
    simp only [pageOf, h]
    rfl
  | clk =>
    have h : (pageBase .clk + o) / 0x1000 = 1 := by simp only [pageBase]; omega
    simp only [pageOf, h]
    rfl
  | pwr =>
    have h : (pageBase .pwr + o) / 0x1000 = 2 := by simp only [pageBase]; omega
    simp only [pageOf, h]
    rfl
  | repair =>
    have h : (pageBase .repair + o) / 0x1000 = 3 := by simp only [pageBase]; omega
    simp only [pageOf, h]
    rfl
  | cfg =>
    have h : (pageBase .cfg + o) / 0x1000 = 4 := by simp only [pageBase]; omega
    simp only [pageOf, h]
    rfl
  | scrub =>
    have h : (pageBase .scrub + o) / 0x1000 = 5 := by simp only [pageBase]; omega
    simp only [pageOf, h]
    rfl
  | keys =>
    have h : (pageBase .keys + o) / 0x1000 = 6 := by simp only [pageBase]; omega
    simp only [pageOf, h]
    rfl
  | porter =>
    have h : (pageBase .porter + o) / 0x1000 = 7 := by simp only [pageBase]; omega
    simp only [pageOf, h]
    rfl
  | dbg =>
    have h : (pageBase .dbg + o) / 0x1000 = 10 := by simp only [pageBase]; omega
    simp only [pageOf, h]
    rfl
  | pcie =>
    have h : (pageBase .pcie + o) / 0x1000 = 11 := by simp only [pageBase]; omega
    simp only [pageOf, h]
    rfl
  | hdma =>
    have h : (pageBase .hdma + o) / 0x1000 = 12 := by simp only [pageBase]; omega
    simp only [pageOf, h]
    rfl
  | mesh =>
    have h : (pageBase .mesh + o) / 0x1000 = 13 := by simp only [pageBase]; omega
    simp only [pageOf, h]
    rfl
  | tally =>
    have h : (pageBase .tally + o) / 0x1000 = 14 := by simp only [pageBase]; omega
    simp only [pageOf, h]
    rfl
  | jamb =>
    have h : (pageBase .jamb + o) / 0x1000 = 15 := by simp only [pageBase]; omega
    simp only [pageOf, h]
    rfl

/-- The DBG block registers lie in the DBG page alone. -/
theorem dbgBlock_pageBase (pg : PageRef) (o : Nat) (ho : o < 0x1000) (h : pg ≠ .dbg ∨ o < 0x40) :
    dbgBlock (pageBase pg + o) = false := by
  unfold dbgBlock
  rw [pageOf_pageBase pg o ho, pageBase_add_mod pg o ho]
  rcases h with h | h
  · simp [h]
  · simp [show ¬ (0x40 ≤ o) by omega]

/-- Outside the DBG block registers a write is the plain one, whoever makes it. -/
theorem mgmtWrite_plain (d : Device) (rq : Requester) (off : Nat) (w : Word) (h : dbgBlock off = false) :
    d.mgmtWrite rq off w = d.mgmtWrite0 rq off w := by
  cases rq <;> simp [Device.mgmtWrite, h]

/-- A write of a header register that is answered. -/
theorem regWriteBody_header (d : Device) (rq : Requester) (pg : PageRef) (o : Nat) (w : Word) (hrq : ∀ b, rq ≠ .bar2 b)
    (ho : o < 0x40) (ha : d.answers rq pg = true) (hm : mayWrite rq pg = true) :
    regWriteBody rq (pageBase pg + o) w d = d.headerWrite pg o w := by
  have h1 : o < 0x1000 := by omega
  unfold regWriteBody
  rw [mgmtWrite_plain d rq _ w (dbgBlock_pageBase pg o h1 (.inr ho))]
  unfold Device.mgmtWrite0
  rw [pageOf_pageBase pg o h1, pageBase_add_mod pg o h1]
  cases rq <;> simp_all

/-- Where no hold stands in the row of an alias page, its writes wait for nothing. -/
theorem aliasWaits_unheld {d : Device} {pg : PageRef} (h : d.aliasHeld pg = false) : d.aliasWaits pg = d := by
  cases pg with
  | bay n =>
    simp only [Device.aliasHeld] at h
    simp only [Device.aliasWaits, Device.holdOver, Device.holdEnd]
    split
    · rename_i m hm
      rw [hm] at h
      split
      · rename_i i hi
        simp [hi] at h
      · rfl
    · rfl
  | _ => rfl

/-- A write of a block register that is answered, on a page whose domain is on, comes after the end of a hold. -/
theorem regWriteBody_waits (d : Device) (rq : Requester) (pg b : PageRef) (o : Nat) (w : Word) (hrq : ∀ b, rq ≠ .bar2 b)
    (hp : pg ≠ .dbg) (ho : 0x40 ≤ o) (ho' : o < 0x1000) (ha : d.answers rq pg = true) (hm : mayWrite rq pg = true)
    (hd : d.domainOff pg = false) (hb : (d.aliasWaits pg).blockPage pg = some b) :
    regWriteBody rq (pageBase pg + o) w d = (d.aliasWaits pg).blockWrite b o w := by
  unfold regWriteBody
  rw [mgmtWrite_plain d rq _ w (dbgBlock_pageBase pg o ho' (.inl hp))]
  unfold Device.mgmtWrite0
  rw [pageOf_pageBase pg o ho', pageBase_add_mod pg o ho']
  have h40 : ¬ (o < 0x40) := by omega
  cases rq <;> first | exact absurd rfl (hrq _) | simp [ha, hm, hd, hb, h40]

/-- A write of a block register that is answered, on a page whose domain is on and in whose row no hold stands. -/
theorem regWriteBody_block (d : Device) (rq : Requester) (pg b : PageRef) (o : Nat) (w : Word) (hrq : ∀ b, rq ≠ .bar2 b)
    (hp : pg ≠ .dbg) (ho : 0x40 ≤ o) (ho' : o < 0x1000) (ha : d.answers rq pg = true) (hm : mayWrite rq pg = true)
    (hd : d.domainOff pg = false) (hb : d.blockPage pg = some b) (hh : d.aliasHeld pg = false) :
    regWriteBody rq (pageBase pg + o) w d = d.blockWrite b o w := by
  have e := aliasWaits_unheld hh
  rw [regWriteBody_waits d rq pg b o w hrq hp ho ho' ha hm hd (by rw [e]; exact hb), e]

/-- A write that may not be made is refused (R20, R24). -/
theorem regWriteBody_refused (d : Device) (rq : Requester) (pg : PageRef) (o : Nat) (w : Word) (hrq : ∀ b, rq ≠ .bar2 b)
    (ho : o < 0x1000) (hp : pg ≠ .dbg ∨ o < 0x40) (ha : d.answers rq pg = true) (hm : mayWrite rq pg = false) :
    regWriteBody rq (pageBase pg + o) w d = d.accessRefused rq (pageBase pg + o) := by
  unfold regWriteBody
  rw [mgmtWrite_plain d rq _ w (dbgBlock_pageBase pg o ho hp)]
  unfold Device.mgmtWrite0
  rw [pageOf_pageBase pg o ho]
  cases rq <;> first | exact absurd rfl (hrq _) | simp [ha, hm]

/-! ### Rows that write a register -/

theorem tagged_nat (t low : Nat) (ht : t < 256) (h : low < 4) : (t * 16777216 + low) % 4294967296 / 16777216 % 256 = t := by omega
theorem taggedWord_tag (tag : Byte) (low : Nat) (h : low < 4) : bitsOf (taggedWord tag low) 24 8 = tag.toNat := by
  have e1 : (2 : Nat) ^ 24 = 16777216 := by decide
  have e2 : (2 : Nat) ^ 32 = 4294967296 := by decide
  have e3 : (2 : Nat) ^ 8 = 256 := by decide
  rw [bitsOf, BitVec.extractLsb'_toNat, taggedWord, BitVec.toNat_ofNat, Nat.shiftRight_eq_div_pow, e1, e2, e3]
  exact tagged_nat _ _ (by have := tag.isLt; rwa [e3] at this) h
theorem taggedWord_bit0 (tag : Byte) (low : Nat) : (taggedWord tag low).getLsbD 0 = low.testBit 0 := by
  have h := Nat.testBit_zero
  simp only [taggedWord, BitVec.getLsbD_ofNat, Nat.testBit_zero, show (0 < 32) from by decide, decide_true, Bool.true_and, decide_eq_decide]
  omega
theorem taggedWord_bit1 (tag : Byte) (low : Nat) : (taggedWord tag low).getLsbD 1 = low.testBit 1 := by
  simp only [taggedWord, BitVec.getLsbD_ofNat, Nat.testBit_eq_decide_div_mod_eq, show (1 < 32) from by decide, decide_true, Bool.true_and, decide_eq_decide]
  omega
theorem reaches_write {d : Device} {rq : Requester} {pg : PageRef} (h : d.reaches rq pg) (o : Nat) (w : Word) (ho : o < 0x40) :
    regWriteBody rq (pageBase pg + o) w d = d.headerWrite pg o w :=
  regWriteBody_header d rq pg o w h.1 ho h.2.1 h.2.2
theorem takes_write {d : Device} {rq : Requester} {pg b : PageRef} (h : d.takes rq pg b) (o : Nat) (w : Word) (ho : 0x40 ≤ o)
    (ho' : o < 0x1000) : regWriteBody rq (pageBase pg + o) w d = d.blockWrite b o w :=
  regWriteBody_block d rq pg b o w h.1.1 h.2.1 ho ho' h.1.2.1 h.1.2.2 h.2.2.1 h.2.2.2.1 h.2.2.2.2
theorem tagMatches_of {d : Device} {pg : PageRef} {tag : Byte} (h : d.epochIs pg tag) (low : Nat) (hl : low < 4) :
   d.tagMatches pg (taggedWord tag low) = true := by
  simp only [Device.tagMatches, taggedWord_tag _ _ hl, beq_iff_eq]; exact h
theorem run_eq (f : Device → Device) (s : State) (e : Device) (h : f s.dev = e) : run f s = .next (s.after e) := by
  subst h; rfl
theorem runChecked_eq (f : Device → Device) (s : State) (e : Device) (h : f s.dev = e) (hu : undefinedBy s.dev e = none) : runChecked f s = .next (s.after e) := by
  subst h; simp only [runChecked, hu]; rfl
theorem runChecked_lose (f : Device → Device) (s : State) (e : Device) (h : f s.dev = e) (u : Undefined)
    (hu : undefinedBy s.dev e = some u) : runChecked f s = .next { s with dev := e.lose } := by
  subst h; simp only [runChecked, hu]

end Sys2Proof.Machine
end

