-- ==== Sys2Proof/Laws/Settle.lean ====
section
/-! SUPPORT. What follows a command: once it is done no signal is left, and a command is the effect on the device followed by it. -/

namespace Sys2Proof.Machine

open Sys2Proof

/-- Taking the signals leaves none. -/
theorem takeSignals_signals (n : Nat) (d : Device) : (Device.takeSignals n d).signals = [] := by
  induction n generalizing d with
  | zero => rfl
  | succ n ih =>
    unfold Device.takeSignals
    split
    · assumption
    · exact ih _

/-- With no signal standing nothing is taken. -/
theorem takeSignals_nil (n : Nat) (d : Device) (h : d.signals = []) : Device.takeSignals (n + 1) d = d := by
  unfold Device.takeSignals; rw [h]

theorem raiseMsix_signals (d : Device) (fn : PcieFn) (v : Nat) : (d.raiseMsix fn v).signals = d.signals := by
  unfold Device.raiseMsix Device.sendMsix Device.setPending
  repeat' (first | rfl | split)

theorem alertEdge_signals (d b : Device) : (d.alertEdge b).signals = d.signals := by
  unfold Device.alertEdge
  split
  · exact raiseMsix_signals _ _ _
  · rfl

/-- Once a command is done no signal is left. -/
theorem settle_signals (b d : Device) : (settle b d).signals = [] := by
  unfold settle
  exact (alertEdge_signals _ _).trans (takeSignals_signals _ _)

/-- Slots that hold the tasks they would choose stay as they are (R425). -/
theorem fillSlots_full (n : Nat) (d : Device)
    (h : ∀ c : Nat, c < 2 → d.slot c = if d.slotShut c || !d.dispatching then none else d.choice c) :
    Device.fillSlots (n + 1) d = d := by
  unfold Device.fillSlots
  simp only [← h 0 (by decide), ← h 1 (by decide)]
  rw [if_pos (by simp)]

/-- A device in which no core has become sealed keeps its debug registers (R448). -/
theorem sealedNow_same (d b : Device) (h : ∀ c : Fin 2, d.coreSealed c = true → b.coreSealed c = true) : d.sealedNow b = d := by
  have k : ∀ c : Fin 2, (d.coreSealed c && !b.coreSealed c) = false := by
    intro c; cases hc : d.coreSealed c with
    | false => rfl
    | true => rw [h c hc]; rfl
  unfold Device.sealedNow
  simp only [List.foldl_cons, List.foldl_nil, k, Bool.false_eq_true, if_false]

/-- A bay that selects no clock breaks no ratio (R64, R145). -/
theorem ratio_noClocks (d : Device) (pb : Fin 112) (h : (sget (fun _ => BayCfg.empty) d.bayCfg pb.val).clocks = 0) :
    d.bayRatioBroken pb = false := by
  have hz : ∀ i, (sget (fun _ => BayCfg.empty) d.bayCfg pb.val).clocks.getLsbD i = false := fun i => by
    rw [h]; exact BitVec.getLsbD_zero
  unfold Device.bayRatioBroken
  simp only [hz, Bool.false_and, Bool.or_self]

/-- With the settings in force as they were, none of them for a bay, with the mesh and core clocks of one speed and no fault signalled,
nothing undefined has happened (R127, R145). -/
theorem defined_at_speed {b d : Device} (h1 : d.signals = []) (h2 : d.bayCfg = [])
    (h3 : (d.running 0 && d.running 10 && d.eff .clk fClkSrcCfgMult 0 != d.eff .clk fClkSrcCfgMult 10) = false)
    (h4 : d.sliceCfg = b.sliceCfg) (h5 : d.bayCfg = b.bayCfg) : undefinedBy b d = none := by
  have hr : d.ratioBroken = false := by
    unfold Device.ratioBroken
    simp [h3, fun pb => ratio_noClocks d pb (by rw [h2]; rfl)]
  unfold undefinedBy
  simp [h1, hr, h4, h5]

/-- So it is with the mesh PLL stopped. -/
theorem defined_of {b d : Device} (h1 : d.signals = []) (h2 : d.bayCfg = []) (h3 : d.running 0 = false)
    (h4 : d.sliceCfg = b.sliceCfg) (h5 : d.bayCfg = b.bayCfg) : undefinedBy b d = none :=
  defined_at_speed h1 h2 (by rw [h3]; rfl) h4 h5

/-- A command that always leads to a next state: the queue as it was, and a device that depends on the device alone. -/
theorem run_shape (body : Device → Device) :
    ∃ g : Device → Device, (∀ s, run body s = .next ⟨s.pending, g s.dev⟩) ∧ ∀ d, (g d).signals = [] :=
  ⟨fun d => settle d (body d), fun _ => rfl, fun _ => settle_signals _ _⟩

/-- What stays of a device whose behaviour has become undefined. -/
theorem lose_signals (d : Device) : d.lose.signals = [] := rfl

/-- A command that checks for undefined behaviour leads to a next state too: what the command and the rest of the device come to, or a
device of which nothing is known (R7). -/
theorem runChecked_shape (body : Device → Device) : ∃ g : Device → Device,
    (∀ s, runChecked body s = .next ⟨s.pending, g s.dev⟩) ∧ ∀ d, (g d).signals = [] := by
  refine ⟨fun d => match undefinedBy d (body d) with
    | some _ => (body d).lose
    | none => settle d (body d), fun s => ?_, fun d => ?_⟩
  · unfold runChecked
    dsimp only
    cases undefinedBy s.dev (body s.dev) <;> rfl
  · dsimp only
    cases undefinedBy d (body d) with
    | some _ => rfl
    | none => exact settle_signals _ _

end Sys2Proof.Machine
end

