-- ==== Sys2Proof/Laws/Words.lean ====
section
/-! SUPPORT. The fields of the four word formats of a tenant core (R400): each reader gives back what the writer put in. -/

namespace Sys2Proof.Machine

open Sys2Proof

/-! ### Bits of a word -/

theorem wordR_bit (op : BitVec 6) (rd ra rb : RegNo) (i : Nat) : (wordR op rd ra rb).getLsbD i =
    if i < 14 then false else if i < 18 then rb.getLsbD (i - 14) else if i < 22 then ra.getLsbD (i - 18)
    else if i < 26 then rd.getLsbD (i - 22) else op.getLsbD (i - 26) := by
  unfold wordR
  simp only [BitVec.getLsbD_append]
  repeat' split
  all_goals first | omega | rfl | simp

theorem wordI_bit (op : BitVec 6) (r s : RegNo) (v : BitVec 18) (i : Nat) : (wordI op r s v).getLsbD i =
    if i < 18 then v.getLsbD i else if i < 22 then s.getLsbD (i - 18) else if i < 26 then r.getLsbD (i - 22)
    else op.getLsbD (i - 26) := by
  unfold wordI
  simp only [BitVec.getLsbD_append]
  repeat' split
  all_goals first | omega | rfl

theorem wordU_bit (op : BitVec 6) (r : RegNo) (v : BitVec 22) (i : Nat) : (wordU op r v).getLsbD i =
    if i < 22 then v.getLsbD i else if i < 26 then r.getLsbD (i - 22) else op.getLsbD (i - 26) := by
  unfold wordU
  simp only [BitVec.getLsbD_append]
  repeat' split
  all_goals first | omega | rfl

theorem wordJ_bit (op : BitVec 6) (v : BitVec 26) (i : Nat) :
    (wordJ op v).getLsbD i = if i < 26 then v.getLsbD i else op.getLsbD (i - 26) := by
  unfold wordJ
  simp only [BitVec.getLsbD_append]

/-! ### Fields of a word -/

@[simp] theorem opOf_wordR (op : BitVec 6) (rd ra rb : RegNo) : opOf (wordR op rd ra rb) = op := by
  apply BitVec.eq_of_getLsbD_eq
  intro i hi
  simp only [opOf, BitVec.getLsbD_extractLsb', wordR_bit]
  repeat' split
  all_goals first | omega | rfl | (simp only [hi, decide_true, Bool.true_and]; first | rfl | (congr 1; omega)) | simp

@[simp] theorem rdOf_wordR (op : BitVec 6) (rd ra rb : RegNo) : rdOf (wordR op rd ra rb) = rd := by
  apply BitVec.eq_of_getLsbD_eq
  intro i hi
  simp only [rdOf, BitVec.getLsbD_extractLsb', wordR_bit]
  repeat' split
  all_goals first | omega | rfl | (simp only [hi, decide_true, Bool.true_and]; first | rfl | (congr 1; omega)) | simp

@[simp] theorem raOf_wordR (op : BitVec 6) (rd ra rb : RegNo) : raOf (wordR op rd ra rb) = ra := by
  apply BitVec.eq_of_getLsbD_eq
  intro i hi
  simp only [raOf, BitVec.getLsbD_extractLsb', wordR_bit]
  repeat' split
  all_goals first | omega | rfl | (simp only [hi, decide_true, Bool.true_and]; first | rfl | (congr 1; omega)) | simp

@[simp] theorem rbOf_wordR (op : BitVec 6) (rd ra rb : RegNo) : rbOf (wordR op rd ra rb) = rb := by
  apply BitVec.eq_of_getLsbD_eq
  intro i hi
  simp only [rbOf, BitVec.getLsbD_extractLsb', wordR_bit]
  repeat' split
  all_goals first | omega | rfl | (simp only [hi, decide_true, Bool.true_and]; first | rfl | (congr 1; omega)) | simp

@[simp] theorem opOf_wordI (op : BitVec 6) (rd ra : RegNo) (v : BitVec 18) : opOf (wordI op rd ra v) = op := by
  apply BitVec.eq_of_getLsbD_eq
  intro i hi
  simp only [opOf, BitVec.getLsbD_extractLsb', wordI_bit]
  repeat' split
  all_goals first | omega | rfl | (simp only [hi, decide_true, Bool.true_and]; first | rfl | (congr 1; omega)) | simp

@[simp] theorem rdOf_wordI (op : BitVec 6) (rd ra : RegNo) (v : BitVec 18) : rdOf (wordI op rd ra v) = rd := by
  apply BitVec.eq_of_getLsbD_eq
  intro i hi
  simp only [rdOf, BitVec.getLsbD_extractLsb', wordI_bit]
  repeat' split
  all_goals first | omega | rfl | (simp only [hi, decide_true, Bool.true_and]; first | rfl | (congr 1; omega)) | simp

@[simp] theorem raOf_wordI (op : BitVec 6) (rd ra : RegNo) (v : BitVec 18) : raOf (wordI op rd ra v) = ra := by
  apply BitVec.eq_of_getLsbD_eq
  intro i hi
  simp only [raOf, BitVec.getLsbD_extractLsb', wordI_bit]
  repeat' split
  all_goals first | omega | rfl | (simp only [hi, decide_true, Bool.true_and]; first | rfl | (congr 1; omega)) | simp

@[simp] theorem immOf_wordI (op : BitVec 6) (rd ra : RegNo) (v : BitVec 18) : immOf (wordI op rd ra v) = v := by
  apply BitVec.eq_of_getLsbD_eq
  intro i hi
  simp only [immOf, BitVec.getLsbD_extractLsb', wordI_bit]
  repeat' split
  all_goals first | omega | rfl | (simp only [hi, decide_true, Bool.true_and]; first | rfl | (congr 1; omega)) | simp

@[simp] theorem opOf_wordU (op : BitVec 6) (rd : RegNo) (v : BitVec 22) : opOf (wordU op rd v) = op := by
  apply BitVec.eq_of_getLsbD_eq
  intro i hi
  simp only [opOf, BitVec.getLsbD_extractLsb', wordU_bit]
  repeat' split
  all_goals first | omega | rfl | (simp only [hi, decide_true, Bool.true_and]; first | rfl | (congr 1; omega)) | simp

@[simp] theorem rdOf_wordU (op : BitVec 6) (rd : RegNo) (v : BitVec 22) : rdOf (wordU op rd v) = rd := by
  apply BitVec.eq_of_getLsbD_eq
  intro i hi
  simp only [rdOf, BitVec.getLsbD_extractLsb', wordU_bit]
  repeat' split
  all_goals first | omega | rfl | (simp only [hi, decide_true, Bool.true_and]; first | rfl | (congr 1; omega)) | simp

@[simp] theorem opOf_wordJ (op : BitVec 6) (v : BitVec 26) : opOf (wordJ op v) = op := by
  apply BitVec.eq_of_getLsbD_eq
  intro i hi
  simp only [opOf, BitVec.getLsbD_extractLsb', wordJ_bit]
  repeat' split
  all_goals first | omega | rfl | (simp only [hi, decide_true, Bool.true_and]; first | rfl | (congr 1; omega)) | simp

@[simp] theorem low_wordR (op : BitVec 6) (rd ra rb : RegNo) : (wordR op rd ra rb).extractLsb' 0 14 = 0 := by
  apply BitVec.eq_of_getLsbD_eq
  intro i hi
  simp only [BitVec.getLsbD_extractLsb', wordR_bit]
  repeat' split
  all_goals first | omega | rfl | (simp only [hi, decide_true, Bool.true_and]; first | rfl | (congr 1; omega)) | simp

@[simp] theorem low_wordU (op : BitVec 6) (rd : RegNo) (v : BitVec 22) : (wordU op rd v).extractLsb' 0 22 = v := by
  apply BitVec.eq_of_getLsbD_eq
  intro i hi
  simp only [BitVec.getLsbD_extractLsb', wordU_bit]
  repeat' split
  all_goals first | omega | rfl | (simp only [hi, decide_true, Bool.true_and]; first | rfl | (congr 1; omega)) | simp

@[simp] theorem low_wordJ (op : BitVec 6) (v : BitVec 26) : (wordJ op v).extractLsb' 0 26 = v := by
  apply BitVec.eq_of_getLsbD_eq
  intro i hi
  simp only [BitVec.getLsbD_extractLsb', wordJ_bit]
  repeat' split
  all_goals first | omega | rfl | (simp only [hi, decide_true, Bool.true_and]; first | rfl | (congr 1; omega)) | simp

end Sys2Proof.Machine
end

