-- ==== Sys2Proof/Laws/Writes.lean ====
section
/-! SUPPORT. What a write of a register does to its fields, what a pop port answers, when a packet arrives, who writes the DBG page. -/

namespace Sys2Proof.Machine

open Sys2Proof

/-- A write whose fields are all write-only or read-only leaves the device (R22). -/
theorem fieldsWrite_nil {d : Device} {pg : PageRef} {o : Nat} {w : Word} {skip : Fld → Bool} (h : ∀ f ∈ fieldsAt pg o, f.ty = .wo ∨ f.ty = .ro) : d.fieldsWrite pg o w skip = d := by
  have h' : ∀ f ∈ (fieldsAt pg o).filter fun f => !skip f, f.ty = .wo ∨ f.ty = .ro := fun f hf => h f ((List.mem_filter.mp hf).1)
  have h1 : ((fieldsAt pg o).filter fun f => !skip f).any (fun f => f.ty == .rws) = false := by
    simp only [List.any_eq_false]
    intro f hf
    rcases h' f hf with h | h <;> rw [h] <;> decide
  have h2 : ∀ (fs : List Fld) (d : Device), (∀ f ∈ fs, f.ty = .wo ∨ f.ty = .ro) → fs.foldl (fun (d : Device) (f : Fld) => d.fieldWrite pg f ((o - f.off) / f.stride) (bitsOf w f.lo f.width)) d = d := by
    intro fs
    induction fs with
    | nil => intro d _; rfl
    | cons f fs ih =>
      intro d hf
      have : d.fieldWrite pg f ((o - f.off) / f.stride) (bitsOf w f.lo f.width) = d := by
        unfold Device.fieldWrite
        rcases hf f (by simp) with h | h <;> rw [h]
      rw [List.foldl_cons, this]
      exact ih d fun g hg => hf g (by simp [hg])
  unfold Device.fieldsWrite
  simp only [h1, Bool.false_eq_true, if_false]
  exact h2 _ d h'

/-- A register write of a page that takes it reaches the block write of the register. -/
theorem takes_fld {d : Device} {rq : Requester} {pg b : PageRef} (h : d.takes rq pg b) (f : Fld) (i : Nat) (w : Word) (ho : 0x40 ≤ f.at_ i)
    (ho' : f.at_ i < 0x1000) : regWriteBody rq (regAt pg f i) w d = d.blockWrite b (f.at_ i) w :=
  regWriteBody_block d rq pg b _ w h.1.1 h.2.1 ho ho' h.1.2.1 h.1.2.2 h.2.2.1 h.2.2.2.1 h.2.2.2.2

/-- A field reads below two to its width. -/
theorem rd_lt (d : Device) (pg : PageRef) (f : Fld) (i : Nat) : d.rd pg f i < 2 ^ f.width := by
  simp only [Device.rd, bitsOf]; exact BitVec.isLt _

/-- A flag that is cleared by writing 1 is cleared. -/
theorem w1c_one (d : Device) (pg : PageRef) (f : Fld) (i v : Nat) (hf : f.ty = .w1c) (hw : f.width = 1) (hv : v = 1) : d.fieldWrite pg f i v = d.put pg f 0 i := by
  unfold Device.fieldWrite
  rw [hf, hv]
  have h := rd_lt d pg f i
  rw [hw] at h
  have : (BitVec.ofNat 32 (d.rd pg f i) &&& ~~~BitVec.ofNat 32 1).toNat = 0 := by
    rcases (by omega : d.rd pg f i = 0 ∨ d.rd pg f i = 1) with h | h <;> rw [h] <;> decide
  simp only [this]

/-- A pop port is on its page. -/
theorem popOffset_lt (p : PopPort) : (popOffset p).2 < 0x1000 := by cases p <;> simp only [popOffset] <;> decide

/-- A pop port is found at its offset. -/
theorem popAt_popOffset (p : PopPort) : popAt (popOffset p).1 (popOffset p).2 = some p := by
  cases p <;> rfl

/-- A read of a pop port by a requester that is no debugger (R37). -/
theorem popRead {d : Device} {rq : Requester} {port : PopPort} (h : ∀ b, rq ≠ .bar2 b) (hd : debugRead rq = false) (ha : d.answers rq (popOffset port).1 = true)
   (hdom : d.domainOff (popOffset port).1 = false) : popReadBody rq port d = (({ d with free := d.free + 1 }.pop port).emit
        (.readData (pageBase (popOffset port).1 + (popOffset port).2) (d.pageRead (popOffset port).1 (popOffset port).2))) := by
  have : d.mgmtRead rq false (pageBase (popOffset port).1 + (popOffset port).2) = (d.pageRead (popOffset port).1 (popOffset port).2, { d with free := d.free + 1 }.pop port) := by
    unfold Device.mgmtRead
    rw [pageOf_pageBase _ _ (popOffset_lt port), pageBase_add_mod _ _ (popOffset_lt port)]
    have hdom' : Device.domainOff { d with free := d.free + 1 } (popOffset port).1 = false := hdom
    cases rq <;> simp_all [popAt_popOffset]
  unfold popReadBody
  simp only [this]

/-- A packet that its port hands out arrives (R171, R182, R193). -/
theorem arriveE {d e : Device} {k : Nat} {f : Flight} {op : Nat} (h : d.handsOut op k f e) : arriveBody op k d = e.arriveAt f := by
  obtain ⟨hr, -, g, h1, h2, h3⟩ := h
  unfold arriveBody
  simp only [h1]
  rw [if_neg (by simp [h2, hr])]
  rcases h3 with ⟨h3, rfl, rfl⟩ | ⟨h3, h4, h5, rfl⟩
  · rw [if_pos h3]; rfl
  · rw [if_neg (by simp [h3])]
    simp only [h4, h5, if_true]; rfl

/-- Where the DBG block registers are (R437). -/
theorem dbgBlock_at (o : Nat) (h : 0x40 ≤ o) (h' : o < 0x1000) : dbgBlock (pageBase .dbg + o) = true ∧ (pageBase .dbg + o) % 0x1000 = o := by
  refine ⟨?_, pageBase_add_mod _ _ h'⟩
  unfold dbgBlock
  rw [pageOf_pageBase _ _ h', pageBase_add_mod _ _ h']
  simp [h]

/-- A write by a port that may write the DBG page. -/
theorem dbgRow_eq {d : Device} {p : DbgPort} (h : d.debugs p) (o : Nat) (w : Word) (h1 : 0x40 ≤ o) (h2 : o < 0x1000) :
    dbgRow p o w d = (d.dbgWrite p o w).2 := by
  obtain ⟨a, b⟩ := dbgBlock_at o h1 h2
  unfold dbgRow regWriteBody Device.mgmtWrite
  cases p with
  | port => simp only [portRequester, a, b, if_true]; rfl
  | window => simp only [portRequester, a, b, if_true, h.2 rfl]; rfl

end Sys2Proof.Machine
end

