-- ==== Sys2Proof/Tests/Slice0.lean ====
section
/-! SUPPORT. Witnesses: for each statement a concrete device and operands that meet its hypotheses together; ill-formed commands
that the check refuses; instruction words written out from the spec; single steps on small devices. What the settings leave opaque
(whether a record deciphers, a segment opens) has no concrete witness: those statements hold whichever way it falls. -/

namespace Sys2Proof.Tests

open Sys2Proof Sys2Proof.Machine

set_option maxRecDepth 100000

/-- Fields of registers put one after another: page, field, value, place. -/
def puts (d : Device) (l : List (PageRef × Fld × Nat × Nat)) : Device :=
  l.foldl (fun (d : Device) (x : PageRef × Fld × Nat × Nat) => d.put x.1 x.2.1 x.2.2.1 x.2.2.2) d

/-- A small device in a mode: PERST_N released, the core PLL running, the fabric powered, bay 0 open and running. -/
def inMode (m : Nat) : Device :=
  puts { Device.fresh with perst := false, fabricOn := true, writesOn := [(0, true)] }
    [(.sill, fSillDeviceModeMode, m, 0), (.clk, fClkSrcRunRun, 1024, 0), (.pbay 0, fPbayShutterState, shutterOpen, 0)]

/-- In SERVICE. -/
def svc : Device := inMode mService

/-- In SERVICE, with the mesh, fabric and core clocks running. -/
def up : Device := puts svc [(.clk, fClkSrcRunRun, 0x41F, 0)]

/-- A device with nothing waiting. -/
def idle (d : Device) : State := { pending := [], dev := d }

/-- Staged fields that are in force: page, field, value, place. -/
def sets (d : Device) (l : List (PageRef × Fld × Nat × Nat)) : Device :=
  l.foldl (fun (d : Device) (x : PageRef × Fld × Nat × Nat) =>
    let k := fldKey x.1 x.2.1 x.2.2.2
    { d with committed := sset regReset d.committed k (setBits (sget regReset d.committed k) x.2.1.lo x.2.1.width x.2.2.1) }) d

/-- Link 0 in a state, its transmitter and receiver in a mode, with what stands behind its registers. -/
def linked (state tx rx : Nat) (k : LinkSt) : Device :=
  puts { svc with links := [(0, k)] }
    [(.txl 0, fTxlLinkStatusState, state, 0), (.txl 0, fTxlPhyTxMode, tx, 0), (.txl 0, fTxlPhyRxMode, rx, 0)]

/-- A packet of an opcode and class, to a local address. -/
def pkt (op : BitVec 6) (cls : BitVec 2) (laddr : BitVec 54) (len : BitVec 8) (data : List Byte) : Packet :=
  { dst := 0, src := 7, cls := cls, op := op, len := len, tag := 5, laddr := laddr, ord := false, prio := 0, ch := false, v := true
    lock := false, rsv := 0, hcrc := 0, payload := data, flits := flitCount data.length }

/-! ### The machine and its management -/

theorem test_step_front : ({ pending := [.idcode], dev := svc } : State).pending = .idcode :: [] ∧ (idle svc).pending = [] := by decide

theorem test_some_command_answers : ∃ t, exec .idcode (idle svc) = .next t := ⟨_, (exec_idcode _).trans rfl⟩

/-- A command that leads to undefined behaviour: SRC_RUN starts the mesh PLL while the core PLL runs with another multiplier
(R145). -/
theorem test_some_behaviour_undefined : undefinedBy { svc with committed := [(fldKey .clk fClkSrcCfgMult 0, 0x28)] }
    ({ svc with committed := [(fldKey .clk fClkSrcCfgMult 0, 0x28)] }.writeSrcRun 1025) = some .clockRatio := by decide

theorem test_lost_met : ({ svc with lost := true } : Device).lost = true ∧ (∃ rq src, mayLose (.srcRunStart rq src) = true) ∧
    mayLose .idcode = false := ⟨rfl, ⟨.pf0, 0, rfl⟩, rfl⟩

theorem test_invariant_met : ({ pending := [.idcode], dev := svc } : State).Inv ∧ State.reset.Inv := by decide

theorem test_calm_met : svc.calm svc :=
  ⟨by decide, by decide, rfl, by decide, by decide, by decide, fun _ h => h, rfl, by decide, by decide, fun h => h⟩

theorem test_register_write_met : undefinedBy svc (svc.accessRefused .pf0 0xF048) = none ∧ undefinedBy svc (svc.blockWrite .jamb 0x048 1) = none ∧
    undefinedBy svc (svc.headerWrite .jamb 0x014 1) = none ∧
    svc.takes .pf0 .jamb .jamb ∧ (0xF000 + 0x048 : Nat) = pageBase .jamb + 0x048 ∧ svc.aliasWaits .jamb = svc ∧
    svc.answers .pf0 (.warden 3) = true ∧ mayWrite .pf0 (.warden 3) = false ∧ mayWrite .pf0 (.warden 0) = true := by
  refine ⟨defined_of rfl rfl (by decide) rfl rfl, defined_of rfl rfl (by decide) rfl rfl, defined_of rfl rfl (by decide) rfl rfl, ?_⟩
  unfold Device.takes Device.reaches; decide

theorem test_commit_met : undefinedBy svc ((svc.commitTaken .pcie).put .pcie hdrEnable (bit false)) = none ∧
    svc.reaches .pf0 .pcie ∧ svc.epochIs .pcie 0 ∧ svc.flag .pcie hdrCommitBusy = false ∧ (∀ l, PageRef.pcie ≠ .txl l) ∧ svc.commitRefuses .pcie = [] := by
  refine ⟨defined_of rfl rfl (by decide) rfl rfl, ?_⟩
  unfold Device.reaches Device.epochIs; decide

/-- A valid window of less than 2^20 bytes (R383). -/
def badWindow : Device := (svc.raise .pcie fPcieWinCtrlValid).put .pcie fPcieWinCtrlSizeLog2 0

theorem test_commit_refused_met : undefinedBy badWindow ((badWindow.commitDenied .pcie (badWindow.commitRefuses .pcie)).put .pcie hdrEnable (bit false)) = none ∧
    badWindow.commitRefuses .pcie ≠ [] := by
  refine ⟨defined_of rfl rfl (by decide) rfl rfl, ?_⟩
  decide

theorem test_staged_set_met : undefinedBy svc ((svc.applyCopied .clk).lower .clk hdrCommitBusy) = none ∧
    (svc.raise .clk hdrCommitBusy).flag .clk hdrCommitBusy = true := by
  refine ⟨defined_of rfl rfl (by decide) rfl rfl, ?_⟩
  decide

theorem test_enable_met : undefinedBy svc (svc.put .hdma hdrEnable 1) = none ∧
    svc.reaches .pf0 .hdma ∧ svc.epochIs .hdma 0 := by
  refine ⟨defined_of rfl rfl (by decide) rfl rfl, ?_⟩
  unfold Device.reaches Device.epochIs; decide

/-- DMA channel 0 runs; or its abort is pending. -/
def dmaRuns : Device := svc.setChState 0 chRunning

theorem test_abort_met : undefinedBy dmaRuns (dmaRuns.put .hdma hdrAbortState 1) = none ∧ undefinedBy svc ((svc.put .hdma hdrAbortState 2).raise .hdma hdrAbortDone) = none ∧
    hasAbort .hdma = true ∧ dmaRuns.rd .hdma hdrAbortState = 0 ∧ dmaRuns.flag .hdma hdrCommitBusy = false ∧ dmaRuns.abortActive .hdma = true ∧ svc.abortActive .hdma = false ∧ (dmaRuns.put .hdma hdrAbortState 1).rd .hdma hdrAbortState = 1 ∧ (dmaRuns.put .hdma hdrAbortState 1).abortActive .hdma = true ∧ 2 ≤ (svc.put .hdma hdrAbortState 2).rd .hdma hdrAbortState := by
  refine ⟨defined_of rfl rfl (by decide) rfl rfl, defined_of rfl rfl (by decide) rfl rfl, ?_⟩
  decide

theorem test_tally_met : svc.takes .pf0 .tally .tally ∧ (svc.tallyEntry 0).valid = true ∧ (svc.tallyEntry 1032).leaf = true ∧
    (svc.tallyEntry 0).leaf = false ∧ svc.tallyBroken.contains 0 = false ∧
    ({ svc with tallyBroken := [0] } : Device).tallyBroken.contains 0 = true := by
  unfold Device.takes Device.reaches; decide

theorem test_log_free_met : svc.takes .pf0 (logBit .scrub).1 .scrub ∧ svc.takes .pf0 (logBit (.mem (.bay 0))).1 (.pbay 0) := by
  unfold Device.takes Device.reaches; decide

theorem test_alert_met : svc.takes .pf0 .sill .sill ∧ ({ svc with msixWait := [(.pf0, 0)] } : Device).msixWait ≠ [] ∧
    svc.fnReady .pf0 = true ∧ ({ svc with pf1Ready := true } : Device).fnReady .pf1 = true ∧
    ownerCode .pf1 = some (({ svc with pf1Ready := true } : Device).vectorOwner 5) ∧
    ownerCode .pf1 ≠ some ((sets { svc with pf1Ready := true } [(.pcie, fPcieVecOwnerOwner1, 4, 1)]).vectorOwner 5) := by
  unfold Device.takes Device.reaches; decide

theorem test_pop_met : (∀ b, Requester.pf0 ≠ .bar2 b) ∧ debugRead .pf0 = false ∧
    (∀ p ∈ [PopPort.peepTx 1, .traceHi, .golden, .err, .mbx 3], svc.answers .pf0 (popOffset p).1 = true ∧
      svc.domainOff (popOffset p).1 = false ∧ svc.answers .debugPort (popOffset p).1 = true) := by decide

/-- k = 1, at a tie below 0 and at one above; k = 0 has no hypothesis (R116). -/
theorem test_rounding_met : ((-1 : Int) % 2 ^ 1 = 2 ^ (1 - 1)) ∧ ((3 : Int) % 2 ^ 1 = 2 ^ (1 - 1)) ∧ ((2 : Int) % 2 ^ 1 ≠ 2 ^ (1 - 1)) ∧
    roundTo .convergent 1 (-1) = 0 ∧ roundTo .convergent 1 3 = 4 ∧ roundTo .halfUp 1 3 = 4 ∧ roundTo .trunc 1 (-1) = -2 := by decide

theorem test_saturates_met : ∃ c : SliceCfg, c.norm = .off ∧ c.rndPos = 16 ∧ c.sat = .s32 ∧ c.oshift = 16 ∧ c.outW = 16 ∧
    2 ^ 31 ≤ roundTo c.rnd 16 (BitVec.toInt (2 ^ 31 : BitVec 40)) ∧ roundTo c.rnd 16 (BitVec.toInt (2 ^ 39 : BitVec 40)) < - 2 ^ 31 :=
  ⟨{ SliceCfg.empty with rndPos := 16, sat := .s32, oshift := 16, outW := 16 }, by decide⟩

/-- −1 and 0 of 16 bits, and the smallest and largest values (R114). -/
theorem test_redundant_signs_met : redundantSigns 16 0xFFFF = 15 ∧ redundantSigns 16 0 = 15 ∧ redundantSigns 16 0x8000 = 0 ∧
    redundantSigns 16 0x7FFF = 0 ∧ redundantSigns 16 1 = 14 := by decide

theorem test_logical_bay_met : svc.logicalOf 0 = some 0 ∧ svc.logicalOf 110 = some 103 := by decide

theorem test_debug_page_met : undefinedBy svc (svc.raise .dbg cDbgDbgConflict) = none ∧ undefinedBy svc (svc.dbgWrite .port 0x40 4).2 = none ∧
    (0xA000 + 0x40 : Nat) = pageBase .dbg + 0x40 ∧ svc.reaches .pf0 .dbg ∧ svc.answers .debugWindow .dbg = true ∧ svc.rd .dbg fDbgOwner = 0 ∧ (svc.put .dbg fDbgOwner 1).rd .dbg fDbgOwner ≠ 0 ∧ (svc.put .dbg fDbgOwner (portCode .port)).rd .dbg fDbgOwner ≠ portCode .window ∧ (svc.put .dbg fDbgOwner (portCode .port)).rd .dbg fDbgOwner = portCode .port := by
  refine ⟨defined_of rfl rfl (by decide) rfl rfl, defined_of rfl rfl (by decide) rfl rfl, ?_⟩
  unfold Device.reaches; decide

/-! ### The fabric -/

/-- Bays 0 and 1 live and open; hinge channel 0 of bay 0 leads to channel 7 of bay 1. -/
def hinged : Device :=
  puts { svc with
      writesOn := [(0, true), (1, true)]
      bayCfg := [(0, { BayCfg.empty with selected := [0], hingeOut := [some (1, 7)] }),
                 (1, { BayCfg.empty with selected := [0], hingeIn := [none, none, none, none, none, none, none, some (0, 0)] })] }
    [(.pbay 1, fPbayShutterState, shutterOpen, 0)]

theorem test_hinge_met : hinged.hingeAgrees 0 0 = some (1, 7) ∧ hinged.bayLive (hinged.physOf 0) = true ∧
    hinged.outputsReleased (hinged.physOf 0) = true ∧ hinged.takesWords 1 = true ∧
    0 < sget (fun _ => 8) hinged.hingeCredits (0 * 8 + 0) ∧
    (sget chanDflt ([(15, { buf := [], flight := [5] })] : Sparse Channel) 15).flight = (5 : BitVec 70) :: [] ∧
    (sget chanDflt ([(15, { buf := [5], flight := [] })] : Sparse Channel) 15).buf = (5 : BitVec 70) :: [] ∧
    hinged.bayLive (hinged.physOf 1) = true ∧ partnerAt (hinged.cfgOf 1).hingeIn 7 = some (0, 0) := by decide

/-- Stile channel 3 of bay 0 leads to channel 0 of bay 13, in the next row. -/
def stiled : Device :=
  puts { svc with
      writesOn := [(0, true), (14, true)]
      bayCfg := [(0, { BayCfg.empty with stileOut := [none, none, none, some (13, 0)] }),
                 (14, { BayCfg.empty with stileIn := [some (0, 3)] })] }
    [(.pbay 14, fPbayShutterState, shutterOpen, 0)]

theorem test_stile_met : stiled.stileAgrees 0 3 = some (13, 0) ∧ stiled.bayLive (stiled.physOf 0) = true ∧
    stiled.outputsReleased (stiled.physOf 0) = true ∧ stiled.takesWords 13 = true ∧
    0 < sget (fun _ => 16) stiled.stileCredits (0 * 4 + 3) ∧ stiled.bayLive (stiled.physOf 13) = true ∧
    partnerAt (stiled.cfgOf 13).stileIn 0 = some (0, 3) := by decide

theorem test_capture_met : hinged.takes .pf0 (bayPageRef (.bay 0)) (.pbay 0) ∧ hinged.bayShutter 0 ≠ shutterClosed ∧
    hinged.flag (.pbay 0) fPbayBayCfgStateInPr = false ∧ hinged.captureBlocked 0 = false ∧ svc.captureBlocked 0 = true ∧
    svc.bayShutter 5 = shutterClosed ∧ (svc.raise (.pbay 0) fPbayBayCfgStateInPr).flag (.pbay 0) fPbayBayCfgStateInPr = true ∧
    (hinged.startCapture 0 false).flag (.pbay 0) fPbayCaptureStatusBusy = true := by
  unfold Device.takes Device.reaches; decide

/-- Bay 0 selects global clock 0; it has a block memory that a port may write and a slice that adds. -/
def worked : Device :=
  { up with bayCfg := [(0, { BayCfg.empty with selected := [0] })]
            bramCfg := [(3, { BramCfg.empty with a := { PortCfg.empty with shape := .w72, mode := .through }, writeAllowed := true })]
            sliceCfg := [(0, { SliceCfg.empty with opmode := some 2 })] }

/-- An access at row 0, alone and with one of the other port to the same row, whose command runs before or after. -/
theorem test_bram_met : worked.portEdge 0 3 .a = true ∧ svc.portEdge 0 3 .a = false ∧
    ({ worked with gsr := true } : Device).inReset 0 = true ∧
    sget (fun _ => false) svc.writesOn 5 = false ∧ worked.inReset 0 = false ∧ sget (fun _ => false) worked.writesOn 0 = true ∧
    worked.cascadeBase 0 3 = 3 ∧ worked.cascadeMember 0 3 (worked.portAddr 0 3 .a 0) .w72 = some 3 ∧
    worked.collides 0 3 .a 3 0 none = none ∧
    (∀ b ∈ [true, false], (worked.collides 0 3 .a 3 0 (some { acc := { addr := 0, we := 1, data := 5, rst := false }, done := b })).isSome = true) ∧
    (worked.memCfg 0 3).writeAllowed = true ∧ ((worked.memCfg 0 3).port .a).mode = .through ∧
    ∀ m ∈ [WriteMode.keep, .prior], ({ PortCfg.empty with mode := m } : PortCfg).mode = m := by decide

theorem test_writeback_met : sget (fun _ => ([] : List Nat)) (worked.askWriteback 0 3 9).writeback (memKey 0 3) = 9 :: [] ∧
    (worked.askWriteback 0 3 9).bayClocked 0 = true := by decide

theorem test_slice_met : worked.colLive 0 (0 / 32) = true ∧ (worked.sliceSet 0 0).opmode.getD 2 = 2 ∧
    (worked.sliceSet 0 1).opmode = none ∧ (worked.sliceSet 0 0).accSat = false := by decide

theorem test_generator_met : (-32768 : Int) ≤ (AgCfg.empty).step ∧ (AgCfg.empty).step ≤ 32767 ∧ (AgCfg.empty).mode = .linear ∧
    (agNext { AgCfg.empty with step := 1 } 32767) = (0, true) ∧ (agNext { AgCfg.empty with step := -1 } 0) = (32767, true) ∧
    (agNext { AgCfg.empty with mode := .circular, base := 8, length := 3, step := 1 } 10).1 = 8 := by decide

/-- Column 0 of bay 0 open, and closed; an event from the fabric, and one from the WRAP of slice 5. -/
theorem test_block_met : worked.colLive 0 0 = true ∧ (∀ b ∈ [true, false], worked.eventAt 0 0 (worked.colSet 0 0).startSrc b = b ∧
      worked.eventAt 0 0 (worked.colSet 0 0).endSrc b = b) ∧
    (worked.setSlice 0 5 { worked.slice 0 5 with wrap0 := true }).eventAt 0 0 (some 5) false = true ∧
    worked.eventAt 0 0 (some 5) true = false ∧ worked.flag (.pbay 0) fPbayColStateOpen 0 = false ∧
    (worked.raise (.pbay 0) fPbayColStateOpen 0).flag (.pbay 0) fPbayColStateOpen 0 = true := by decide

/-! ### Clocks -/

/-- Each of the references A and B selected or not, alone or with the other. -/
theorem test_reference_met : ∃ d, d = puts svc [(.clk, fClkRefStatusPcieRefGood, 1, 0), (.clk, fClkRefStatusAGood, 1, 0),
      (.clk, fClkRefStatusBGood, 1, 0)] ∧
    d.mode ≠ mDormant ∧ d.flag .clk fClkRefStatusPcieRefGood = true ∧ d.refGood false = true ∧ d.refGood true = true ∧
    d.selectedRef = false ∧ (d.put .clk fClkRefStatusSelected 1).selectedRef = true ∧ (d.lower .clk fClkRefStatusBGood).refGood true = false ∧
    d.refSwitch = none ∧ (d.lower .clk fClkRefStatusAGood).refGood false = false ∧ d.flag .clk fClkRefCtrlRevert = false ∧
    (d.raise .clk fClkRefCtrlRevert).flag .clk fClkRefCtrlRevert = true ∧ d.flag .clk fClkRefCtrlPrefer = false ∧
    ({ d with refSwitch := some true } : Device).refSwitch = some true :=
  ⟨_, rfl, by decide⟩

theorem test_sill_clock_met : ∃ d e f, d = puts svc [(.clk, fClkRefStatusAGood, 1, 0), (.clk, fClkSillClkTrimAuto, 1, 0)] ∧
    e = (d.put .clk fClkSillClkSrcSel 1).lastFail 3 0 ∧
    f = (puts d [(.clk, fClkSillClkSrcSel, 0, 0), (.clk, fClkSillClkXinPresent, 1, 0)]).lastFail 3 0 ∧
    svc.takes .pf0 .clk .clk ∧ d.refGood d.selectedRef = true ∧ d.mode ≠ mDormant ∧ d.flag .clk fClkSillClkTrimAuto = true ∧
    ({ d with trimming := true } : Device).trimming = true ∧
    e.flag .clk fClkSillClkSrcSel = true ∧ e.rcDead = false ∧
    f.flag .clk fClkSillClkSrcSel = false ∧ f.flag .clk fClkSillClkXinPresent = true := by
  refine ⟨_, _, _, rfl, rfl, rfl, ?_⟩
  unfold Device.takes Device.reaches; decide

theorem test_source_met : undefinedBy svc (svc.writeSrcRun (svc.word 0x104C ||| BitVec.ofNat 32 (2 ^ 5)).toNat) = none ∧
    svc.takes .pf0 .clk .clk ∧ svc.mode ≠ mDormant ∧ svc.running 10 = true ∧
    ∃ d, d = puts svc [(.clk, fClkSrcRunRun, 0x63F, 0), (.clk, fClkSrcStatusLocked, 1, 4)] ∧
      d.running 4 = true ∧ d.flag .clk fClkSrcStatusLocked 4 = true ∧ d.flag .clk fClkSrcStatusTwinDegraded 4 = false ∧
      d.running (5 + 0) = true ∧ d.running 9 = true := by
  refine ⟨defined_of rfl rfl (by decide) rfl rfl, by unfold Device.takes Device.reaches; decide, by decide, by decide, _, rfl, by decide⟩

theorem test_drowsy_met : ∃ d, d = (puts { svc with bayCfg := [(0, { BayCfg.empty with drowsyCapable := true })] }
      [(.clk, fClkDrowsyEn, 1, 0)]) ∧
    d.flag .clk fClkDrowsyEn = true ∧ d.mode = mService ∧ (inMode mDrowse).mode = mDrowse ∧ (d.cfgOf 0).drowsyCapable = true ∧
    d.inboundEmpty 0 = true ∧ d.bayOutstanding 0 = 0 ∧ d.bayQueued 0 = false ∧
    d.flag (.pbay 0) fPbayCaptureStatusBusy = false ∧ d.flag (.pbay 0) fPbayBayCfgStateInPr = false ∧ d.migrating 0 = false ∧
    sget (fun _ => false) d.drowsed 0 = false ∧ sget (fun _ => false) ([(0, true)] : Sparse Bool) 0 = true :=
  ⟨_, rfl, by decide⟩

/-! ### The mesh -/

/-- A packet that stands at the router of its destination. -/
def flight (dst : Edge) (at_ : Nat × Nat) (p : Packet) : Flight :=
  { id := 1, src := .link 0, ini := 0, dst := dst, plane := false, crossed := false, here := some (at_.1, at_.2, 6), behind := none
    goal := at_, since := 0, rank := 0, buffered := false, pkt := p }

/-- One packet in the mesh, at the router of its destination. -/
def meshed (dst : Edge) (at_ : Nat × Nat) (p : Packet) : Device := { up with mesh := [flight dst at_ p] }

/-- Packets for bays 0 and 103, for the CORE node and for the MGMT node, which their ports hand out. -/
theorem test_arrival_met : ∀ x ∈ [(pkt 0x00 0 0x40 7 [], Edge.bay 0), (pkt 0x11 2 0 7 [1], .core), (pkt 0x20 3 0x1000 3 [], .mgmt)],
    (meshed x.2 (up.routerAt x.2) x.1).handsOut x.1.op.toNat 0 (flight x.2 (up.routerAt x.2) x.1)
      ((meshed x.2 (up.routerAt x.2) x.1).leaves (flight x.2 (up.routerAt x.2) x.1)) := by
  intro x h
  simp only [List.mem_cons, List.not_mem_nil, or_false] at h
  rcases h with rfl | rfl | rfl <;> exact ⟨by decide, rfl, _, rfl, rfl, .inl ⟨by decide, rfl, rfl⟩⟩

/-- A device with one packet of the opcode in the mesh, after its port has handed it out. -/
def handed (dst : Edge) (p : Packet) : Device :=
  (meshed dst (up.routerAt dst) p).leaves (flight dst (up.routerAt dst) p)

theorem test_reaches_design_met : ∃ d, d = handed (.bay 0) (pkt 0x00 0 0x40 7 []) ∧ d.bayShutter (d.physOf 0) = shutterOpen :=
  ⟨_, rfl, by decide⟩

/-- The last word of the tightly coupled memory of core 1, and the first of the porter RAM; a read, a write, an atomic. -/
theorem test_core_node_met : ∃ d, d = handed .core (pkt 0x02 0 0 7 (List.replicate 8 1)) ∧
    coreTargetOf 0x13FFF8 = .tcm 1 0x3FFF8 ∧ coreTargetOf 0x200000 = .porter 0 ∧ coreTargetOf 0x13FFF8 ≠ .none ∧
    d.targetSealed (.tcm 1 0x3FFF8) = false ∧ crosses4K (pkt 0x00 0 0x13FFF8 7 []) = false ∧
    crosses4K (pkt 0x02 0 0 7 (List.replicate 8 1)) = false ∧
    (d.coreRead (.tcm 1 0x3FFF8) 8).1.isSome = true ∧ (d.coreRead (.porter 0) 8).1.isSome = true ∧
    (d.coreWrite (.tcm 1 0x3FFF8) [1, 2]).1 = true ∧ (d.coreWrite (.porter 0) [1, 2]).1 = true ∧
    (d.coreWrite (.porter 0) (bytesLE 8 9)).1 = true ∧ 0x200000 % atomicSize 0x02 = 0 :=
  ⟨_, rfl, by decide⟩

theorem test_management_node_met : ∃ d, d = handed .mgmt (pkt 0x21 3 0xF048 3 [1, 0, 0, 0]) ∧
    (pkt 0x21 3 0xF048 3 [1, 0, 0, 0]).laddr.toNat < 0x04000000 ∧ (0xF048 : Nat) % 4 = 0 ∧
    (d.mgmtWrite .mesh 0xF048 1).isSome = true :=
  ⟨_, rfl, by decide⟩

theorem test_management_write_met : undefinedBy svc (((svc.blockWrite .jamb 0x48 1)).inject .mgmt iniAnswer
    (rspTo (pkt 0x21 3 0xF048 3 [1, 0, 0, 0]) stOk)) = none := defined_of rfl rfl (by decide) rfl rfl

/-- A request of bay 0, active, waiting for its marker, out of use, whose response the port has handed out. -/
def asked (ph : ReqPhase) (v : Bool) (op : BitVec 6) : Device :=
  { handed (.bay 0) { pkt op 1 0 7 (List.replicate 8 1) with v := v } with
    reqs := [(reqKey .fabric 5, some { dst := 7, op := 0, laddr := 0x40, len := 7, phase := ph, cont := .design 0 })] }

theorem test_response_met : ∀ x ∈ [(ReqPhase.active, true, (0x30 : BitVec 6)), (.active, true, 0x31), (.active, false, 0x31), (.marker [], true, 0x38),
      (.marker [1], true, 0x39), (.quarantined, true, 0x30)],
    (asked x.1 x.2.1 x.2.2).bayShutter ((asked x.1 x.2.1 x.2.2).physOf 0) ≠ shutterClosed ∧
    (asked x.1 x.2.1 x.2.2).req .fabric 5 =
      some { dst := 7, op := 0, laddr := 0x40, len := 7, phase := x.1, cont := .design 0 } := by decide

theorem test_response_fits : rspStatus { dst := 7, op := 0, laddr := 0x40, len := 7, phase := .active, cont := .design 0 }
    (pkt 0x31 1 0 7 (List.replicate 8 1)) = stOk := by decide

theorem test_bay_port_met : ∃ p, p = svc.bayStamp 0 (pkt 0x00 0 0x40 7 []) ∧
    svc.bayLive (svc.physOf 0) = true ∧ malformed p = false ∧ svc.bayShutter (svc.physOf 0) = shutterOpen ∧ p.cls ≠ 1 ∧
    svc.heldAt 0 p.cls.toNat = [] ∧ svc.tagBusy p = false ∧ (asked .active true 0x30).tagBusy p = true ∧
    (svc.setHeld 0 0 [p]).heldAt 0 0 = p :: [] ∧ malformed (svc.bayStamp 0 (pkt 0x30 1 0 0 [])) = false :=
  ⟨_, rfl, by decide⟩

theorem test_mesh_failure_met : svc.meshUp = true ∧ outputExists 0 0 0 = true ∧ outputExists 15 9 1 = true ∧
    outputExists 15 9 0 = false := by decide

theorem test_shutter_met : ∀ sh ∈ [ShutterRef.bay (.bay 0), .bay (.pbay 0), .txl 143, .cur 3, .hdma],
    ∃ pg st ex, svc.shutterAt sh = some (pg, st, ex) ∧ svc.drained sh = true ∧
      (svc.put pg st shutterOpen).rd pg st = shutterOpen ∧ (svc.put pg st shutterClosing).rd pg st = shutterClosing ∧
      (svc.put pg st shutterClosed).rd pg st = shutterClosed := by
  intro sh h
  simp only [List.mem_cons, List.not_mem_nil, or_false] at h
  rcases h with rfl | rfl | rfl | rfl | rfl <;> exact ⟨_, _, _, rfl, by decide⟩

/-- Shutters of each kind that are closed and may open, a link that slept for an abort among them. -/
theorem test_shutter_opens_met : ∃ d, d = puts up [(.pbay 0, fPbayShutterState, shutterClosed, 0), (.hdma, fHdmaShutterState, shutterClosed, 0),
      (.txl 3, fTxlShutterState, shutterClosed, 0), (.cur 3, fCurShutterState, shutterClosed, 0)] ∧
    undefinedBy d (d.commitBeforeOpen.put .hdma fHdmaShutterState shutterOpen) = none ∧
    undefinedBy d (d.commitBeforeOpen.put (.pbay 0) fPbayShutterState shutterOpen) = none ∧
    d.takes .pf0 (shutterPage (.bay (.bay 0))) (.pbay 0) ∧ d.takes .pf0 (shutterPage .hdma) .hdma ∧
    d.takes .pf0 (shutterPage (.txl 3)) (.txl 3) ∧ d.takes .pf0 (shutterPage (.cur 3)) (.cur 3) ∧ d.curLinkOf 3 = some 3 ∧
    (∀ sh ∈ [ShutterRef.hdma, .bay (.bay 0), .txl 3, .cur 3], d.domainRuns sh = true) ∧ d.logicalOf (d.bayPhys (.bay 0)) = some 0 ∧
    d.rd (.bay 0) hdrAbortState = 0 ∧ d.rd (.txl 3) hdrAbortState = 0 ∧
    (∀ b ∈ [true, false], (({ d with links := [(3, { LinkSt.fresh with sleepAfterAbort := b })] } : Device).lk 3).sleepAfterAbort = b) := by
  refine ⟨_, rfl, defined_at_speed rfl rfl (by decide) rfl rfl, defined_at_speed rfl rfl (by decide) rfl rfl, ?_⟩
  unfold Device.takes Device.reaches; decide

/-- A CLOSE finds no hold of its row under way. -/
theorem test_close_met : ∀ sh ∈ [ShutterRef.bay (.bay 0), .txl 143, .cur 3, .hdma], svc.closeWaits sh = svc := by
  intro sh h
  simp only [List.mem_cons, List.not_mem_nil, or_false] at h
  rcases h with rfl | rfl | rfl | rfl <;> rfl

/-- A bay that owes a response is not drained. -/
theorem test_not_drained_met : ({ svc with accepted := [{ bay := 0, src := 7, tag := 5 }] } : Device).drained (.bay (.bay 0)) = false := by
  decide

/-! ### Links -/

/-- A link in ACTIVE. -/
def active : LinkSt → Device := linked linkActive phyData phyData

theorem test_link_enable_met : (∀ v ∈ [0, 1], ∃ e, e = ((sets svc [(.txl 0, fTxlSubLinkLink, v, 0)]).put (.txl 0) hdrEnable 1) ∧
    svc.reaches .pf0 (.txl 0) ∧ svc.epochIs (.txl 0) 0 ∧ e.meshUp = true ∧
    e.linkState 0 = linkDisabled ∧ (e.eff (.txl 0) fTxlSubLinkLink).testBit 0 = (v == 1)) ∧
    (linked linkActive 1 1 LinkSt.fresh).linkState 0 ≠ linkDisabled ∧ ((inMode mDoorway).put (.txl 0) hdrEnable 1).meshUp = false := by
  simp only [List.forall_mem_cons, List.not_mem_nil, false_imp_iff, forall_const, and_true]
  refine ⟨⟨⟨_, rfl, ?_⟩, ⟨_, rfl, ?_⟩⟩, by decide⟩ <;> unfold Device.reaches Device.epochIs <;> decide

/-- A training flit with the same bits on every lane. -/
def everyLane (b : BitVec 132) : TrainFlit := { d0 := b, d1 := b, d2 := b, d3 := b, ds := b }

/-- A receiver in training whose lanes have aligned, with a report seen once. -/
def aligning (k : LinkSt) : Device :=
  (linked linkTraining phyTraining phyTraining { k with alignedLanes := 0x1F, reportsSeen := [0xF, 7, 0x1F] }).raise (.txl 0) fTxlPhyRxAligned

/-- Reports: the lane expected on DS is none (15), 3 (7), and none with the clock spare (0x1F); a report not seen before (0). -/
theorem test_training_met : ∀ b ∈ [true, false], ∃ d k, d = aligning { LinkSt.fresh with clkSwapRx := b } ∧ k = d.lk 0 ∧
    d.rd (.txl 0) fTxlPhyRxMode = phyTraining ∧ d.flag (.txl 0) fTxlPhyRxAligned = true ∧
    d.flag (.txl 0) fTxlLinkStatusRxIdle = false ∧ k.clkSwapRx = b ∧
    2 ≤ ((k.alignedOf (everyLane (BitVec.ofNat 132 (2 ^ 120 - 1)))).filter isTrainEnd).length ∧
    ((k.alignedOf (everyLane 0)).filter isTrainEnd).length < 2 ∧
    (∀ r ∈ [(0xF : BitVec 12), 7, 0x1F],
      ((k.reportsIn (everyLane (BitVec.ofNat 132 (r.toNat * 2 ^ 120)))).find? fun r => k.reportsSeen.contains r) = some r) ∧
    ((k.reportsIn (everyLane 0)).find? fun r => k.reportsSeen.contains r) = none ∧
    ¬ ((0xF : BitVec 12).extractLsb' 1 3).toNat < 4 ∧ (0xF : BitVec 12).getLsbD 4 = false ∧ (0x1F : BitVec 12).getLsbD 4 = true ∧
    d.rd (.txl 0) fTxlPhyTxClkSel = 0 ∧
    ((7 : BitVec 12).extractLsb' 1 3).toNat = 3 ∧ (7 : BitVec 12).getLsbD 4 = false ∧ d.rd (.txl 0) fTxlPhyTxDsCarries ≠ 3 ∧
    (d.lower (.txl 0) fTxlPhyRxAligned).flag (.txl 0) fTxlPhyRxAligned = false ∧
    (d.raise (.txl 0) fTxlLinkStatusRxIdle).flag (.txl 0) fTxlLinkStatusRxIdle = true ∧ d.bringingUp 0 = true ∧
    (∀ v ∈ [0, 1], (d.put (.txl 0) fTxlBringupLimitLimit v).rd (.txl 0) fTxlBringupLimitLimit = v) := by
  intro b h
  simp only [List.mem_cons, List.not_mem_nil, or_false] at h
  rcases h with rfl | rfl <;> exact ⟨_, _, rfl, rfl, by decide⟩

/-- What a receiver locked to C sees: the lanes that align, and those out of place. -/
def sees (aligned crossed : BitVec 5) : AlignOutcome :=
  { onSpare := false, spareSeen := true, aligned := aligned, crossed := crossed, skew := 0, centre := 0 }

/-- A lane that has aligned in its place and has not failed. -/
def laneOk (o : AlignOutcome) (failed i : Nat) : Bool := inReach o i && !o.crossed.getLsbD i && !failed.testBit i

theorem test_lock_met : (∃ d, d = ((((linked linkTraining phyTraining phyTraining LinkSt.fresh).raise (.txl 0) fTxlPhyRxDllLocked).put
      (.txl 0) fTxlPhyRxClkSel 0).put (.txl 0) fTxlSkewFound 0).put (.txl 0) fTxlCentreFound 0 ∧
    d.rd (.txl 0) fTxlPhyRxFailed = 0 ∧ d.flag (.txl 0) fTxlPhyRxCFailed = false ∧ d.rd (.txl 0) fTxlPhyRxDsCarries ≠ 2 ∧
    (d.put (.txl 0) fTxlPhyRxDsCarries 2).rd (.txl 0) fTxlPhyRxDsCarries = 2 ∧
    (∀ v ∈ [1, 5], ((sets d [(.txl 0, fTxlSubLinkLink, v, 0)]).eff (.txl 0) fTxlSubLinkLink).testBit 2 = (v == 5))) ∧
    (∀ o ∈ [sees 0x1F 0, sees 0xF 0, sees 0x1F 0x10], ((List.range 4).filter fun i => !laneOk o 0 i) = []) ∧
    laneOk (sees 0x1F 0) 0 4 = true ∧ (16 : Nat).testBit 4 = true ∧ laneOk (sees 0xF 0) 0 4 = false ∧ laneOk (sees 0x1F 0x10) 0 4 = false ∧
    (sees 0x1F 0x10).crossed.getLsbD 4 = true ∧ (sees 0xF 0).crossed.getLsbD 4 = false ∧
    (∀ o ∈ [sees 0x1B 0, sees 0xB 0], ((List.range 4).filter fun i => !laneOk o 0 i) = [2]) ∧ laneOk (sees 0x1B 0) 0 4 = true ∧
    laneOk (sees 0xB 0) 0 4 = false ∧ 2 ≤ ((List.range 4).filter fun i => !laneOk (sees 0x13 0) 0 i).length := ⟨⟨_, rfl, by decide⟩, by decide⟩

theorem test_lane_met : ∃ d e, d = sets (active LinkSt.fresh) [(.txl 0, fTxlSubLinkLink, 0xD, 0)] ∧
    e = d.put (.txl 0) fTxlPhyRxFailed 8 ∧
    d.rd (.txl 0) fTxlPhyRxMode = phyData ∧ d.flag (.txl 0) fTxlLinkStatusRxIdle = false ∧
    (d.rd (.txl 0) fTxlPhyRxFailed).testBit 3 = false ∧ (e.eff (.txl 0) fTxlSubLinkLink).testBit 2 = true ∧
    e.rd (.txl 0) fTxlPhyRxDsCarries = 7 ∧ (e.lk 0).swapReq = none ∧ e.canAsk 0 = true ∧ d.takes .pf0 (.txl 0) (.txl 0) ∧
    (e.put (.txl 0) fTxlPhyTxMode phyParked).canAsk 0 = false ∧ (e.put (.txl 0) fTxlPhyRxDsCarries 1).rd (.txl 0) fTxlPhyRxDsCarries ≠ 7 ∧
    ((d.put (.txl 0) fTxlPhyRxFailed 16).rd (.txl 0) fTxlPhyRxFailed).testBit 4 = true ∧ d.rd (.txl 0) fTxlPhyRxDsCarries = 7 ∧
    (d.raise (.txl 0) fTxlMarginAuto).flag (.txl 0) fTxlMarginAuto = true ∧
    (d.put (.txl 0) fTxlMarginLimit 2).rd (.txl 0) fTxlMarginLimit * 1024 < 2049 ∧
    (d.put (.txl 0) fTxlPhyRxClkSel 1).rd (.txl 0) fTxlPhyRxClkSel = 1 ∧ (svc.eff (.txl 0) fTxlSubLinkLink).testBit 3 = false ∧
    d.rd (.txl 0) fTxlPhyRxClkSel = 0 ∧ (d.eff (.txl 0) fTxlSubLinkLink).testBit 3 = true ∧ d.flag (.txl 0) fTxlPhyRxCsFailed = false ∧
    d.canAsk 0 = true ∧ (d.raise (.txl 0) fTxlPhyRxCFailed).canSend 0 = true ∧
    ((d.raise (.txl 0) fTxlPhyRxCFailed).put (.txl 0) fTxlPhyTxMode phyTraining).canSend 0 = false ∧
    (d.put (.txl 0) fTxlPhyTxMode phyTraining).canAsk 0 = true ∧ d.linkState 0 = linkActive ∧
    ((active { LinkSt.fresh with swapReq := some 3 }).lk 0).swapReq = some 3 ∧
    ((List.range 132).filter fun i => !(BitVec.allOnes 132).getLsbD i).length ≤ 6 ∧
    ((List.range 132).filter fun i => !(BitVec.allOnes 132 - 0x3F : BitVec 132).getLsbD i).length ≤ 6 ∧
    6 < ((List.range 132).filter fun i => !(BitVec.allOnes 132 - 0x7F : BitVec 132).getLsbD i).length := by
  refine ⟨_, _, rfl, rfl, ?_⟩
  unfold Device.takes Device.reaches; decide

theorem test_packet_flit_met : (∀ k ∈ [LinkSt.fresh, { LinkSt.fresh with wait := true }, { LinkSt.fresh with count := 4 },
      { LinkSt.fresh with rxOpen := some [1] }, { LinkSt.fresh with rxOpen := some [1, 2, 3, 4, 5] }, { LinkSt.fresh with rxSkip := some 2 }],
    (active k).linkState 0 = linkActive ∧ (active k).receives 0 = true ∧ (active k).lk 0 = k ∧ (active k).curMode 0 ≠ 2) ∧
    ∀ b ∈ [true, false], ∃ d, d = sets { active LinkSt.fresh with curs := [(0, { CurSt.fresh with stopped := b })] } [(curPage 0, fCurCurCfgMode, 2, 0)] ∧
      d.curMode 0 = 2 ∧ (d.cur 0).stopped = b := by
  refine ⟨by decide, ?_⟩
  simp only [List.forall_mem_cons, List.not_mem_nil, false_imp_iff, forall_const, and_true]
  exact ⟨⟨_, rfl, by decide⟩, ⟨_, rfl, by decide⟩⟩

/-- A LINK flit body with an ACK_SEQ, one with FAULT, and the flits named for what they carry. -/
theorem test_link_flit_met : fieldAt (1 : BitVec 512) 0 4 = 1 ∧
    (LinkSt.fresh.ack (0 : BitVec 12)).isSome = true ∧ LinkSt.fresh.ack (5 : BitVec 12) = none ∧
    (∀ i ∈ [20, 21, 96, 100, 101, 102], bitAt (1 + 2 ^ i : BitVec 512) i = true) ∧
    (∀ v ∈ [1, 2, 3, 4], fieldAt (BitVec.ofNat 512 (1 + v * 2 ^ 88)) 88 4 = v) := by decide

/-- HELLO of a side that speaks 1.0, and of one that offers both curtain modes and speaks 1.0 to 2.0. -/
def hello10 : BitVec 512 := 0x00110102
def helloAll : BitVec 512 := 0x03130702

theorem test_hello_met : ∃ d, d = linked linkHello phyData phyData { LinkSt.fresh with ownHello := helloAll } ∧
    d.linkState 0 = linkHello ∧ d.receives 0 = true ∧ fieldAt hello10 0 4 = 2 ∧ (d.lk 0).peer = none ∧
    chooseVersion (fieldAt (d.lk 0).ownHello 8 3) (fieldAt hello10 8 3) = 1 ∧ chooseVersion (fieldAt (d.lk 0).ownHello 8 3) (fieldAt helloAll 8 3) = 3 ∧
    chooseVersion (fieldAt (d.lk 0).ownHello 8 3) 0 = 0 ∧
    (sets (d.recordPeer 0 hello10 1) [(curPage 0, fCurCurCfgMode, 1, 0)]).curMode 0 = 1 ∧
    (sets (d.recordPeer 0 helloAll 3) [(curPage 0, fCurCurCfgMode, 2, 0)]).curMode 0 = 2 ∧ bitAt hello10 25 = false ∧ bitAt helloAll 25 = true ∧
    bitAt helloAll 24 = true ∧ (d.recordPeer 0 hello10 1).curMode 0 = 0 ∧
    ((linked linkHello phyData phyData { LinkSt.fresh with peer := some hello10 }).lk 0).peer = some hello10 ∧
    hello10 &&& helloMask = (hello10 + 2 ^ 17) &&& helloMask ∧ (hello10 + 2 ^ 30) &&& helloMask ≠ hello10 &&& helloMask ∧
    bitAt hello10 20 = true ∧ fieldAt hello10 16 4 = (d.put (.txl 0) fTxlLinkStatusVersion 1).rd (.txl 0) fTxlLinkStatusVersion :=
  ⟨_, rfl, by decide⟩

/-- A receiver in link mode that has one flit covered. -/
def covering : Device := sets (active { LinkSt.fresh with rxCover := [(0, 7)], count := 1, expect := 1 }) [(curPage 0, fCurCurCfgMode, 2, 0)]

theorem test_tag_flit_met : covering.linkState 0 = linkActive ∧ covering.receives 0 = true ∧
    fieldAt (BitVec.ofNat 512 (4 + 1 * 2 ^ 16)) 0 4 = 4 ∧ (covering.lk 0).wait = false ∧
    (covering.lk 0).count = (covering.lk 0).expect ∧ (covering.lk 0).rxCover = (0, 7) :: [] ∧ covering.curMode 0 = 2 ∧
    fieldAt (BitVec.ofNat 512 (4 + 1 * 2 ^ 16)) 16 6 = ([] : List (BitVec 64 × BitVec 512)).length + 1 ∧
    (BitVec.ofNat 512 (4 + 1 * 2 ^ 16)).extractLsb' 24 64 = 0 ∧ (covering.cur 0).stopped = false ∧
    ((covering.setCur 0 { covering.cur 0 with stopped := true }).cur 0).stopped = true := by decide

/-- Whatever tag the key gives, some body carries it. -/
theorem test_tag_carried (t : Nat) (h : t < 2 ^ 128) : fieldAt (BitVec.ofNat 512 (t * 2 ^ 96)) 96 128 = t := by
  have h1 : t * 2 ^ 96 < 2 ^ 512 :=
    Nat.lt_of_lt_of_le (Nat.mul_lt_mul_of_pos_right h (Nat.two_pow_pos 96)) (by decide)
  unfold fieldAt
  rw [BitVec.extractLsb'_toNat, BitVec.toNat_ofNat, Nat.mod_eq_of_lt h1, Nat.shiftRight_eq_div_pow,
    Nat.mul_div_cancel _ (Nat.two_pow_pos 96), Nat.mod_eq_of_lt h]

theorem test_link_timer_met : ∀ k ∈ [{ LinkSt.fresh with retry := [{ seq := 0, kind := .sole, body := 1 }], txSeq := 1 }, { LinkSt.fresh with wait := true },
      { LinkSt.fresh with sleepRepeat := true }, LinkSt.fresh],
    (active k).linkState 0 = linkActive ∧ (active k).lk 0 = k ∧ (active k).flag (.txl 0) fTxlLinkStatusTxIdle = false ∧
    (active k).flag (.txl 0) fTxlLinkStatusRxIdle = false ∧ ((active k).raise (.txl 0) fTxlLinkStatusRxIdle).flag (.txl 0) fTxlLinkStatusRxIdle = true ∧
    ((active k).raise (.txl 0) fTxlLinkStatusTxIdle).flag (.txl 0) fTxlLinkStatusTxIdle = true ∧
    (sets (active k) [(.txl 0, fTxlLlCfgIdleEn, 1, 0)]).eff (.txl 0) fTxlLlCfgIdleEn = 1 ∧
    LinkSt.fresh.quiet = true ∧ LinkSt.fresh.settled = true ∧ LinkSt.fresh.owePm = 0 ∧ LinkSt.fresh.oweNak = false ∧
    (active k).rd (.txl 0) fTxlPhyTxMode = phyData := by decide

theorem test_link_power_met : svc.takes .pf0 (.txl 0) (.txl 0) ∧ (∀ st ∈ [linkActive, linkRetrain, linkTraining, linkHello],
      (linked st 0 0 LinkSt.fresh).linkState 0 = st) ∧ (linked linkSleep 0 0 LinkSt.fresh).linkState 0 = linkSleep ∧
    linkSleep ∉ [linkActive, linkRetrain, linkTraining, linkHello] ∧
    ((linked linkSleep 0 0 LinkSt.fresh).lk 0).sleepAfterAbort = false ∧ (active LinkSt.fresh).linkState 0 ≠ linkSleep := by
  unfold Device.takes Device.reaches; decide

/-- A packet of one flit that waits at a link, without and with credits. -/
def waits (c : Nat) (op : BitVec 6) : LinkSt :=
  { LinkSt.fresh with credits := [c, 0, 0, 0], txq := [{ stamp := 0, rank := 0, input := 0, pkt := pkt op 0 0 7 [] }] }

theorem test_credit_met : ∃ q : Queued, (waits 0 0).headOf 0 = some q ∧ classField (waits 0 0).credits 0 < flitCount q.pkt.payload.length ∧
    (waits 1 0).headOf 0 = some q ∧ flitCount q.pkt.payload.length ≤ classField (waits 1 0).credits 0 := ⟨_, rfl, by decide⟩

theorem test_slot_training_met : ∀ k ∈ [{ LinkSt.fresh with report := 1, trainSent := 1024 }, { LinkSt.fresh with report := 1, trainSent := 1023 },
      LinkSt.fresh, { LinkSt.fresh with report := 1, trainSent := 1024, clkSwapTx := true }],
    ((linked linkTraining phyTraining phyTraining k).mesh.any fun f => f.dst == Edge.link 0) = false ∧
    ([flight (.link 0) (2, 0) (pkt 0 0 0 7 [])].any fun f => f.dst == Edge.link 0) = true ∧
    (linked linkTraining phyTraining phyTraining k).rd (.txl 0) fTxlPhyTxMode = phyTraining ∧
    (linked linkTraining phyTraining phyTraining k).linkState 0 = linkTraining ∧
    (linked linkRetrain phyTraining phyTraining k).linkState 0 = linkRetrain ∧
    (linked linkTraining phyTraining phyTraining k).lk 0 = k ∧
    ((linked linkTraining phyTraining phyTraining k).raise (.txl 0) fTxlPhyRxAligned).flag (.txl 0) fTxlPhyRxAligned = true ∧
    (linked linkTraining phyTraining phyTraining k).flag (.txl 0) fTxlPhyRxAligned = false := by decide

theorem test_slot_hello_met : ∃ d, d = linked linkHello phyData phyData LinkSt.fresh ∧ d.rd (.txl 0) fTxlPhyTxMode = phyData ∧
    d.linkState 0 = linkHello ∧ (d.lk 0).oweRetrain = 0 ∧ (d.lk 0).swapReq = none ∧ (d.lk 0).oweDone = 0 := ⟨_, rfl, by decide⟩

/-- A transmitter in data while its receiver trains, with HELLO to come and without; one that is parked. -/
theorem test_slot_waiting_met : ∀ b ∈ [true, false], ∃ d, d = linked linkRetrain phyData phyTraining { LinkSt.fresh with noHello := b } ∧
    d.rd (.txl 0) fTxlPhyTxMode = phyData ∧ d.linkState 0 = linkRetrain ∧ (d.lk 0).noHello = b ∧
    (d.put (.txl 0) fTxlPhyTxMode phyParked).rd (.txl 0) fTxlPhyTxMode = phyParked := by
  intro b h
  simp only [List.mem_cons, List.not_mem_nil, or_false] at h
  rcases h with rfl | rfl <;> exact ⟨_, rfl, by decide⟩

theorem test_slot_active_met : ∀ k ∈ [LinkSt.fresh, { LinkSt.fresh with replayAt := some 0, retry := [{ seq := 0, kind := .sole, body := 1 }] },
      { LinkSt.fresh with cur := [(.tail, 1)] }, { LinkSt.fresh with txCover := [(0, 1)] }, { LinkSt.fresh with sleepSent := true }, waits 1 0],
    (active k).rd (.txl 0) fTxlPhyTxMode = phyData ∧ (active k).linkState 0 = linkActive ∧ (active k).lk 0 = k ∧ k.sleepWanted = false ∧
    k.owesLink = false ∧ k.sinceLink < 31 ∧ ((active k).cur 0).stopped = false ∧
    ({ LinkSt.fresh with oweNak := true } : LinkSt).sleepWanted = false ∧ 31 ≤ ({ LinkSt.fresh with sinceLink := 31 } : LinkSt).sinceLink := by decide

/-- A link in ACTIVE with its shutters open. -/
def opened (k : LinkSt) : Device := puts (active k) [(.txl 0, fTxlShutterState, shutterOpen, 0), (curPage 0, fCurShutterState, shutterOpen, 0)]

/-- What an egress grants: nothing, a packet, an atomic that version 1.0 has not; with room, and behind a cover that must go first. -/
theorem test_slot_grant_met : (opened LinkSt.fresh).egressGrant 0 = none ∧
    (∀ op ∈ [(0 : BitVec 6), 5], ∃ q, q = { stamp := 0, rank := 0, input := 0, pkt := pkt op 0 0 7 [] } ∧
      (opened (waits 1 op)).egressGrant 0 = some q ∧
      ((opened (waits 1 op)).put (.txl 0) fTxlLinkStatusVersion 1).atomicRefused 0 q.pkt = (op == 5) ∧
      (waits 1 op).tagFirst (roomOf q.pkt) = false ∧
      ({ waits 1 op with txCover := List.replicate 32 (0, 1) } : LinkSt).tagFirst (roomOf q.pkt) = true ∧
      (waits 1 op).retry.length + roomOf q.pkt + ((active (waits 1 op)).curMode 0 == 2).toNat ≤ 64) := by
  refine ⟨by decide, ?_⟩
  simp only [List.forall_mem_cons, List.not_mem_nil, false_imp_iff, forall_const, and_true]
  exact ⟨⟨_, rfl, by decide⟩, ⟨_, rfl, by decide⟩⟩

/-! ### Protected memory -/

/-- Engine 0 with what stands behind its registers; window 0 is valid, of one page. -/
def engined (c : CurSt) : Device :=
  sets { svc with curs := [(0, c)] } [(curPage 0, fCurWinPagesPages, 1, 0), (curPage 0, fCurWinCtrlValid, 1, 0)]

theorem test_window_met : svc.takes .pf0 (curPage 0) (curPage 0) ∧ ((engined CurSt.fresh).window 0 0).isSome = true ∧ ((engined CurSt.fresh).cur 0).init = none ∧
    ((engined { CurSt.fresh with init := some 0 }).cur 0).init = some 0 ∧
    sget (fun _ => none) ((engined { CurSt.fresh with quar := [(31, some (0, 5))] }).cur 0).quar 31 = some (0, 5) := by
  unfold Device.takes Device.reaches; decide

theorem test_roll_met : ∀ m ∈ [1, 2], ∃ d, d = sets (engined { CurSt.fresh with key1 := some 3 }) [(curPage 0, fCurCurCfgMode, m, 0)] ∧
    d.flag (curPage 0) fCurCurStatusRollBusy = false ∧ (d.cur 0).slotLoaded (!d.curCurrent 0) = true ∧ d.curMode 0 = m ∧
    (d.raise (curPage 0) fCurCurStatusRollBusy).curMode 0 = m ∧ (d.raise (curPage 0) fCurCurStatusRollBusy).flag (curPage 0) fCurCurStatusRollBusy = true ∧
    (List.range 4).find? (fun w => ((d.raise (curPage 0) fCurCurStatusRollBusy).window 0 w).isSome) = some 0 ∧
    ((engined CurSt.fresh).cur 0).slotLoaded (!(engined CurSt.fresh).curCurrent 0) = false := by
  intro m h
  simp only [List.mem_cons, List.not_mem_nil, or_false] at h
  rcases h with rfl | rfl <;> exact ⟨_, rfl, by decide⟩

theorem test_roll_off_met : (engined CurSt.fresh).curMode 0 = 0 ∧ (linked 0 0 0 LinkSt.fresh).curMode 0 ≠ 1 := by decide

/-- The ends of a rotation: a sweep is done; both phases have changed. -/
theorem test_roll_done_met : (∃ d, d = sets (engined { CurSt.fresh with swept := true }) [(curPage 0, fCurCurCfgMode, 1, 0)] ∧
      (d.raise (curPage 0) fCurCurStatusRollBusy).flag (curPage 0) fCurCurStatusRollBusy = true ∧
      d.curMode 0 = 1 ∧ (d.cur 0).swept = true ∧ (d.cur 0).reenc = none) ∧
    ∃ d, d = puts (sets (engined CurSt.fresh) [(curPage 0, fCurCurCfgMode, 2, 0)])
        [(curPage 0, fCurCurStatusTxPhase, 1, 0), (curPage 0, fCurCurStatusRxPhase, 1, 0)] ∧
      d.curMode 0 ≠ 1 ∧ d.flag (curPage 0) fCurCurStatusTxPhase = !d.curCurrent 0 ∧
      d.flag (curPage 0) fCurCurStatusRxPhase = !d.curCurrent 0 := ⟨⟨_, rfl, by decide⟩, ⟨_, rfl, by decide⟩⟩

theorem test_init_done_met : ∃ d, d = engined { CurSt.fresh with init := some 0 } ∧ (d.cur 0).init = some 0 ∧ (d.window 0 0).isSome = true :=
  ⟨_, rfl, by decide⟩

theorem test_fetched_met : ∃ c : CurSt, c = { CurSt.fresh with fetched := [(.tags 0 2, some [1]), (.counter 0 0, none)] } ∧
    ((engined c).cur 0).fetched = (.tags 0 2, some [1]) :: [(.counter 0 0, none)] ∧
    ((engined { c with fetched := [(.counter 0 0, none)] }).cur 0).fetched = (.counter 0 0, none) :: [] ∧
    (((engined c).setCur 0 ((engined c).cur 0)).cur 0).poisonq = [] := ⟨_, rfl, by decide⟩

theorem test_tag_check_met : ∀ ok ∈ [true, false], ∃ k, ((engined { CurSt.fresh with checks := [{ src := 1, dst := 2, tag := 3, edge := .bay 0, results := [(0, 5, ok)] }] }).cur 0).checks =
    k :: [] ∧ (k.results.filter (fun x => !x.2.2)).isEmpty = ok ∧ (engined CurSt.fresh).cur 0 = CurSt.fresh ∧ CurSt.fresh.stopped = false := by
  intro ok h
  simp only [List.mem_cons, List.not_mem_nil, or_false] at h
  rcases h with rfl | rfl <;> exact ⟨_, rfl, by decide⟩

/-- A write request that has entered an engine. -/
def entered (op : BitVec 6) (cls : BitVec 2) : Entering :=
  { edge := .bay 0, ini := 0, rank := 0, input := 0, pkt := pkt op cls 0x40 63 (List.replicate 64 1) }

/-- A page under re-encryption: set off by a write or by a sweep, written and acknowledged or not. -/
theorem test_reencrypt_met : ∀ tr ∈ [none, some (entered 1 0, true)], ∀ b ∈ [true, false], ∃ d r,
    r = ({ window := 0, page := 0, trigger := tr, got := [], left := [], writing := b, writes := [] } : Reenc) ∧
    d = engined { CurSt.fresh with reenc := some r } ∧ (d.cur 0).reenc = some r ∧ (d.window 0 r.window).isSome = true ∧
    r.writing = b ∧ r.left = [] ∧ r.writes = [] ∧ (d.cur 0).stopped = false ∧ d.atSweep 0 0 0 = false ∧
    (puts (sets d [(curPage 0, fCurCurCfgMode, 1, 0)]) [(curPage 0, fCurCurStatusRollBusy, 1, 0)]).atSweep 0 0 0 = true := by
  simp only [List.forall_mem_cons, List.not_mem_nil, false_imp_iff, forall_const, and_true]
  refine ⟨⟨?_, ?_⟩, ⟨?_, ?_⟩⟩ <;> exact ⟨_, _, rfl, rfl, by decide⟩

/-- A partial write whose lines are acknowledged; one whose read was refused; one whose line has no tag to open it with; one with no
line left to merge. -/
theorem test_partial_write_met : ∀ x ∈ [(true, 0, 1), (false, 2, 1), (false, 0, 1), (false, 0, 0)], ∃ r : Rmw, ∃ d,
    r = { req := entered 1 0, window := 0, line := 1, lines := 1, got := List.replicate x.2.2 (1, List.replicate 64 0), left := 0, status := x.2.1, writing := x.1 } ∧
    d = engined { CurSt.fresh with rmw := some r } ∧ (d.cur 0).rmw = some r ∧ (d.window 0 r.window).isSome = true ∧ r.left = 0 ∧
    (d.cur 0).stopped = false ∧
    ((r.got.map fun y => (y.1, d.curOpen 0 r.window ((d.window 0 0).getD { node := 0, base := 0, pages := 1, ctr := 0, tag := 0 }) y.1 y.2)).filter
      (fun y => !y.2.2)).length = x.2.2 ∧
    r.req.pkt.cls ≠ 2 ∧ (entered 0x10 2).pkt.cls = 2 := by
  intro x h
  simp only [List.mem_cons, List.not_mem_nil, or_false] at h
  rcases h with rfl | rfl | rfl | rfl <;> exact ⟨_, _, rfl, rfl, by decide⟩

theorem test_engine_met : ∃ d e, d = (engined CurSt.fresh).setCur 0 { CurSt.fresh with stopped := true } ∧
    e = d.setEngine (svc.rd (curPage 0) fCurCurStatusEngine) 1 ∧ ((engined CurSt.fresh).cur 0).stopped = false ∧
    e.spareOf (engineGroup 0) = some 144 ∧ (e.setEngine 144 2).spareOf (engineGroup 0) = none ∧ (d.cur 0).stopped = true ∧
    sget (fun _ => 0) e.engines 0 = 1 ∧ (engined CurSt.fresh).spareOf 0 = some 144 ∧ d.curMode 0 ≠ 2 ∧
    covering.curMode 0 = 2 ∧ ((covering.setLk 0 { covering.lk 0 with retry := [{ seq := 0, kind := .sole, body := 1 }] }).lk 0).retry ≠ [] :=
  ⟨_, _, rfl, rfl, by decide⟩

/-! ### Loading -/

/-- A load under way. -/
def loading (l : LoadSt) : Device := { svc with load := l }

/-- A record of a configuration stream (R288). -/
def rec (typ : Nat) (words : List Nat) : List Byte := ((typ * 2 ^ 24 + words.length) :: words).flatMap (bytesLE 4)

/-- A HEADER: stream class and kind, broadcast (R291). -/
def header (cls kind wraps bc : Nat) : List Byte :=
  rec 1 [0x71440100, 0xA0 + cls * 2 ^ 8 + kind * 2 ^ 11 + (if cls = 0 then 0 else 2 * 2 ^ 20), 0, 0, 16, 0, wraps + bc * 256, 0]

theorem test_sync_met : (loading { LoadSt.fresh with phase := .sync, buf := bytesLE 4 0 ++ bytesLE 4 sync0 ++ bytesLE 4 sync1 }).load.phase = .sync ∧
    syncSearch 1025 0 (bytesLE 4 0 ++ bytesLE 4 sync0 ++ bytesLE 4 sync1) = (4, bytesLE 4 sync0 ++ bytesLE 4 sync1, some true) := by decide

theorem test_header_met : wordAt (header 1 0 1 0) 0 = 0x01000008 ∧ 36 ≤ (header 1 0 1 0).length ∧
    wordAt (rec 2 [0, 0, 0, 0, 0, 0, 0, 0]) 0 ≠ 0x01000008 ∧ hdrAccepted stepping (header 3 0 0 0) = false ∧
    (∀ h ∈ [header 1 0 1 0, header 1 1 16 1, header 2 1 0 0, header 0 2 0 0], hdrAccepted stepping h = true) ∧
    svc.kindAllowed 0 = false ∧ (inMode mDoorway).kindAllowed 0 = true ∧ svc.kindAllowed 1 = true ∧
    (hdrOf (header 1 1 16 1)).broadcast = true ∧ (hdrOf (header 1 0 1 0)).broadcast = false ∧ (hdrOf (header 2 1 0 0)).cls = 2 ∧
    (hdrOf (header 0 2 0 0)).cls = 0 ∧ ({ svc with keyRam := [(4, some 9)] } : Device).sealedKey 4 = some 9 := by decide

theorem test_broadcast_met : ∃ b, b = rec 9 [0x101, 143 + 3 * 256] ∧ wordAt b 0 / 2 ^ 24 = 0x09 ∧ wordAt b 0 % 2 ^ 24 = 2 ∧
    4 + 4 * 2 ≤ b.length ∧ wordAt b 1 % 16 = 1 ∧ (wordAt b 1).testBit 8 = true ∧ wordAt b 2 % 256 ≤ 143 := ⟨_, rfl, by decide⟩

theorem test_key_wrap_met : ∃ b, b = rec 3 (List.replicate 12 0) ∧ b.length = 52 ∧ wordAt b 0 = 0x0300000C ∧
    wordAt (rec 4 (List.replicate 12 0)) 0 ≠ 0x0300000C ∧ some [b.drop 4].length = (some (hdrOf (header 1 0 1 0))).map (·.wraps) ∧
    some [b.drop 4].length ≠ (some (hdrOf (header 1 1 16 1))).map (·.wraps) := ⟨_, rfl, by decide⟩

theorem test_segment_met : ∃ l : LoadSt, ∃ h, h = hdrOf (header 1 1 1 0) ∧
    l = { LoadSt.fresh with phase := .body, hdr := some h, key := some 3, buf := List.replicate 32 0 } ∧ h.cls ≠ 0 ∧ l.verified < h.bodyBytes ∧
    l.ready = false ∧ l.relay = false ∧ l.nextKey = none ∧ keyOverused h l.keyUsed l.seg = false ∧ segBytes h l.seg = 16 ∧
    16 + 16 ≤ l.buf.length ∧ ((loading l).takeBytes 32).2.load.key = some 3 := ⟨_, _, rfl, rfl, by decide⟩

/-- The body of a load that stands at a record. -/
def atRecord (kind : Nat) (body : List Byte) : Device :=
  loading { LoadSt.fresh with phase := .body, hdr := some (hdrOf (header 1 kind 1 0)), body := body, last := some (List.replicate 64 1, 0)
                              verified := 16, crc := 0xFFFFFFFF }

theorem test_record_met : ∀ x ∈ [(rtPad, []), (0x80, [1]), (rtFrameAddr, [7]), (rtCrcCheck, [0]), (rtStartSeq, [0x0629]), (rtStartSeq, [0x9999]), (rtKeyRoll, List.replicate 8 5),
      (rtSubstrate, 0x101 :: List.replicate 16 0), (rtSubstrate, [0x101]), (rtFrameRepeat, [1]), (rtFrameRepeat, [0]), (rtReadback, [0, 1, 0, 0]),
      (rtWindow, [3, 0, 0, 0]), (rtEnd, [0])],
    ((atRecord 1 (rec x.1 x.2)).takeRecord x.1).map (·.1) = some (x.2.flatMap (bytesLE 4)) ∧
    ((atRecord 1 (rec x.1 x.2)).takeRecord x.1).map (·.2.load.last.isSome) = some true := by decide

theorem test_record_values_met : 128 ≤ 0x80 ∧ wordAt (bytesLE 4 0) 0 = crcValue 0xFFFFFFFF ∧ wordAt (bytesLE 4 1) 0 ≠ crcValue 0xFFFFFFFF ∧
    stepsLegal 0x8D1 = true ∧ stepsLegal 0x9999 = false ∧ natBits 0x18F 0 8 + natBits 0x18F 8 8 = 144 ∧
    windowBays ([3, 0, 0, 0].flatMap (bytesLE 4)) = [0, 1] ∧ (∀ b ∈ [0, 1], b < 104) ∧
    [0, 1].any (fun b => svc.windowBusy false b) = false ∧
    (svc.put .repair fRepairMigStatePhase 1 0).windowBusy false 0 = true := by decide

theorem test_frames_met : ∃ d, d = loading { LoadSt.fresh with phase := .body, hdr := some (hdrOf (header 1 1 1 0)), addr := some 0, window := some [0]
                                                               body := bytesLE 4 (rtFrameData * 2 ^ 24 + 129) ++ bytesLE 4 1 } ∧
    d.load.next = some (rtFrameData, 129) ∧ 8 ≤ d.load.body.length ∧ wordAt d.load.body 1 % 2 ^ 16 = 1 ∧ natBits 1 16 2 = 0 ∧
    (129 : Nat) = 1 + 1 * 128 ∧ ({ d.load with framesLeft := 1 } : LoadSt).framesLeft ≠ 0 ∧
    ({ d.load with repeatLeft := 1 } : LoadSt).repeatLeft ≠ 0 ∧ ({ d.load with readLeft := 1 } : LoadSt).readLeft ≠ 0 ∧
    (frameAddrOf 0).exists_ false = true ∧ d.frameBay (hdrOf (header 1 1 1 0)) (frameAddrOf 0) = 0 ∧ [0].contains (0 : Nat) = true ∧
    [5].contains (0 : Nat) = false ∧ d.bayShutter 0 ≠ shutterClosed := ⟨_, rfl, by decide⟩

/-- END of a load without a frame. -/
theorem test_end_met : ∃ d e, d = loading { LoadSt.fresh with phase := .body, hdr := some { hdrOf (header 1 1 1 0) with bodyBytes := 8 }
                                                              body := rec rtEnd [0], verified := 8 } ∧
    (d.takeRecord rtEnd).map (·.2) = some e ∧ undefinedBy d (e.loadAbort abCrc) = none ∧ 8 ≤ e.load.verified ∧ e.load.writesOut = 0 ∧ e.load.writes = [] ∧
    padsOnly e.load.body.length e.load.body = true ∧ wordAt (bytesLE 4 0) 0 = crcValue e.load.crc ∧ e.load.frames = 0 :=
  ⟨_, _, rfl, rfl, defined_of rfl rfl (by decide) rfl rfl, by decide⟩

theorem test_load_met : svc.takes .pf0 .cfg .cfg ∧ undefinedBy svc svc.loadGo = none ∧ svc.loadGo = svc.raise .cfg cCfgLoadBusy ∧
    (∀ src ∈ [0, 5], (svc.put .cfg fCfgLoadSrcSource src).rd .cfg fCfgLoadSrcSource = src) ∧ svc.rd .cfg fCfgLoadSrcSource = 0 := by
  refine ⟨by unfold Device.takes Device.reaches; decide, defined_of rfl rfl (by decide) rfl rfl, rfl, by decide⟩

theorem test_fed_met : ∀ src ∈ [1, 3, 4], (loading { LoadSt.fresh with phase := .sync, src := src }).load.loading = true ∧
    (loading { LoadSt.fresh with phase := .sync, src := src }).load.src = src := by decide

theorem test_late_met : ∀ b ∈ [true, false], ∃ d, d = puts (loading { LoadSt.fresh with phase := .sync, src := 1, bound := b })
      [(.cfg, fCfgDeadlineStatusDeadline, 5, 0), (.cfg, fCfgLoadLimitLimit, 5, 0)] ∧ d.load.loading = true ∧ d.load.bound = b ∧
    d.rd .cfg fCfgDeadlineStatusDeadline ≠ 0 ∧ d.rd .cfg fCfgLoadLimitLimit ≠ 0 := by
  intro b h
  simp only [List.mem_cons, List.not_mem_nil, or_false] at h
  rcases h with rfl | rfl <;> exact ⟨_, rfl, by decide⟩

theorem test_pull_met : ({ svc with hostReqs := [(3, some { fn := .pf0, addr := 0, len := 2, use := .pull 0 })] } : Device).oldestPull =
      some (0, 3, { fn := .pf0, addr := 0, len := 2, use := .pull 0 }) ∧ ([1, 2] : List Byte).length = 2 := by decide

/-! ### Start-up and scrubbing -/

/-- A start-up at a step. -/
def starting (code : Nat) : Device :=
  puts { svc with load := { LoadSt.fresh with phase := .steps [], hdr := some (hdrOf (header 1 1 1 0)), window := some [0], written := [0] } } [(.cfg, fCfgLoadStatusStep, code, 0)]

theorem test_startup_met : (∀ st ∈ [stLock, stGsr, stWrites, stOutputs, stLatch], (starting st).load.starting = true ∧ (starting st).step = st) ∧
    ([1, 2, 3, 4].all fun p => !(starting stLock).pairNeeded (starting stLock).load.region p || (starting stLock).flag .clk fClkSrcStatusLocked p) = true ∧
    (starting stGsr).fullStartup = false ∧
    ({ starting stGsr with load := { (starting stGsr).load with hdr := some (hdrOf (header 1 0 1 0)) } } : Device).fullStartup = true ∧
    (puts (starting stLatch) [(.cfg, fCfgLatchDriving, 0, 0)]).flag .cfg fCfgLatchDriving = false ∧
    ((puts (starting stLatch) [(.cfg, fCfgLatchDriving, 0, 0)]).raise .cfg fCfgLatchLevel).step = stLatch ∧
    (puts (starting stLatch) [(.cfg, fCfgLatchLimit, 5, 0)]).rd .cfg fCfgLatchLimit ≠ 0 ∧ (starting stLock).load.region = [0] := by decide

theorem test_startup_lock_fails_met : ∃ d, d = { starting stLock with bayCfg := [(0, { BayCfg.empty with selected := [0] })] } ∧
    ([1, 2, 3, 4].all fun p => !d.pairNeeded d.load.region p || d.flag .clk fClkSrcStatusLocked p) = false := ⟨_, rfl, by decide⟩

theorem test_outputs_met : undefinedBy (starting stOutputs) ((starting stOutputs).put (.pbay 0) fPbayShutterState shutterOpen) = none :=
  defined_of rfl rfl (by decide) rfl rfl

theorem test_scrub_met : ∃ d, d = { svc.raise .scrub hdrEnable with scrubAt := some 0 } ∧ d.scrubRuns = true ∧ (svc.raise .scrub hdrEnable).scrubAt = none ∧
    (Device.scrubFrom 113 d (frameAddrOf 0)).isSome = true ∧ passNext (frameAddrOf 0) ≠ none ∧
    passNext { bay := 111, typ := 4, major := 0, minor := minorsOf 4 0 - 1 } = none ∧ svc.takes .pf0 .scrub .scrub ∧
    bitsOf (0x4800 ||| 0x80000000) 8 7 ≤ 72 := by
  refine ⟨_, rfl, by decide, by decide, by decide, by decide, by decide, ?_, by decide⟩
  unfold Device.takes Device.reaches; decide

/-- A pass that has only bays to skip before it. -/
theorem test_scrub_all_skipped_met : Device.scrubFrom 113 { svc with fabricOn := false } (frameAddrOf (111 * 2 ^ 25)) = none ∨
    Device.scrubFrom 113 { svc with bayOff := [(111, true)] } (frameAddrOf (111 * 2 ^ 25)) = none := by decide

theorem test_upset_met : storedAddr { frameAddrOf 0 with bay := 111 } = true ∧ svc.fabricOn = true := by decide

/-! ### The warden and repair -/

/-- Mailbox 0 serves a request of the words given; fabric spares are untested. -/
def asking (ws : List Word) : Device := svc.setMailbox 0 { Mailbox.empty with running := some ws }

theorem test_service_met : svc.takes .pf0 (.warden 0) (.warden 0) ∧
    (∀ k ∈ [1, 2, 3, 4, 5, 6, 7, 8, 9], (asking [BitVec.ofNat 32 k, 0, 0, 0]).serviceReq 0 k = some [BitVec.ofNat 32 k, 0, 0, 0]) ∧
    (asking [1, 0, 0, 0]).migJudge 0 = wsOk ∧ (asking [1, 0, 0, 0]).freeBay 0 = some 13 ∧ reqWord [1, 103, 0, 0] 1 % 128 = 103 ∧
    (inMode mLoad).migJudge 0 = wsDenied ∧ wsDenied ≠ wsOk ∧ wsDenied ≠ wsNoSpare ∧ reqWord [1, 0, 0, 0] 2 = 0 ∧
    (!(reqWord [1, 0, 64, 0] 2 == 0 && reqWord [1, 0, 64, 0] 3 == 0)) = true := by
  refine ⟨?_, by decide, by decide, by decide, by decide, by decide, by decide, by decide, by decide, by decide⟩
  unfold Device.takes Device.reaches; decide

/-- The request names no bay, or another bay than the row. -/
theorem test_migrate_mismatch_met : reqWord [1, 104] 1 % 128 = 104 ∧ reqWord [1, 5] 1 % 128 ≠ 104 := by decide

/-- No bay of row 0 is free. -/
theorem test_no_spare_met : (puts (asking [1, 0, 0, 0]) [(.repair, fRepairMigStatePhase, 0, 0)]).migJudge 0 = wsOk ∧
    ((asking [1, 0, 0, 0]).retireBay 13 false).migJudge 0 = wsNoSpare := by decide

/-- Services whose reads or writes have ended, well or not. -/
theorem test_service_done_met : ∀ code ∈ [(5 : Nat), 6, 8], ∀ b ∈ [true, false], ∃ ws j, ws = [BitVec.ofNat 32 code, 0x0100, 0, 0] ∧
    j = ({ write := code == 8, addr := 0, len := 2, data := [], asked := 2, out := 0, got := [(0, [1, 2])], bad := b } : WardenJob) ∧
    (svc.setMailbox 0 { Mailbox.empty with running := some ws, started := true, job := some j }).serviceDone 0 code = some (ws, j) ∧
    j.result = (if b then none else some [1, 2]) := by
  simp only [List.forall_mem_cons, List.not_mem_nil, false_imp_iff, forall_const, and_true]
  refine ⟨⟨?_, ?_⟩, ⟨?_, ?_⟩, ⟨?_, ?_⟩⟩ <;> exact ⟨_, _, rfl, rfl, by decide⟩

theorem test_bay_request_met : svc.bayRequest [2, 0] = .inl wsBusy ∧ svc.bayRequest [2, 13] = .inr 13 ∧ svc.bayRequest [2, 112] = .inl wsInvalid ∧
    (reqWord [2, 0x100 + 13] 1).testBit 8 = true ∧ (reqWord [2, 13] 1).testBit 8 = false := by decide

theorem test_key_service_met : (reqWord [4, 0x1000 + 11, 11] 1).testBit 12 = true ∧ (reqWord [4, 0x1000 + 11, 11] 1).testBit 16 = false ∧
    reqWord [4, 0x1000 + 11, 11] 1 % 256 = 11 ∧ reqWord [4, 0x1000 + 11, 11] 2 ≤ 11 ∧ svc.sealedKey 11 = none ∧
    ({ svc with keyRam := [(11, some 9)] } : Device).sealedKey 11 = some 9 := by decide

theorem test_table_service_met : natBits (reqWord [5, 0x018F] 1) 8 8 = 1 ∧ reqWord [5, 0x018F] 1 % 256 + 1 = 144 ∧
    144 < reqWord [5, 0x028F] 1 % 256 + natBits (reqWord [5, 0x028F] 1) 8 8 ∧ natBits (reqWord [5, 0] 1) 8 8 = 0 := by decide

theorem test_restore_met : reqWord [7, 3 + 155 * 256] 1 % 16 = 3 ∧ natBits (reqWord [7, 3 + 155 * 256] 1) 8 8 = 155 ∧
    sget (fun _ => 0) (svc.setEngine 155 2).engines 155 = 2 := by decide

theorem test_record_service_met : svc.mode ≠ mDoorway ∧ (3 : Fin 4).val ≠ 0 ∧ (inMode mDoorway).mode = mDoorway := by decide

/-- Row 0 migrates bay 0 to the spare, at a phase; the request may have named a stream, which is still being read. -/
def migrating (phase : Nat) (reads : Bool) : Device :=
  (puts { svc with migs := [(0, some { mbx := if reads then some 0 else none, stream := reads, golden := [], goldenStatus := wsOk, due := none, holding := none
                                       cloned := 0, since := 0 })] }
    [(.repair, fRepairMigStatePhase, phase, 0), (.repair, fRepairMigStateSource, 0, 0), (.repair, fRepairMigStateTarget, 13, 0)]).setMailbox 0
    { Mailbox.empty with job := some { write := false, addr := 0, len := 2, data := [], asked := 0, out := 0, got := [], bad := false } }

theorem test_migration_met : ∀ ph ∈ [1, 2], ∀ b ∈ [true, false], ∃ m, (migrating ph b).mig 0 = some m ∧ (migrating ph b).migPhase 0 = ph ∧
    (migrating ph b).testOf 13 = none ∧ (migrating ph b).migSource 0 = 0 ∧ (migrating ph b).migTarget 0 = 13 ∧ (migrating ph b).streamReading m = b := by
  simp only [List.forall_mem_cons, List.not_mem_nil, false_imp_iff, forall_const, and_true]
  refine ⟨⟨?_, ?_⟩, ⟨?_, ?_⟩⟩ <;> exact ⟨_, rfl, by decide⟩

theorem test_selftest_met : svc.mode = mService ∧ svc.wardenDead = false ∧ svc.steerCode 13 = codePool ∧ svc.migPhase 0 = 0 ∧ svc.testDue 13 = true ∧
    svc.flag (.pbay 13) fPbayBayCfgStateInPr = false ∧ (svc.tests.all fun e => e.2.isNone) = true ∧
    (svc.setTest 13 (some (.prepare 0))).testOf 13 = some (.prepare 0) := by decide

/-- A reading of 255 everywhere, and one of 0: the score falls below MIGRATE_AT, and stays. -/
theorem test_health_met : ∃ e, e = { svc with healthTick := [(0, 1)] } ∧ svc.fabricOn = true ∧ sget (fun _ => false) svc.bayOff 0 = false ∧
    e.flag (.pbay 0) fPbayHealthTested = false ∧ e.score 0 255 < e.rd .repair fRepairPolicyMigrateAt ∧
    e.rd .repair fRepairPolicyMigrateAt ≤ (e.put (.pbay 0) fPbayHealthScore 100).rd (.pbay 0) fPbayHealthScore ∧
    e.rd .repair fRepairPolicyMigrateAt ≤ e.score 0 0 := ⟨_, rfl, by decide⟩

theorem test_no_policy_met : ∀ k : Nat, k < 13 → sget (fun _ => false) svc.policy (Fin.ofNat 104 (13 * 7 + k)).val = false := by decide

/-! ### The host -/

/-- PF1 is ready; window 0 of PF1 takes the first 2^20 bytes; doorbell 63 is PF1's. -/
def hosted : Device :=
  sets { svc with pf1Ready := true }
    [(.pcie, fPcieWinCtrlValid, 1, 0), (.pcie, fPcieWinCtrlOwner, 0, 0), (.pcie, fPcieWinCtrlSizeLog2, 20, 0), (.pcie, fPcieWinCtrlNp, 1, 0),
     (.pcie, fPcieDbCtrlOwner, 0, 63), (.pcie, fPcieDbCtrlValid, 1, 63), (.pcie, fPcieDbCtrlOwner, 5, 0)]

theorem test_host_window_met : ownerCode .pf1 = some 0 ∧ ownerCode (.vf 31) = some 32 ∧ hosted.fnReady .pf1 = true ∧ hosted.hostWindow 0 0xFFFFF = some 0 ∧
    hosted.hostWindow 0 0x100000 = none ∧ hosted.eff .pcie fPcieWinCtrlNp 0 = 1 ∧ svc.eff .pcie fPcieWinCtrlNp 0 ≠ 1 ∧
    hosted.eff .pcie fPcieDbCtrlOwner 63 = 0 ∧ hosted.eff .pcie fPcieDbCtrlOwner 0 ≠ 0 ∧ hosted.eff .pcie fPcieDbCtrlValid 63 ≠ 0 ∧
    (∀ v ∈ [shutterOpen, shutterClosed], (hosted.put .hdma fHdmaShutterState v).hdmaShut = (v != shutterOpen)) := by decide

theorem test_host_completion_met : ∀ u ∈ [HostUse.fabric .host (pkt 0 0 0 7 []), .descriptor 0 1, .dmaData 63 2 0], ∃ r : HostReq,
    sget (fun _ => (none : Option HostReq)) ({ svc with hostReqs := [(7, some { fn := .pf1, addr := 0, len := 2, use := u })] } : Device).hostReqs 7 = some r ∧
    r.use = u ∧ ([1, 2] : List Byte).length = r.len := by
  intro u h
  simp only [List.mem_cons, List.not_mem_nil, or_false] at h
  rcases h with rfl | rfl | rfl <;> exact ⟨_, rfl, by decide⟩

theorem test_function_met : svc.mode ≠ mDormant ∧ (6 : BitVec 3).toNat ≤ 6 ∧ (16 : BitVec 5).toNat ∈ [1, 2, 4, 8, 16] ∧ svc.fnReady .pf0 = true ∧
    svc.fnReady .pf1 = false ∧ PcieFn.vf 0 ≠ .pf0 ∧ hosted.fnReady .pf1 = true ∧
    ({ hosted with pciCfg := [((1 : Nat) * 64 + cfgRegCode .sriovControl, 1), (1 * 64 + cfgRegCode .numVfs, 32)] } : Device).fnReady (.vf 31) = true := by decide

theorem test_channel_met : svc.takes .pf0 .hdma .hdma := by unfold Device.takes Device.reaches; decide

/-- A descriptor that is over, and one that has failed. -/
theorem test_descriptor_met : ∀ code ∈ [0, 3], ∃ d x, x = ({ idx := 0, bytes := some (List.replicate 32 0), begun := true, next := 2 ^ 32, pieces := [], code := code } : Descriptor) ∧
    d = puts { hosted with pciCfg := [((1 : Nat) * 64 + cfgRegCode .command, 4)], chans := [(0, { descs := [x], stopping := false })] }
      [(.hdma, fHdmaRingCfgOwner, 0, 0), (.hdma, fHdmaChStatusState, chRunning, 0)] ∧
    (d.chan 0).descs = x :: [] ∧ d.chanFn 0 = some .pf1 ∧ d.chState 0 = chRunning ∧ x.over = true ∧ x.bytes = some (List.replicate 32 0) := by
  intro c h
  simp only [List.mem_cons, List.not_mem_nil, or_false] at h
  rcases h with rfl | rfl <;> exact ⟨_, _, rfl, rfl, by decide⟩

/-! ### Tenant cores -/

/-- Core 0 in a state of its own. -/
def cored (k : CoreSt) : Device := { svc with cores := [(0, k)] }

/-- A core that runs at address 0. -/
def runs : CoreSt := { CoreSt.fresh with mode := .running }

/-- The device after core 0 has fetched its word. -/
def fetched (d : Device) : Device := ((d.atInsn 0).fetchExc 0).2

theorem ready_fetched {d : Device} (h : d.unwatched 0) (hc : d.coreClock = true) (hf : ((d.atInsn 0).fetchExc 0).1 = none)
    (hu : (fetched d).unwatched 0) : d.ready 0 (fetched d) := ⟨h, hc, Prod.ext hf rfl, hu⟩

/-- Core 0 runs and holds registers and control registers. -/
def holds (regs crs : Sparse Word) : Device := cored { runs with regs := regs, crs := crs }

theorem test_ready_met : (holds [] []).ready 0 (fetched (holds [] [])) := by
  apply ready_fetched <;> (try unfold Device.unwatched) <;> decide

theorem test_register_insn_met : (holds [(1, 5), (2, 0xFFFFFFFF)] []).ready 0 (fetched (holds [(1, 5), (2, 0xFFFFFFFF)] [])) ∧
    ((fetched (holds [(1, 5), (2, 0xFFFFFFFF)] [])).core 0).reg 1 = 5 ∧
    ((fetched (holds [(1, 5), (2, 0xFFFFFFFF)] [])).core 0).reg 2 = 0xFFFFFFFF ∧
    (31 : BitVec 18).toNat < 32 ∧ 32 ≤ (32 : BitVec 18).toNat := by
  refine ⟨?_, by decide⟩
  apply ready_fetched <;> (try unfold Device.unwatched) <;> decide

/-- Core 0 with an address in w1, an aperture that is open for posted or non-posted stores, and its node assigned or not. -/
def aims (a lo : Word) (node : Nat) : Device := sets (holds [(1, a)] [(32, lo)]) [(.mesh, fMeshNodeCoreId, node, 0)]

theorem test_aims_ready : ∀ a ∈ ([0x100, 0x20001, 0x08008040, 0x80000000, 0x90000000] : List Word), ∀ lo ∈ ([1, 3] : List Word),
    ∀ n ∈ [1, 1023], (aims a lo n).ready 0 (fetched (aims a lo n)) ∧ ((fetched (aims a lo n)).core 0).reg 1 = a := by
  simp only [List.forall_mem_cons, List.not_mem_nil, false_imp_iff, forall_const, and_true]
  refine ⟨?_, ?_, ?_, ?_, ?_⟩ <;> refine ⟨?_, ?_⟩ <;> refine ⟨?_, ?_⟩ <;> refine ⟨?_, by decide⟩ <;>
    apply ready_fetched <;> (try unfold Device.unwatched) <;> decide

theorem pairs {α β : Type} {p : α × β} {a : α} (h : p.1 = a) : p = (a, p.2) := by subst h; rfl

theorem test_core_load_met : ∃ e, e = fetched (aims 0x20004 1 1) ∧
    misalignedAt 0x20001 2 = true ∧ misalignedAt 0x20004 4 = false ∧ regionOf 0x20004 = .dtcm ∧ regionOf 0x1FFFC = .itcm ∧
    (∃ e1, e.tcmRead 0 0x20004 4 = (some [0, 0, 0, 0], e1) ∧ e1.unwatched 0) ∧
    regionOf 0x08008040 = .mgmt 0x8040 ∧ (∃ v e1, e.mgmtRead (.core 0) false 0x8040 = (v, e1) ∧ e1.unwatched 0) ∧
    regionOf 0x80000000 = .aperture 0 0 ∧ regionOf 0xFFFFFFFC = .aperture 15 0x07FFFFFC ∧ e.apValid 0 0 = true ∧ e.apValid 0 15 = false ∧
    regionOf 0x40000 = .hole ∧ regionOf 0x0C000000 = .hole ∧ misalignedAt 0xFFFFFFFC 4 = false := by
  refine ⟨_, rfl, by decide, by decide, by decide, by decide, ⟨_, pairs (by decide), ?_⟩, by decide,
    ⟨_, _, pairs rfl, ?_⟩, by decide⟩ <;> unfold Device.unwatched <;> decide

/-- Two stored bits of the first word of the data memory have changed. -/
def upsetWord : Device := { aims 0x20000 1 1 with tcm := ramFlip (ramFlip [] 0x4000 0) 0x4000 1 }

theorem test_load_bad_met : upsetWord.ready 0 (fetched upsetWord) ∧ ∃ e1, (fetched upsetWord).tcmRead 0 0x20000 4 = (none, e1) := by
  refine ⟨?_, _, pairs (by decide)⟩
  apply ready_fetched <;> (try unfold Device.unwatched) <;> decide

theorem test_core_issue_met (cont : Cont) (p : Packet) :
    (∃ t e1, (fetched (aims 0x80000000 1 1)).coreIssue 0 cont p = .sent t e1) ∧
    (∃ st, (fetched (aims 0x80000000 1 1023)).coreIssue 0 cont p = .refused st) := by
  unfold Device.coreIssue
  have ht : (fetched (aims 0x80000000 1 1)).coreTag 0 = some 0 := by decide
  rw [if_neg (by decide), if_neg (by decide), ht, if_pos (by decide)]
  exact ⟨⟨_, _, rfl⟩, ⟨_, rfl⟩⟩

/-- What core 0 stored at a local address, and whether the memory took it. -/
def stored (d : Device) (a : Nat) (bs : List Byte) : Bool × Device := (fetched d).tcmWrite 0 a bs

theorem test_store_met : (stored (aims 0x20004 3 1) 0x20004 [1, 2, 3, 4]).1 = true ∧
    (stored (aims 0x20004 3 1) 0x20004 [1, 2, 3, 4]).2.unwatched 0 ∧
    undefinedBy (aims 0x20004 3 1) ((stored (aims 0x20004 3 1) 0x20004 [1, 2, 3, 4]).2.setPc 0 4) = none ∧
    (fetched (aims 0x20004 3 1)).apNp 0 0 = true ∧ (fetched (aims 0x20004 1 1)).apNp 0 0 = false := by
  refine ⟨by decide, ?_, defined_of rfl rfl (by decide) rfl rfl, by decide⟩
  unfold Device.unwatched; decide

theorem test_store_bad_met : (stored upsetWord 0x20000 [1]).1 = false ∧
    undefinedBy upsetWord ((stored upsetWord 0x20000 [1]).2.insnExc 0 (exBus 0x20000 busTcm)) = none :=
  ⟨by decide, defined_of (by decide) (by decide) (by decide) (by decide) (by decide)⟩

theorem test_store_mgmt_met : ∃ e e1, e = fetched (aims 0x08008044 1 1) ∧ e.mgmtWrite0 (.core 0) 0x8044 5 = some e1 ∧ e1.unwatched 0 ∧
    undefinedBy (aims 0x08008044 1 1) (e1.setPc 0 4) = none ∧ e.mgmtWrite0 (.core 0) 0x600044 5 = none := by
  refine ⟨_, _, rfl, rfl, ?_, defined_of rfl rfl (by decide) rfl rfl, rfl⟩
  unfold Device.unwatched; decide

theorem test_control_met : ∃ e, e = fetched (holds [(1, 8), (2, 0x80000000)] [(0, 4)]) ∧ (holds [(1, 8), (2, 0x80000000)] [(0, 4)]).ready 0 e ∧
    (e.core 0).reg 1 ≠ (e.core 0).reg 2 ∧ ((e.core 0).reg 2).slt ((e.core 0).reg 1) = true ∧
    ((e.core 0).reg 1).ult ((e.core 0).reg 2) = true ∧ ((e.core 0).reg 1 + (4 : BitVec 18).signExtend 32).toNat % 4 = 0 ∧
    ((e.core 0).reg 1 + (3 : BitVec 18).signExtend 32).toNat % 4 ≠ 0 ∧ (e.core 0).exl = true ∧ (e.returnExc 0).unwatched 0 ∧
    ((fetched (holds [] [])).core 0).exl = false := by
  refine ⟨_, rfl, ?_, by decide, by decide, by decide, by decide, by decide, by decide, ?_, by decide⟩
  · apply ready_fetched <;> (try unfold Device.unwatched) <;> decide
  · unfold Device.unwatched; decide

/-- The core after WFI, with the store-failure interrupt enabled and standing, or not. -/
def pausing (b : Bool) : Device :=
  cored { runs with pc := 4, mode := .wfi, crs := [(9, 8)], fail := if b then some (0, 1, 0) else none }

theorem test_wfi_met : ((pausing false).irqSources 0).isEmpty = true ∧ ((pausing true).irqSources 0).isEmpty = false := by decide

theorem test_exception_met : ((holds [] []).core 0).exl = false ∧ (exMisaligned 0x20001).code ≠ 0 ∧
    (holds [] []).dbgRd 0 fDbgcRunCtrlCatch = 0 ∧ (0 : Nat).testBit ((exMisaligned 0x20001).code - 1) = false ∧
    ((holds [] [(0, 4)]).core 0).exl = true ∧ 4 < excIrq := by decide

theorem test_exception_enters : ∃ k, k = ((holds [(1, 7)] [(0, 1), (4, 0x400)]).takeExc 0 (exMisaligned 0x20001) 8).core 0 ∧
    k.cr crEpc = 8 ∧ k.cr crEinfo = 0x20001 ∧ k.cr crStatus = statusWord false true true ∧
    k.pc = 0x400 + BitVec.ofNat 32 (0x20 * (exMisaligned 0x20001).code) ∧ k.reg 1 = 7 := ⟨_, rfl, by decide⟩

/-- A request of core 0 that is outstanding. -/
def owes : Device := { aims 0x80000000 1 1 with reqs := [(0, some { dst := 0, op := 1, laddr := 0, len := 3, phase := .active, cont := .coreStore 0 0 0 })] }

/-- Core 0 after a store of its own has failed. -/
def failed : Device := cored { runs with fail := some (0, 1, 0x80000000) }

theorem test_mesh_insn_met : ∃ e, e = fetched (aims 0x80000000 1 1) ∧ pairReg 2 = true ∧ pairReg 0 = false ∧ pairReg 3 = false ∧
    (0x80000000 : Word).toNat % 8 = 0 ∧ regionOf 0x80000000 = .aperture 0 0 ∧ e.apValid 0 0 = true ∧ e.coreOutstanding 0 = 0 ∧
    (e.core 0).fail = none ∧ (fetched failed).coreOutstanding 0 = 0 ∧ ((fetched failed).core 0).fail = some (0, 1, 0x80000000) ∧
    (fetched owes).coreOutstanding 0 ≠ 0 :=
  ⟨_, rfl, by decide⟩

theorem test_mesh_insn_ready : failed.ready 0 (fetched failed) ∧ owes.ready 0 (fetched owes) ∧
    ∃ e1, e1 = (fetched (aims 0x80000000 1 1)).corePosted 0 ((fetched (aims 0x80000000 1 1)).corePacket 2 0x11 0 8 0 [1, 0, 0, 0, 2, 0, 0, 0]) ∧
      e1.unwatched 0 := by
  refine ⟨?_, ?_, _, rfl, ?_⟩
  · apply ready_fetched <;> (try unfold Device.unwatched) <;> decide
  · apply ready_fetched <;> (try unfold Device.unwatched) <;> decide
  · unfold Device.unwatched; decide

/-- Core 0 with a reserved granule, or none. -/
def reserved (r : Option Nat) : Device := cored { runs with regs := [(1, 0x20000)], resv := r }

theorem test_reservation_met : ∃ e, e = fetched (reserved (some 0x4000)) ∧ (reserved (some 0x4000)).ready 0 e ∧
    (e.core 0).reg 1 = 0x20000 ∧ (e.core 0).resv = some ((0x20000 : Word).toNat / 8) ∧ regionOf 0x20000 = .dtcm ∧
    (e.tcmRead 0 0x20000 4).1 = some [0, 0, 0, 0] ∧ (e.tcmRead 0 0x20000 4).2.unwatched 0 ∧
    (e.tcmWrite 0 0x20000 [1, 0, 0, 0]).1 = true ∧ (e.tcmWrite 0 0x20000 [1, 0, 0, 0]).2.unwatched 0 ∧
    ((fetched (reserved none)).core 0).resv ≠ some ((0x20000 : Word).toNat / 8) := by
  refine ⟨_, rfl, ?_, by decide, by decide, by decide, by decide, ?_, by decide, ?_, by decide⟩
  · apply ready_fetched <;> (try unfold Device.unwatched) <;> decide
  all_goals unfold Device.unwatched; decide

theorem test_control_register_met : crListed 0 = true ∧ crListed 16 = true ∧ crListed 63 = true ∧ crListed 21 = false ∧
    ((fetched (holds [] [])).writeCr 0 4 0x400).unwatched 0 := by
  refine ⟨by decide, by decide, by decide, by decide, ?_⟩
  unfold Device.unwatched; decide

theorem test_porter_insn_met : ∃ e, e = fetched (holds [(1, 5), (2, 0x1000000)] []) ∧ (e.take 0).2.unwatched 0 ∧ (e.yieldTask 0).unwatched 0 ∧
    (e.sleepTask 0 5).unwatched 0 ∧ ((e.core 0).reg 1).toNat < 2 ^ 24 ∧ 2 ^ 24 ≤ ((e.core 0).reg 2).toNat := by
  refine ⟨_, rfl, ?_, ?_, ?_, by decide⟩ <;> unfold Device.unwatched <;> decide

theorem test_interrupt_met : ∃ d, d = cored { runs with crs := [(0, 1), (9, 8)], fail := some (0, 1, 0) } ∧
    (d.core 0).mode = .running ∧ d.irqNow 0 = some 35 := ⟨_, rfl, by decide⟩

theorem test_timer_met : ∃ k, k = (cored { runs with crs := [(14, 100), (15, 0)] }).core 0 ∧ k.mode ≠ .reset ∧
    (cored { runs with crs := [(14, 100), (15, 0)] }).coreClock = true ∧
    k.cycle.toNat < (k.cr 14).toNat + (k.cr 15).toNat * 2 ^ 32 := ⟨_, rfl, by decide⟩

/-- Core 0 running with its watchdog enabled. -/
def watched : Device := puts (cored runs) [(.tcore 0, fTcoreWdCtrlEn, 1, 0), (.tcore 0, fTcoreWdLoad, 9, 0), (.tcore 0, fTcoreCoreCtrlHold, 0, 0)]

theorem test_watchdog_met : ∃ d, d = ((watched.raise (.tcore 0) cTcoreWdExpired).count (.tcore 0) 5).coreReset 0 ∧
    watched.flag (.tcore 0) fTcoreWdCtrlEn = true ∧ watched.coreClock = true ∧ (watched.core 0).mode ≠ .halted ∧
    (d.put (.tcore 0) fTcoreWdCount (d.rd (.tcore 0) fTcoreWdLoad)).flag (.tcore 0) fTcoreCoreCtrlHold = false :=
  ⟨_, rfl, by decide⟩

theorem test_hold_met : watched.takes .pf0 (.tcore 0) (.tcore 0) ∧ watched.flag (.tcore 0) fTcoreCoreCtrlHold = false ∧
    (∀ h ∈ [0, 1], ∃ d, d = puts watched [(.tcore 0, fTcoreCoreCtrlHold, 1, 0), (.dbg, dbgF 0 fDbgcRunCtrlHaltOnReset, h, 0)] ∧
      d.flag (.tcore 0) fTcoreCoreCtrlHold = true ∧
      ((d.lower (.tcore 0) fTcoreCoreCtrlHold).coreStart 0).dbgFlag 0 fDbgcRunCtrlHaltOnReset = (h == 1)) := by
  unfold Device.takes Device.reaches
  simp only [List.forall_mem_cons, List.not_mem_nil, false_imp_iff, forall_const, and_true]
  exact ⟨by decide, by decide, ⟨_, rfl, by decide⟩, ⟨_, rfl, by decide⟩⟩

theorem test_sweep_core_met : svc.coreClock = true ∧ (0 : BitVec 14).toNat < 8192 := by decide

/-- Task 0 in a state, and its wake tick. -/
def tasked (st wake : Nat) : Device := (svc.setState 0 st).setTaskWord 0 4 wake

theorem test_task_met : svc.takes .pf0 .porter .porter ∧ ∀ st ∈ [tFree, tBlocked, tReady, tRunning, tDelayed],
    eccVerdict (sget ramDflt (tasked st 0).porterRam (8 * (0 : Task).toNat)) = .good ∧ (tasked st 0).taskState 0 = st := by
  unfold Device.takes Device.reaches; decide

theorem test_delayed_met : (tasked tDelayed 0).wakeDue 0 = true ∧ (tasked tDelayed 100).wakeDue 0 = false ∧ svc.coreClock = true ∧
    ∃ d, d = { tasked tDelayed 0 with porter := { (tasked tDelayed 0).porter with delay := [0] } } ∧
      (d.porter.delay.find? fun t => d.wakeDue t) = some 0 ∧ d.taskState 0 = tDelayed ∧ d.coreClock = true ∧
      eccVerdict (sget ramDflt d.porterRam 0) = .good := ⟨by decide, by decide, by decide, _, rfl, by decide⟩

theorem test_descriptor_bad_met : eccVerdict (sget ramDflt (ramFlip (ramFlip [] 0 0) 0 1) (8 * (0 : Task).toNat)) = .bad := by decide

theorem test_trace_flush_met : undefinedBy svc (svc.fieldsWrite .porter fPorterTraceCtrlEn.off (0x03FF0A03 &&& ~~~(2 : Word)) (fun _ => false)) = none :=
  defined_of (by decide) (by decide) (by decide) (by decide) (by decide)

theorem test_debug_port_met : svc.debugs .port ∧ svc.debugs .window ∧ (svc.put .dbg fDbgOwner (portCode .window)).debugs .window := by
  unfold Device.debugs; decide

theorem test_owner_met : svc.rd .dbg fDbgOwner = 0 ∧
    (svc.put .dbg fDbgOwner (portCode .port)).rd .dbg fDbgOwner = portCode .port := by decide

theorem test_map_met : svc.memBusy = false ∧ undefinedBy svc (svc.mapAccess .port false) = none :=
  ⟨by decide, defined_of (by decide) (by decide) (by decide) (by decide) (by decide)⟩

/-- Core 0 halted. -/
def halted : Device := cored { runs with mode := .halted }

theorem test_run_control_met : halted.coreSealed 0 = false ∧ halted.word (0xA000 + dbgCore 0) = 0 ∧ (0 : Word).getLsbD 0 = false ∧
    (0 : Word).getLsbD 1 = false ∧ halted.feedReady 0 = true ∧ halted.coreClock = true ∧
    (halted.fieldsWrite .dbg (dbgCore 0) 1 (fun _ => false)).coreSealed 0 = false ∧
    (halted.fieldsWrite .dbg (dbgCore 0) 4 (fun _ => false)).coreSealed 0 = false ∧
    (svc.raise (.tcore 0) fTcoreCoreStatusSealed).coreSealed 0 = true := by decide

theorem test_step_core_met : undefinedBy halted
    ((halted.fieldsWrite .dbg (dbgCore 0) (halted.word (0xA000 + dbgCore 0) ||| 4) (fun _ => false)).stepCore 0) = none :=
  defined_of (by decide) (by decide) (by decide) (by decide) (by decide)

theorem test_feed_met : undefinedBy halted (halted.feedWord 0 (encodeCore (.alu .add 1 2 3))) = none :=
  defined_of (by decide) (by decide) (by decide) (by decide) (by decide)

theorem test_comparator_met : ∃ d, d = puts (cored runs) [(.dbg, dbgF 0 fDbgcCompCtrlEn, 1, 4), (.dbg, dbgF 0 fDbgcCompCtrlAccess, 1, 4)] ∧
    (d.core 0).mode = .running ∧ (d.core 0).acted.contains 4 = false ∧
    d.dataMatch 0 4 { addr := 0, size := 4, read := true, write := false, value := some 7 } = true := ⟨_, rfl, by decide⟩

/-- The device as DBGACC leaves it before its own access. -/
def scanned (s : State) : Device :=
  { s.dev with free := s.dev.free + 1, tap := { s.dev.tap with ir := 0x8 } }.emit (.tdo (bitList 2 s.dev.tap.status ++
    bitList 10 (Config.freeWord (s.dev.free + 1)).toNat ++ bitList 32 s.dev.tap.data.toNat))

theorem test_dbgacc_met : (0x00000000041 : BitVec 44).extractLsb' 0 2 = 1 ∧ (0x00000000042 : BitVec 44).extractLsb' 0 2 = 2 ∧
    0x040 ≤ ((0x00000000042 : BitVec 44).extractLsb' 2 10).toNat * 4 ∧ (0x00000000043 : BitVec 44).extractLsb' 0 2 = 3 ∧
    undefinedBy svc (scanned (idle svc)) = none ∧
    (∃ v d1, (scanned (idle svc)).mgmtRead .debugPort true (0xA000 + 0x040) = (v, d1) ∧
      undefinedBy svc { d1 with tap := { d1.tap with status := 0, data := v } } = none) ∧
    (∃ d1, (scanned (idle svc)).dbgWrite .port 0x040 4 = (true, d1) ∧ undefinedBy svc { d1 with tap := { d1.tap with status := 0 } } = none) := by
  refine ⟨by decide, by decide, by decide, by decide, defined_of (by decide) (by decide) (by decide) (by decide) (by decide),
    ⟨_, _, pairs rfl, ?_⟩, ⟨_, pairs (by decide), ?_⟩⟩ <;> exact defined_of (by decide) (by decide) (by decide) (by decide) (by decide)

theorem test_wrapper_met : sget (fun _ => 0) TapSt.fresh.wir 0 ≠ wirBypass := by decide

theorem test_mode_met : svc.mode ≠ mFaultHold ∧ svc.flag .pwr fPwrModeStatusBusy = false ∧ svc.loadBusy = false ∧ svc.goldenRunning = false ∧ (inMode mFaultHold).mode = mFaultHold ∧
    (inMode mFaultHold).flag .pwr fPwrModeStatusBusy = false ∧ svc.takes .pf0 .pwr .pwr ∧
    (inMode mDormant).rd .sill fSillFaultFrom = 0 := by unfold Device.takes Device.reaches; decide

theorem test_mode_request_met : (∀ t ∈ [mDormant, mDoorway, mDrowse, mQuiesced], svc.modeAllowed t = true) ∧
    (∀ t ∈ [mService, mLoad], svc.modeAllowed t = false) ∧ (inMode mDrowse).modeAllowed mService = true ∧
    (inMode mDoorway).modeAllowed mDrowse = false ∧ (puts (inMode mFaultHold) [(.sill, fSillFaultFrom, mLoad, 0)]).modeAllowed mLoad = true ∧
    undefinedBy svc ((svc.raise .pwr cPwrModeRefused).count .pwr 1) = none ∧
    undefinedBy (inMode mDrowse) ((inMode mDrowse).beginMode mService) = none := by
  refine ⟨by decide, by decide, by decide, by decide, by decide, ?_, ?_⟩ <;>
    exact defined_of (by decide) (by decide) (by decide) (by decide) (by decide)

theorem test_quiesce_limit_met : ∃ d : Device, d = { active LinkSt.fresh with modeStep := some .asleep } ∧ d.modeStep = some .asleep ∧
    (List.finRange 144).filter d.linkAwakeNow ≠ [] := ⟨_, rfl, rfl, List.ne_nil_of_mem (List.mem_filter.2 ⟨List.mem_finRange 0, by decide⟩)⟩

theorem test_power_event_met : svc.mode ≠ mDormant ∧ (svc.put .pcie fPcieLinkStatusRate 1).rd .pcie fPcieLinkStatusRate ≠ 0 ∧
    (svc.put .pcie fPcieLinkStatusPm 4).rd .pcie fPcieLinkStatusPm = 4 ∧ svc.modeStep = none := by decide

theorem test_wake_met : ∃ d, d = puts { Device.fresh with perst := false } [(.sill, fSillWakeEnWakeN, 1, 0), (.sill, fSillWakeEnLink, 1, 0),
      (.sill, fSillLinkWakeEnLinks, 1, 0), (.sill, fSillTimerCmp, 5, 0)] ∧
    d.mode = mDormant ∧ d.perst = false ∧ d.heldWake = none ∧ d.rd .sill fSillWakeSrcSource = 0 ∧ d.wakeEnabled 4 0 = true ∧
    d.wakeEnabled 3 0 = true ∧ d.rd .sill fSillTimerCmp ≠ 0 ∧ d.flag .clk fClkSillClkDead = false := ⟨_, rfl, by decide⟩

/-- DORMANT, with a wake held and every reference being judged. -/
def woken : Device := { Device.fresh with perst := false, heldWake := some (1, 0), judging := [.a, .b, .pcie] }

theorem test_judged_met : (∀ r ∈ [RefClk.a, .b, .pcie], woken.judging.contains r = true) ∧ woken.heldWake ≠ none ∧
    undefinedBy woken (Device.raise { woken with judging := woken.judging.erase .pcie } .clk fClkRefStatusPcieRefGood) = none ∧
    undefinedBy woken ((Device.raise { woken with judging := woken.judging.erase .a } .clk fClkRefStatusAGood).leaveDormant false) = none := by
  refine ⟨by decide, by decide, ?_, ?_⟩ <;> exact defined_of (by decide) (by decide) (by decide) (by decide) (by decide)

theorem test_thermal_met : svc.mode ≠ mDormant ∧ (List.replicate 16 (460 : Temp))[3]? = some 460 ∧ 460 ≤ (460 : Temp).toInt ∧
    Device.fresh.perst = true := by decide

/-! ### Instruction words, written out from the formats and opcodes of R400 and R401 -/

theorem test_decode_add : decodeCore 0b000001_0001_0010_0011_00000000000000#32 = some (.alu .add 1 2 3) := by decide
theorem test_decode_addi : decodeCore 0b010000_0001_0000_1111_11111111111111#32 = some (.imm .addi 1 0 0x3FFFF) := by decide
theorem test_decode_lui : decodeCore 0b011001_0100_1000_0000_00000000000001#32 = some (.lui 4 0x200001) := by decide
theorem test_decode_lw : decodeCore 0b011110_0101_0110_0000_00000000000100#32 = some (.load .w 5 6 4) := by decide
theorem test_decode_sb : decodeCore 0b011111_0111_1000_0000_00000000000011#32 = some (.store .b 7 8 3) := by decide
theorem test_decode_bgeu : decodeCore 0b100111_0001_0010_1111_11111111111111#32 = some (.branch .geu 1 2 0x3FFFF) := by decide
theorem test_decode_jal : decodeCore 0b101000_1000_0000_0000_00000000000010#32 = some (.jal 0x2000002) := by decide
theorem test_decode_jalr : decodeCore 0b101001_0000_1111_0000_00000000000000#32 = some (.jalr 0 15 0) := by decide
theorem test_decode_stx : decodeCore 0b101011_0001_0010_0011_00000000000000#32 = some (.stx 1 2 3) := by decide
theorem test_decode_mcas : decodeCore 0b101110_0010_0100_0110_00000000000000#32 = some (.atomic .cas 2 4 6) := by decide
theorem test_decode_mfence : decodeCore 0b110000_0000_0000_0000_00000000000000#32 = some .mfence := by decide
theorem test_decode_mfc : decodeCore 0b110001_0001_0000_0000_00000000001100#32 = some (.mfc 1 12) := by decide
theorem test_decode_mtc : decodeCore 0b110010_0000_0001_0000_00000000000100#32 = some (.mtc 1 4) := by decide
theorem test_decode_trap : decodeCore 0b110011_0000_0000_0000_00000010101011#32 = some (.trap 0xAB) := by decide
theorem test_decode_take : decodeCore 0b110110_0011_0000_0000_00000000000000#32 = some (.take 3) := by decide
theorem test_decode_sleep : decodeCore 0b111000_0000_0010_0000_00000000000000#32 = some (.sleep 2) := by decide
theorem test_decode_reserved : decodeCore 0 = none ∧ decodeCore 0b111001_0000_0000_0000_00000000000000#32 = none ∧
    decodeCore 0b110000_0000_0000_0000_00000000000001#32 = none ∧ decodeCore 0b000001_0001_0010_0011_00000000000001#32 = none := by decide

/-! ### Commands that are not well formed -/

theorem test_ill_formed : ∀ i ∈ ([.registerWrite .pf0 0 3 0, .bramWrite 0 0 .a { addr := 0, we := 0, data := 0, rst := false } none, .nak 0 1, .replay 0 1,
    .enterIdle 0 1, .sleepReq 0 1, .sleepAck 0 1, .sleepNak 0 1, .dswapReq 0 1, .cswapReq 0 1, .retrainReq 0 1, .fault 0 1, .hello 0 1,
    .tagFlit 0 1, .cloneDone 0 ([65536], true), .windowWrite .pf0 0 [0] [], .windowWrite .pf0 0 [] [], .windowRead .pf0 0 0 0, .doorbell .pf0 0 0 5 0,
    .pushWrite 0 [], .healthUpdate 0 [], .thermRead [], .selfTestDone 0 true [33] [], .selfTestDone 0 true [] [33], .mirrorPassEnd 0 [65536] true,
    .extest { captured := [true], shifted := [] }, .samplePreload { captured := [], shifted := [true] }] : List Instr), i.wellFormed = false := by decide

theorem test_well_formed : ∀ i ∈ ([.registerWrite .pf0 0 64 0, .bramWrite 0 0 .a { addr := 0, we := 1, data := 0, rst := true } none,
    .nak 0 0x100001, .replay 0 0x200001, .enterIdle 0 (1 + BitVec.ofNat 512 (2 ^ 88)), .hello 0 2, .tagFlit 0 4, .windowRead .pf0 0 1 0,
    .doorbell .pf0 0 0 4 0, .pushWrite 0 [0], .selfTestDone 0 true [32] [0], .cloneDone 0 ([65535], true), .mirrorPassEnd 0 [65535] true, .extest { captured := [true], shifted := [false] },
    .tapReset] : List Instr), i.wellFormed = true := by decide

/-! ### Single steps -/

/-- The device after a command. -/
def did (i : Instr) (d : Device) : Device :=
  match exec i (idle d) with
  | .next s => s.dev
  | .fault _ => d
  | .refused _ => d

/-- Expected results: the effects of R399 to R409, R423, R433, R437 and R453, computed by hand. -/
theorem test_add_wraps : ((did (.insnAdd 0 3 1 2) (holds [(1, 0xFFFFFFFF), (2, 2)] [])).core 0).reg 3 = 1 := by decide
/-- −7 / 2 is −3: DIV rounds toward zero (R401). -/
theorem test_div_toward_zero : ((did (.insnDiv 0 3 1 2) (holds [(1, 0xFFFFFFF9), (2, 2)] [])).core 0).reg 3 = 0xFFFFFFFD := by decide
theorem test_div_by_zero : ((did (.insnDivu 0 3 1 2) (holds [(1, 5)] [])).core 0).reg 3 = 0xFFFFFFFF := by decide
theorem test_mulh_signed : ((did (.insnMulh 0 3 1 2) (holds [(1, 0xFFFFFFFF), (2, 2)] [])).core 0).reg 3 = 0xFFFFFFFF := by decide
theorem test_ori_zero_extends : ((did (.insnOri 0 1 1 0x3FFFF) (holds [(1, 0x80000000)] [])).core 0).reg 1 = 0x8003FFFF := by decide
theorem test_w0_discards : ((did (.insnAddi 0 0 1 1) (holds [(1, 4)] [])).core 0).reg 0 = 0 ∧
    ((did (.insnAddi 0 0 1 1) (holds [(1, 4)] [])).core 0).pc = 4 := by decide
theorem test_bge_signed : ((did (.insnBge 0 1 2 8) (holds [(1, 0), (2, 0xFFFFFFFF)] [])).core 0).pc = 32 := by decide
theorem test_jal_links : ((did (.insnJal 0 3) (holds [] [])).core 0).pc = 12 ∧ ((did (.insnJal 0 3) (holds [] [])).core 0).reg 15 = 4 := by decide
/-- TRAP: cause 4 enters at EVBASE + 0x80, EPC is the next word, IE moves to PIE (R408, R409). -/
theorem test_trap_enters : ∃ k, k = (did (.insnTrap 0 0xAB) (holds [] [(0, 1), (4, 0x400)])).core 0 ∧ k.pc = 0x400 + 0x20 * BitVec.ofNat 32 excTrap ∧
    k.cr crEpc = 4 ∧ k.cr crEinfo = 0xAB ∧ k.cr crStatus = 6 := ⟨_, rfl, by decide⟩
theorem test_rfe_returns : ∃ k, k = (did (.insnRfe 0) (holds [] [(0, 6), (1, 0x40)])).core 0 ∧ k.pc = 0x40 ∧ k.ie = true ∧ k.exl = false :=
  ⟨_, rfl, by decide⟩
theorem test_store_little_endian : ((did (.insnSw 0 2 1 4) (holds [(1, 0x20000), (2, 0x01020304)] [])).tcmRead 0 0x20004 4).1 = some [4, 3, 2, 1] := by
  decide
theorem test_lb_sign_extends : ((did (.insnLb 0 3 1 4) (did (.insnSb 0 2 1 4) (holds [(1, 0x20000), (2, 0x80)] []))).core 0).reg 3 = 0xFFFFFF80 := by
  decide
theorem test_stx_without_reservation : ((did (.insnStx 0 3 1 2) (holds [(1, 0x20000), (2, 7)] [])).core 0).reg 3 = 1 ∧
    ((did (.insnStx 0 3 1 2) (holds [(1, 0x20000), (2, 7)] [])).tcmRead 0 0x20000 4).1 = some [0, 0, 0, 0] := by decide
theorem test_stx_with_reservation : ((did (.insnStx 0 3 1 2) (did (.insnLdx 0 4 1) (holds [(1, 0x20000), (2, 7)] []))).core 0).reg 3 = 0 ∧
    ((did (.insnStx 0 3 1 2) (did (.insnLdx 0 4 1) (holds [(1, 0x20000), (2, 7)] []))).tcmRead 0 0x20000 4).1 = some [7, 0, 0, 0] := by decide
theorem test_mfadd_odd_pair : ((did (.insnMfadd 0 3 1 2) (holds [(1, 0x80000000)] [])).core 0).cr crEcause = BitVec.ofNat 32 (exIllegal 0).code := by
  decide
theorem test_hold_resets : ((did (.hold .pf0 0) (puts (cored runs) [(.tcore 0, fTcoreCoreCtrlHold, 0, 0)])).core 0).mode = .reset := by decide
theorem test_claim : (did (.claim .window) svc).rd .dbg fDbgOwner = 2 := by decide
theorem test_activate : (did (.activate .pf0 0) svc).taskState 0 = tBlocked := by decide
theorem test_idcode : (did .idcode svc).tap.ir = 2 := by decide
theorem test_mode_refused : (did (.modeReqService .pf0) svc).mode = mService ∧ (did (.modeReqService .pf0) svc).flag .pwr cPwrModeRefused = true := by
  decide
theorem test_idle : step (idle svc) = .next ((idle svc).after ((fabricTick svc).holdsEnd.meshRun)) := rfl

/-- One bit of an adder in a cell (R50): W is L0 XOR L1, N is L0; 1 + 1 with carry in 0 is 0, carry 1; 1 + 0 with carry 1 the same. -/
theorem test_cell_adds : ∃ c : CellCfg, c = { CellCfg.empty with lut := .two 0x66666666 0xAAAAAAAA, fb := .sum } ∧
    c.flops 0x103 0 false true true = (false, false) ∧ c.co 0x103 0 false = true ∧ (c.flops 0x101 0 true false true).2 = false ∧
    c.co 0x101 0 true = true ∧ c.co 0x100 0 true = false ∧ c.flops 0x003 0 false true true = (true, true) := ⟨_, rfl, by decide⟩
/-- Set/reset wins over the load (R51); a shift moves up by one stage under the enable; a RAM writes one bit (R53). -/
theorem test_cell_memories : ({ CellCfg.empty with srA := true } : CellCfg).flops 0x300 0 false false true = (true, false) ∧
    ({ CellCfg.empty with mode := .shift 0 } : CellCfg).memNext 0x80100 0x80000001 = 3 ∧
    ({ CellCfg.empty with mode := .ram 0 } : CellCfg).memNext (0x81000 + BitVec.ofNat 32 (63 * 2 ^ 13)) 1 = 0x8000000000000001 ∧
    ({ CellCfg.empty with mode := .ram 0 } : CellCfg).w 63 0x8000000000000000 = true := by decide

end Sys2Proof.Tests
end

section
/-! PROOFS. Every command completes and leaves the queue alone (O2): what `run` and `runChecked` do with the queue and the device,
carried to all commands by `exec_form`. -/

namespace Sys2Proof.Machine

open Sys2Proof

/-- A step that keeps the queue it was given, and does the same to the device under any other queue. -/
def KeepsQueue (f : State → Host.Outcome State Fault Refusal) : Prop :=
  ∀ s, ∃ t, f s = .next t ∧ t.pending = s.pending ∧ ∀ q, f { s with pending := q } = .next { t with pending := q }

theorem run_keepsQueue (body : Device → Device) : KeepsQueue (run body) := by
  intro s
  obtain ⟨g, hg, -⟩ := run_shape body
  exact ⟨_, hg s, rfl, fun q => hg _⟩

theorem runChecked_keepsQueue (body : Device → Device) : KeepsQueue (runChecked body) := by
  intro s
  obtain ⟨g, hg, -⟩ := runChecked_shape body
  exact ⟨_, hg s, rfl, fun q => hg _⟩

/-- A checked command does what its body says and the device follows, or the body's outcome is undefined and the device is lost
(R7). -/
theorem runChecked_after_or_lose (body : Device → Device) (s : State) :
    runChecked body s = .next (s.after (body s.dev)) ∨
      undefinedBy s.dev (body s.dev) ≠ none ∧ runChecked body s = .next { s with dev := (body s.dev).lose } := by
  cases hu : undefinedBy s.dev (body s.dev) with
  | none => exact .inl (runChecked_eq body s _ rfl hu)
  | some u => exact .inr ⟨by simp, runChecked_lose body s _ rfl u hu⟩

/-- Settles O2: every command is `run` or, where mayLose lists it, `runChecked` of a body (`exec_form`), and both keep the queue. -/
theorem commandsLeaveTheQueueAlone : Obligations.CommandsLeaveTheQueueAlone := by
  unfold Obligations.CommandsLeaveTheQueueAlone
  intro i
  rcases exec_form i with ⟨body, hi⟩ | ⟨hm, body, hi⟩
  · have he : exec i = run body := funext hi
    refine ⟨body, fun s => ?_⟩
    rw [he]
    exact ⟨run_keepsQueue body s, fun _ => run_eq body s _ rfl, .inl (run_eq body s _ rfl)⟩
  · have he : exec i = runChecked body := funext hi
    refine ⟨body, fun s => ?_⟩
    rw [he]
    refine ⟨runChecked_keepsQueue body s, fun h => ?_, ?_⟩
    · have hu : undefinedBy s.dev (body s.dev) = none := h.resolve_left (by simp [hm])
      exact runChecked_eq body s _ rfl hu
    · exact (runChecked_after_or_lose body s).imp id fun h => ⟨hm, h⟩

end Sys2Proof.Machine
end

section
/-! PROOFS. A device reset returns to defined behaviour (O3): a device reset leaves a device that lies in DORMANT with nothing under
way, and what follows a command leaves it so. -/

namespace Sys2Proof.Machine

open Sys2Proof

/-! ### Nothing under way: kept by every write of a register -/

theorem dorm_setWord {d : Device} (h : Dorm d) (k : Nat) (w : Word) : Dorm (d.setWord k w) :=
  ⟨h.signals, h.migs, h.modeStep, h.links, h.bays, h.lost, h.perst⟩

theorem dorm_put {d : Device} (h : Dorm d) (pg : PageRef) (f : Fld) (v i : Nat) : Dorm (d.put pg f v i) := dorm_setWord h _ _

/-- A count changes the tally alone (R45). -/
theorem count_changes_tally (d : Device) (pg : PageRef) (k : Nat) : ∃ t, d.count pg k = { d with tally := t } := by
  unfold Device.count Device.countN
  dsimp only
  split
  · exact ⟨_, rfl⟩
  · exact ⟨_, rfl⟩

theorem dorm_count {d : Device} (h : Dorm d) (pg : PageRef) (k : Nat) : Dorm (d.count pg k) := by
  obtain ⟨t, e⟩ := count_changes_tally d pg k
  rw [e]
  exact ⟨h.signals, h.migs, h.modeStep, h.links, h.bays, h.lost, h.perst⟩

theorem dorm_applyRecord {d : Device} (h : Dorm d) (r : RepairRecord) : Dorm (d.applyRecord r) := by
  have hw : Dorm ((r.regs.filter fun e => recordKeys.contains e.1).foldl (fun (d : Device) (e : Nat × Word) =>
      d.setWord e.1 ((d.word e.1 &&& ~~~recordMask e.1) ||| (e.2 &&& recordMask e.1))) d) :=
    List.foldlRecOn _ _ h fun _ hb _ _ => dorm_setWord hb _ _
  exact ⟨hw.signals, hw.migs, hw.modeStep, hw.links, hw.bays, hw.lost, hw.perst⟩

/-- A device reset ends everything under way and every undefined behaviour (R7, R33). -/
theorem deviceReset_dorm {d : Device} (link : Bool) (h : d.perst = true) : Dorm (d.deviceReset link) := by
  unfold Device.deviceReset
  refine List.foldlRecOn _ _ (dorm_applyRecord ?_ _) fun _ hb _ _ => dorm_put (dorm_setWord hb _ _) _ _ _ _
  exact ⟨rfl, rfl, rfl, rfl, rfl, rfl, h⟩

/-! ### In DORMANT with nothing under way -/

/-- The device lies in DORMANT, PERST_N asserted, with nothing under way and its behaviour defined. -/
structure Dormant (d : Device) : Prop extends Dorm d where
  mode : d.mode = mDormant

/-- The mode is in its register alone. -/
theorem mode_eq_of_word {d e : Device} (h : e.word modeKey = d.word modeKey) : e.mode = d.mode :=
  congrArg (bitsOf · fSillDeviceModeMode.lo fSillDeviceModeMode.width) h

theorem mode_count (d : Device) (pg : PageRef) (k : Nat) : (d.count pg k).mode = d.mode := by
  obtain ⟨t, e⟩ := count_changes_tally d pg k
  rw [e]
  rfl

theorem setMode_mode (d : Device) (m : Nat) (hm : m < 8) : (d.setMode m).mode = m := by
  unfold Device.setMode
  rw [mode_count]
  exact (rd_put_self _ .sill fSillDeviceModeMode m 0 (by decide)).trans (Nat.mod_eq_of_lt hm)

theorem dormant_setMode {d : Device} (h : Dorm d) : Dormant (d.setMode mDormant) where
  toDorm := dorm_count (dorm_put (dorm_put h _ _ _ _) _ _ _ _) _ _
  mode := setMode_mode d mDormant (by decide)

theorem Dormant.setWord {d : Device} (h : Dormant d) {k : Nat} (hk : modeKey < k) (w : Word) : Dormant (d.setWord k w) where
  toDorm := dorm_setWord h.toDorm k w
  mode := (mode_eq_of_word (word_setWord_ne d k modeKey w (Nat.ne_of_lt hk))).trans h.mode

theorem Dormant.put {d : Device} (h : Dormant d) {pg : PageRef} {f : Fld} {i : Nat} (hk : modeKey < fldKey pg f i) (v : Nat) :
    Dormant (d.put pg f v i) := h.setWord hk _

/-- Every register of the DBG page lies above the mode's. -/
theorem modeKey_lt_dbg (o : Nat) : modeKey < pageBase .dbg + o := Nat.lt_add_right o (by decide)

/-! ### The assertion of PERST_N -/

theorem enterDormant_dormant {d : Device} (cause : Nat) (hp : d.perst = true) (hl : d.lateWake = none) :
    Dormant (d.enterDormant cause) := by
  have hreset : ∀ (e : Device) (link : Bool), e.perst = true →
      Dormant (((((e.deviceReset link).setMode mDormant).put .sill fSillWakeSrcSource 0).put .sill fSillWakeSrcLink 0).put
        .sill fSillTimerCount 0) := fun e link he =>
    (((dormant_setMode (deviceReset_dorm link he)).put (by decide) 0).put (by decide) 0).put (by decide) 0
  unfold Device.enterDormant
  by_cases hc : cause = 2
  · simp only [hc, if_true, Device.raise, Device.put_lateWake, hl]
    exact hreset _ _ hp
  · simp only [hc, if_false, Device.put_lateWake, hl]
    exact hreset _ _ hp

theorem Dormant.tripRelease {d : Device} (h : Dormant d) (low : Bool) : Dormant (d.tripRelease low) := by
  unfold Device.tripRelease
  split
  · exact h.put (by decide) 0
  · exact h

/-- A lost device is reset by PERST_N in whatever mode it lies (R7, R453). -/
theorem perstNAssertBody_dormant {d : Device} (h : d.lost = true) : Dormant (perstNAssertBody d) := by
  unfold perstNAssertBody
  simp only [h, Bool.true_eq_false, and_false, if_false]
  exact (enterDormant_dormant 1 rfl rfl).tripRelease _

/-! ### What follows the command -/

theorem loadEntered_dormant {d : Device} (h : Dormant d) (before : Device) : d.loadEntered before = d := by
  unfold Device.loadEntered
  exact if_pos (.inl (by rw [h.mode]; decide))

theorem advanceMode_idle (n : Nat) {d : Device} (h : d.modeStep = none) : Device.advanceMode n d = d := by
  cases n with
  | zero => rfl
  | succ n => unfold Device.advanceMode; simp [h]

theorem drowsy_none {d : Device} (before : Device) (hl : d.drowsedLinks = []) (hb : d.drowsed = []) : d.drowsy before = d := by
  simp [Device.drowsy, hl, hb]

theorem Dormant.setCore {d : Device} (h : Dormant d) (c : Fin 2) (k : CoreSt) : Dormant (d.setCore c k) :=
  ⟨⟨h.signals, h.migs, h.modeStep, h.links, h.bays, h.lost, h.perst⟩, h.mode⟩

theorem Dormant.sealDebug {d : Device} (h : Dormant d) (c : Fin 2) : Dormant (d.sealDebug c) := by
  have hrun : Dormant ((d.dbgPut c fDbgcRunCtrlHaltOnReset 0).dbgPut c fDbgcRunCtrlCatch 0) :=
    (h.put (modeKey_lt_dbg _) 0).put (modeKey_lt_dbg _) 0
  unfold Device.sealDebug
  refine Dormant.setCore (List.foldlRecOn _ _ hrun fun _ hi i _ => List.foldlRecOn _ _ hi fun _ hj j _ => hj.setWord ?_ 0) c _
  simp only [Nat.add_assoc]
  exact modeKey_lt_dbg _

theorem Dormant.sealedNow {d : Device} (h : Dormant d) (before : Device) : Dormant (d.sealedNow before) := by
  unfold Device.sealedNow
  refine List.foldlRecOn _ _ h fun e he c _ => ?_
  split
  · exact he.sealDebug c
  · exact he

theorem recordKept_dormant {d : Device} (h : Dormant d) (before : Device) : d.recordKept before = d := by
  simp [Device.recordKept, h.mode]

/-- What changes no more than the porter leaves the device dormant. -/
theorem Dormant.withPorter {d : Device} (h : Dormant d) (p : PorterSt) : Dormant { d with porter := p } :=
  ⟨⟨h.signals, h.migs, h.modeStep, h.links, h.bays, h.lost, h.perst⟩, h.mode⟩

/-- Without a core clock the porter takes the groups and sends no event (R426). -/
theorem Dormant.groupEvents {d : Device} (h : Dormant d) : Dormant d.groupEvents := by
  have hclk : ({ d with porter := { d.porter with groups := d.summary } } : Device).coreClock = false := by
    have hm : ({ d with porter := { d.porter with groups := d.summary } } : Device).mode = mDormant := h.mode
    simp [Device.coreClock, hm]
  unfold Device.groupEvents
  simp only [hclk, or_true, if_true]
  exact h.withPorter _

theorem Dormant.setSlot {d : Device} (h : Dormant d) (c : Nat) (t : Option Nat) : Dormant (d.setSlot c t) := by
  cases t with
  | none => exact h.withPorter _
  | some t => exact h.withPorter _

theorem Dormant.fillSlots {d : Device} (h : Dormant d) (n : Nat) : Dormant (Device.fillSlots n d) := by
  induction n generalizing d with
  | zero => exact h
  | succ n ih =>
    unfold Device.fillSlots
    refine iteInduction (fun _ => h) fun _ => ih ?_
    have first : ∀ (p : Prop) [Decidable p] (t : Option Nat), Dormant (if p then d.setSlot 0 t else d) := fun _ _ t =>
      iteInduction (fun _ => h.setSlot 0 t) fun _ => h
    exact iteInduction (fun _ => (first _ _).setSlot 1 _) fun _ => first _ _

theorem Dormant.raiseMsix {d : Device} (h : Dormant d) (fn : PcieFn) (v : Nat) : Dormant (d.raiseMsix fn v) := by
  have keep : ∀ e : Device, (∃ p o w, e = { d with msixPend := p, out := o, msixWait := w }) → Dormant e := by
    rintro _ ⟨p, o, w, rfl⟩
    exact ⟨⟨h.signals, h.migs, h.modeStep, h.links, h.bays, h.lost, h.perst⟩, h.mode⟩
  unfold Device.raiseMsix
  split
  · exact h
  · split
    · exact keep _ ⟨_, _, _, rfl⟩
    · unfold Device.sendMsix
      split
      · exact keep _ ⟨_, _, _, rfl⟩
      · exact keep _ ⟨_, _, _, rfl⟩

theorem Dormant.alertEdge {d : Device} (h : Dormant d) (before : Device) : Dormant (d.alertEdge before) := by
  unfold Device.alertEdge
  split
  · exact h.raiseMsix .pf0 0
  · exact h

/-- In DORMANT nothing that follows a command changes the mode or makes behaviour undefined: no signal, transition or migration is
left to act, and the porter and the debugger's registers touch none of it. -/
theorem settle_dormant {d : Device} (before : Device) (h : Dormant d) : Dormant (settle before d) := by
  have hseal : Dormant (d.sealedNow before) := h.sealedNow before
  have hgroups : Dormant (if (d.sealedNow before).summary = (d.sealedNow before).porter.groups then d.sealedNow before
      else (d.sealedNow before).groupEvents) := by
    split
    · exact hseal
    · exact hseal.groupEvents
  have hslots := hgroups.fillSlots 8
  unfold settle
  simp only [takeSignals_nil 3 d h.signals, h.migs, List.isEmpty_nil, if_true, loadEntered_dormant h, advanceMode_idle 8 h.modeStep,
    drowsy_none before h.links h.bays, recordKept_dormant hseal, takeSignals_nil 3 _ hslots.signals]
  exact hslots.alertEdge before

/-- Settles O3: PERST_N resets a lost device to one that is dormant (`perstNAssertBody_dormant`), and what follows keeps it so
(`settle_dormant`). -/
theorem deviceResetReturnsToDefinedBehaviour : Obligations.DeviceResetReturnsToDefinedBehaviour := by
  unfold Obligations.DeviceResetReturnsToDefinedBehaviour
  intro s hlost
  have he : exec .perstNAssert s = .next (s.after (perstNAssertBody s.dev)) :=
    (exec_perstNAssert s).trans (run_eq perstNAssertBody s _ rfl)
  have h : Dormant (s.after (perstNAssertBody s.dev)).dev := by
    rw [State.after_dev]
    exact settle_dormant s.dev (perstNAssertBody_dormant hlost)
  exact ⟨_, he, State.after_pending s _, h.lost, h.mode, h.perst⟩

end Sys2Proof.Machine
end

section
/-! PROOFS. Where a REGISTER_WRITE lands (O7): four aligned bytes at an offset of a page are the write of that register. -/

namespace Sys2Proof.Machine

open Sys2Proof

theorem registerWriteBody_misfit {size : Nat} {off : BitVec 26} (h : size ≠ 4 ∨ off.toNat % 4 ≠ 0) (rq : Requester) (w : Word)
    (d : Device) : registerWriteBody rq off size w d = d.accessRefused rq off.toNat :=
  if_neg fun ⟨hs, ho⟩ => h.elim (· hs) (· ho)

/-- A multiple of 4 within a page is a multiple of 4 in the management space. -/
theorem pageBase_add_mod_four {pg : PageRef} {o : Nat} (ho : o % 4 = 0) (hlt : o < 0x1000) : (pageBase pg + o) % 4 = 0 := by
  have h := pageBase_add_mod pg o hlt
  omega

theorem registerWriteBody_aligned {off : BitVec 26} {pg : PageRef} {o : Nat} (hoff : off.toNat = pageBase pg + o) (ho : o % 4 = 0)
    (hlt : o < 0x1000) (rq : Requester) (w : Word) (d : Device) :
    registerWriteBody rq off 4 w d = regWriteBody rq (pageBase pg + o) w d := by
  rw [registerWriteBody, hoff]
  exact if_pos ⟨rfl, pageBase_add_mod_four ho hlt⟩

/-- Settles O7: a misfit is refused as it stands, and an aligned write is `regWriteBody` at its register, whose three outcomes
`regWriteBody_refused`, `regWriteBody_header` and `regWriteBody_waits` name. -/
theorem registerWriteReachesItsRegister : Obligations.RegisterWriteReachesItsRegister := by
  unfold Obligations.RegisterWriteReachesItsRegister
  intro s rq off size w
  refine ⟨fun hbad e he hu => ?_, fun pg o hoff ho hlt hdbg hrq ha => ⟨fun hm e he hu => ?_, fun hm hhdr hu => ?_, ?_⟩⟩
  · exact runChecked_eq _ s e ((registerWriteBody_misfit hbad rq w s.dev).trans he.symm) hu
  · have hb := regWriteBody_refused s.dev rq pg o w hrq hlt (.inl hdbg) ha hm
    rw [← hoff, ← he] at hb
    refine runChecked_eq _ s e ?_ hu
    rw [registerWriteBody_aligned hoff ho hlt, ← hoff, hb]
  · have hb := regWriteBody_header s.dev rq pg o w hrq hhdr ha hm
    exact runChecked_eq _ s _ ((registerWriteBody_aligned hoff ho hlt rq w s.dev).trans hb) hu
  · rintro b d hm hblk hdom rfl hpage hu
    have hb := regWriteBody_waits s.dev rq pg b o w hrq hdbg hblk hlt ha hm hdom hpage
    exact ⟨runChecked_eq _ s _ ((registerWriteBody_aligned hoff ho hlt rq w s.dev).trans hb) hu, aliasWaits_unheld⟩

end Sys2Proof.Machine
end

section
/-! PROOFS. Logical bays stay in their row (O12): what the steering codes of a row say about `physOf` and `logicalOf`, and the codes
that REPAIR.STEER_LO and STEER_HI hold at reset. -/

namespace Sys2Proof.Machine

open Sys2Proof

/-! ### What the codes of a row determine -/

/-- Position `p` of row `r` is a physical bay. -/
theorem rowBay_val {r p : Nat} (hr : r < 8) (hp : p < 14) : (Fin.ofNat 112 (14 * r + p)).val = 14 * r + p :=
  Nat.mod_eq_of_lt (by omega)

/-- A logical bay occupies the first position of its row whose code names it. -/
theorem physOf_val_of_first {d : Device} {n : Fin 104} {p : Nat} (hp : p < 14)
    (hcode : d.steerCode (14 * (n.val / 13) + p) = n.val % 13)
    (hfirst : ∀ j < p, d.steerCode (14 * (n.val / 13) + j) ≠ n.val % 13) : (d.physOf n).val = 14 * (n.val / 13) + p := by
  have hfind : ((List.range 14).find? fun j => d.steerCode (14 * (n.val / 13) + j) == n.val % 13) = some p :=
    List.find?_range_eq_some.mpr ⟨by simpa using hcode, List.mem_range.mpr hp, fun j hj => by simpa using hfirst j hj⟩
  simp only [Device.physOf, hfind]
  exact rowBay_val (by omega) hp

/-- Whatever the codes are, a logical bay occupies a position of its row: the one the search finds, or else its own. -/
theorem physOf_position (d : Device) (n : Fin 104) : ∃ p < 14, (d.physOf n).val = 14 * (n.val / 13) + p := by
  have hr : n.val / 13 < 8 := by omega
  unfold Device.physOf
  dsimp only
  split
  next p hfind =>
    have hp : p < 14 := List.mem_range.mp (List.mem_of_find?_eq_some hfind)
    exact ⟨p, hp, rowBay_val hr hp⟩
  next =>
    have hk : n.val % 13 < 14 := by omega
    exact ⟨_, hk, rowBay_val hr hk⟩

/-- A physical bay carries the logical bay of its row that its code names; the codes from 13 on name none. -/
theorem logicalOf_eq_some_iff {d : Device} {pb : Fin 112} {n : Fin 104} :
    d.logicalOf pb = some n ↔ d.steerCode pb.val < 13 ∧ n.val = 13 * (pb.val / 14) + d.steerCode pb.val := by
  unfold Device.logicalOf
  by_cases hc : d.steerCode pb.val < 13
  · have hlt : 13 * (pb.val / 14) + d.steerCode pb.val < 104 := by omega
    simp only [hc, if_true, true_and, Option.some.injEq, Fin.ext_iff, Fin.val_ofNat, Nat.mod_eq_of_lt hlt]
    exact eq_comm
  · simp [hc]

theorem logicalOf_eq_none_iff {d : Device} {pb : Fin 112} : d.logicalOf pb = none ↔ 13 ≤ d.steerCode pb.val := by
  simp [Device.logicalOf]

/-! ### The codes at reset -/

/-- STEER_LO of every row resets to the codes 0 to 7, STEER_HI to the codes 8 to 13. -/
theorem reset_steerWords (r : Fin 8) : State.reset.dev.word (fldKey .repair fRepairSteerLo r.val) = 0x76543210 ∧
    State.reset.dev.word (fldKey .repair fRepairSteerHi r.val) = 0xDCBA98 := by
  revert r
  decide

/-- The code of position `p` in those two words is `p`. -/
theorem bitsOf_steerReset (p : Fin 14) :
    (if p.val < 8 then bitsOf 0x76543210 (4 * p.val) 4 else bitsOf 0xDCBA98 (4 * (p.val - 8)) 4) = p.val := by
  revert p
  decide

/-- At reset every position of a row holds its own number as its code (R10). -/
theorem reset_steerCode {r p : Nat} (hr : r < 8) (hp : p < 14) : State.reset.dev.steerCode (14 * r + p) = p := by
  have hrow : (14 * r + p) / 14 = r := by omega
  have hpos : (14 * r + p) % 14 = p := by omega
  obtain ⟨hlo, hhi⟩ := reset_steerWords ⟨r, hr⟩
  dsimp only at hlo hhi
  simp only [Device.steerCode, hrow, hpos, hlo, hhi]
  exact bitsOf_steerReset ⟨p, hp⟩

/-- At reset a logical bay occupies the position of its row that it is named for (R10). -/
theorem reset_physOf_val (n : Fin 104) : (State.reset.dev.physOf n).val = 14 * (n.val / 13) + n.val % 13 := by
  have hcode (p : Nat) (hp : p < 14) : State.reset.dev.steerCode (14 * (n.val / 13) + p) = p := reset_steerCode (by omega) hp
  refine physOf_val_of_first (by omega) (hcode _ (by omega)) fun j hj => ?_
  rw [hcode j (by omega)]
  exact Nat.ne_of_lt hj

/-- Settles O12: at reset the codes of a row are its positions (`reset_physOf_val`, `reset_steerCode`); in every state both readings
of the codes stay within the row they are read from (`physOf_position`, `logicalOf_eq_some_iff`). -/
theorem logicalBaysStayInTheirRow : Obligations.LogicalBaysStayInTheirRow := by
  unfold Obligations.LogicalBaysStayInTheirRow
  refine ⟨fun r k => ?_, fun r => ?_, fun d n => ?_, fun d pb n h => ?_⟩
  · have hn : (Fin.ofNat 104 (13 * r.val + k.val)).val = 13 * r.val + k.val := Nat.mod_eq_of_lt (by omega)
    rw [reset_physOf_val, hn]
    omega
  · have hspare : State.reset.dev.steerCode (14 * r.val + 13) = 13 := reset_steerCode r.isLt (by omega)
    have hbay : (Fin.ofNat 112 (14 * r.val + 13)).val = 14 * r.val + 13 := rowBay_val r.isLt (by omega)
    have hcode : 13 = State.reset.dev.steerCode (Fin.ofNat 112 (14 * r.val + 13)).val := by rw [hbay, hspare]
    exact ⟨logicalOf_eq_none_iff.mpr (Nat.le_of_eq hcode), hspare⟩
  · obtain ⟨p, hp, hphys⟩ := physOf_position d n
    omega
  · obtain ⟨hc, hn⟩ := logicalOf_eq_some_iff.mp h
    omega

end Sys2Proof.Machine
end

section
/-! PROOFS. A calm device stays as a command left it (O6): nothing of what `settle` does has anything to act on. -/

namespace Sys2Proof.Machine

open Sys2Proof

/-- LOAD is entered by a change of mode alone (R33, R464). -/
theorem loadEntered_sameMode {before d : Device} (h : d.mode = before.mode) : d.loadEntered before = d :=
  if_pos (h ▸ (Decidable.em (d.mode = mLoad)).symm)

theorem recordKept_same {before d : Device} (h : d.record = before.record) : d.recordKept before = d := by
  simp [Device.recordKept, h]

/-- The message of the alert line goes with its rise (R42). -/
theorem alertEdge_unrisen {before d : Device} (h : d.alertHolds = true → before.alertHolds = true) : d.alertEdge before = d := by
  cases hd : d.alertHolds with
  | false => simp [Device.alertEdge, hd]
  | true => simp [Device.alertEdge, h hd]

/-- Settles O6: each clause of `calm` names what one part of `settle` would act on. -/
theorem nothingFollowsInACalmDevice : Obligations.NothingFollowsInACalmDevice := by
  unfold Obligations.NothingFollowsInACalmDevice
  rintro before d ⟨hsignals, hmigs, hmode, hstep, hlinks, hbays, hsealed, hrecord, hgroups, hslots, halert⟩
  unfold settle
  simp only [takeSignals_nil 3 d hsignals, hmigs, List.isEmpty_nil, if_true, loadEntered_sameMode hmode,
    advanceMode_idle 8 hstep, drowsy_none before hlinks hbays, sealedNow_same d before hsealed, recordKept_same hrecord, hgroups,
    fillSlots_full 7 d hslots, alertEdge_unrisen halert]

end Sys2Proof.Machine
end

section
/-! PROOFS. A pop port gives its oldest entry up to a read, and to no debugger's read (O10). -/

namespace Sys2Proof.Machine

open Sys2Proof

/-- A debugger's read of a pop port leaves the port as it is (R39). -/
theorem debugPeekBody_keeps {d : Device} {port : PopPort} (ha : d.answers .debugPort (popOffset port).1 = true) :
    debugPeekBody port d = { d with free := d.free + 1 }.emit
      (.readData (pageBase (popOffset port).1 + (popOffset port).2) (d.pageRead (popOffset port).1 (popOffset port).2)) := by
  have hread : d.mgmtRead .debugPort true (pageBase (popOffset port).1 + (popOffset port).2) =
      (d.pageRead (popOffset port).1 (popOffset port).2, { d with free := d.free + 1 }) := by
    unfold Device.mgmtRead
    rw [pageOf_pageBase _ _ (popOffset_lt port), pageBase_add_mod _ _ (popOffset_lt port)]
    simp [ha, popAt_popOffset]
  unfold debugPeekBody
  simp only [hread]

/-- Settles O10: the five rows are one read of their port (`popRead`), and a peek is the read without the pop
(`debugPeekBody_keeps`). -/
theorem popPortsPopOnceRead : Obligations.PopPortsPopOnceRead := by
  unfold Obligations.PopPortsPopOnceRead
  intro s rq port hrq hdebug hans hdom e he
  have hpop : popReadBody rq port s.dev = e := (popRead hrq hdebug hans hdom).trans he.symm
  refine ⟨?peepTx, ?trace, ?golden, ?err, ?mailbox, fun ha => ?peek⟩
  case peepTx => rintro c rfl; exact run_eq _ s e hpop
  case trace => rintro rfl; exact run_eq _ s e hpop
  case golden => rintro rfl; exact run_eq _ s e hpop
  case err => rintro rfl; exact run_eq _ s e hpop
  case mailbox => rintro n rfl; exact run_eq _ s e hpop
  case peek => exact run_eq _ s _ (debugPeekBody_keeps ha)

end Sys2Proof.Machine
end

section
/-! PROOFS. What reset leaves (O5): an unwritten register holds its Reset value, and DORMANT stops the rest. -/

namespace Sys2Proof.Machine

open Sys2Proof

/-- A register's Reset value is the one of its page's table. -/
theorem regReset_pageBase (pg : PageRef) {o : Nat} (ho : o < 0x1000) :
    regReset (pageBase pg + o) = BitVec.ofNat 32 (wordReset pg o) := by
  simp only [regReset, pageOf_pageBase pg o ho, pageBase_add_mod pg o ho]

/-- No register has been written before reset ends. -/
theorem reset_word (k : Nat) : State.reset.dev.word k = regReset k := rfl

theorem reset_mode : State.reset.dev.mode = mDormant := by decide

/-- LINK_STATUS.STATE resets to DISABLED (R245). -/
theorem reset_linkState (l : Fin 144) : State.reset.dev.linkState l = linkDisabled := by
  have hword : State.reset.dev.word (fldKey (.txl l) fTxlLinkStatusState 0) =
      BitVec.ofNat 32 (wordReset (.txl l) (fTxlLinkStatusState.at_ 0)) :=
    (reset_word _).trans (regReset_pageBase _ (by decide))
  rw [Device.linkState, Device.rd, hword]
  rfl

/-- In DORMANT no clock of the fabric runs (R16). -/
theorem bayLive_dormant {d : Device} (h : d.mode = mDormant) (pb : Fin 112) : d.bayLive pb = false := by
  simp [Device.bayLive, Device.bayClocked, h, mDormant]

/-- In DORMANT the debug port alone is answered (R27). -/
theorem answers_dormant {d : Device} (h : d.mode = mDormant) {rq : Requester} (hrq : rq ≠ .debugPort) (pg : PageRef) :
    d.answers rq pg = false := by
  simp [Device.answers, h, hrq]

theorem coreClock_dormant {d : Device} (h : d.mode = mDormant) : d.coreClock = false := by simp [Device.coreClock, h]

/-- w0 reads 0 whatever the core holds (R399). -/
theorem reg_zero (k : CoreSt) : k.reg 0 = 0 := if_pos rfl

/-- Settles O5: the mode and LINK_STATUS are read from their Reset values, and DORMANT keeps bays, pages and the core clock still. -/
theorem resetLeavesADormantDevice : Obligations.ResetLeavesADormantDevice := by
  unfold Obligations.ResetLeavesADormantDevice
  exact ⟨rfl, reset_mode, rfl, reset_memoriesWf, ⟨rfl, rfl⟩, rfl, reset_linkState, bayLive_dormant reset_mode,
    fun _ pg hrq => answers_dormant reset_mode hrq pg, fun c => ⟨coreClock_dormant reset_mode, reg_zero _⟩⟩

end Sys2Proof.Machine
end

section
/-! PROOFS. COMMIT, ENABLE and abort (O8): the write of PAGE_CTRL or PAGE_ABORT that each row stands for, with the page's epoch. -/

namespace Sys2Proof.Machine

open Sys2Proof

/-! ### PAGE_CTRL -/

/-- The pages to which ENABLE is a bit and no more (R32). -/
theorem enableEffect_plain {pg : PageRef} (htxl : ∀ l, pg ≠ .txl l) (hscrub : pg ≠ .scrub) (hporter : pg ≠ .porter) (d : Device)
    (before en : Bool) : d.enableEffect pg before en = d := by
  cases pg with
  | txl l => exact absurd rfl (htxl l)
  | scrub => exact absurd rfl hscrub
  | porter => exact absurd rfl hporter
  | _ => rfl

/-- The word of a COMMIT: ENABLE is bit 0 of PAGE_CTRL, COMMIT bit 1. -/
theorem commitWord_bits (tag : Byte) (en : Bool) :
    (taggedWord tag (2 + en.toNat)).getLsbD 0 = en ∧ (taggedWord tag (2 + en.toNat)).getLsbD 1 = true := by
  rw [taggedWord_bit0, taggedWord_bit1]
  cases en <;> decide

/-- The word of an ENABLE. -/
theorem enableWord_bits (tag : Byte) (en : Bool) :
    (taggedWord tag en.toNat).getLsbD 0 = en ∧ (taggedWord tag en.toNat).getLsbD 1 = false := by
  rw [taggedWord_bit0, taggedWord_bit1]
  cases en <;> decide

theorem headerWrite_ctrl (d : Device) (pg : PageRef) (w : Word) : d.headerWrite pg 0x008 w = d.ctrlWrite pg w := by
  simp [Device.headerWrite]

theorem headerWrite_abort (d : Device) (pg : PageRef) (w : Word) : d.headerWrite pg 0x010 w = d.abortWrite pg w := by
  simp [Device.headerWrite]

section
variable {d : Device} {rq : Requester} {pg : PageRef} {tag : Byte} {en : Bool}

/-- A COMMIT that does not start the block with it, on a page to which ENABLE is a bit. -/
theorem commitBody_plain (hr : d.reaches rq pg) (he : d.epochIs pg tag) (htxl : ∀ l, pg ≠ .txl l) (hscrub : pg ≠ .scrub)
    (hporter : pg ≠ .porter) (hstart : en = false ∨ d.flag pg hdrEnable = true) :
    commitBody rq pg tag en d = (d.commitPage pg).put pg hdrEnable (bit en) := by
  have htag : d.tagMatches pg (taggedWord tag (2 + en.toNat)) = true := tagMatches_of he _ (by cases en <;> decide)
  obtain ⟨hbit0, hbit1⟩ := commitWord_bits tag en
  have hnostart : (en && !d.flag pg hdrEnable) = false := by rcases hstart with h | h <;> simp [h]
  rw [commitBody, reaches_write hr 0x008 _ (by decide), headerWrite_ctrl, Device.ctrlWrite]
  simp only [htag, Bool.true_eq_false, if_false, hbit0, hbit1, Bool.true_and, hnostart, Bool.false_eq_true, if_true,
    enableEffect_plain htxl hscrub hporter]

theorem enableBody_plain (hr : d.reaches rq pg) (he : d.epochIs pg tag) (htxl : ∀ l, pg ≠ .txl l) (hscrub : pg ≠ .scrub)
    (hporter : pg ≠ .porter) : enableBody rq pg tag en d = d.put pg hdrEnable (bit en) := by
  have htag : d.tagMatches pg (taggedWord tag en.toNat) = true := tagMatches_of he _ (by cases en <;> decide)
  obtain ⟨hbit0, hbit1⟩ := enableWord_bits tag en
  rw [enableBody, reaches_write hr 0x008 _ (by decide), headerWrite_ctrl, Device.ctrlWrite]
  simp only [htag, Bool.true_eq_false, if_false, hbit0, hbit1, Bool.false_and, Bool.false_eq_true,
    enableEffect_plain htxl hscrub hporter]

/-! ### COMMIT -/

/-- With no COMMIT under way one that nothing refuses copies the staged set (R30). -/
theorem commitPage_accepted (hbusy : d.flag pg hdrCommitBusy = false) (h : d.commitRefuses pg = []) :
    d.commitPage pg = d.commitTaken pg := by
  simp [Device.commitPage, Device.commitWith, hbusy, h]

/-- With no COMMIT under way one that is refused sets its causes. -/
theorem commitPage_refused (hbusy : d.flag pg hdrCommitBusy = false) (h : d.commitRefuses pg ≠ []) :
    d.commitPage pg = d.commitDenied pg (d.commitRefuses pg) := by
  simp [Device.commitPage, Device.commitWith, hbusy, h]

theorem stagedSetApplyBody_busy (h : d.flag pg hdrCommitBusy = true) :
    stagedSetApplyBody pg d =
      let d := (d.applyCopied pg).lower pg hdrCommitBusy
      let e := if sget (fun _ => false) d.restaged (pageOrdinal pg) then d else d.lower pg hdrStagedPending
      if pg = .mesh then e.meshRelease else e := by
  simp only [stagedSetApplyBody, h, Bool.not_true, Bool.false_eq_true, if_false]

theorem stagedSetApplyBody_idle (h : d.flag pg hdrCommitBusy = false) : stagedSetApplyBody pg d = d := by
  simp [stagedSetApplyBody, h]

/-! ### PAGE_ABORT -/

/-- A write of PAGE_ABORT with the page's epoch while no abort is under way: bit 0 requests one (R48). -/
theorem abortRequestBody_running (hr : d.reaches rq pg) (he : d.epochIs pg tag) (ha : hasAbort pg = true)
    (hstate : d.rd pg hdrAbortState = 0) : abortRequestBody rq pg tag d = d.abortRequest pg := by
  have hbit : (taggedWord tag 1).getLsbD 0 = true := taggedWord_bit0 tag 1
  rw [abortRequestBody, reaches_write hr 0x010 _ (by decide), headerWrite_abort, Device.abortWrite]
  simp only [ha, tagMatches_of he 1 (by decide), Bool.true_eq_false, if_false, hstate, if_true, hbit]

/-- A write of PAGE_ABORT with the page's epoch in a DONE state: bit 1 clears it (R49). -/
theorem abortClearBody_done (hr : d.reaches rq pg) (he : d.epochIs pg tag) (ha : hasAbort pg = true)
    (hstate : 2 ≤ d.rd pg hdrAbortState) : abortClearBody rq pg tag d = d.abortClear pg := by
  have hbit : (taggedWord tag 2).getLsbD 1 = true := taggedWord_bit1 tag 2
  have hbusy : d.rd pg hdrAbortState ≠ 0 := by omega
  rw [abortClearBody, reaches_write hr 0x010 _ (by decide), headerWrite_abort, Device.abortWrite]
  simp only [ha, tagMatches_of he 2 (by decide), Bool.true_eq_false, if_false, hbusy, hbit, if_true]

/-- A request with no COMMIT under way: it waits for what runs, or is done at once (R48). -/
theorem abortRequest_idle (hstate : d.rd pg hdrAbortState = 0) (hbusy : d.flag pg hdrCommitBusy = false) :
    d.abortRequest pg = if d.abortActive pg then (d.put pg hdrAbortState 1).abortBegin pg else d.abortEnd pg false := by
  simp [Device.abortRequest, hstate, stagedSetApplyBody_idle hbusy]

theorem abortDoneBody_pending (ha : hasAbort pg = true) (hstate : d.rd pg hdrAbortState = 1) :
    abortDoneBody pg d = (d.abortStop pg).1.abortEnd pg (d.abortStop pg).2 :=
  if_pos ⟨ha, hstate⟩

/-- CLEAR on a page whose function does not go on by itself ends the abort and no more (R49). -/
theorem abortClear_plain (hstate : 2 ≤ d.rd pg hdrAbortState) (hscrub : pg ≠ .scrub) (hcore : ∀ c, pg ≠ .tcore c) :
    d.abortClear pg = d.put pg hdrAbortState 0 := by
  unfold Device.abortClear
  rw [if_neg (Nat.not_lt.mpr hstate)]
  cases pg with
  | scrub => exact absurd rfl hscrub
  | tcore c => exact absurd rfl (hcore c)
  | _ => rfl

end

/-- Settles O8: a row is the write of PAGE_CTRL or PAGE_ABORT that carries its tag (`commitBody_plain`, `enableBody_plain`,
`abortRequestBody_running`, `abortClearBody_done`), and what such a write does has one lemma a case. -/
theorem commitsEnablesAndAborts : Obligations.CommitsEnablesAndAborts := by
  unfold Obligations.CommitsEnablesAndAborts
  refine ⟨fun s rq pg tag en hr hepoch hbusy htxl hscrub hporter hstart => ?commit, fun s pg hbusy => ?apply,
    fun s rq pg tag hr hepoch => ⟨?enable, ?pending, ?prior, ?done, ?clear⟩⟩
  case commit =>
    have hbody := commitBody_plain hr hepoch htxl hscrub hporter hstart
    refine ⟨fun hnone e he hu => runChecked_eq _ s e ?_ hu, fun hsome e he hu => runChecked_eq _ s e ?_ hu⟩
    · rw [hbody, commitPage_accepted hbusy hnone, he]
    · rw [hbody, commitPage_refused hbusy hsome, he]
  case apply =>
    intro d e e' he hu
    exact runChecked_eq _ s e' ((stagedSetApplyBody_busy hbusy).trans he.symm) hu
  case enable =>
    intro en htxl hscrub hporter e he hu
    exact runChecked_eq _ s e ((enableBody_plain hr hepoch htxl hscrub hporter).trans he.symm) hu
  case pending =>
    intro ha hstate hbusy hactive e he hu
    refine runChecked_eq _ s e ?_ hu
    rw [abortRequestBody_running hr hepoch ha hstate, abortRequest_idle hstate hbusy, if_pos hactive, he]
  case prior =>
    intro ha hstate hbusy hactive e he hu
    refine runChecked_eq _ s e ?_ hu
    rw [abortRequestBody_running hr hepoch ha hstate, abortRequest_idle hstate hbusy, hactive, he]
    rfl
  case done =>
    intro ha hstate
    exact run_eq _ s _ (abortDoneBody_pending ha hstate)
  case clear =>
    intro ha hstate hscrub hcore
    exact run_eq _ s _ ((abortClearBody_done hr hepoch ha hstate).trans (abortClear_plain hstate hscrub hcore))

end Sys2Proof.Machine
end

section
/-! PROOFS. Causes, the tally, logs and messages (O9): a row is a write of one register, of which one field takes its bits. -/

namespace Sys2Proof.Machine

open Sys2Proof

/-! ### Causes -/

theorem headerWrite_cause (d : Device) (pg : PageRef) (w : Word) :
    d.headerWrite pg 0x014 w = d.setWord (pageBase pg + 0x014) (d.word (pageBase pg + 0x014) &&& ~~~w) := by
  simp [Device.headerWrite]

theorem headerWrite_causeSet (d : Device) (pg : PageRef) (w : Word) :
    d.headerWrite pg 0x01C w =
      d.setWord (pageBase pg + 0x014) (d.word (pageBase pg + 0x014) ||| (w &&& 0xF0FFFFFF)) := by
  simp [Device.headerWrite]

/-! ### Registers with one field that a write changes -/

/-- A write may change the field (R4). -/
def Fld.takesWrites (f : Fld) : Bool := f.ty != .ro && f.ty != .wo

theorem fieldWrite_untaken {d : Device} {pg : PageRef} {f : Fld} (h : f.takesWrites = false) (i v : Nat) :
    d.fieldWrite pg f i v = d := by
  unfold Device.fieldWrite
  cases hty : f.ty with
  | ro => rfl
  | wo => rfl
  | _ => simp [Fld.takesWrites, hty] at h

/-- A write of a register changes it by its fields that take writes alone (R22). -/
theorem foldl_fieldWrite_taken (d : Device) (pg : PageRef) (o : Nat) (w : Word) (fs : List Fld) :
    fs.foldl (fun (d : Device) (f : Fld) => d.fieldWrite pg f ((o - f.off) / f.stride) (bitsOf w f.lo f.width)) d =
      (fs.filter Fld.takesWrites).foldl
        (fun (d : Device) (f : Fld) => d.fieldWrite pg f ((o - f.off) / f.stride) (bitsOf w f.lo f.width)) d := by
  induction fs generalizing d with
  | nil => rfl
  | cons f fs ih =>
    cases h : f.takesWrites with
    | false => rw [List.foldl_cons, fieldWrite_untaken h, List.filter_cons_of_neg (by simp [h]), ih]
    | true => rw [List.foldl_cons, List.filter_cons_of_pos h, List.foldl_cons, ih]

/-- Where one field takes writes and it is no staged one, the write of the register is the write of that field. -/
theorem fieldsWrite_one {pg : PageRef} {f : Fld} (hone : (fieldsAt pg f.off).filter Fld.takesWrites = [f]) (hty : f.ty ≠ .rws)
    (d : Device) (w : Word) : d.fieldsWrite pg f.off w (fun _ => false) = d.fieldWrite pg f 0 (bitsOf w f.lo f.width) := by
  have hstaged : ((fieldsAt pg f.off).any fun g => g.ty == .rws) = false := by
    rw [List.any_eq_false]
    intro g hg hrws
    have hgf : g ∈ (fieldsAt pg f.off).filter Fld.takesWrites :=
      List.mem_filter.mpr ⟨hg, by simp [Fld.takesWrites, eq_of_beq hrws]⟩
    rw [hone, List.mem_singleton] at hgf
    exact hty (hgf ▸ eq_of_beq hrws)
  have hall : (fieldsAt pg f.off).filter (fun _ => !false) = fieldsAt pg f.off := List.filter_eq_self.mpr fun _ _ => rfl
  unfold Device.fieldsWrite
  rw [hall]
  dsimp only
  rw [hstaged, foldl_fieldWrite_taken, hone]
  simp only [Bool.false_eq_true, if_false, List.foldl_cons, List.foldl_nil, Nat.sub_self, Nat.zero_div]

/-- The word with one bit set carries 1 in the field at that bit. -/
theorem bitsOf_oneBit {lo : Nat} (h : lo < 32) : bitsOf (BitVec.ofNat 32 (2 ^ lo)) lo 1 = 1 := by
  have hlt : 2 ^ lo < 2 ^ 32 := Nat.pow_lt_pow_right (by decide) h
  rw [bitsOf, BitVec.extractLsb'_toNat, BitVec.toNat_ofNat, Nat.mod_eq_of_lt hlt, Nat.shiftRight_eq_div_pow,
    Nat.div_self (Nat.two_pow_pos lo)]

/-- Where a flag that is cleared by writing 1 is the one field that takes writes, the write of its bit clears it. -/
theorem fieldsWrite_clears {pg : PageRef} {f : Fld} (hone : (fieldsAt pg f.off).filter Fld.takesWrites = [f]) (hty : f.ty = .w1c)
    (hw : f.width = 1) (hlo : f.lo < 32) (d : Device) :
    d.fieldsWrite pg f.off (BitVec.ofNat 32 (2 ^ f.lo)) (fun _ => false) = d.lower pg f := by
  have hbit : bitsOf (BitVec.ofNat 32 (2 ^ f.lo)) f.lo f.width = 1 := by rw [hw, bitsOf_oneBit hlo]
  rw [fieldsWrite_one hone (by rw [hty]; decide), hbit]
  exact w1c_one d pg f 0 1 hty hw rfl

/-! ### Logs (R175) -/

/-- The page of a link's engine shows that link (R284). -/
theorem curLinkOf_curOfLink (d : Device) (l : Fin 144) : d.curLinkOf (curOfLink l) = some l := by
  have hval : (curOfLink l).val = l.val := Nat.mod_eq_of_lt (by omega)
  have hlt : (curOfLink l).val < 144 := by omega
  rw [Device.curLinkOf, dif_pos hlt]
  exact congrArg some (Fin.ext hval)

/-- The registers of a bay are those of a physical bay, whichever page shows them (R25). -/
theorem blockPage_bay {d : Device} {p : BayPage} {b : PageRef} (h : d.blockPage (bayPageRef p) = some b) : ∃ pb, b = .pbay pb := by
  cases p with
  | bay n => exact ⟨_, (Option.some.inj h).symm⟩
  | pbay pb => exact ⟨_, (Option.some.inj h).symm⟩

theorem logBit_block (log : LogRef) : 0x40 ≤ (logBit log).2.off ∧ (logBit log).2.off < 0x1000 := by
  cases log <;> simp only [logBit] <;> decide

/-- VALID is cleared by writing 1 (R175). -/
theorem logBit_w1c (log : LogRef) : (logBit log).2.ty = .w1c ∧ (logBit log).2.width = 1 ∧ (logBit log).2.lo < 32 := by
  cases log <;> simp only [logBit] <;> decide

/-- No other field of a log's first register takes a write. -/
theorem logBit_alone {d : Device} {log : LogRef} {b : PageRef} (h : d.blockPage (logBit log).1 = some b) :
    (fieldsAt b (logBit log).2.off).filter Fld.takesWrites = [(logBit log).2] := by
  cases log with
  | mem p =>
    obtain ⟨pb, rfl⟩ := blockPage_bay h
    have hbay : (fieldsAt (.pbay 0) fPbayMemLog0Valid.off).filter Fld.takesWrites = [fPbayMemLog0Valid] := by decide
    exact hbay
  | cur n =>
    obtain ⟨l, -, rfl⟩ := Option.map_eq_some_iff.mp h
    have hcur : (fieldsAt (.cur 0) fCurFailLog0Valid.off).filter Fld.takesWrites = [fCurFailLog0Valid] := by decide
    exact hcur
  | _ => cases h; decide

/-- A log's register is none of those whose write acts: a block write of it is the write of its fields. -/
theorem blockWrite_log {d : Device} {log : LogRef} {b : PageRef} (h : d.blockPage (logBit log).1 = some b) (w : Word) :
    d.blockWrite b (logBit log).2.off w = d.fieldsWrite b (logBit log).2.off w (fun _ => false) := by
  cases log with
  | mem p =>
    obtain ⟨pb, rfl⟩ := blockPage_bay h
    simp [Device.blockWrite, Device.pbayWrite, logBit, fPbayMemLog0Valid, fPbayCaptureCmdGo, fPbayShutterState]
  | cur n =>
    obtain ⟨l, -, rfl⟩ := Option.map_eq_some_iff.mp h
    simp [Device.blockWrite, curPage, curLinkOf_curOfLink, Device.curRegWrite, logBit, fCurFailLog0Valid, fCurShutterState,
      fCurKeyCtrlRoll, fCurWinCmdInit, fCurQuarReleaseGo]
  | lastFail =>
    cases h
    simp [Device.blockWrite, Device.clkWrite, logBit, fClkLastFailValid, fClkRefCtrlPrefer, fClkSillClkSrcSel, fClkSrcRunRun,
      fClkRatioLlDiv]
  | header => cases h; simp [Device.blockWrite, Device.meshWrite, logBit, fMeshLogStatusValid, fMeshRouteDataValid]
  | detour => cases h; simp [Device.blockWrite, Device.meshWrite, logBit, fMeshDetourLogValid, fMeshRouteDataValid]
  | scrub =>
    cases h
    simp [Device.blockWrite, Device.scrubWrite, logBit, fScrubErrLog0Valid, fScrubInjectAddrFrame, fScrubInjectWord]
  | window => cases h; rfl
  | fault => cases h; simp [Device.blockWrite, Device.sillWrite, logBit, fSillFaultValid, fSillAlertRearmRearm]

/-- The first place of a field lies at the field's offset. -/
theorem Fld.at_zero (f : Fld) : f.at_ 0 = f.off := by simp [Fld.at_]

theorem takes_page {d : Device} {rq : Requester} {pg b : PageRef} (h : d.takes rq pg b) : d.blockPage pg = some b := by
  obtain ⟨-, -, -, hpage, -⟩ := h
  exact hpage

theorem logFreeBody_clears {d : Device} {rq : Requester} {log : LogRef} {b : PageRef} (h : d.takes rq (logBit log).1 b) :
    logFreeBody rq log d = d.lower b (logBit log).2 := by
  have hpage := takes_page h
  obtain ⟨hblock, hpageEnd⟩ := logBit_block log
  obtain ⟨hty, hwidth, hlo⟩ := logBit_w1c log
  have hrow : logFreeBody rq log =
      regWriteBody rq (regAt (logBit log).1 (logBit log).2) (BitVec.ofNat 32 (2 ^ (logBit log).2.lo)) := rfl
  rw [← Fld.at_zero] at hblock hpageEnd
  rw [hrow, takes_fld h _ 0 _ hblock hpageEnd, Fld.at_zero, blockWrite_log hpage,
    fieldsWrite_clears (logBit_alone hpage) hty hwidth hlo]

/-! ### The tally -/

section
variable {d : Device} {idx : BitVec 13}

theorem tallyClear_write {rq : Requester} (h : d.takes rq .tally .tally) (w : Word) :
    regWriteBody rq (regAt .tally fTallyClearIndex) w d = d.tallyClear (bitsOf w 0 13) (w.getLsbD 31) := by
  rw [takes_fld h fTallyClearIndex 0 w (by decide) (by decide), Fld.at_zero]
  simp only [Device.blockWrite, Device.tallyWrite, if_true]

/-- A listed index: the guard that drops the error of an unlisted one does not hold. -/
theorem tallyEntry_listed (h : (d.tallyEntry idx.toNat).valid = true ∨ (d.tallyEntry idx.toNat).leaf = true) :
    (!(d.tallyEntry idx.toNat).valid && !(d.tallyEntry idx.toNat).leaf) = false := by
  rcases h with h | h <;> simp [h]

theorem tallyEccErrorBody_single (h : (d.tallyEntry idx.toNat).valid = true ∨ (d.tallyEntry idx.toNat).leaf = true) :
    tallyEccErrorBody idx false d = d.raise .tally cTallyTallyFixed := by
  simp [tallyEccErrorBody, tallyEntry_listed h]

theorem tallyEccErrorBody_leaf (h : (d.tallyEntry idx.toNat).leaf = true) : tallyEccErrorBody idx true d =
    { d with tally := sset tallyDflt d.tally (idx.toNat - 1024) none }.raise .tally cTallyTallyLost := by
  simp [tallyEccErrorBody, h]

theorem tallyEccErrorBody_total (hvalid : (d.tallyEntry idx.toNat).valid = true ∨ (d.tallyEntry idx.toNat).leaf = true)
    (hleaf : (d.tallyEntry idx.toNat).leaf = false) (hbroken : d.tallyBroken.contains idx.toNat = false) :
    tallyEccErrorBody idx true d = { d with tallyBroken := d.tallyBroken ++ [idx.toNat] } := by
  have hlisted : (d.tallyEntry idx.toNat).valid = true := hvalid.resolve_right (by simp [hleaf])
  simp only [tallyEccErrorBody, hlisted, hleaf, hbroken, Bool.not_true, Bool.false_and, Bool.false_eq_true, if_false]

theorem tallyRecomputeBody_broken (h : d.tallyBroken.contains idx.toNat = true) : tallyRecomputeBody idx d =
    { d with tallyBroken := d.tallyBroken.erase idx.toNat }.raise .tally cTallyTallyFixed :=
  if_pos h

end

/-! ### Messages (R42, R43) -/

/-- ALERT_REARM stores nothing; a write of 1 raises the message where the alert condition holds. -/
theorem alertRearm_write {d : Device} {rq : Requester} (h : d.takes rq .sill .sill) (w : Word) :
    regWriteBody rq (regAt .sill fSillAlertRearmRearm) w d =
      if w.getLsbD 0 = true ∧ d.alertHolds = true then d.raiseMsix .pf0 0 else d := by
  have hfields : d.fieldsWrite .sill fSillAlertRearmRearm.off w (fun _ => false) = d := fieldsWrite_nil (by decide)
  rw [takes_fld h fSillAlertRearmRearm 0 w (by decide) (by decide), Fld.at_zero]
  simp only [Device.blockWrite, hfields, Device.sillWrite, true_and, Device.alertRearm]
  cases w.getLsbD 0 with
  | false => simp only [Bool.false_eq_true, if_false, false_and]
  | true => simp only [if_true, true_and]

/-- What waited for the link goes out as it comes to L0. -/
theorem alertMsixSendBody_waiting {d : Device} (h : d.msixWait ≠ []) : alertMsixSendBody d = d.linkAwake :=
  if_neg (by simpa using h)

section
variable {d : Device} {fn : PcieFn} {vec : Fin 64} {mask : Bool}

/-- A ready function has the vector: PF0 has vector 0 alone. -/
theorem msixVector_exists (hready : d.fnReady fn = true) (hpf0 : fn = .pf0 → vec.val = 0) :
    ¬ (d.fnReady fn = false ∨ fn = .pf0 ∧ vec.val ≠ 0) := by
  rintro (h | ⟨h, hv⟩)
  · simp [hready] at h
  · exact hv (hpf0 h)

theorem msixUnmaskBody_owned (hready : d.fnReady fn = true) (hpf0 : fn = .pf0 → vec.val = 0)
    (howner : fn = .pf0 ∨ ownerCode fn = some (d.vectorOwner vec.val)) : msixUnmaskBody fn vec mask d =
      { d with msixMask := sset (fun _ => true) d.msixMask (msixKey fn vec.val) mask }.flushPending fn := by
  rw [msixUnmaskBody, if_neg (msixVector_exists hready hpf0), if_neg fun ⟨hfn, hcode⟩ => howner.elim hfn hcode]

theorem msixUnmaskBody_foreign (hready : d.fnReady fn = true) (hpf0 : fn = .pf0 → vec.val = 0)
    (howner : fn ≠ .pf0 ∧ ownerCode fn ≠ some (d.vectorOwner vec.val)) : msixUnmaskBody fn vec mask d = d.ownerViolation := by
  rw [msixUnmaskBody, if_neg (msixVector_exists hready hpf0), if_pos howner]

end

/-- Settles O9: each row is the register write or the body that its lemma names. -/
theorem causesTalliesLogsAndMessages : Obligations.CausesTalliesLogsAndMessages := by
  unfold Obligations.CausesTalliesLogsAndMessages
  refine ⟨fun s rq pg w hr => ?causes, ⟨fun s rq w h => ?clear, fun s idx hvalid => ?error, fun s idx h => ?recompute⟩,
    fun s rq log b h => ?log, fun s rq w h => ?rearm, fun s h => ?send, fun s fn vec mask hready hpf0 => ?unmask⟩
  case causes =>
    exact ⟨run_eq _ s _ ((reaches_write hr 0x014 w (by decide)).trans (headerWrite_cause _ _ _)),
      run_eq _ s _ ((reaches_write hr 0x01C w (by decide)).trans (headerWrite_causeSet _ _ _))⟩
  case clear => exact run_eq _ s _ (tallyClear_write h w)
  case error =>
    exact ⟨run_eq _ s _ (tallyEccErrorBody_single hvalid), fun hleaf => run_eq _ s _ (tallyEccErrorBody_leaf hleaf),
      fun hleaf hbroken => run_eq _ s _ (tallyEccErrorBody_total hvalid hleaf hbroken)⟩
  case recompute => exact run_eq _ s _ (tallyRecomputeBody_broken h)
  case log => exact run_eq _ s _ (logFreeBody_clears h)
  case rearm => exact run_eq _ s _ (alertRearm_write h w)
  case send => exact run_eq _ s _ (alertMsixSendBody_waiting h)
  case unmask =>
    exact ⟨fun howner => run_eq _ s _ (msixUnmaskBody_owned hready hpf0 howner),
      fun howner => run_eq _ s _ (msixUnmaskBody_foreign hready hpf0 howner)⟩

end Sys2Proof.Machine
end

section
/-! PROOFS. Words of hinge and stile channels (O15): a case each for a word that is sent, one that arrives and one that is taken. -/

namespace Sys2Proof.Machine

open Sys2Proof

section
variable {d : Device} {n : Fin 104} {v w : BitVec 70} {ws : List (BitVec 70)} {tag : Option (Fin 128)} {m k : Nat}

/-- The tag bits of a word are the design's own, or TAG_OUT of the slice that drives them (R125). -/
theorem tagged_eq_of (hw : w = match tag with
    | none => v
    | some sl => d.tagOut (d.physOf n) sl.val ++ v.extractLsb' 0 64) : d.tagged n v tag = w := by
  subst hw
  cases tag with
  | none => rfl
  | some sl => rfl

/-- A live bay with its outputs released, a destination that takes words and a credit in hand: nothing holds a word back (R66). -/
theorem word_unheld {credits : Nat} (hlive : d.bayLive (d.physOf n) = true) (hout : d.outputsReleased (d.physOf n) = true)
    (htakes : d.takesWords m = true) (hcredit : 0 < credits) :
    (!d.bayLive (d.physOf n) || !d.outputsReleased (d.physOf n) || !d.takesWords m || credits == 0) = false := by
  have hne : (credits == 0) = false := beq_false_of_ne (Nat.ne_of_gt hcredit)
  rw [hlive, hout, htakes, hne]
  rfl

/-! ### Hinge channels (R65, R66) -/

theorem hingeWordSendBody_sends {ch : Fin 8} (hpair : d.hingeAgrees n.val ch.val = some (m, k)) (hw : d.tagged n v tag = w)
    (hlive : d.bayLive (d.physOf n) = true) (hout : d.outputsReleased (d.physOf n) = true) (htakes : d.takesWords m = true)
    (hcredit : 0 < sget (fun _ => 8) d.hingeCredits (n.val * 8 + ch.val)) :
    hingeWordSendBody n ch v tag d = { d with
      hingeCredits := sset (fun _ => 8) d.hingeCredits (n.val * 8 + ch.val)
        (sget (fun _ => 8) d.hingeCredits (n.val * 8 + ch.val) - 1)
      hingeOutReg := sset (fun _ => 0) d.hingeOutReg (n.val * 8 + ch.val) w
      hinges := sset chanDflt d.hinges (m * 8 + k) { sget chanDflt d.hinges (m * 8 + k) with
        flight := (sget chanDflt d.hinges (m * 8 + k)).flight ++ [w] } } := by
  simp only [hingeWordSendBody, hpair, hw, word_unheld hlive hout htakes hcredit, Bool.false_eq_true, if_false]

theorem hingeWordArriveBody_arrives {ch : Fin 8} (hflight : (sget chanDflt d.hinges (n.val * 8 + ch.val)).flight = w :: ws) :
    hingeWordArriveBody n ch d = { d with
      hinges := sset chanDflt d.hinges (n.val * 8 + ch.val)
        { buf := (sget chanDflt d.hinges (n.val * 8 + ch.val)).buf ++ [w], flight := ws } }.wakeBay n := by
  simp only [hingeWordArriveBody, hflight]

/-- Taking a word leaves the settings of the bay, where its partner is found. -/
theorem hingeCreditReturnBody_takes {ch : Fin 8} (hbuf : (sget chanDflt d.hinges (n.val * 8 + ch.val)).buf = w :: ws)
    (hlive : d.bayLive (d.physOf n) = true) (hpartner : partnerAt (d.cfgOf n).hingeIn ch.val = some (m, k)) :
    hingeCreditReturnBody n ch d = { d with
      hinges := sset chanDflt d.hinges (n.val * 8 + ch.val)
        { sget chanDflt d.hinges (n.val * 8 + ch.val) with buf := ws }
      hingeCredits := sset (fun _ => 8) d.hingeCredits (m * 8 + k)
        (min 8 (sget (fun _ => 8) d.hingeCredits (m * 8 + k) + 1)) }.emit (.hingeWord n.val ch.val w) := by
  have hlater : ∀ hs o, partnerAt (({ d with hinges := hs }.emit o).cfgOf n).hingeIn ch.val = some (m, k) := fun _ _ => hpartner
  simp only [hingeCreditReturnBody, hbuf, hlive, Bool.not_true, Bool.false_eq_true, if_false, hlater]
  rfl

/-! ### Stile channels (R69) -/

theorem stileWordSendBody_sends {ch : Fin 4} (hpair : d.stileAgrees n.val ch.val = some (m, k)) (hw : d.tagged n v tag = w)
    (hlive : d.bayLive (d.physOf n) = true) (hout : d.outputsReleased (d.physOf n) = true) (htakes : d.takesWords m = true)
    (hcredit : 0 < sget (fun _ => 16) d.stileCredits (n.val * 4 + ch.val)) :
    stileWordSendBody n ch v tag d = { d with
      stileCredits := sset (fun _ => 16) d.stileCredits (n.val * 4 + ch.val)
        (sget (fun _ => 16) d.stileCredits (n.val * 4 + ch.val) - 1)
      stileOutReg := sset (fun _ => 0) d.stileOutReg (n.val * 4 + ch.val) w
      stiles := sset chanDflt d.stiles (m * 4 + k) { sget chanDflt d.stiles (m * 4 + k) with
        flight := (sget chanDflt d.stiles (m * 4 + k)).flight ++ [w] } } := by
  simp only [stileWordSendBody, hpair, hw, word_unheld hlive hout htakes hcredit, Bool.false_eq_true, if_false]

theorem stileWordArriveBody_arrives {ch : Fin 4} (hflight : (sget chanDflt d.stiles (n.val * 4 + ch.val)).flight = w :: ws) :
    stileWordArriveBody n ch d = { d with
      stiles := sset chanDflt d.stiles (n.val * 4 + ch.val)
        { buf := (sget chanDflt d.stiles (n.val * 4 + ch.val)).buf ++ [w], flight := ws } }.wakeBay n := by
  simp only [stileWordArriveBody, hflight]

theorem stileCreditReturnBody_takes {ch : Fin 4} (hbuf : (sget chanDflt d.stiles (n.val * 4 + ch.val)).buf = w :: ws)
    (hlive : d.bayLive (d.physOf n) = true) (hpartner : partnerAt (d.cfgOf n).stileIn ch.val = some (m, k)) :
    stileCreditReturnBody n ch d = { d with
      stiles := sset chanDflt d.stiles (n.val * 4 + ch.val) { sget chanDflt d.stiles (n.val * 4 + ch.val) with buf := ws }
      stileCredits := sset (fun _ => 16) d.stileCredits (m * 4 + k)
        (min 16 (sget (fun _ => 16) d.stileCredits (m * 4 + k) + 1)) }.emit (.stileWord n.val ch.val w) := by
  have hlater : ∀ hs o, partnerAt (({ d with stiles := hs }.emit o).cfgOf n).stileIn ch.val = some (m, k) := fun _ _ => hpartner
  simp only [stileCreditReturnBody, hbuf, hlive, Bool.not_true, Bool.false_eq_true, if_false, hlater]
  rfl

end

/-- Settles O15: for a hinge and for a stile channel, a row is the body that its lemma names. -/
theorem channelsUseCredits : Obligations.ChannelsUseCredits := by
  unfold Obligations.ChannelsUseCredits
  refine ⟨⟨?hingeSend, ?hingeTake⟩, ?stileSend, ?stileTake⟩
  case hingeSend =>
    rintro s n ch v w tag m k hpair hw hlive hout htakes _ rfl hcredit
    exact run_eq _ s _ (hingeWordSendBody_sends hpair (tagged_eq_of hw) hlive hout htakes hcredit)
  case hingeTake =>
    rintro s n ch w ws _ rfl
    exact ⟨fun hflight => run_eq _ s _ (hingeWordArriveBody_arrives hflight),
      fun m k hbuf hlive hpartner => run_eq _ s _ (hingeCreditReturnBody_takes hbuf hlive hpartner)⟩
  case stileSend =>
    rintro s n ch v w tag m k hpair hw hlive hout htakes _ rfl hcredit
    exact run_eq _ s _ (stileWordSendBody_sends hpair (tagged_eq_of hw) hlive hout htakes hcredit)
  case stileTake =>
    rintro s n ch w ws _ rfl
    exact ⟨fun hflight => run_eq _ s _ (stileWordArriveBody_arrives hflight),
      fun m k hbuf hlive hpartner => run_eq _ s _ (stileCreditReturnBody_takes hbuf hlive hpartner)⟩

end Sys2Proof.Machine
end

section
/-! PROOFS. Sidebands, jamb inputs and drowsy gating (O16): the level that a change leaves behind, and the bays that it wakes. -/

namespace Sys2Proof.Machine

open Sys2Proof

/-! ### Sidebands (R67) -/

section
variable {d : Device} {n : Fin 104} {i : Fin 32} {v : Bool}

theorem sidebandChangeBody_live (hlive : d.bayLive (d.physOf n) = true) : sidebandChangeBody n i v d =
    let e := { d with sbOut := sset (fun _ => false) d.sbOut (n.val * 32 + i.val) v }
    if v = sget (fun _ => false) d.sbOut (n.val * 32 + i.val) ∨ e.outputsReleased (e.physOf n) = false then e
    else e.wakeFed n.val i.val := by
  simp only [sidebandChangeBody, hlive, Bool.not_true, Bool.false_eq_true, if_false]

end

/-! ### Jamb inputs (R478) -/

/-- JAMB_IN_LO holds the bumps below 32, JAMB_IN_HI the others. -/
def jambInKey (j : Nat) : Nat := if j < 32 then 0xF040 else 0xF044

/-- The device in which the bit of bump `j` in the JAMB_IN registers is `v`. -/
def Device.driveJamb (d : Device) (j : Nat) (v : Bool) : Device :=
  d.setWord (jambInKey j) (setBits (d.word (jambInKey j)) (j % 32) 1 v.toNat)

theorem jambInKey_fldKey (j : Nat) : (if j < 32 then fldKey .jamb fJambInLo 0 else fldKey .jamb fJambInHi 0) = jambInKey j := rfl

/-- The level of a bump is its bit of the register that holds it. -/
theorem jambIn_eq_bit (d : Device) (j : Fin 48) : d.jambIn j.val = (d.word (jambInKey j.val)).getLsbD (j.val % 32) := by
  by_cases h : j.val < 32
  · have hbit : j.val % 32 = j.val := Nat.mod_eq_of_lt h
    simp only [Device.jambIn, jambInKey, h, if_true, hbit]
    rfl
  · have hbit : j.val % 32 = j.val - 32 := by omega
    simp only [Device.jambIn, jambInKey, h, if_false, hbit]
    rfl

/-- A bit written alone reads back. -/
theorem getLsbD_setBits_bit (w : Word) {i : Nat} (hi : i < 32) (v : Bool) : (setBits w i 1 v.toNat).getLsbD i = v := by
  rw [getLsbD_setBits w i 1 v.toNat i hi, if_pos ⟨Nat.le_refl i, Nat.lt_succ_self i⟩, Nat.sub_self]
  cases v <;> rfl

theorem driveJamb_jambIn (d : Device) (j : Fin 48) (v : Bool) : (d.driveJamb j.val v).jambIn j.val = v := by
  rw [jambIn_eq_bit, Device.driveJamb, word_setWord_self]
  exact getLsbD_setBits_bit _ (Nat.mod_lt _ (by decide)) v

theorem jambInputBody_drives (d : Device) (j : Fin 48) (v : Bool) : jambInputBody j v d =
    if v = d.jambIn j.val then d.driveJamb j.val v else (d.driveJamb j.val v).wakeClaimants j.val := by
  have hlevel : (if v = true then 1 else 0) = v.toNat := by cases v <;> rfl
  simp only [jambInputBody, jambInKey_fldKey, hlevel, Device.driveJamb]

/-! ### Drowsy gating (R146, R147) -/

/-- A bay that DROWSE has not stopped loses its gate (R147). -/
theorem wakeBay_running {d : Device} {n : Fin 104} (h : sget (fun _ => false) d.drowsed n.val = false) :
    d.wakeBay n = d.lower (.pbay (d.physOf n)) fPbayHingeStatusDrowsyGated := by
  simp [Device.wakeBay, h]

/-- A bay stopped by MODE_REQ DROWSE does not wake (R458). -/
theorem wakeBay_stopped {d : Device} {n : Fin 104} (h : sget (fun _ => false) d.drowsed n.val = true) : d.wakeBay n = d :=
  if_pos h

/-- Settles O16: a sideband and a bump take their level, by `sidebandChangeBody_live` and `driveJamb_jambIn`; gating and waking set
and clear one flag. -/
theorem sidebandsJambsAndDrowsyGating : Obligations.SidebandsJambsAndDrowsyGating := by
  unfold Obligations.SidebandsJambsAndDrowsyGating
  refine ⟨⟨?sideband, ?jamb⟩, ?drowsy⟩
  case sideband =>
    rintro s n i v hlive d rfl
    refine ⟨fun hv hout => run_eq _ s _ ((sidebandChangeBody_live hlive).trans (if_neg ?_)),
      fun hquiet => run_eq _ s _ ((sidebandChangeBody_live hlive).trans (if_pos hquiet))⟩
    rintro (h | h)
    · exact hv h
    · exact absurd (h.symm.trans hout) Bool.false_ne_true
  case jamb =>
    rintro s j v e rfl
    exact ⟨fun hsame => run_eq _ s _ ((jambInputBody_drives s.dev j v).trans (if_pos hsame)),
      fun hnew => run_eq _ s _ ((jambInputBody_drives s.dev j v).trans (if_neg hnew)), driveJamb_jambIn s.dev j v⟩
  case drowsy =>
    rintro s n pb rfl
    refine ⟨fun hen hmode hcap hin hreq hq hbusy hpr hmig => run_eq _ s _ ?_,
      fun hrun => run_eq _ s _ (wakeBay_running hrun), fun hstop => run_eq _ s _ (wakeBay_stopped hstop)⟩
    exact if_pos ⟨hen, hmode, hcap, hin, hreq, hq, hbusy, hpr, hmig⟩

end Sys2Proof.Machine
end

section
/-! PROOFS. Captures (O14): the write of CAPTURE_CMD that CAPTURE and CAPTURE_ALL stand for, and what its GO begins. -/

namespace Sys2Proof.Machine

open Sys2Proof

section
variable {d : Device} {pb : Fin 112}

/-- CAPTURE_CMD stores nothing: its write acts alone. -/
theorem pbayWrite_captureCmd (d : Device) (pb : Fin 112) (w : Word) :
    d.pbayWrite pb fPbayCaptureCmdGo.off w = d.captureWrite (.pbay pb) w := by
  have hwo : ∀ f ∈ fieldsAt (.pbay 0) fPbayCaptureCmdGo.off, f.ty = .wo ∨ f.ty = .ro := by decide
  have hfields : d.fieldsWrite (.pbay pb) fPbayCaptureCmdGo.off w (fun _ => false) = d := fieldsWrite_nil hwo
  simp only [Device.pbayWrite, hfields, if_true]

/-- A write of CAPTURE_CMD through either page of a bay acts on the physical bay (R25). -/
theorem captureCmd_write {rq : Requester} {b : BayPage} (h : d.takes rq (bayPageRef b) (.pbay pb)) (w : Word) :
    regWriteBody rq (regAt (bayPageRef b) fPbayCaptureCmdGo) w d = d.captureWrite (.pbay pb) w := by
  rw [takes_fld h fPbayCaptureCmdGo 0 w (by decide) (by decide), Fld.at_zero]
  exact pbayWrite_captureCmd d pb w

/-- GO without ALL: one bay. -/
theorem captureWrite_go (d : Device) (b : BayPage) : d.captureWrite b 1 = captureBody b (d.holdOver b) := rfl

/-- GO with ALL: every bay. -/
theorem captureWrite_all (d : Device) (b : BayPage) : d.captureWrite b 3 = captureAllBody d.holdsEnd := rfl

theorem captureBody_starts (hshut : d.bayShutter pb ≠ shutterClosed) (hpr : d.flag (.pbay pb) fPbayBayCfgStateInPr = false)
    (hfree : d.captureBlocked pb = false) : captureBody (.pbay pb) d = d.startCapture pb false := by
  simp [captureBody, Device.bayPhys, hshut, hpr, hfree]

theorem captureBody_refused (h : d.bayShutter pb = shutterClosed ∨ d.flag (.pbay pb) fPbayBayCfgStateInPr = true ∨
    d.captureBlocked pb = true) : captureBody (.pbay pb) d = d.bayCause pb cBayCaptureRefused := by
  rcases h with h | h | h <;> simp [captureBody, Device.bayPhys, h]

theorem captureAllBody_eq (d : Device) : captureAllBody d = (List.finRange 112).foldl (fun d p =>
    if d.inService p = false ∨ d.flag (.pbay p) fPbayBayCfgStateInPr = true then d
    else if d.captureBlocked p then d.bayCause p cBayCaptureRefused
    else d.startCapture p true) d := by
  simp only [captureAllBody, Bool.or_eq_true, Bool.not_eq_true']

/-- A capture under way loads the shadow (R74). -/
theorem captureCompleteBody_busy (h : d.flag (.pbay pb) fPbayCaptureStatusBusy = true) : captureCompleteBody pb d =
    let e := d.loadShadow pb
    let e := e.put (.pbay pb) fPbayCaptureStatusSeq (e.rd (.pbay pb) fPbayCaptureStatusSeq + 1)
    let e := e.put (.pbay pb) fPbayCaptureStatusShadowFrames (e.shadowFrames pb)
    let e := e.put (.pbay pb) fPbayCaptureStatusLastAll (if sget (fun _ => false) d.captureAll pb.val then 1 else 0)
    let e := (e.raise (.pbay pb) fPbayCaptureStatusShadowValid).lower (.pbay pb) fPbayCaptureStatusBusy
    e.bayCause pb cBayCaptureDone := by
  simp only [captureCompleteBody, h, Bool.not_true, Bool.false_eq_true, if_false]

end

/-- Settles O14: CAPTURE and CAPTURE_ALL are the write of CAPTURE_CMD (`captureCmd_write`) with GO and with GO and ALL. -/
theorem capturesBeginAndEnd : Obligations.CapturesBeginAndEnd := by
  unfold Obligations.CapturesBeginAndEnd
  refine ⟨fun s rq b pb h => ⟨?one, ?all⟩, fun s pb hbusy => run_eq _ s _ (captureCompleteBody_busy hbusy)⟩
  case one =>
    rintro d rfl
    have hgo := (captureCmd_write h 1).trans (captureWrite_go s.dev (.pbay pb))
    exact ⟨fun hshut hpr hfree => run_eq _ s _ (hgo.trans (captureBody_starts hshut hpr hfree)),
      fun hrefused => run_eq _ s _ (hgo.trans (captureBody_refused hrefused))⟩
  case all =>
    have hall := (captureCmd_write h 3).trans (captureWrite_all s.dev (.pbay pb))
    exact run_eq _ s _ (hall.trans (captureAllBody_eq _))

end Sys2Proof.Machine
end

section
/-! PROOFS. Block memories (O17): what an edge of a port does while it is held at OUT_RESET, as a read, and as a write of each mode;
the write-back of a row. -/

namespace Sys2Proof.Machine

open Sys2Proof

/-! ### An edge of a port under set-reset or before ENABLE_WRITES (R94) -/

section
variable {d : Device} {pb : Fin 112} {m : Fin 128} {p : BramPort} {other : Option OtherPort} {base : Nat}
  (hbase : base = d.cascadeBase pb m.val) (hedge : d.portEdge pb base p = true)
  (hheld : d.inReset pb = true ∨ sget (fun _ => false) d.writesOn pb.val = false)
include hbase hedge hheld

theorem bramReadBody_held (addr : BitVec 15) (rst : Bool) : bramReadBody pb m p addr rst other d = d.resetPortOut pb base p := by
  subst hbase
  rcases hheld with h | h <;> simp [bramReadBody, hedge, h]

theorem bramWriteBody_held (acc : BramAccess) : bramWriteBody pb m p acc other d = d.resetPortOut pb base p := by
  subst hbase
  rcases hheld with h | h <;> simp [bramWriteBody, hedge, h]

end

/-! ### An edge of a port that runs, at a row of member `mm` (R87 to R91, R98 to R100) -/

/-- The row of a port write holds `new`, whatever waited for it there is gone, and what it held before the edge is kept for the
other port. -/
def Device.storeRow (d : Device) (pb : Fin 112) (mm r : Nat) (before new : BitVec 72) : Device :=
  (({ d with
      free := d.free + 16
      rowWas := sset (fun _ => none) d.rowWas (memKey pb mm) (some (r, before)) }.setRow pb mm r new).dropWriteback pb mm r).markDirty
    pb mm r

section
variable {d : Device} {pb : Fin 112} {m : Fin 128} {p : BramPort} {other hit : Option OtherPort} {base mm a : Nat} {c : BramCfg}
  {sh : Shape} {before : BitVec 72}
  (hbase : base = d.cascadeBase pb m.val) (hc : c = d.memCfg pb base) (hsh : sh = (c.port p).shape)
  (hedge : d.portEdge pb base p = true) (hreset : d.inReset pb = false) (hon : sget (fun _ => false) d.writesOn pb.val = true)
  (hmem : d.cascadeMember pb base a sh = some mm) (hhit : hit = d.collides pb base p mm (rowOf sh a) other)
  (hbefore : before = d.rowBefore pb mm (rowOf sh a) hit)
include hbase hc hsh hedge hreset hon hmem hhit hbefore

theorem bramReadBody_live {addr : BitVec 15} {rst : Bool} (ha : a = d.portAddr pb base p addr) :
    bramReadBody pb m p addr rst other d =
      let seen := c.seen p d.free before hit
      let rd := readRow c sh a seen
      let e := ({ d with free := d.free + 8 }.showPort pb base p rst rd.1).reportOnce pb c p mm (rowOf sh a) seen before rd hit
      if rd.1.fix then e.askWriteback pb mm (rowOf sh a) else e := by
  subst hbase hc hsh ha hhit hbefore
  simp only [bramReadBody, hedge, hreset, hon, hmem, Bool.not_true, Bool.or_self, Bool.false_eq_true, if_false]

/-- Every write stores its row. KEEP leaves the output as it is, THROUGH shows the word of its own write, PRIOR reads the word from
before it and reports what it finds (R88). -/
theorem bramWriteBody_live {acc drv : BramAccess} {new : BitVec 72} (ha : a = d.portAddr pb base p acc.addr)
    (hw : (d.memCfg pb mm).writeAllowed = true) (hdrv : drv = d.driven pb base p mm acc)
    (hnew : new = c.merged p d.free before (d.row pb mm (rowOf sh a)) drv hit) :
    let e := d.storeRow pb mm (rowOf sh a) before new
    let old := c.seen p (d.free + 8) before hit
    let rd := readRow c sh a old
    ((c.port p).mode = .keep → bramWriteBody pb m p acc other d = if acc.rst then e.resetPortOut pb base p else e) ∧
    ((c.port p).mode = .through → bramWriteBody pb m p acc other d =
      e.showPort pb base p acc.rst (readRow c sh a (writeRow c sh drv before)).1) ∧
    ((c.port p).mode = .prior → bramWriteBody pb m p acc other d =
      (e.showPort pb base p acc.rst rd.1).reportOnce pb c p mm (rowOf sh a) old before rd hit) := by
  subst hbase hc hsh ha hhit hbefore hdrv hnew
  refine ⟨fun hmode => ?_, fun hmode => ?_, fun hmode => ?_⟩ <;>
  · simp only [bramWriteBody, hedge, hreset, hon, hmem, hw, hmode, Bool.not_true, Bool.or_self, Bool.false_eq_true, if_false]
    rfl

end

/-! ### Write-back (R99) -/

theorem bramWritebackBody_oldest {d : Device} {pb : Fin 112} {m : Fin 128} {r : Nat} {rs : List Nat} (hclk : d.bayClocked pb = true)
    (hwait : sget (fun _ => ([] : List Nat)) d.writeback (memKey pb m.val) = r :: rs) :
    bramWritebackBody pb m d = (d.setRow pb m.val r (eccFix (d.row pb m.val r))).dropWriteback pb m.val r := by
  simp only [bramWritebackBody, hwait, hclk, Bool.not_true, Bool.false_eq_true, if_false]

/-- Settles O17: an edge is held (`bramReadBody_held`, `bramWriteBody_held`), a read (`bramReadBody_live`) or a write of its mode
(`bramWriteBody_live`); the write-back takes the oldest row that waits (`bramWritebackBody_oldest`). -/
theorem blockMemories : Obligations.BlockMemories := by
  unfold Obligations.BlockMemories
  refine ⟨fun s pb m p mm addr rst other c sh a base hbase hc hsh ha hedge => ⟨fun hheld => ?held, fun hreset hon hmem hit before hhit
    hbefore => ⟨?read, ?write⟩⟩, fun s pb m r b => run_eq (bramUpsetBody pb m r b) s _ rfl,
    fun s pb m r rs hclk hwait => run_eq _ s _ (bramWritebackBody_oldest hclk hwait)⟩
  case held =>
    exact ⟨run_eq _ s _ (bramReadBody_held hbase hedge hheld addr rst),
      fun acc => run_eq _ s _ (bramWriteBody_held hbase hedge hheld acc)⟩
  case read =>
    rintro seen rd rfl rfl d rfl
    exact run_eq _ s _ (bramReadBody_live hbase hc hsh hedge hreset hon hmem hhit hbefore ha)
  case write =>
    rintro acc drv new rfl rfl hw hdrv hnew d rfl
    obtain ⟨hkeep, hthrough, hprior⟩ :=
      bramWriteBody_live hbase hc hsh hedge hreset hon hmem hhit hbefore ha hw hdrv hnew
    refine ⟨fun hmode => run_eq _ s _ (hkeep hmode), fun hmode => run_eq _ s _ (hthrough hmode), ?_⟩
    rintro old rd rfl rfl hmode
    exact run_eq _ s _ (hprior hmode)

end Sys2Proof.Machine
end

section
/-! PROOFS. Rounding and the redundant-sign count (O11): what each mode does at a position, and what a count says of the bits. -/

namespace Sys2Proof.Machine

open Sys2Proof

/-! ### Rounding (R116) -/

section
variable {k : Nat} (y : Int)

@[simp] theorem roundTo_zero (m : RndMode) : roundTo m 0 y = y := if_pos rfl

theorem roundTo_trunc (hk : 0 < k) : roundTo .trunc k y = y - y % 2 ^ k := if_neg (Nat.ne_of_gt hk)

theorem roundTo_halfUp (hk : 0 < k) : roundTo .halfUp k y = (y + 2 ^ (k - 1)) - (y + 2 ^ (k - 1)) % 2 ^ k := if_neg (Nat.ne_of_gt hk)

theorem roundTo_convergent_of_ne {y : Int} (h : y % 2 ^ k ≠ 2 ^ (k - 1)) : roundTo .convergent k y = roundTo .halfUp k y := by
  have hmod : Int.emod y (2 ^ k) ≠ 2 ^ (k - 1) := h
  simp only [roundTo, if_neg hmod]

/-- At a tie the value lies half a step above an even multiple of `2 ^ k`, which is taken, or above an odd one, and then the next
multiple is. -/
theorem roundTo_convergent_tie {y : Int} (hk : 0 < k) (h : y % 2 ^ k = 2 ^ (k - 1)) :
    (y / 2 ^ k % 2 = 0 ∧ roundTo .convergent k y = y / 2 ^ k * 2 ^ k) ∨
    (y / 2 ^ k % 2 = 1 ∧ roundTo .convergent k y = (y / 2 ^ k + 1) * 2 ^ k) := by
  have hpos : (0 : Int) < 2 ^ k := Int.pow_pos (by decide)
  have hlow : y - y % 2 ^ k = y / 2 ^ k * 2 ^ k := by
    have hy := Int.ediv_mul_add_emod y (2 ^ k)
    omega
  have hround : roundTo .convergent k y =
      if Int.fdiv (y - y % 2 ^ k) (2 ^ k) % 2 = 0 then y - y % 2 ^ k else y - y % 2 ^ k + 2 ^ k := by
    rw [roundTo, if_neg (Nat.ne_of_gt hk)]; exact if_pos h
  rw [hlow, Int.fdiv_eq_ediv_of_nonneg _ (Int.le_of_lt hpos), Int.mul_ediv_cancel _ (Int.ne_of_gt hpos)] at hround
  rcases Int.emod_two_eq (y / 2 ^ k) with heven | hodd
  · exact .inl ⟨heven, hround.trans (if_pos heven)⟩
  · refine .inr ⟨hodd, (hround.trans (if_neg (by omega))).trans ?_⟩
    rw [Int.add_mul, Int.one_mul]

end

/-- Every mode gives a multiple of `2 ^ k`. -/
theorem two_pow_dvd_roundTo (m : RndMode) (k : Nat) (y : Int) : (2 : Int) ^ k ∣ roundTo m k y := by
  rcases Nat.eq_zero_or_pos k with rfl | hk
  · exact Int.one_dvd _
  have hup : (2 : Int) ^ k ∣ roundTo .halfUp k y := roundTo_halfUp y hk ▸ Int.dvd_self_sub_emod
  cases m with
  | trunc => exact roundTo_trunc y hk ▸ Int.dvd_self_sub_emod
  | halfUp => exact hup
  | convergent =>
    by_cases htie : y % 2 ^ k = 2 ^ (k - 1)
    · rcases roundTo_convergent_tie hk htie with ⟨-, h⟩ | ⟨-, h⟩ <;> exact h ▸ Int.dvd_mul_left _ _
    · exact roundTo_convergent_of_ne htie ▸ hup

/-- The two multiples of `2 ^ k` next to a tie lie half a step below and above it. -/
theorem roundTo_convergent_neighbour {k : Nat} {y : Int} (hk : 0 < k) (h : y % 2 ^ k = 2 ^ (k - 1)) :
    (roundTo .convergent k y = y - 2 ^ (k - 1) ∨ roundTo .convergent k y = y + 2 ^ (k - 1)) ∧
      roundTo .convergent k y / 2 ^ k % 2 = 0 := by
  have hstep : (2 : Int) ^ k = 2 ^ (k - 1) + 2 ^ (k - 1) := by
    have hsucc := Int.pow_succ 2 (k - 1)
    rw [Nat.succ_eq_add_one, Nat.sub_add_cancel hk] at hsucc
    omega
  have hy := Int.ediv_mul_add_emod y (2 ^ k)
  have hq : (2 : Int) ^ k ≠ 0 := Int.ne_of_gt (Int.pow_pos (by decide))
  rcases roundTo_convergent_tie hk h with ⟨heven, hr⟩ | ⟨hodd, hr⟩ <;> rw [hr, Int.mul_ediv_cancel _ hq]
  · exact ⟨.inl (by omega), heven⟩
  · refine ⟨.inr ?_, by omega⟩
    rw [Int.add_mul, Int.one_mul]
    omega

/-! ### Saturation to 32 bits (R115, R116) -/

theorem clampTo_of_mem {lo hi v : Int} (hlo : lo ≤ v) (hhi : v ≤ hi) : clampTo lo hi v = (v, false) := by
  rw [clampTo, if_neg (Int.not_lt.2 hlo), if_neg (Int.not_lt.2 hhi)]

theorem clampTo_of_lt {lo hi v : Int} (h : v < lo) : clampTo lo hi v = (lo, true) := if_pos h

theorem clampTo_of_gt {lo hi v : Int} (hle : lo ≤ hi) (h : hi < v) : clampTo lo hi v = (hi, true) := by
  rw [clampTo, if_neg (Int.not_lt.2 (Int.le_trans hle (Int.le_of_lt h))), if_pos h]

/-- With no normalization an accumulator reaches the rounding as it is; what is rounded is then saturated and shifted. -/
theorem outputPath_s32 {c : SliceCfg} (bexp : Nat) (expIn : BitVec 6) (acc : BitVec 40) (hnorm : c.norm = .off) (hsat : c.sat = .s32) :
    (outputPath c bexp expIn acc).1 =
      let s := (clampTo (-(2 ^ 31)) (2 ^ 31 - 1) (roundTo c.rnd c.rndPos acc.toInt)).1
      BitVec.ofNat 40 ((BitVec.ofInt 40 (Int.fdiv s (2 ^ c.oshift))).toNat % 2 ^ c.outW) := by
  have hacc : clampTo (-(2 ^ 39)) (2 ^ 39 - 1) acc.toInt = (acc.toInt, false) :=
    clampTo_of_mem acc.le_toInt (by have := acc.toInt_lt; omega)
  simp only [outputPath, hnorm, hsat, Int.pow_zero, Int.mul_one, hacc]

/-! ### The redundant-sign count (R114) -/

/-- How far a predicate holds along 0, 1, …, m − 1. -/
theorem length_takeWhile_range_eq_iff (p : Nat → Bool) (m n : Nat) :
    ((List.range m).takeWhile p).length = n ↔ n ≤ m ∧ (∀ i < n, p i = true) ∧ (n = m ∨ p n = false) := by
  have hle := List.findIdx_le_length (p := fun i => !p i) (xs := List.range m)
  have hlen : ((List.range m).takeWhile p).length = (List.range m).findIdx (fun i => !p i) := by
    rw [List.takeWhile_eq_take_findIdx_not, List.length_take, Nat.min_eq_left hle]
  rw [List.length_range] at hle
  rcases Nat.lt_trichotomy n m with hlt | rfl | hgt
  · rw [hlen, List.findIdx_eq (Nat.lt_of_lt_of_eq hlt List.length_range.symm)]
    simp [Nat.le_of_lt hlt, Nat.ne_of_lt hlt, and_comm]
  · have hall := List.findIdx_eq_length (p := fun i => !p i) (xs := List.range n)
    rw [List.length_range] at hall
    rw [hlen, hall]
    simp
  · exact iff_of_false (by omega) (fun ⟨hnm, _⟩ => by omega)

theorem redundantSigns_eq_iff {w : Nat} (v n : Nat) (hw : 0 < w) :
    redundantSigns w v = n ↔ n < w ∧ (∀ i, i < n → v.testBit (w - 2 - i) = v.testBit (w - 1)) ∧
      (n = w - 1 ∨ v.testBit (w - 2 - n) ≠ v.testBit (w - 1)) := by
  have hbound : n ≤ w - 1 ↔ n < w := by omega
  simp only [redundantSigns, length_takeWhile_range_eq_iff, hbound, beq_iff_eq, beq_eq_false_iff_ne]

/-- Every bit below bit `w` of 0 is 0, and of 2 ^ w − 1 it is 1. -/
theorem testBit_of_zero_or_ones {w v : Nat} (hv : v = 0 ∨ v = 2 ^ w - 1) {i j : Nat} (hi : i < w) (hj : j < w) :
    v.testBit i = v.testBit j := by
  rcases hv with rfl | rfl
  · simp only [Nat.zero_testBit]
  · simp only [Nat.testBit_two_pow_sub_one, hi, hj]

theorem redundantSigns_of_zero_or_ones {w v : Nat} (hw : 0 < w) (hv : v = 0 ∨ v = 2 ^ w - 1) : redundantSigns w v = w - 1 :=
  (redundantSigns_eq_iff v (w - 1) hw).2
    ⟨by omega, fun i _ => testBit_of_zero_or_ones hv (by omega) (by omega), .inl rfl⟩

/-- Settles O11: the equations of `roundTo` for each mode, the two neighbours of a tie (`roundTo_convergent_neighbour`), and the
saturated result (`outputPath_s32`); the count by how far the bits repeat the sign (`redundantSigns_eq_iff`). -/
theorem roundingModes : Obligations.RoundingModes := by
  unfold Obligations.RoundingModes
  refine ⟨fun y k => ⟨fun m => roundTo_zero y m, fun hk => ⟨roundTo_trunc y hk, roundTo_halfUp y hk, roundTo_convergent_of_ne,
    roundTo_convergent_neighbour hk⟩, fun m => Int.emod_eq_zero_of_dvd (two_pow_dvd_roundTo m k y), ?saturated⟩,
    fun w v n hw _ => ⟨redundantSigns_eq_iff v n hw, redundantSigns_of_zero_or_ones hw⟩⟩
  case saturated =>
    intro c bexp expIn acc hnorm hpos hsat hshift hwidth
    rw [outputPath_s32 bexp expIn acc hnorm hsat, hpos, hshift, hwidth]
    refine ⟨fun hover => ?_, fun hunder => ?_⟩
    · rw [clampTo_of_gt (by decide) (by omega)]
      decide
    · rw [clampTo_of_lt hunder]
      decide

end Sys2Proof.Machine
end

section
/-! PROOFS. Slice operations (O18): an edge of a slice with each operation, and what the accumulator takes where it wraps. -/

namespace Sys2Proof.Machine

open Sys2Proof

/-- The eight slice commands with their codes of OPMODE (R112). -/
def sliceCommands (pb : Fin 112) (sl : Fin 128) (x : SliceIn) : List (Fin 8 × Instr) :=
  [(0, .opmodeHold pb sl x), (1, .opmodeLoad pb sl x), (2, .opmodeAdd pb sl x), (3, .opmodeSub pb sl x), (4, .opmodeCascAdd pb sl x),
    (5, .opmodeCascSub pb sl x), (6, .opmodeClear pb sl x), (7, .opmodeCascLoad pb sl x)]

theorem exec_sliceCommand (s : State) (pb : Fin 112) (sl : Fin 128) (x : SliceIn) :
    ∀ q ∈ sliceCommands pb sl x, exec q.2 s = run (fun d => d.sliceEdge pb sl q.1 x) s := by
  simp only [sliceCommands, List.forall_mem_cons]
  exact ⟨rfl, rfl, rfl, rfl, rfl, rfl, rfl, rfl, List.forall_mem_nil _⟩

/-- An edge of a live column with an operation that OPMODE admits. -/
theorem sliceEdge_live {d : Device} {pb : Fin 112} {sl : Fin 128} {op : Fin 8} (x : SliceIn) (hlive : d.colLive pb (sl.val / 32) = true)
    (hop : (d.sliceSet pb sl.val).opmode.getD op = op) : d.sliceEdge pb sl op x =
      let c := d.sliceSet pb sl.val
      let f := d.foldReport pb sl.val
      let st := f.slice pb sl.val
      let n := sliceNext c (f.colSet pb (sl.val / 32)).headroom st.bexp op.val x
        (f.operand pb sl.val c.srcA c.halfA x.a) (f.operand pb sl.val c.srcB c.halfB x.b) (f.operand pb sl.val c.srcD c.halfD x.d)
        (f.cascadeIn pb sl.val x.belowDone) st
      let e := f.setSlice pb sl.val { (if x.ce then n.1 else st) with
        accWas := st.acc, bexp := f.rd (.pbay pb) fPbayColStateBexp (sl.val / 32) }
      if x.ce && n.2 then e.setOvf pb sl.val else if x.clrOvf then e.clrOvf pb sl.val else e := by
  simp only [Device.sliceEdge, hlive, hop, Bool.not_true, bne_self_eq_false, Bool.or_self, Bool.false_eq_true, if_false]

/-! ### The accumulator without saturation (R113) -/

/-- The exact results of R112, taken modulo 2 ^ 40, are the operations on 40-bit words. -/
theorem ofInt_accExact (acc cin : BitVec 40) (p : Int) :
    let r (op : Nat) := BitVec.ofInt 40 (accExact op acc.toInt cin.toInt p)
    r 0 = acc ∧ r 1 = BitVec.ofInt 40 p ∧ r 2 = acc + BitVec.ofInt 40 p ∧ r 3 = acc - BitVec.ofInt 40 p ∧
      r 4 = cin + BitVec.ofInt 40 p ∧ r 5 = cin - BitVec.ofInt 40 p ∧ r 6 = 0 ∧ r 7 = cin := by
  have hsub (v : BitVec 40) : BitVec.ofInt 40 (v.toInt - p) = v - BitVec.ofInt 40 p := by
    rw [Int.sub_eq_add_neg, BitVec.ofInt_add, BitVec.ofInt_neg, BitVec.ofInt_toInt, BitVec.sub_eq_add_neg]
  simp only [accExact, BitVec.ofInt_add, BitVec.ofInt_toInt, hsub]
  decide

theorem sliceNext_acc_of_wrap {c : SliceCfg} (h : c.accSat = false) (headroom bexp op : Nat) (x : SliceIn) (a b dd : BitVec 16)
    (cin : BitVec 40) (st : SliceSt) : (sliceNext c headroom bexp op x a b dd cin st).1.acc =
      BitVec.ofInt 40 (accExact op st.acc.toInt cin.toInt (extendProduct c.frac c.aSigned c.bSigned st.prod)) := by
  simp only [sliceNext, accStore, h, Bool.false_eq_true, if_false]

/-- Settles O18: each slice command is an edge with its operation (`exec_sliceCommand`, `sliceEdge_live`); an accumulator that wraps
takes the exact result modulo 2 ^ 40 (`sliceNext_acc_of_wrap`, `ofInt_accExact`). -/
theorem sliceOperations : Obligations.SliceOperations := by
  unfold Obligations.SliceOperations
  refine ⟨?edge, fun c headroom bexp x a b dd cin st hsat => ?acc⟩
  case edge =>
    rintro s pb sl x hlive c d st cin rfl rfl rfl rfl op i hi hop n e rfl rfl
    exact (exec_sliceCommand s pb sl x (op, i) hi).trans (run_eq _ s _ (sliceEdge_live x hlive hop))
  case acc =>
    simp only [sliceNext_acc_of_wrap hsat]
    obtain ⟨h0, h1, h2, h3, h4, h5, h6, h7⟩ := ofInt_accExact st.acc cin (extendProduct c.frac c.aSigned c.bSigned st.prod)
    exact ⟨h0, h1, h2, h3, h4, h5, h6, h7, fun op => ⟨rfl, rfl⟩⟩

end Sys2Proof.Machine
end

section
/-! PROOFS. Address generators and block events (O19): an edge of a generator and where a step of each mode leads; a block command is
the events of an edge of its column, and what each pair of events does to an open and to a closed column. -/

namespace Sys2Proof.Machine

open Sys2Proof

/-! ### CLR_OVF and the edges of a generator (R117, R118) -/

section
variable {d : Device} {pb : Fin 112} {sl : Fin 128} (hlive : d.colLive pb (sl.val / 32) = true)
include hlive

theorem clrOvfBody_live : clrOvfBody pb sl d = d.clrOvf pb sl.val := by simp [clrOvfBody, hlive]

theorem agLoadBody_live (k : Fin 2) (v : BitVec 15) : agLoadBody pb sl k v d =
    let e := if k = 0 then d.wrapEvents pb sl.val else d
    e.setSlice pb sl.val ((e.slice pb sl.val).setAg k v.toNat false) := by
  simp [agLoadBody, hlive, Device.agEdge]

theorem agStepBody_live (k : Fin 2) : agStepBody pb sl k d =
    let c := if k = 0 then (d.sliceSet pb sl.val).ag0 else (d.sliceSet pb sl.val).ag1
    let e := if k = 0 then d.wrapEvents pb sl.val else d
    let st := e.slice pb sl.val
    let next := agNext c (if k = 0 then st.idx0 else st.idx1)
    e.setSlice pb sl.val (st.setAg k next.1 next.2) := by
  simp [agStepBody, hlive, Device.agEdge]

end

/-! ### Where a step leads (R118) -/

section
variable {c : AgCfg} (idx : Nat)

theorem agNext_linear (h : c.mode = .linear) :
    ((agNext c idx).1 : Int) = ((idx : Int) + c.step) % 32768 ∧
      ((agNext c idx).2 = true ↔ (idx : Int) + c.step < 0 ∨ 32767 < (idx : Int) + c.step) := by
  simp only [agNext, h, decide_eq_true_eq, iff_self, and_true]
  exact Int.toNat_of_nonneg (Int.emod_nonneg _ (by decide))

theorem base_le_agNext (h : c.mode ≠ .linear) : c.base ≤ (agNext c idx).1 := by
  cases hmode : c.mode with
  | linear => exact absurd hmode h
  | circular => simp only [agNext, hmode, Nat.le_add_right]
  | bitrev => simp only [agNext, hmode, Nat.le_add_right]

theorem agNext_circular_lt (h : c.mode = .circular) (hlen : 0 < c.length) : (agNext c idx).1 < c.base + c.length := by
  simp only [agNext, h, Nat.add_lt_add_iff_left]
  have hpos : (0 : Int) < c.length := by exact_mod_cast hlen
  have hlt := Int.emod_lt_of_pos ((idx : Int) - c.base + c.step) hpos
  exact (Int.toNat_lt (Int.emod_nonneg _ (Int.ne_of_gt hpos))).2 hlt

end

/-! ### The events of an edge of a column (R121, R123, R124) -/

/-- The block commands of a column, with the two fabric inputs and ECUM_CLR that each gives to the edge (R121, R124). -/
def blockCommands (pb : Fin 112) (c : Fin 4) (clr : Bool) : List (Bool × Bool × Bool × Instr) :=
  [(true, false, clr, .blockStart pb c false clr), (true, true, clr, .blockStart pb c true clr),
    (false, true, clr, .blockEnd pb c clr), (false, false, true, .ecumClr pb c)]

section
variable {d : Device} {pb : Fin 112} {c : Fin 4} (hlive : d.colLive pb c.val = true)
include hlive

theorem blockStartBody_live (stop clr : Bool) : blockStartBody pb c stop clr d = d.columnEvents pb c.val true stop clr := by
  simp [blockStartBody, hlive]

theorem blockEndBody_live (clr : Bool) : blockEndBody pb c clr d = d.columnEvents pb c.val false true clr := by
  simp [blockEndBody, hlive]

theorem ecumClrBody_live : ecumClrBody pb c d = d.columnEvents pb c.val false false true := by
  simp [ecumClrBody, hlive]

end

theorem exec_blockCommand {s : State} {pb : Fin 112} {c : Fin 4} (hlive : s.dev.colLive pb c.val = true) {start stop clr k : Bool}
    {i : Instr} (hi : (start, stop, k, i) ∈ blockCommands pb c clr) :
    exec i s = .next (s.after (s.dev.columnEvents pb c.val start stop k)) := by
  simp only [blockCommands, List.mem_cons, Prod.mk.injEq, List.not_mem_nil, or_false] at hi
  rcases hi with ⟨rfl, rfl, rfl, rfl⟩ | ⟨rfl, rfl, rfl, rfl⟩ | ⟨rfl, rfl, rfl, rfl⟩ | ⟨rfl, rfl, rfl, rfl⟩
  · exact run_eq _ s _ (blockStartBody_live hlive false k)
  · exact run_eq _ s _ (blockStartBody_live hlive true k)
  · exact run_eq _ s _ (blockEndBody_live hlive k)
  · exact run_eq _ s _ (ecumClrBody_live hlive)

section
variable {w : Device} {pb : Fin 112} {c : Nat}

/-- BLOCK_START alone: a column that is open already has a block fault, and the minimum begins with the reports of the edge. -/
theorem blockEvents_start (clr : Bool) : w.blockEvents pb c true false clr =
    let d := w.dropReports pb c
    let e := ((if w.flag (.pbay pb) fPbayColStateOpen c then d.blockFault pb c else d).raise (.pbay pb) fPbayColStateOpen c).put
      (.pbay pb) fPbayColStateMin (w.edgeReports pb c) c
    if clr then e.put (.pbay pb) fPbayColStateEcum 0 c else e := rfl

/-- No block event: an open column takes the reports of the edge into its minimum. -/
theorem blockEvents_none (clr : Bool) : w.blockEvents pb c false false clr =
    let d := w.dropReports pb c
    let m := min (w.rd (.pbay pb) fPbayColStateMin c) (w.edgeReports pb c)
    let e := if w.flag (.pbay pb) fPbayColStateOpen c then d.put (.pbay pb) fPbayColStateMin m c else d
    if clr then e.put (.pbay pb) fPbayColStateEcum 0 c else e := rfl

section
variable (hopen : w.flag (.pbay pb) fPbayColStateOpen c = true) (clr : Bool)
include hopen

theorem blockEvents_both_open : w.blockEvents pb c true true clr =
    let m := min (w.rd (.pbay pb) fPbayColStateMin c) (w.edgeReports pb c)
    ((w.dropReports pb c).publish pb c m clr).put (.pbay pb) fPbayColStateMin 63 c := if_pos hopen

theorem blockEvents_end_open : w.blockEvents pb c false true clr =
    let m := min (w.rd (.pbay pb) fPbayColStateMin c) (w.edgeReports pb c)
    (((w.dropReports pb c).lower (.pbay pb) fPbayColStateOpen c).put (.pbay pb) fPbayColStateMin m c).publish pb c m clr :=
  if_pos hopen

end

section
variable (hclosed : w.flag (.pbay pb) fPbayColStateOpen c = false) (clr : Bool)
include hclosed

theorem blockEvents_both_closed :
    w.blockEvents pb c true true clr = (w.dropReports pb c).publish pb c (w.edgeReports pb c) clr :=
  if_neg (ne_true_of_eq_false hclosed)

theorem blockEvents_end_closed : w.blockEvents pb c false true clr =
    let e := (w.dropReports pb c).blockFault pb c
    if clr then e.put (.pbay pb) fPbayColStateEcum 0 c else e :=
  if_neg (ne_true_of_eq_false hclosed)

end

end

/-- Settles O19: the edges of a generator (`agLoadBody_live`, `agStepBody_live`) and its steps (`agNext_linear`, `base_le_agNext`,
`agNext_circular_lt`); a block command is the events of its column's edge (`exec_blockCommand`), which the lemmas about
`blockEvents` give for each pair of events. -/
theorem generatorsAndBlocks : Obligations.GeneratorsAndBlocks := by
  unfold Obligations.GeneratorsAndBlocks
  refine ⟨fun s pb sl k hlive => ⟨?ovf, ?generator⟩, fun c idx _ _ => ⟨fun hmode _ => agNext_linear idx hmode,
    fun hmode _ => base_le_agNext idx hmode, fun hmode hlen => agNext_circular_lt idx hmode hlen⟩, ?block⟩
  case ovf =>
    rintro key rfl
    exact run_eq _ s _ (clrOvfBody_live hlive)
  case generator =>
    rintro d rfl
    refine ⟨fun v => run_eq _ s _ (agLoadBody_live hlive k v), ?_⟩
    rintro c idx rfl rfl
    exact run_eq _ s _ (agStepBody_live hlive k)
  case block =>
    intro s pb c start stop clr i hlive hi st en hst hen w hw r m d hr hm hd
    subst r m d
    have hrun : exec i s = .next (s.after (if st || en || clr then w.blockEvents pb c.val st en clr else w)) := by
      subst hst hen hw
      exact exec_blockCommand hlive hi
    have hevent (happens : (st || en || clr) = true) (e : Device) (he : w.blockEvents pb c.val st en clr = e) :
        exec i s = .next (s.after e) := by rw [hrun, if_pos happens, he]
    clear hst hen hw
    refine ⟨?start, ?both_open, ?both_closed, ?end_open, ?end_closed, ?clear, ?idle⟩
    case start =>
      rintro e opened rfl rfl rfl rfl
      exact hevent rfl _ (blockEvents_start clr)
    case both_open =>
      rintro rfl rfl hopen
      exact hevent rfl _ (blockEvents_both_open hopen clr)
    case both_closed =>
      rintro rfl rfl hclosed
      exact hevent rfl _ (blockEvents_both_closed hclosed clr)
    case end_open =>
      rintro rfl rfl hopen
      exact hevent rfl _ (blockEvents_end_open hopen clr)
    case end_closed =>
      rintro e rfl rfl rfl hclosed
      exact hevent rfl _ (blockEvents_end_closed hclosed clr)
    case clear =>
      rintro e rfl rfl rfl rfl
      exact hevent rfl _ (blockEvents_none true)
    case idle =>
      rintro rfl rfl rfl
      exact hrun

end Sys2Proof.Machine
end

section
/-! PROOFS. Every step keeps the invariant (O4): a step takes the front command off the queue and leaves no signal. -/

namespace Sys2Proof.Machine

open Sys2Proof

/-- A step that answers with the queue it was given and takes every signal. -/
def SettlesInPlace (f : State → Host.Outcome State Fault Refusal) : Prop :=
  ∀ s t, f s = .next t → t.pending = s.pending ∧ t.settled

/-- What `run_shape` and `runChecked_shape` say of a step makes it one that settles in place. -/
theorem settlesInPlace_of_shape {f : State → Host.Outcome State Fault Refusal}
    (hf : ∃ g : Device → Device, (∀ s, f s = .next ⟨s.pending, g s.dev⟩) ∧ ∀ d, (g d).signals = []) : SettlesInPlace f := by
  obtain ⟨g, hnext, hsignals⟩ := hf
  intro s t h
  obtain rfl : (⟨s.pending, g s.dev⟩ : State) = t := Host.Outcome.next.inj ((hnext s).symm.trans h)
  exact ⟨rfl, hsignals _⟩

theorem exec_settlesInPlace (i : Instr) : SettlesInPlace (exec i) := by
  rcases exec_form i with ⟨body, hi⟩ | ⟨-, body, hi⟩
  · rw [show exec i = run body from funext hi]
    exact settlesInPlace_of_shape (run_shape body)
  · rw [show exec i = runChecked body from funext hi]
    exact settlesInPlace_of_shape (runChecked_shape body)

/-- A step leaves the rest of the queue, and no signal (log entry 1). -/
theorem step_pending_settled {s t : State} (h : step s = .next t) : t.pending = s.pending.tail ∧ t.settled := by
  unfold step at h
  cases hq : s.pending with
  | nil =>
    rw [hq] at h
    obtain ⟨hpending, hsettled⟩ := settlesInPlace_of_shape (run_shape tick) s t h
    exact ⟨hpending.trans hq, hsettled⟩
  | cons i rest =>
    rw [hq] at h
    exact exec_settlesInPlace i _ t h

/-- What waits behind the front command is well formed where the whole queue is. -/
theorem allWellFormed_tail {q : List Instr} (h : Instr.allWellFormed q = true) : Instr.allWellFormed q.tail = true :=
  List.all_eq_true.mpr fun i hi => List.all_eq_true.mp h i (List.mem_of_mem_tail hi)

/-- Settles O4: a step leaves the rest of a well formed queue and no signal (`step_pending_settled`), whatever stood before. -/
theorem everyStepKeepsTheInvariant : Obligations.EveryStepKeepsTheInvariant := by
  unfold Obligations.EveryStepKeepsTheInvariant
  rintro s t ⟨hwf, -⟩ hstep
  obtain ⟨hpending, hsettled⟩ := step_pending_settled hstep
  exact ⟨hpending ▸ allWellFormed_tail hwf, hsettled⟩

end Sys2Proof.Machine
end

section
/-! PROOFS. References fail and recover (O20): what the failure and the recovery of a voted reference do, in one equation each. -/

namespace Sys2Proof.Machine

open Sys2Proof

/-! ### The references that the voter judges -/

/-- Reference B where true, A where not. -/
def votedRef (b : Bool) : RefClk := if b then .b else .a

/-- Where a voted reference is judged good. -/
def refGoodFld (b : Bool) : Fld := if b then fClkRefStatusBGood else fClkRefStatusAGood

/-- The cause of its loss. -/
def refLostFld (b : Bool) : Fld := if b then cClkRefBLost else cClkRefALost

/-- A voted reference is no longer good. -/
def Device.loseRef (d : Device) (b : Bool) : Device := (d.lower .clk (refGoodFld b)).raise .clk (refLostFld b)

theorem refGoodFld_key (b : Bool) : fldKey .clk (refGoodFld b) 0 = fldKey .clk fClkRefStatusSelected 0 := by cases b <;> rfl

theorem refLostFld_key (b : Bool) : fldKey .clk (refLostFld b) 0 = fldKey .clk cClkRefALost 0 := by cases b <;> rfl

/-- SELECTED is bit 0 of REF_STATUS, below the bits of the references. -/
theorem refGoodFld_above_selected (b : Bool) : fClkRefStatusSelected.lo + fClkRefStatusSelected.width ≤ (refGoodFld b).lo := by
  cases b <;> decide

theorem selectedRef_put_refGood (d : Device) (b : Bool) (v : Nat) : (d.put .clk (refGoodFld b) v).selectedRef = d.selectedRef :=
  flag_put_beside _ _ _ _ _ _ _ (refGoodFld_key b).symm (.inr (refGoodFld_above_selected b)) (by decide)

theorem selectedRef_loseRef (d : Device) (b : Bool) : (d.loseRef b).selectedRef = d.selectedRef :=
  (flag_put_key _ _ _ _ _ _ _ _ (by rw [refLostFld_key]; decide)).trans (selectedRef_put_refGood d b 0)

section
variable {d : Device} {b : Bool}

/-- A voted reference that is judged good fails (R135, R148). -/
theorem refclkFailBody_good (hmode : d.mode ≠ mDormant) (hgood : d.refGood b = true) : refclkFailBody (votedRef b) d =
    if d.refGood (!b) = true then
      if d.selectedRef = b then { d.loseRef b with refSwitch := some (!b) }
      else if d.refSwitch = some b then { d.loseRef b with refSwitch := none } else d.loseRef b
    else (((d.loseRef b).lastFail (if d.selectedRef = b ∧ d.refSwitch = none then 2 else 1) 0)).signal (.dormant 2) := by
  have hbody : refclkFailBody (votedRef b) d = refclkFailBody.voted b d := by cases b <;> exact if_neg hmode
  have hlose : (if b = true then (d.lower .clk fClkRefStatusBGood).raise .clk cClkRefBLost
      else (d.lower .clk fClkRefStatusAGood).raise .clk cClkRefALost) = d.loseRef b := by cases b <;> rfl
  have hswitch : (d.loseRef b).refSwitch = d.refSwitch := rfl
  rw [hbody, refclkFailBody.voted]
  simp only [hgood, Bool.not_true, Bool.false_eq_true, if_false, hlose, selectedRef_loseRef, hswitch, beq_iff_eq, Bool.and_eq_true,
    Option.isNone_iff_eq_none]

theorem refclkFailBody_bad (hmode : d.mode ≠ mDormant) (hbad : d.refGood b = false) : refclkFailBody (votedRef b) d = d := by
  cases b <;> exact (if_neg hmode).trans (if_pos (by rw [hbad]; rfl))

/-- A recovered reference is judged good, and with REVERT the voter returns to it where it is preferred (R135). -/
theorem refclkRecoverBody_bad (hmode : d.mode ≠ mDormant) (hbad : d.refGood b = false) {e : Device}
    (he : e = d.raise .clk (refGoodFld b)) : refclkRecoverBody (votedRef b) d =
      if d.flag .clk fClkRefCtrlRevert = true ∧ d.flag .clk fClkRefCtrlPrefer = b ∧ d.selectedRef ≠ b then
        { e with refSwitch := some b } else e := by
  have hbody : refclkRecoverBody (votedRef b) d = refclkRecoverBody.voted b d := by cases b <;> exact if_neg hmode
  have hraise : (if b = true then d.raise .clk fClkRefStatusBGood else d.raise .clk fClkRefStatusAGood) = e := by
    rw [he]
    cases b <;> rfl
  have hctrl (f : Fld) (hf : fldKey .clk f 0 ≠ fldKey .clk fClkRefStatusSelected 0) : e.flag .clk f = d.flag .clk f := by
    rw [he]
    exact flag_put_key _ _ _ _ _ _ _ _ (by rwa [refGoodFld_key])
  have hselected : e.selectedRef = d.selectedRef := by
    rw [he]
    exact selectedRef_put_refGood d b 1
  rw [hbody, refclkRecoverBody.voted]
  simp only [hbad, Bool.false_eq_true, if_false, hraise, hctrl fClkRefCtrlRevert (by decide), hctrl fClkRefCtrlPrefer (by decide),
    hselected, Bool.and_eq_true, beq_iff_eq, bne_iff_ne, and_assoc]

end

/-! ### The PCI Express reference, and the end of a switch -/

section
variable {d : Device}

theorem refclkFailBody_pcie (hmode : d.mode ≠ mDormant) (hgood : d.flag .clk fClkRefStatusPcieRefGood = true) :
    refclkFailBody .pcie d = (d.lower .clk fClkRefStatusPcieRefGood).pcieClockLost :=
  (if_neg hmode).trans (if_pos hgood)

theorem refclkRecoverBody_pcie (hmode : d.mode ≠ mDormant) :
    refclkRecoverBody .pcie d = d.raise .clk fClkRefStatusPcieRefGood :=
  if_neg hmode

theorem refSwitchDoneBody_pending {b : Bool} (h : d.refSwitch = some b) : refSwitchDoneBody d =
    (({ d with refSwitch := none }.put .clk fClkRefStatusSelected b.toNat).raise .clk cClkRefSwitched).count .clk 0 := by
  unfold refSwitchDoneBody
  rw [h]

end

/-- Settles O20: for a reference that the voter judges the branches of `refclkFailBody_good` and `refclkRecoverBody_bad`; the others
are the bodies that their lemmas name. -/
theorem referencesFailAndRecover : Obligations.ReferencesFailAndRecover := by
  unfold Obligations.ReferencesFailAndRecover
  intro s hmode
  refine ⟨fun r b good lost d hrow hd => ?voted, fun hgood => run_eq _ s _ (refclkFailBody_pcie hmode hgood),
    run_eq _ s _ (refclkRecoverBody_pcie hmode), fun b hswitch => run_eq _ s _ (refSwitchDoneBody_pending hswitch)⟩
  case voted =>
    obtain ⟨rfl, rfl, rfl⟩ : r = votedRef b ∧ good = refGoodFld b ∧ lost = refLostFld b := by
      simp only [List.mem_cons, Prod.mk.injEq, List.not_mem_nil, or_false] at hrow
      rcases hrow with ⟨rfl, rfl, rfl, rfl⟩ | ⟨rfl, rfl, rfl, rfl⟩
      · exact ⟨rfl, rfl, rfl⟩
      · exact ⟨rfl, rfl, rfl⟩
    obtain rfl : d = s.dev.loseRef b := hd
    refine ⟨fun hgood hother hsel => ?selected, fun hgood hother hsel => ?unselected, fun hgood hother => ?last,
      fun hbad => ?notGood, fun hbad e he => ?recovers⟩
    case selected => exact run_eq _ s _ (by rw [refclkFailBody_good hmode hgood, if_pos hother, if_pos hsel])
    case unselected => exact run_eq _ s _ (by rw [refclkFailBody_good hmode hgood, if_pos hother, if_neg hsel])
    case last => exact run_eq _ s _ (by rw [refclkFailBody_good hmode hgood, if_neg (by simp [hother])])
    case notGood => exact run_eq _ s _ (refclkFailBody_bad hmode hbad)
    case recovers => exact run_eq _ s _ (refclkRecoverBody_bad hmode hbad he)

end Sys2Proof.Machine
end

section
/-! PROOFS. The sill clock (O21): a row that writes a register of the CLK page is the write of that register, and a failing source
leaves the device to the other one. -/

namespace Sys2Proof.Machine

open Sys2Proof

/-! ### Registers of the CLK page -/

/-- A taken write of a block register of the CLK page is what that register does with it. -/
theorem clk_write {d : Device} {rq : Requester} (h : d.takes rq .clk .clk) (f : Fld) (w : Word) (hlo : 0x40 ≤ f.off)
    (hhi : f.off < 0x1000) : regWriteBody rq (regAt .clk f) w d = d.clkWrite f.off w := by
  rw [← Fld.at_zero] at hlo hhi ⊢
  exact takes_fld h f 0 w hlo hhi

theorem clkWrite_refCtrl (d : Device) (w : Word) : d.clkWrite fClkRefCtrlPrefer.off w =
    (d.fieldsWrite .clk fClkRefCtrlPrefer.off w fun _ => false).preferWritten (d.flag .clk fClkRefCtrlPrefer) :=
  if_pos rfl

theorem clkWrite_sillClk (d : Device) (w : Word) : d.clkWrite fClkSillClkSrcSel.off w = d.writeSillClk w.toNat :=
  (if_neg (by decide)).trans (if_pos rfl)

/-- A row that sets bits of a CLK register writes the register as it stands, with those bits. -/
theorem withBits_clk (d : Device) (o bits : Nat) : d.withBits .clk o bits = d.word (0x1000 + o) ||| BitVec.ofNat 32 bits := rfl

/-- The mode is no register of the CLK page. -/
@[simp] theorem mode_put_clk (d : Device) (f : Fld) (v i : Nat) : (d.put .clk f v i).mode = d.mode :=
  rd_put_key d .clk .sill f fSillDeviceModeMode v i 0 (Nat.ne_of_lt (Nat.lt_add_right _ (by decide)))

theorem mode_lastFail (d : Device) (code source : Nat) : (d.lastFail code source).mode = d.mode := by
  simp only [Device.lastFail, Device.raise, mode_put_clk]

/-! ### Rows of the sill clock -/

section
variable {d : Device}

theorem preferBody_taken {rq : Requester} (h : d.takes rq .clk .clk) (w : Word) :
    regWriteBody rq (regAt .clk fClkRefCtrlPrefer) w d =
      (d.fieldsWrite .clk fClkRefCtrlPrefer.off w fun _ => false).preferWritten (d.flag .clk fClkRefCtrlPrefer) :=
  (clk_write h _ w (by decide) (by decide)).trans (clkWrite_refCtrl d w)

theorem srcSelBody_taken {rq : Requester} (h : d.takes rq .clk .clk) (w : Word) :
    regWriteBody rq (regAt .clk fClkSillClkSrcSel) w d = d.writeSillClk w.toNat :=
  (clk_write h _ w (by decide) (by decide)).trans (clkWrite_sillClk d w)

/-- TRIM_GO is in the register of SRC_SEL. -/
theorem trimGoBody_taken {rq : Requester} (h : d.takes rq .clk .clk) :
    regWriteBody rq (regAt .clk fClkSillClkTrimGo) (d.withBits .clk 0x048 4) d = d.writeSillClk (d.word 0x1048 ||| 4).toNat := by
  have hreg : regAt .clk fClkSillClkTrimGo = regAt .clk fClkSillClkSrcSel := rfl
  rw [hreg, srcSelBody_taken h, withBits_clk]
  rfl

theorem trimPeriodicBody_begins (hauto : d.flag .clk fClkSillClkTrimAuto = true) (hgood : d.refGood d.selectedRef = true)
    (hmode : d.mode ≠ mDormant) : trimPeriodicBody d = { d with trimming := true } :=
  if_pos (by simp [hauto, hgood, hmode])

theorem trimDoneBody_trimming (h : d.trimming = true) (code : Byte) : trimDoneBody code d =
    ({ d with trimming := false }.put .clk fClkSillClkTrimCode code.toNat).raise .clk cClkTrimDone :=
  if_pos h

/-- The crystal fails, and the sill goes on with the other source (R137). -/
theorem sillClkFailBody_xin {e : Device} (he : e = d.lastFail 3 0) (hmode : d.mode ≠ mDormant)
    (hsel : e.flag .clk fClkSillClkSrcSel = true) (hrc : e.rcDead = false) : sillClkFailBody d =
      ((e.lower .clk fClkSillClkXinPresent).lower .clk fClkSillClkSrcSel).signal (.dormant 2) := by
  have hlast : e.mode = d.mode := he ▸ mode_lastFail d 3 0
  have hm : ((e.lower .clk fClkSillClkXinPresent).lower .clk fClkSillClkSrcSel).mode ≠ mDormant := by
    simpa only [Device.lower, mode_put_clk, hlast] using hmode
  have hrc' : (e.lower .clk fClkSillClkXinPresent).rcDead = false := hrc
  unfold sillClkFailBody
  rw [← he]
  simp only [hsel, hrc', if_true, Bool.false_eq_true, if_false, hm]

/-- The other source fails, and the sill goes on with the crystal (R137). -/
theorem sillClkFailBody_rc {e : Device} (he : e = d.lastFail 3 0) (hmode : d.mode ≠ mDormant)
    (hsel : e.flag .clk fClkSillClkSrcSel = false) (hxin : e.flag .clk fClkSillClkXinPresent = true) : sillClkFailBody d =
      ({ e with rcDead := true }.raise .clk fClkSillClkSrcSel).signal (.dormant 2) := by
  have hlast : e.mode = d.mode := he ▸ mode_lastFail d 3 0
  have hm : ({ e with rcDead := true }.raise .clk fClkSillClkSrcSel).mode ≠ mDormant := by
    rw [Device.raise, mode_put_clk]
    exact fun h => hmode (hlast.symm.trans h)
  have hxin' : ({ e with rcDead := true } : Device).flag .clk fClkSillClkXinPresent = true := hxin
  unfold sillClkFailBody
  rw [← he]
  simp only [hsel, hxin', Bool.false_eq_true, if_false, if_true, hm]

end

/-- Settles O21: the rows that write are the writes of their registers, and the events are the bodies that their lemmas name. -/
theorem sillClockCommands : Obligations.SillClockCommands := by
  unfold Obligations.SillClockCommands
  refine ⟨fun s rq w h => ⟨?prefer, run_eq _ s _ (srcSelBody_taken h w), ?trimGo⟩,
    fun s hgood hmode hauto => run_eq _ s _ (trimPeriodicBody_begins hauto hgood hmode),
    fun s code htrim => run_eq _ s _ (trimDoneBody_trimming htrim code),
    fun s d hd hmode => ⟨fun hsel hrc => run_eq _ s _ (sillClkFailBody_xin hd hmode hsel hrc),
      fun hsel hxin => run_eq _ s _ (sillClkFailBody_rc hd hmode hsel hxin)⟩⟩
  case prefer =>
    rintro d rfl
    exact run_eq _ s _ (preferBody_taken h w)
  case trimGo =>
    rw [exec_trimGo, execTrimGo]
    exact run_eq _ s _ (trimGoBody_taken h)

end Sys2Proof.Machine
end

section
/-! PROOFS. Sources of clocks (O22): a case each for a source that starts, stops, locks, switches and fails. -/

namespace Sys2Proof.Machine

open Sys2Proof

/-! ### SRC_RUN (R142, R149) -/

theorem clkWrite_srcRun (d : Device) (w : Word) : d.clkWrite fClkSrcRunRun.off w = d.writeSrcRun w.toNat :=
  (if_neg (by decide)).trans <| (if_neg (by decide)).trans (if_pos rfl)

section
variable {d : Device}

theorem srcRun_write {rq : Requester} (h : d.takes rq .clk .clk) (w : Word) :
    regWriteBody rq (regAt .clk fClkSrcRunRun) w d = d.writeSrcRun w.toNat :=
  (clk_write h _ w (by decide) (by decide)).trans (clkWrite_srcRun d w)

theorem srcRunStartBody_taken {rq : Requester} (h : d.takes rq .clk .clk) (src : Fin 11) :
    regWriteBody rq (regAt .clk fClkSrcRunRun) (d.withBits .clk 0x04C (2 ^ src.val)) d =
      d.writeSrcRun (d.word 0x104C ||| BitVec.ofNat 32 (2 ^ src.val)).toNat := by
  rw [srcRun_write h, withBits_clk]

theorem srcRunStopBody_taken {rq : Requester} (h : d.takes rq .clk .clk) (src : Fin 11) :
    regWriteBody rq (regAt .clk fClkSrcRunRun) (d.withBits .clk 0x04C 0 &&& ~~~BitVec.ofNat 32 (2 ^ src.val)) d =
      d.writeSrcRun (d.word 0x104C &&& ~~~BitVec.ofNat 32 (2 ^ src.val)).toNat := by
  rw [srcRun_write h, withBits_clk, BitVec.or_zero]

/-! ### A source that runs locks, switches to its twin, fails with it (R138, R140, R148) -/

theorem pllLockBody_running {src : Fin 11} (hmode : d.mode ≠ mDormant) (hrun : d.running src.val = true) :
    pllLockBody src d = d.raise .clk fClkSrcStatusLocked src.val :=
  if_pos (by simp [hrun, hmode])

theorem twinPairFailBody_running {src : Fin 11} (hmode : d.mode ≠ mDormant) (hrun : d.running src.val = true) (htwin : src.val ≤ 4) :
    twinPairFailBody src d = (d.lastFail 4 src.val).signal (.dormant 2) :=
  if_pos ⟨htwin, hrun, hmode⟩

theorem twinSwitchBody_running {src : Fin 11} (hrun : d.running src.val = true) (htwin : src.val ≤ 4)
    (hlock : d.flag .clk fClkSrcStatusLocked src.val = true) (hwhole : d.flag .clk fClkSrcStatusTwinDegraded src.val = false) :
    twinSwitchBody src d = (((d.put .clk fClkSrcStatusTwinActive (1 - d.rd .clk fClkSrcStatusTwinActive src.val) src.val).raise
      .clk fClkSrcStatusTwinDegraded src.val).raise .clk cClkTwinSwitched).count .clk 1 :=
  if_pos ⟨htwin, hrun, hlock, hwhole⟩

/-! ### PLLs that fail (R148) -/

/-- The links of an edge that are enabled fault, their transmitters parked (R148, R249). -/
def Device.edgeFaults (d : Device) (e : Fin 4) : Device :=
  (List.finRange 144).foldl (fun (d : Device) (l : Fin 144) =>
    if l.val / 36 = e.val ∧ d.linkState l ≠ linkDisabled ∧ d.linkState l ≠ linkFault then
      (d.put (.txl l) fTxlPhyTxMode phyParked).linkEnterFault l
    else d) d

theorem linkPllFailBody_running {e : Fin 4} (hmode : d.mode ≠ mDormant) (hrun : d.running (5 + e.val) = true) :
    linkPllFailBody e d = ((((d.lastFail 5 (5 + e.val)).stopSource (5 + e.val)).edgeFaults e).raise .clk cClkPllFail).signal
      (.faultHold 1) :=
  if_pos (by simp [hrun, hmode])

theorem pciePllFailBody_running (hmode : d.mode ≠ mDormant) (hrun : d.running 9 = true) : pciePllFailBody d =
    ((((d.lastFail 6 9).stopSource 9).raise .clk cClkPllFail).signal .pcieDown).signal (.faultHold 2) :=
  if_pos (by simp [hrun, hmode])

theorem corePllFailBody_running (hmode : d.mode ≠ mDormant) (hrun : d.running 10 = true) : corePllFailBody d =
    (((d.lastFail 7 10).stopSource 10).raise .clk cClkPllFail).signal (.faultHold 3) :=
  if_pos (by simp [hrun, hmode])

end

/-- Settles O22: SRC_RUN_START and SRC_RUN_STOP are the write of SRC_RUN, and each event is the body that its lemma names. -/
theorem sourcesRunAndFail : Obligations.SourcesRunAndFail := by
  unfold Obligations.SourcesRunAndFail
  refine ⟨fun s rq src h => ⟨?start, ?stop⟩,
    fun s src hmode hrun => ⟨run_eq _ s _ (pllLockBody_running hmode hrun),
      fun htwin => run_eq _ s _ (twinPairFailBody_running hmode hrun htwin),
      fun htwin hlock hwhole => run_eq _ s _ (twinSwitchBody_running hrun htwin hlock hwhole)⟩,
    fun s hmode => ⟨fun e hrun => run_eq _ s _ (linkPllFailBody_running hmode hrun),
      fun hrun => run_eq _ s _ (pciePllFailBody_running hmode hrun),
      fun hrun => run_eq _ s _ (corePllFailBody_running hmode hrun)⟩⟩
  case start =>
    rintro e rfl hdefined
    rw [exec_srcRunStart, execSrcRunStart]
    exact runChecked_eq _ s _ (srcRunStartBody_taken h src) hdefined
  case stop =>
    rw [exec_srcRunStop, execSrcRunStop]
    exact run_eq _ s _ (srcRunStopBody_taken h src)

end Sys2Proof.Machine
end

section
/-! PROOFS. Requests at bay ports (O23): the rows of requests as one arrival, and what an open bay does with a request. -/

namespace Sys2Proof.Machine

open Sys2Proof

/-! ### Arrivals (R171, R182) -/

/-- The atomics with their opcodes (R162). -/
def atomicRows (k : Nat) : List (Nat × Instr) :=
  [(0x02, .fadd64 k), (0x03, .swap64 k), (0x04, .cas64 k), (0x05, .fadd128 k), (0x06, .swap128 k), (0x07, .cas128 k)]

/-- The requests of classes 0 and 2 with their opcodes (R159). -/
def requestRows (k : Nat) : List (Nat × Instr) :=
  (0x00, .rd k) :: (0x01, .wrNp k) :: (atomicRows k ++ [(0x10, .wrP k), (0x11, .msg k)])

theorem atomicRows_subset (k : Nat) : atomicRows k ⊆ requestRows k := fun _ h =>
  List.mem_cons_of_mem _ (List.mem_cons_of_mem _ (List.mem_append_left _ h))

theorem atomicRows_opcode (k : Nat) : ∀ q ∈ atomicRows k, 2 ≤ q.1 ∧ q.1 < 8 := by
  simp only [atomicRows, List.forall_mem_cons]
  exact ⟨by decide, by decide, by decide, by decide, by decide, by decide, List.forall_mem_nil _⟩

theorem exec_requestRow (s : State) (k : Nat) : ∀ q ∈ requestRows k, exec q.2 s = run (arriveBody q.1 k) s := by
  simp only [requestRows, atomicRows, List.cons_append, List.nil_append, List.forall_mem_cons]
  exact ⟨rfl, rfl, rfl, rfl, rfl, rfl, rfl, rfl, rfl, rfl, List.forall_mem_nil _⟩

section
variable {s : State} {k op : Nat} {f : Flight} {d e : Device}

theorem handsOut_opcode (h : s.dev.handsOut op k f d) : f.pkt.op.toNat = op := h.2.1

/-- A packet that its port hands out does to the device what its edge does with it. -/
theorem run_arrival (h : s.dev.handsOut op k f d) (he : d.arriveAt f = e) : run (arriveBody op k) s = .next (s.after e) :=
  run_eq _ s _ ((arriveE h).trans he)

theorem exec_request_arrives {i : Instr} (hi : (op, i) ∈ requestRows k) (h : s.dev.handsOut op k f d) (he : d.arriveAt f = e) :
    exec i s = .next (s.after e) :=
  (exec_requestRow s k (op, i) hi).trans (run_arrival h he)

end

/-! ### A request at a bay port (R153, R198) -/

section
variable {d w : Device} {n : Fin 104} {f : Flight}

theorem arriveAt_bay (h : f.dst = .bay n.val) : d.arriveAt f = d.bayArrive n f := by
  simp only [Device.arriveAt, h, n.isLt, dite_true]

theorem bayArrive_request (hcls : f.pkt.cls ≠ 1) : d.bayArrive n f = d.bayTarget n f.pkt := by
  simp only [Device.bayArrive, bne_iff_ne, ne_eq, hcls, not_false_eq_true, if_true]

/-- An open bay wakes and its design gets the request; a posted one leaves no response owed (R147, R169). -/
theorem bayTarget_open {p : Packet} (hopen : d.bayShutter (d.physOf n) = shutterOpen) (hcls : p.cls ≠ 3)
    (hw : w = drowsyWakeBody n d) : d.bayTarget n p =
      (if p.cls = 2 then w else { w with accepted := w.accepted ++ [{ bay := n.val, src := p.src, tag := p.tag }] }).emit
        (.toDesign n.val p) := by
  simp only [Device.bayTarget, hopen, ne_eq, not_true_eq_false, if_false, beq_iff_eq, hcls, ← hw]

end

/-- Settles O23: each row is an arrival (`exec_request_arrives`) at a bay whose design takes the request (`bayTarget_open`). -/
theorem requestsReachADesign : Obligations.RequestsReachADesign := by
  unfold Obligations.RequestsReachADesign
  intro s k f n op i hi d hout hdst hcls hopen w hw
  have hposted : f.pkt.cls = 2 ↔ ¬ op < 8 := by rw [hcls]; split <;> simp [*]
  have hnot : f.pkt.cls ≠ 1 ∧ f.pkt.cls ≠ 3 := by rw [hcls]; split <;> decide
  refine exec_request_arrives hi hout ?_
  rw [arriveAt_bay hdst, bayArrive_request hnot.1, bayTarget_open hopen hnot.2 hw]
  simp only [hposted, ite_not]

end Sys2Proof.Machine
end

section
/-! PROOFS. Requests at the CORE and MGMT nodes (O24): what each node does with a request that it performs. -/

namespace Sys2Proof.Machine

open Sys2Proof

/-! ### The CORE node (R159, R162, R169) -/

section
variable {d e : Device} {f : Flight} {p : Packet} {t : CoreTarget}

theorem arriveAt_core (h : f.dst = .core) (hcls : f.pkt.cls ≠ 1) : d.arriveAt f = d.coreNode f.pkt := by
  simp only [Device.arriveAt, h, beq_iff_eq, hcls, if_false]

/-- The CORE node performs a request at `t`: the target is there and within reach, the class is not that of the management space, and
no 4 KiB boundary is crossed. -/
structure Device.CorePerforms (d : Device) (p : Packet) (t : CoreTarget) : Prop where
  target : coreTargetOf p.laddr.toNat = t
  found : t ≠ .none
  unsealed : d.targetSealed t = false
  cls : p.cls ≠ 3
  within : crosses4K p = false

theorem coreNode_read {bs : List Byte} (h : d.CorePerforms p t) (hop : p.op.toNat = 0x00)
    (hread : d.coreRead t (p.len.toNat + 1) = (some bs, e)) : d.coreNode p = e.answerData .core p bs := by
  have h11 : ¬ 0x00 = 0x11 := by decide
  simp only [Device.coreNode, h.target, h.found, h.unsealed, beq_iff_eq, h.cls, h.within, h11, hop, hread, Bool.or_self,
    Bool.false_eq_true, if_false, if_true]

theorem coreNode_write (h : d.CorePerforms p t) (hop : p.op.toNat = 0x01 ∨ p.op.toNat = 0x10)
    (hwrite : d.coreWrite t p.payload = (true, e)) : d.coreNode p = e.answerOk .core p := by
  have h0 : ¬ p.op.toNat = 0x00 := by omega
  have h11 : ¬ p.op.toNat = 0x11 := by omega
  simp only [Device.coreNode, h.target, h.found, h.unsealed, beq_iff_eq, h.cls, h.within, h0, h11, hop, hwrite, Bool.or_self,
    Bool.false_eq_true, if_false, if_true]

theorem coreNode_atomic (h : d.CorePerforms p t) (hop : 2 ≤ p.op.toNat ∧ p.op.toNat < 8) : d.coreNode p = d.coreAtomic t p := by
  have h0 : ¬ p.op.toNat = 0x00 := by omega
  have hwrite : ¬ (p.op.toNat = 0x01 ∨ p.op.toNat = 0x10) := by omega
  have h11 : ¬ p.op.toNat = 0x11 := by omega
  simp only [Device.coreNode, h.target, h.found, h.unsealed, beq_iff_eq, h.cls, h.within, h0, hwrite, h11, Bool.or_self,
    Bool.false_eq_true, if_false]

/-- An aligned atomic answers with the old value and stores the new (R162). -/
theorem coreAtomic_aligned {op : Nat} {bs : List Byte} {e' : Device} (hop : p.op.toNat = op) (halign : p.laddr.toNat % atomicSize op = 0)
    (hread : d.coreRead t (atomicSize op) = (some bs, e))
    (hwrite : e.coreWrite t (bytesLE (atomicSize op) (atomicNew op (natLE bs) p.payload)) = (true, e')) :
    d.coreAtomic t p = e'.answerData .core p bs := by
  simp only [Device.coreAtomic, hop, halign, ne_eq, not_true_eq_false, if_false, hread, hwrite]

theorem answerOk_posted {g : Edge} (h : p.cls = 2) : d.answerOk g p = d :=
  if_pos (beq_iff_eq.mpr h)

theorem answerOk_awaited {g : Edge} (h : p.cls ≠ 2) : d.answerOk g p = d.inject g iniAnswer (rspTo p stOk) :=
  if_neg (mt beq_iff_eq.mp h)

end

/-! ### The MGMT node (R153) -/

section
variable {d e : Device} {f : Flight} {p : Packet}

theorem arriveAt_mgmt (h : f.dst = .mgmt) (hcls : f.pkt.cls ≠ 1) : d.arriveAt f = d.mgmtTarget f.pkt := by
  simp only [Device.arriveAt, h, beq_iff_eq, hcls, if_false]

/-- The packet names an aligned word of the management space. -/
structure NamesMgmtWord (p : Packet) : Prop where
  cls : p.cls = 3
  inside : p.laddr.toNat < 0x04000000
  aligned : p.laddr.toNat % 4 = 0
  len : p.len = 3

theorem NamesMgmtWord.fits (h : NamesMgmtWord p) : ¬ (p.laddr.toNat % 4 ≠ 0 ∨ p.len.toNat ≠ 3) := by simp [h.aligned, h.len]

theorem mgmtTarget_read {w : Word} (h : NamesMgmtWord p) (hop : p.op.toNat = 0x20)
    (hread : d.mgmtRead .mesh false p.laddr.toNat = (w, e)) :
    d.mgmtTarget p = e.answerData .mgmt p (bytesLE 4 w.toNat) := by
  have hop' : p.op = 0x20 := BitVec.eq_of_toNat_eq hop
  simp only [Device.mgmtTarget, h.cls, bne_self_eq_false, Nat.not_le.mpr h.inside, h.fits, hop', beq_self_eq_true, hread,
    Bool.false_eq_true, if_false, if_true]

/-- Where the word goes to a device further on, that device is ready for it (R317). -/
theorem mgmtTarget_write (h : NamesMgmtWord p) (hop : p.op.toNat = 0x21)
    (hwrite : d.mgmtWrite .mesh p.laddr.toNat (BitVec.ofNat 32 (natLE p.payload)) = some e)
    (hready : p.laddr.toNat = fldKey .cfg fCfgFwdData 0 → d.fwdReady = true) : d.mgmtTarget p = e.answerOk .mgmt p := by
  have hop' : (p.op == 0x20) = false := by rw [BitVec.eq_of_toNat_eq (y := 0x21#6) hop]; rfl
  have hready' : (p.laddr.toNat == fldKey .cfg fCfgFwdData 0 && !d.fwdReady) = false := by simpa using hready
  simp only [Device.mgmtTarget, h.cls, bne_self_eq_false, Nat.not_le.mpr h.inside, h.fits, hop', hwrite, hready', Bool.false_eq_true,
    if_false]

end

/-- Settles O24: at the CORE node the cases of `coreNode_read`, `coreNode_write` and `coreNode_atomic`; at the MGMT node those of
`mgmtTarget_read` and `mgmtTarget_write`. -/
theorem requestsAtNodes : Obligations.RequestsAtNodes := by
  unfold Obligations.RequestsAtNodes
  refine ⟨fun s k op f t d hout hdst ht hfound hseal => ?core, fun s k f d hdst hcls hin halign hlen => ?mgmt⟩
  case core =>
    have hop := handsOut_opcode hout
    have hnode (hcls : f.pkt.cls = 0 ∨ f.pkt.cls = 2) (hwithin : crosses4K f.pkt = false) :
        d.arriveAt f = d.coreNode f.pkt ∧ d.CorePerforms f.pkt t := by
      have hnot : f.pkt.cls ≠ 1 ∧ f.pkt.cls ≠ 3 := by rcases hcls with h | h <;> rw [h] <;> decide
      exact ⟨arriveAt_core hdst hnot.1, ht.symm, hfound, hseal, hnot.2, hwithin⟩
    refine ⟨?read, ?write, ?posted, ?atomic⟩
    case read =>
      rintro bs e rfl hcls hwithin hread
      obtain ⟨harrive, hperf⟩ := hnode (.inl hcls) hwithin
      exact run_arrival hout (harrive.trans (coreNode_read hperf hop hread))
    case write =>
      rintro e rfl hcls hwithin hwrite
      obtain ⟨harrive, hperf⟩ := hnode (.inl hcls) hwithin
      refine run_arrival hout ?_
      rw [harrive, coreNode_write hperf (.inl hop) hwrite, answerOk_awaited (by simp [hcls])]
    case posted =>
      rintro e rfl hcls hwithin hwrite
      obtain ⟨harrive, hperf⟩ := hnode (.inr hcls) hwithin
      refine run_arrival hout ?_
      rw [harrive, coreNode_write hperf (.inr hop) hwrite, answerOk_posted hcls]
    case atomic =>
      intro i bs e e' hi hcls hwithin halign hread hwrite
      obtain ⟨harrive, hperf⟩ := hnode (.inl hcls) hwithin
      have hrow : 2 ≤ f.pkt.op.toNat ∧ f.pkt.op.toNat < 8 := hop ▸ atomicRows_opcode k (op, i) hi
      refine exec_request_arrives (atomicRows_subset k hi) hout ?_
      rw [harrive, coreNode_atomic hperf hrow, coreAtomic_aligned hop halign hread hwrite]
  case mgmt =>
    have hword : NamesMgmtWord f.pkt := ⟨hcls, hin, halign, hlen⟩
    have harrive : d.arriveAt f = d.mgmtTarget f.pkt := arriveAt_mgmt hdst (by simp [hcls])
    refine ⟨fun w e hout hread => run_arrival hout (harrive.trans (mgmtTarget_read hword (handsOut_opcode hout) hread)), ?write⟩
    rintro e hout hwrite hready e' rfl hdefined
    refine runChecked_eq _ s _ ((arriveE hout).trans (harrive.trans ?_)) hdefined
    rw [mgmtTarget_write hword (handsOut_opcode hout) hwrite hready, answerOk_awaited (by simp [hcls])]

end Sys2Proof.Machine
end

section
/-! PROOFS. How requests end (O25): what a response or a marker does to the request of a design that waits for it, and what the ends
of its time and of its quarantine do. -/

namespace Sys2Proof.Machine

open Sys2Proof

/-! ### A response at a bay port (R147, R166, R198) -/

section
variable {d : Device} {n : Fin 104} {f : Flight}

theorem wakeBay_reqs (d : Device) (n : Fin 104) : (d.wakeBay n).reqs = d.reqs := by
  cases h : sget (fun _ => false) d.drowsed n.val with
  | false => rw [wakeBay_running h, Device.lower_reqs]
  | true => rw [wakeBay_stopped h]

/-- No request ends by the waking of a bay. -/
theorem drowsyWakeBody_req (d : Device) (n : Fin 104) (m : NodeKind) (tag : Nat) : (drowsyWakeBody n d).req m tag = d.req m tag :=
  congrArg (fun r => sget (fun _ => none) r (reqKey m tag)) (wakeBay_reqs d n)

theorem bayArrive_response (hcls : f.pkt.cls = 1) (hini : f.ini ≠ iniVerify) (hshut : d.bayShutter (d.physOf n) ≠ shutterClosed) :
    d.bayArrive n f = (drowsyWakeBody n d).rspArrives .fabric f.dst f.pkt := by
  simp only [Device.bayArrive, hcls, bne_self_eq_false, Bool.false_eq_true, if_false, hshut, hini]

theorem ownerOf_fabric {tag : Nat} (h : tag < 3328) : ownerOf .fabric tag = some (.bay (tag / 32)) :=
  if_pos (by omega)

theorem rspArrives_listed {m : NodeKind} {g : Edge} {p : Packet} {o : Initiator} {r : Req} (howner : ownerOf m p.tag.toNat = some o)
    (hreq : d.req m p.tag.toNat = some r) : d.rspArrives m g p = d.rspMeets m p.tag.toNat r p := by
  simp only [Device.rspArrives, howner, hreq]

/-- A response or marker that comes to a bay meets the request of its tag, once the bay is awake. -/
theorem arriveAt_bay_response {r : Req} (hdst : f.dst = .bay n.val) (hcls : f.pkt.cls = 1) (hini : f.ini ≠ iniVerify)
    (htag : f.pkt.tag.toNat < 3328) (hshut : d.bayShutter (d.physOf n) ≠ shutterClosed)
    (hreq : d.req .fabric f.pkt.tag.toNat = some r) :
    d.arriveAt f = (drowsyWakeBody n d).rspMeets .fabric f.pkt.tag.toNat r f.pkt := by
  rw [arriveAt_bay hdst, bayArrive_response hcls hini hshut,
    rspArrives_listed (ownerOf_fabric htag) ((drowsyWakeBody_req d n _ _).trans hreq)]

end

/-! ### What a design's request meets (R167, R170) -/

section
variable {d : Device} {tag b : Nat} {r : Req} {p : Packet}

/-- The end of a design's request: the packet is handed to the design, or the status where it does not stand. -/
theorem design_request_ends (hcont : r.cont = .design b) (status : Nat) (data : List Byte) :
    ((d.setReq .fabric tag none).reqEnds r.cont status data p).tagFreed .fabric tag =
      (d.setReq .fabric tag none).emit (.toDesign b (if status = stOk then p else statusRsp p status)) := by
  simp only [Device.tagFreed, Device.reqEnds, hcont]

/-- A response that needs no marker ends an active request (R167). -/
theorem rspMeets_response (hcont : r.cont = .design b) (hphase : r.phase = .active) (hop : p.op.toNat < 0x38)
    (hfinal : p.op = 0x31 → p.v = true) : d.rspMeets .fabric tag r p =
      (d.setReq .fabric tag none).emit (.toDesign b (if rspStatus r p = stOk then p else statusRsp p (rspStatus r p))) := by
  have hnow : (p.op == 0x31 && !p.v && rspStatus r p == stOk) = false := by
    by_cases h : p.op = 0x31
    · rw [hfinal h, Bool.not_true, Bool.and_false, Bool.false_and]
    · rw [beq_false_of_ne h, Bool.false_and, Bool.false_and]
  simp only [Device.rspMeets, hphase, Nat.not_le.mpr hop, decide_false, hnow, Bool.false_eq_true, if_false]
  exact design_request_ends hcont _ _

/-- Data with V = 0 are handed on, and the request waits for its marker (R170). -/
theorem rspMeets_unverified (hcont : r.cont = .design b) (hphase : r.phase = .active) (hop : p.op = 0x31) (hv : p.v = false)
    (hstatus : rspStatus r p = stOk) : d.rspMeets .fabric tag r p =
      (d.setReq .fabric tag (some { r with phase := .marker p.payload })).emit (.toDesign b p) := by
  simp [Device.rspMeets, hphase, hop, hv, hstatus, hcont, ofDesign]

/-- A marker ends the request that waits for it (R170). -/
theorem rspMeets_marker {data : List Byte} (hcont : r.cont = .design b) (hphase : r.phase = .marker data) (hop : 0x38 ≤ p.op.toNat) :
    d.rspMeets .fabric tag r p = (d.setReq .fabric tag none).emit (.toDesign b p) := by
  simp [Device.rspMeets, hphase, hop, hcont, ofDesign]

end

/-! ### The end of time (R164, R195) -/

section
variable {d : Device} {n : NodeKind} {tag : BitVec 12} {r : Req}

theorem initiatorTimeoutBody_active (hreq : d.req n tag.toNat = some r) (hphase : r.phase = .active) :
    initiatorTimeoutBody n tag d =
      (((d.setReq n tag.toNat (some { r with phase := .quarantined, cont := .stale })).timeoutAt (ownerOf n tag.toNat)).reqEnds r.cont
        stTimeout [] (timeoutRsp (d.nodeId n) tag.toNat r stTimeout)).tagFreed n tag.toNat := by
  simp only [initiatorTimeoutBody, hreq, hphase]

theorem tagQuarantineEndBody_quarantined (hreq : d.req n tag.toNat = some r) (hphase : r.phase = .quarantined) :
    tagQuarantineEndBody n tag d = ((d.setReq n tag.toNat none).curTimedOut (d.nodeId n) tag).tagFreed n tag.toNat := by
  simp only [tagQuarantineEndBody, hreq, hphase, if_true]

end

/-- Settles O25: a response or marker that arrives meets its request (`arriveAt_bay_response`) in the phase in which it stands, by the
lemma of that phase; the two ends of time are the bodies that their lemmas name. -/
theorem requestsEnd : Obligations.RequestsEnd := by
  unfold Obligations.RequestsEnd
  refine ⟨?response, ?time⟩
  case response =>
    rintro s k op f n b r d e hout hdst hcls hini htag hshut rfl hreq hcont
    have hop := handsOut_opcode hout
    have harrive := arriveAt_bay_response hdst hcls hini htag hshut hreq
    refine ⟨fun hphase status hstatus => ⟨?rsp, ?rspData, ?unverified⟩, fun data hphase => ⟨?verifyOk, ?verifyFail⟩⟩
    case rsp =>
      rintro rfl
      have hnoData : f.pkt.op ≠ 0x31 := fun h => by simp [h] at hop
      rw [hstatus]
      exact run_arrival hout (harrive.trans (rspMeets_response hcont hphase (by omega) fun h => absurd h hnoData))
    case rspData =>
      rintro rfl hv
      rw [hstatus]
      exact run_arrival hout (harrive.trans (rspMeets_response hcont hphase (by omega) fun _ => hv))
    case unverified =>
      rintro rfl hv hok
      exact run_arrival hout (harrive.trans (rspMeets_unverified hcont hphase (BitVec.eq_of_toNat_eq hop) hv (hstatus.symm.trans hok)))
    case verifyOk =>
      rintro rfl
      exact run_arrival hout (harrive.trans (rspMeets_marker hcont hphase (by omega)))
    case verifyFail =>
      rintro rfl
      exact run_arrival hout (harrive.trans (rspMeets_marker hcont hphase (by omega)))
  case time =>
    intro s n tag r hreq
    refine ⟨?timeout, fun hphase => run_eq _ s _ (tagQuarantineEndBody_quarantined hreq hphase)⟩
    rintro hphase d rfl
    exact run_eq _ s _ (initiatorTimeoutBody_active hreq hphase)

end Sys2Proof.Machine
end

section
/-! PROOFS. Packets of a design and failures of the mesh (O26): what an open port does with a well-formed packet, and the detour
entries that a failed segment and a failed router set. -/

namespace Sys2Proof.Machine

open Sys2Proof

/-! ### Packets of a design (R180) -/

section
variable {d : Device} {n : Fin 104} {p q : Packet}

/-- A well-formed packet at an open port: a response goes; another goes where nothing of its class is held and its tag is free, and
waits behind what is held otherwise. -/
theorem bayPortSendBody_open (hlive : d.bayLive (d.physOf n) = true) (hq : q = d.bayStamp n p) (hwell : malformed q = false)
    (hopen : d.bayShutter (d.physOf n) = shutterOpen) : bayPortSendBody n p d =
      if q.cls = 1 ∨ d.heldAt n q.cls.toNat = [] ∧ d.tagBusy q = false then d.bayIssue n q
      else d.setHeld n q.cls.toNat (d.heldAt n q.cls.toNat ++ [q]) := by
  have hnotClosed : shutterOpen ≠ shutterClosed := by decide
  simp only [bayPortSendBody, hlive, Bool.true_eq_false, if_false, ← hq, hwell, Bool.false_eq_true, hopen, hnotClosed, ne_eq,
    not_true_eq_false, beq_iff_eq, Bool.and_eq_true, List.isEmpty_iff, Bool.not_eq_true']
  by_cases hresponse : q.cls = 1
  · rw [if_pos hresponse, if_pos (.inl hresponse)]
  · simp only [hresponse, if_false, false_or]

/-- The oldest packet held goes once its tag is free, from a port that is not closed. -/
theorem bayPortIssueBody_free {c : Fin 4} {rest : List Packet} (hshut : d.bayShutter (d.physOf n) ≠ shutterClosed)
    (hheld : d.heldAt n c.val = p :: rest) (hfree : d.tagBusy p = false) :
    bayPortIssueBody n c d = (d.setHeld n c.val rest).bayIssue n p := by
  simp only [bayPortIssueBody, if_neg hshut, hheld, hfree, Bool.false_eq_true, if_false]

end

/-! ### Failures of the mesh (R188, R190) -/

section
variable {d : Device}

theorem segmentFailBody_up {r : RouterAt} {out : Fin 5} (hup : d.meshUp = true)
    (hexists : outputExists r.x.val r.y.val out.val = true) : segmentFailBody r out d =
      d.setDetours (r.plane.val, out.val, r.x.val, r.y.val) [outKey r.plane.val r.x.val r.y.val out.val] := by
  simp only [segmentFailBody, hup, hexists, Bool.and_self, if_true]

/-- A failed router: its own detour entry, those of its neighbours' outputs towards it, and its packets back where they came from. -/
theorem routerFailBody_up {r : RouterAt} (hup : d.meshUp = true) : routerFailBody r d =
    { d with mesh := d.mesh.map fun (f : Flight) => f.sentBack (r.plane.val == 1) r.x.val r.y.val }.setDetours
      (r.plane.val, 7, r.x.val, r.y.val)
      (outKey r.plane.val r.x.val r.y.val 7 ::
        ((if 0 < r.x.val then [outKey r.plane.val (r.x.val - 1) r.y.val 0] else []) ++
        (if r.x.val < 15 then [outKey r.plane.val (r.x.val + 1) r.y.val 1] else []) ++
        (if 0 < r.y.val then [outKey r.plane.val r.x.val (r.y.val - 1) 2] else []) ++
        (if r.y.val < 9 then [outKey r.plane.val r.x.val (r.y.val + 1) 3] else []))) := by
  simp only [routerFailBody, hup, if_true, decide_eq_true_eq, List.cons_append, List.nil_append]

end

/-- Settles O26: a packet meets an open port (`bayPortSendBody_open`), one held goes (`bayPortIssueBody_free`), and a failure sets the
entries that `segmentFailBody_up` and `routerFailBody_up` name. -/
theorem portsSendAndMeshFailuresDetour : Obligations.PortsSendAndMeshFailuresDetour := by
  unfold Obligations.PortsSendAndMeshFailuresDetour
  refine ⟨⟨?send, ?issue⟩, ?fail⟩
  case send =>
    intro s n p q hlive hq hwell hopen
    have hbody := bayPortSendBody_open hlive hq hwell hopen
    refine ⟨fun hresponse => ?_, fun _ hheld hfree => ?_, fun hrequest hwaits => ?_⟩
    · exact run_eq _ s _ (hbody.trans (if_pos (.inl hresponse)))
    · exact run_eq _ s _ (hbody.trans (if_pos (.inr ⟨hheld, hfree⟩)))
    · refine run_eq _ s _ (hbody.trans (if_neg ?_))
      rintro (hresponse | ⟨hheld, hfree⟩)
      · exact hrequest hresponse
      · exact hwaits.elim (· hheld) (by simp [hfree])
  case issue =>
    intro s n c p rest hshut hheld hfree
    exact run_eq _ s _ (bayPortIssueBody_free hshut hheld hfree)
  case fail =>
    intro s r out hup
    refine ⟨fun hexists => run_eq _ s _ (segmentFailBody_up hup hexists), ?_, run_eq _ s _ rfl⟩
    rintro keys rfl
    exact run_eq _ s _ (routerFailBody_up hup)

end Sys2Proof.Machine
end

section
/-! PROOFS. Shutters (O27): the write of SHUTTER that CLOSE and OPEN stand for, how a shutter of each kind begins to close and opens,
and what it does when it has drained or its limit expires. -/

namespace Sys2Proof.Machine

open Sys2Proof

/-! ### The write of SHUTTER (R25, R199, R284) -/

section
variable {d : Device}

theorem blockWrite_txlShutter (d : Device) (l : Fin 144) (w : Word) :
    d.blockWrite (.txl l) fTxlShutterState.off w = d.shutterWrite (.txl l) w := by
  have hwo : ∀ f ∈ fieldsAt (.txl 0) fTxlShutterState.off, f.ty = .wo ∨ f.ty = .ro := by decide
  have hfields : d.fieldsWrite (.txl l) fTxlShutterState.off w (fun _ => false) = d := fieldsWrite_nil hwo
  have hoff : fTxlShutterState.off ≠ fTxlSwapTestLane.off := by decide
  simp only [Device.blockWrite, Device.txlWrite, hfields, if_neg hoff, if_true]

theorem blockWrite_curShutter (d : Device) (l : Fin 144) (w : Word) :
    d.blockWrite (curPage l) fCurShutterState.off w = d.shutterWrite (.cur (curOfLink l)) w := by
  have hwo : ∀ f ∈ fieldsAt (.cur 0) fCurShutterState.off, f.ty = .wo ∨ f.ty = .ro := by decide
  have hfields : d.fieldsWrite (.cur (curOfLink l)) fCurShutterState.off w (fun _ => false) = d := fieldsWrite_nil hwo
  simp only [Device.blockWrite, curPage, curLinkOf_curOfLink, Device.curRegWrite, hfields, if_true]

theorem blockWrite_hdmaShutter (d : Device) (w : Word) :
    d.blockWrite .hdma fHdmaShutterState.off w = d.shutterWrite .hdma w := by
  simp only [Device.blockWrite, Device.hdmaWrite, if_true]

/-- A CLOSE of a bay's shutter waits for the end of a hold of its row. -/
theorem blockWrite_bayShutter (d : Device) (pb : Fin 112) (w : Word) : d.blockWrite (.pbay pb) fPbayShutterState.off w =
    (if w.getLsbD 0 then d.holdOver (.pbay pb) else d).shutterWrite (.bay (.pbay pb)) w := by
  have hwo : ∀ f ∈ fieldsAt (.pbay 0) fPbayShutterState.off, f.ty = .wo ∨ f.ty = .ro := by decide
  have hfields : d.fieldsWrite (.pbay pb) fPbayShutterState.off w (fun _ => false) = d := fieldsWrite_nil hwo
  have hoff : fPbayShutterState.off ≠ fPbayCaptureCmdGo.off := by decide
  simp only [Device.blockWrite, Device.pbayWrite, hfields, if_neg hoff, if_true]

theorem shutterWrite_close (d : Device) (sh : ShutterRef) : d.shutterWrite sh 1 = d.shutterClose sh := rfl

theorem shutterWrite_open (d : Device) (sh : ShutterRef) : d.shutterWrite sh 2 = d.shutterOpenUp sh := rfl

/-- A shutter under the name of the page that holds its register: a physical bay for a bay, the engine page of its link for a curtain
stage. -/
def Device.shutterHome (d : Device) : ShutterRef → ShutterRef
  | .bay b => .bay (.pbay (d.bayPhys b))
  | .txl l => .txl l
  | .cur n => .cur ((d.curLinkOf n).elim n curOfLink)
  | .hdma => .hdma

theorem shutterHome_cur {n : Fin 156} {l : Fin 144} (h : d.curLinkOf n = some l) : d.shutterHome (.cur n) = .cur (curOfLink l) := by
  simp only [Device.shutterHome, h, Option.elim_some]

theorem shutterHome_ne_cur {sh : ShutterRef} (h : ∀ n, sh ≠ .cur n) (n : Fin 156) : d.shutterHome sh ≠ .cur n := by
  cases sh with
  | cur m => exact absurd rfl (h m)
  | bay b => exact ShutterRef.noConfusion
  | txl l => exact ShutterRef.noConfusion
  | hdma => exact ShutterRef.noConfusion

theorem closeWaits_plain {sh : ShutterRef} (h : ∀ b, sh ≠ .bay b) : d.closeWaits sh = d := by
  cases sh with
  | bay b => exact absurd rfl (h b)
  | txl l => rfl
  | cur n => rfl
  | hdma => rfl

section
variable {sh : ShutterRef} {pg : PageRef} {st ex : Fld} (hat : d.shutterAt sh = some (pg, st, ex))
include hat

/-- Under that name a shutter's register is where it is, whatever happens to the steering and the spares. -/
theorem shutterAt_shutterHome (e : Device) : e.shutterAt (d.shutterHome sh) = some (pg, st, ex) := by
  cases sh with
  | bay b => exact hat
  | txl l => exact hat
  | hdma => exact hat
  | cur n =>
    obtain ⟨l, hlink, hfields⟩ := Option.map_eq_some_iff.mp hat
    rw [shutterHome_cur hlink, Device.shutterAt, curLinkOf_curOfLink, Option.map_some, hfields]

/-- The row of a shutter's CLOSE or OPEN is a write of the shutter under that name; a CLOSE waits first. -/
theorem shutterReg_write {rq : Requester} (h : d.takes rq (shutterPage sh) pg) (w : Word) :
    regWriteBody rq (shutterReg sh) w d = (if w.getLsbD 0 then d.closeWaits sh else d).shutterWrite (d.shutterHome sh) w := by
  cases sh with
  | bay b =>
    obtain rfl : .pbay (d.bayPhys b) = pg := congrArg Prod.fst (Option.some.inj hat)
    exact (takes_fld h fPbayShutterState 0 w (by decide) (by decide)).trans (blockWrite_bayShutter d _ w)
  | txl l =>
    obtain rfl : .txl l = pg := congrArg Prod.fst (Option.some.inj hat)
    rw [closeWaits_plain fun _ => ShutterRef.noConfusion, ite_self]
    exact (takes_fld h fTxlShutterState 0 w (by decide) (by decide)).trans (blockWrite_txlShutter d l w)
  | cur n =>
    obtain ⟨l, hlink, hfields⟩ := Option.map_eq_some_iff.mp hat
    obtain rfl : curPage l = pg := congrArg Prod.fst hfields
    rw [shutterHome_cur hlink, closeWaits_plain fun _ => ShutterRef.noConfusion, ite_self]
    exact (takes_fld h fCurShutterState 0 w (by decide) (by decide)).trans (blockWrite_curShutter d l w)
  | hdma =>
    obtain rfl : .hdma = pg := congrArg Prod.fst (Option.some.inj hat)
    rw [closeWaits_plain fun _ => ShutterRef.noConfusion, ite_self]
    exact (takes_fld h fHdmaShutterState 0 w (by decide) (by decide)).trans (blockWrite_hdmaShutter d w)

theorem shutterClose_write {rq : Requester} (h : d.takes rq (shutterPage sh) pg) :
    regWriteBody rq (shutterReg sh) 1 d = (d.closeWaits sh).shutterClose (d.shutterHome sh) :=
  (shutterReg_write hat h 1).trans (shutterWrite_close _ _)

theorem shutterOpen_write {rq : Requester} (h : d.takes rq (shutterPage sh) pg) :
    regWriteBody rq (shutterReg sh) 2 d = d.shutterOpenUp (d.shutterHome sh) :=
  (shutterReg_write hat h 2).trans (shutterWrite_open _ _)

end

end

/-! ### Closing (R198) -/

section
variable {d : Device} {sh : ShutterRef} {pg : PageRef} {st ex : Fld}

theorem shutterClose_plain (hat : d.shutterAt sh = some (pg, st, ex)) (hopen : d.rd pg st = shutterOpen) (hsh : ∀ n, sh ≠ .cur n) :
    d.shutterClose sh = (d.put pg st shutterClosing).put pg ex 0 := by
  unfold Device.shutterClose
  rw [hat]
  refine (if_neg (not_not_intro hopen)).trans ?_
  cases sh with
  | cur n => exact absurd rfl (hsh n)
  | bay b => rfl
  | txl l => rfl
  | hdma => rfl

/-- An engine begins to write its caches back (R271). -/
theorem shutterClose_cur {l : Fin 144} (hat : d.shutterAt (.cur (curOfLink l)) = some (pg, st, ex)) (hopen : d.rd pg st = shutterOpen) :
    d.shutterClose (.cur (curOfLink l)) = ((d.put pg st shutterClosing).put pg ex 0).curFlush l := by
  simp only [Device.shutterClose, hat, hopen, ne_eq, not_true_eq_false, if_false, curLinkOf_curOfLink]

section
variable (hat : d.shutterAt sh = some (pg, st, ex)) (hclosing : d.rd pg st = shutterClosing)
include hat hclosing

theorem shutterDrained_closing (hdrained : d.drained sh = true) : d.shutterDrained sh = d.shutterReached sh := by
  simp only [Device.shutterDrained, Device.shutterState, hat, hclosing, hdrained, and_self, if_true]

theorem shutterExpire_drained (hdrained : d.drained sh = true) : d.shutterExpire sh = d.shutterReached sh := by
  simp only [Device.shutterExpire, hat, hclosing, ne_eq, not_true_eq_false, if_false, hdrained, if_true]

end

/-- What a drain limit does to the traffic that is left behind a shutter (R198, step 3). -/
def Device.leftFenced (d : Device) : ShutterRef → Device
  | .bay b => (d.bayExpire (d.bayPhys b)).bayCause (d.bayPhys b) cBayDrainExpired
  | .txl l => d.linkExpire l
  | .cur n => (d.curLinkOf n).elim d d.curExpire
  | .hdma => d.hdmaExpire.raise .hdma cHdmaDrainExpired

theorem shutterExpire_left (hat : d.shutterAt sh = some (pg, st, ex)) (hclosing : d.rd pg st = shutterClosing)
    (hleft : d.drained sh = false) : d.shutterExpire sh = ((d.leftFenced sh).put pg ex 1).shutterReached sh := by
  unfold Device.shutterExpire
  rw [hat]
  refine (if_neg (not_not_intro hclosing)).trans ((if_neg (Bool.eq_false_iff.mp hleft)).trans ?_)
  cases sh with
  | bay b => rfl
  | txl l => rfl
  | hdma => rfl
  | cur n => cases hlink : d.curLinkOf n <;> simp only [Device.leftFenced, hlink, Option.elim_none, Option.elim_some]

end

/-! ### Opening (R199) -/

section
variable {d : Device} {sh : ShutterRef} {pg : PageRef} {st ex : Fld}

theorem domainRuns_shutterHome (d : Device) (sh : ShutterRef) : d.domainRuns (d.shutterHome sh) = d.domainRuns sh := by
  cases sh with
  | bay b => rfl
  | txl l => rfl
  | cur n => rfl
  | hdma => rfl

theorem abortFenced_clear (h : d.rd pg hdrAbortState = 0) : d.abortFenced pg = false := by
  rw [Device.abortFenced, h, bne_self_eq_false]

theorem shutterFenced_bay {pb : Fin 112} {n : Fin 104} (h : d.logicalOf pb = some n) :
    d.shutterFenced (.bay (.pbay pb)) = d.abortFenced (.bay n) := by
  simp only [Device.shutterFenced, Device.bayPhys, h]

/-- What an opened shutter sets going: a link that an abort put to sleep wakes (R248), an engine goes on (R271, R283). -/
def Device.openedUp (d : Device) : ShutterRef → Device
  | .bay _ => d
  | .txl l => if (d.lk l).sleepAfterAbort then (d.setLk l { d.lk l with sleepAfterAbort := false }).linkWake l else d
  | .cur n => (d.curLinkOf n).elim d fun l => ((d.curFlush l).curResume l).curPump l
  | .hdma => d

theorem openedUp_cur (d : Device) (l : Fin 144) : d.openedUp (.cur (curOfLink l)) = ((d.curFlush l).curResume l).curPump l := by
  simp only [Device.openedUp, curLinkOf_curOfLink, Option.elim_some]

/-- A closed shutter whose domain runs and whose function no abort has fenced opens, a waiting COMMIT of the MESH page before it (R186,
entry 80). -/
theorem shutterOpenUp_closed (hat : d.shutterAt sh = some (pg, st, ex)) (hclosed : d.rd pg st = shutterClosed)
    (hfree : d.shutterFenced sh = false) (hruns : d.domainRuns sh = true) :
    d.shutterOpenUp sh = (d.commitBeforeOpen.put pg st shutterOpen).openedUp sh := by
  have hopens : ¬ (d.rd pg st ≠ shutterClosed ∨ d.shutterFenced sh = true ∨ d.domainRuns sh = false) := by
    simp [hclosed, hfree, hruns]
  unfold Device.shutterOpenUp
  rw [hat]
  refine (if_neg hopens).trans ?_
  cases sh with
  | bay b => rfl
  | txl l => rfl
  | hdma => rfl
  | cur n => cases hlink : (d.commitBeforeOpen.put pg st shutterOpen).curLinkOf n <;>
      simp only [Device.openedUp, hlink, Option.elim_none, Option.elim_some]

end

/-- Settles O27: CLOSE and OPEN are a write of the shutter (`shutterClose_write`, `shutterOpen_write`) that closes it
(`shutterClose_plain`, `shutterClose_cur`) or opens it (`shutterOpenUp_closed`); draining and the limit end as `shutterDrained_closing`,
`shutterExpire_drained` and `shutterExpire_left` say. -/
theorem shuttersCloseDrainAndOpen : Obligations.ShuttersCloseDrainAndOpen := by
  unfold Obligations.ShuttersCloseDrainAndOpen
  intro s sh pg st ex hat
  have hhome := shutterAt_shutterHome hat
  refine ⟨?close, fun hclosing hdrained => ?drained, ?expired, ?opens⟩
  case close =>
    rintro rq d e htakes rfl hopen rfl
    have hwrite := shutterClose_write hat htakes
    refine ⟨fun hsh => ?_, ?_⟩
    · exact run_eq _ s _ (hwrite.trans (shutterClose_plain (hhome _) hopen (shutterHome_ne_cur hsh)))
    · rintro n l rfl hlink
      rw [shutterHome_cur hlink] at hwrite hhome
      exact run_eq _ s _ (hwrite.trans (shutterClose_cur (hhome _) hopen))
  case drained =>
    exact ⟨run_eq _ s _ (shutterDrained_closing hat hclosing hdrained), run_eq _ s _ (shutterExpire_drained hat hclosing hdrained)⟩
  case expired =>
    intro d hclosing hleft hkind
    have hfenced : s.dev.leftFenced sh = d := by
      rcases hkind with ⟨b, rfl, rfl⟩ | ⟨l, rfl, rfl⟩ | ⟨n, l, rfl, hlink, rfl⟩ | ⟨rfl, rfl⟩
      · rfl
      · rfl
      · simp only [Device.leftFenced, hlink, Option.elim_some]
      · rfl
    rw [← hfenced]
    exact run_eq _ s _ (shutterExpire_left hat hclosing hleft)
  case opens =>
    rintro rq d e htakes hclosed hruns rfl hkind hdefined
    refine runChecked_eq _ s e ((shutterOpen_write hat htakes).trans ?_) hdefined
    have hopened := fun hfree => shutterOpenUp_closed (hhome s.dev) hclosed hfree ((domainRuns_shutterHome _ _).trans hruns)
    rcases hkind with ⟨rfl, rfl⟩ | ⟨b, n, rfl, hcarries, habort, rfl⟩ | ⟨l, rfl, habort, rfl⟩ | ⟨l, rfl, habort, rfl⟩
    · exact hopened rfl
    · exact hopened ((shutterFenced_bay hcarries).trans (abortFenced_clear habort))
    · exact hopened (abortFenced_clear habort)
    · rw [shutterHome_cur (curLinkOf_curOfLink _ l)] at hopened ⊢
      exact (hopened (abortFenced_clear habort)).trans (openedUp_cur _ l)

end Sys2Proof.Machine
end

section
/-! PROOFS. Lanes that fail and their spares (O29): SWAP_TEST as a failure of its lane, what the failure of a data lane, of DS and of
the clock lane comes to, and how a swap ends. -/

namespace Sys2Proof.Machine

open Sys2Proof

section
variable {d e : Device} {l : Fin 144}

/-! ### SWAP_TEST (R227) -/

/-- SWAP_TEST stores nothing: its fields are write-only. -/
theorem blockWrite_swapTest (d : Device) (l : Fin 144) (w : Word) :
    d.blockWrite (.txl l) fTxlSwapTestLane.off w = d.swapTest l w := by
  have hwo : ∀ f ∈ fieldsAt (.txl 0) fTxlSwapTestLane.off, f.ty = .wo ∨ f.ty = .ro := by decide
  have hfields : d.fieldsWrite (.txl l) fTxlSwapTestLane.off w (fun _ => false) = d := fieldsWrite_nil hwo
  simp only [Device.blockWrite, Device.txlWrite, hfields, if_true]

theorem swapTest_write {rq : Requester} (h : d.takes rq (.txl l) (.txl l)) (w : Word) :
    regWriteBody rq (regAt (.txl l) fTxlSwapTestLane) w d = d.swapTest l w :=
  (takes_fld h fTxlSwapTestLane 0 w (by decide) (by decide)).trans (blockWrite_swapTest d l w)

/-- The word of a DATA_GO: LANE in its low two bits, DATA_GO at bit 2, CLK_GO at bit 3. -/
theorem dataGoWord_fields (k : Fin 4) :
    bitsOf (BitVec.ofNat 32 (4 + k.val)) 0 2 = k.val ∧ (BitVec.ofNat 32 (4 + k.val)).getLsbD 2 = true ∧
      (BitVec.ofNat 32 (4 + k.val)).getLsbD 3 = false := by
  revert k
  decide

theorem swapTest_dataGo (d : Device) (l : Fin 144) (k : Fin 4) :
    d.swapTest l (BitVec.ofNat 32 (4 + k.val)) = d.laneFailed l k.val := by
  obtain ⟨hlane, hdata, hclk⟩ := dataGoWord_fields k
  rw [Device.swapTest, hlane, if_pos hdata, hclk]
  exact if_neg Bool.false_ne_true

theorem swapTest_clkGo (d : Device) (l : Fin 144) : d.swapTest l 8 = d.clockFailed l := rfl

/-! ### Data lanes (R221, R223, R225, R250) -/

/-- The receiver asks for DS in the place of a lane; an idle reverse direction resumes to carry the request (R250). -/
def Device.askSpare (d : Device) (l : Fin 144) (lane : Nat) : Device :=
  let f := d.setLk l { d.lk l with swapReq := some lane, sinceLink := 31 }
  if f.flag (.txl l) fTxlLinkStatusTxIdle = true then (f.txResume l).sendLink l false else f

section
variable {lane : Nat} (hdata : d.rd (.txl l) fTxlPhyRxMode = phyData) (hidle : d.flag (.txl l) fTxlLinkStatusRxIdle = false)
  (hlane : (d.rd (.txl l) fTxlPhyRxFailed).testBit lane = false)
  (he : e = d.put (.txl l) fTxlPhyRxFailed (Nat.lor (d.rd (.txl l) fTxlPhyRxFailed) (2 ^ lane)))
include hdata hidle hlane he

/-- A failure of a lane that has not failed yet: DS takes the lane where the table allows the swap, DS is free and has not failed, and
the request can be sent; else the link faults. -/
theorem laneFailed_once : d.laneFailed l lane =
    if (e.eff (.txl l) fTxlSubLinkLink).testBit 2 && e.rd (.txl l) fTxlPhyRxDsCarries == 7 &&
        !(d.rd (.txl l) fTxlPhyRxFailed).testBit 4 && (e.lk l).swapReq.isNone && e.canAsk l then
      e.askSpare l lane
    else e.linkEnterFault l := by
  subst he
  exact if_neg (by simp [hdata, hidle, hlane])

theorem laneFailed_asks (hallow : (e.eff (.txl l) fTxlSubLinkLink).testBit 2 = true) (hfree : e.rd (.txl l) fTxlPhyRxDsCarries = 7)
    (hspare : (d.rd (.txl l) fTxlPhyRxFailed).testBit 4 = false) (hreq : (e.lk l).swapReq = none) (hask : e.canAsk l = true) :
    d.laneFailed l lane = e.askSpare l lane :=
  (laneFailed_once hdata hidle hlane he).trans (if_pos (by simp [hallow, hfree, hspare, hreq, hask]))

theorem laneFailed_faults (h : (d.rd (.txl l) fTxlPhyRxFailed).testBit 4 = true ∨
      (e.eff (.txl l) fTxlSubLinkLink).testBit 2 = false ∨ e.rd (.txl l) fTxlPhyRxDsCarries ≠ 7 ∨ (e.lk l).swapReq ≠ none ∨
      e.canAsk l = false) :
    d.laneFailed l lane = e.linkEnterFault l := by
  refine (laneFailed_once hdata hidle hlane he).trans (if_neg ?_)
  rcases h with h | h | h | h | h <;> simp [h]

end

/-! ### The spare data lane (R220, R225) -/

section
variable (hdata : d.rd (.txl l) fTxlPhyRxMode = phyData) (hspare : (d.rd (.txl l) fTxlPhyRxFailed).testBit 4 = false)
  (he : e = (d.put (.txl l) fTxlPhyRxFailed (Nat.lor (d.rd (.txl l) fTxlPhyRxFailed) 16)).raise (.txl l) cTxlSpareLost)
include hdata hspare he

/-- A failure of DS that has not failed yet: it is lost, and with it the link that needs it. -/
theorem spareFailed_once : d.spareFailed l =
    if e.rd (.txl l) fTxlPhyRxDsCarries = 7 ∧ (e.lk l).swapReq.isNone = true then e else e.linkEnterFault l := by
  subst he
  exact if_neg (by simp [hdata, hspare])

theorem spareFailed_free (hfree : e.rd (.txl l) fTxlPhyRxDsCarries = 7) (hreq : (e.lk l).swapReq = none) : d.spareFailed l = e :=
  (spareFailed_once hdata hspare he).trans (if_pos ⟨hfree, Option.isNone_iff_eq_none.mpr hreq⟩)

theorem spareFailed_used (h : e.rd (.txl l) fTxlPhyRxDsCarries ≠ 7 ∨ (e.lk l).swapReq ≠ none) :
    d.spareFailed l = e.linkEnterFault l :=
  (spareFailed_once hdata hspare he).trans <|
    if_neg fun ⟨hfree, hreq⟩ => h.elim (· hfree) (· (Option.isNone_iff_eq_none.mp hreq))

end

/-- The idle check of DS counts each wrong bit, and more than 256 fail the lane. -/
theorem spareLaneFailBody_checked (hdata : d.rd (.txl l) fTxlPhyRxMode = phyData) (hfree : d.rd (.txl l) fTxlPhyRxDsCarries = 7)
    (n : Nat) : spareLaneFailBody l n d =
      if 256 < n then (d.countN (.txl l) 2 n).spareFailed l else d.countN (.txl l) 2 n :=
  if_pos ⟨hdata, hfree⟩

/-! ### Margin windows (R221) -/

theorem marginWindowBody_above {n : Nat} (hdata : d.rd (.txl l) fTxlPhyRxMode = phyData)
    (hidle : d.flag (.txl l) fTxlLinkStatusRxIdle = false) (hauto : d.flag (.txl l) fTxlMarginAuto = true)
    (hn : d.rd (.txl l) fTxlMarginLimit * 1024 < n) (k : Fin 5) :
    marginWindowBody l k n d = dataLaneFailBody l k ((d.raise (.txl l) cTxlMarginLow).count (.txl l) 3) :=
  if_pos ⟨hdata, hidle, hauto, hn⟩

theorem marginWindowBody_within {n : Nat} (hn : n ≤ d.rd (.txl l) fTxlMarginLimit * 1024) (k : Fin 5) :
    marginWindowBody l k n d = d :=
  if_neg fun ⟨_, _, _, habove⟩ => Nat.not_lt.mpr hn habove

/-! ### The clock lane (R224, R225) -/

section
variable (hdata : d.rd (.txl l) fTxlPhyRxMode = phyData)
include hdata

/-- Without a clock spare to ask for a failed clock lane faults the link. -/
theorem clockFailed_faults (h : d.rd (.txl l) fTxlPhyRxClkSel = 1 ∨ (d.eff (.txl l) fTxlSubLinkLink).testBit 3 = false ∨
    d.canAsk l = false) : d.clockFailed l = d.linkEnterFault l := by
  unfold Device.clockFailed
  refine (if_neg fun hmode => hmode hdata).trans (if_neg ?_)
  rintro ⟨hsel, hallow, -, hask⟩
  rcases h with h | h | h
  · simp [h] at hsel
  · simp [h] at hallow
  · simp [h] at hask

/-- With one the link trains on it, after a LINK flit with the request where one can be sent. -/
theorem clockFailed_trains (hsel : d.rd (.txl l) fTxlPhyRxClkSel = 0) (hallow : (d.eff (.txl l) fTxlSubLinkLink).testBit 3 = true)
    (hspare : d.flag (.txl l) fTxlPhyRxCsFailed = false) (hask : d.canAsk l = true) (he : e = d.raise (.txl l) fTxlPhyRxCFailed) :
    d.clockFailed l = (if e.canSend l = true then ((e.setLk l { e.lk l with oweCswap := true }).txResume l).sendLink l false
      else e).clockTrain l := by
  subst he
  exact (if_neg fun hmode => hmode hdata).trans (if_pos ⟨hsel, hallow, hspare, hask⟩)

end

/-- An active link trains without a new HELLO. -/
theorem clockTrain_active (h : d.linkState l = linkActive) : d.clockTrain l = d.startTraining l linkRetrain true false := by
  have hup : ¬ (d.linkState l = linkHello ∨ d.linkState l = linkTraining ∧ (d.lk l).noHello = false) := by
    rw [h]
    exact fun hst => hst.elim (by decide) fun ⟨htraining, _⟩ => absurd htraining (by decide)
  refine (if_neg hup).trans ?_
  rw [h]
  rfl

/-- In HELLO the bring-up begins anew. -/
theorem clockTrain_hello (h : d.linkState l = linkHello) (he : e = d.startTraining l linkTraining false false) :
    d.clockTrain l = e.setLk l { e.lk l with peer := none } := by
  subst he
  exact if_pos (.inl h)

/-! ### The end of a swap (R223, R250) -/

section
variable {lane : Nat} (hreq : (d.lk l).swapReq = some lane)
include hreq

theorem dswapMarkerBody_switches (hdata : d.rd (.txl l) fTxlPhyRxMode = phyData)
    (he : e = (d.put (.txl l) fTxlPhyRxDsCarries lane).setLk l { d.lk l with swapReq := none, oweDone := 4 }) {ds : BitVec 132}
    (hzeros : ((List.range 132).filter fun i => !ds.getLsbD i).length ≤ 6)
    (hspare : (d.rd (.txl l) fTxlPhyRxFailed).testBit 4 = false) :
    dswapMarkerBody l ds d = (e.raise (.txl l) cTxlLaneSwapped).count (.txl l) 0 := by
  subst he
  unfold dswapMarkerBody
  rw [hreq]
  exact if_pos ⟨hzeros, hdata, hspare⟩

theorem dswapMarkerBody_passed {ds : BitVec 132} (h : 6 < ((List.range 132).filter fun i => !ds.getLsbD i).length ∨
    (d.rd (.txl l) fTxlPhyRxFailed).testBit 4 = true) : dswapMarkerBody l ds d = d := by
  unfold dswapMarkerBody
  rw [hreq]
  refine if_neg ?_
  rintro ⟨hzeros, -, hspare⟩
  exact h.elim (Nat.not_lt.mpr hzeros) (by simp [hspare])

theorem dswapTimeoutBody_asked : dswapTimeoutBody l d = d.linkRetrainNow l := if_pos (by simp [hreq])

end

end

/-- Settles O29: DATA_GO and CLK_GO are the failures of their lanes (`swapTest_dataGo`, `swapTest_clkGo`). A data lane that fails asks
for DS (`laneFailed_asks`) or faults the link (`laneFailed_faults`); DS, the clock lane, a margin window and a marker have a lemma for
each case. -/
theorem lanesFailAndSwap : Obligations.LanesFailAndSwap := by
  unfold Obligations.LanesFailAndSwap
  intro s l hdata hidle
  refine ⟨fun k d hlane hd => ⟨?asks, ?faults⟩, fun d hspare hd => ⟨?spareFree, ?spareUsed⟩, fun n hfree => ⟨?few, ?many⟩,
    fun n k d hauto hn hd => ?above, fun n k hn => run_eq _ s _ (marginWindowBody_within hn k), fun hnone => ?clockFaults,
    fun d hsel hallow hspare hask hd hsend => ?clockTrains, fun d hsel hallow hspare hask hd hsend => ?clockAsks,
    fun d => ⟨clockTrain_active, fun e hhello he => clockTrain_hello hhello he⟩, fun k d hreq hd => ⟨?switches, ?passed, ?timeout⟩⟩
  case asks =>
    rintro hallow hfree hspare hreq hask f e rfl rfl
    have hasks := laneFailed_asks hdata hidle hlane hd hallow hfree hspare hreq hask
    exact ⟨run_eq _ s _ ((if_pos k.isLt).trans hasks),
      fun rq htakes => run_eq _ s _ ((swapTest_write htakes _).trans ((swapTest_dataGo _ _ _).trans hasks))⟩
  case faults =>
    intro hnone
    exact run_eq _ s _ ((if_pos k.isLt).trans (laneFailed_faults hdata hidle hlane hd hnone))
  case spareFree =>
    intro hfree hreq
    exact run_eq _ s _ (spareFailed_free hdata hspare hd hfree hreq)
  case spareUsed =>
    intro hused
    exact run_eq _ s _ (spareFailed_used hdata hspare hd hused)
  case few =>
    intro hn
    exact run_eq _ s _ ((spareLaneFailBody_checked hdata hfree n).trans (if_neg (Nat.not_lt.mpr hn)))
  case many =>
    intro hn
    exact run_eq _ s _ ((spareLaneFailBody_checked hdata hfree n).trans (if_pos hn))
  case above =>
    subst hd
    exact run_eq _ s _ (marginWindowBody_above hdata hidle hauto hn k)
  case clockFaults =>
    have hfaults := clockFailed_faults hdata hnone
    exact ⟨run_eq _ s _ hfaults,
      fun rq htakes => run_eq _ s _ ((swapTest_write htakes 8).trans ((swapTest_clkGo _ _).trans hfaults))⟩
  case clockTrains =>
    have htrains := clockFailed_trains hdata hsel hallow hspare hask hd
    rw [if_neg (by simp [hsend])] at htrains
    exact ⟨run_eq _ s _ htrains,
      fun rq htakes => run_eq _ s _ ((swapTest_write htakes 8).trans ((swapTest_clkGo _ _).trans htrains))⟩
  case clockAsks =>
    have htrains := clockFailed_trains hdata hsel hallow hspare hask hd
    rw [if_pos hsend] at htrains
    exact run_eq _ s _ htrains
  case switches =>
    intro ds hzeros hspare
    exact run_eq _ s _ (dswapMarkerBody_switches hreq hdata hd hzeros hspare)
  case passed =>
    intro ds hpass
    exact run_eq _ s _ (dswapMarkerBody_passed hreq hpass)
  case timeout => exact run_eq _ s _ (dswapTimeoutBody_asked hreq)

end Sys2Proof.Machine
end

section
/-! PROOFS. Links are enabled, train, align and are disabled (O28): ENABLE as a write of PAGE_CTRL, what a training receiver makes of
TRAIN and TRAIN_END, and the lane map at the end of an alignment. -/

namespace Sys2Proof.Machine

open Sys2Proof

section
variable {d e : Device} {l : Fin 144}

/-! ### ENABLE (R215, R245) -/

/-- ENABLE of a link is its bit of PAGE_CTRL, and then the link's own start or end. -/
theorem enableBody_txl {rq : Requester} {tag : Byte} (hr : d.reaches rq (.txl l)) (he : d.epochIs (.txl l) tag) (en : Bool) :
    enableBody rq (.txl l) tag en d =
      if en then linkEnable l (d.put (.txl l) hdrEnable 1) else linkDisable l (d.put (.txl l) hdrEnable 0) := by
  have htag : d.tagMatches (.txl l) (taggedWord tag en.toNat) = true := tagMatches_of he _ (by cases en <;> decide)
  obtain ⟨hbit0, hbit1⟩ := enableWord_bits tag en
  rw [enableBody, reaches_write hr 0x008 _ (by decide), headerWrite_ctrl, Device.ctrlWrite]
  simp only [htag, Bool.true_eq_false, if_false, hbit0, hbit1, Bool.false_and, Bool.false_eq_true, Device.enableEffect]
  cases en
  · simp only [bit, Bool.false_eq_true, if_false]
  · simp only [bit, if_true]

section
variable (hstate : d.linkState l = linkDisabled) (hmesh : d.meshUp = true)
include hstate hmesh

theorem linkEnable_starts (htable : (d.eff (.txl l) fTxlSubLinkLink).testBit 0 = true) :
    linkEnable l d = (d.put .clk fClkSrcRunRun (Nat.lor (d.rd .clk fClkSrcRunRun) (2 ^ (5 + l.val / 36)))).startTraining l
      linkTraining false true :=
  (if_neg (by simp [hstate, hmesh])).trans (if_pos htable)

theorem linkEnable_invalidTable (htable : (d.eff (.txl l) fTxlSubLinkLink).testBit 0 = false) :
    linkEnable l d = d.raise (.txl l) cTxlTableInvalid :=
  (if_neg (by simp [hstate, hmesh])).trans (if_neg (by simp [htable]))

end

theorem linkEnable_passed (h : d.linkState l ≠ linkDisabled ∨ d.meshUp = false) : linkEnable l d = d := if_pos h

theorem linkDisable_empties (hstate : d.linkState l ≠ linkDisabled) (he : e = d.parkLanes l) :
    linkDisable l d = (e.setLk l (d.lk l).emptied).setLinkState l linkDisabled := by
  subst he
  exact if_neg hstate

/-! ### TRAIN and TRAIN_END (R209, R210, R224, R246) -/

theorem trainEndBody_few {f : TrainFlit} (h : (((d.lk l).alignedOf f).filter isTrainEnd).length < 2) : trainEndBody l f d = d :=
  if_pos h

/-- In an idle receiver TRAIN_END ends the idle. -/
theorem trainEndBody_idle {f : TrainFlit} (hends : 2 ≤ (((d.lk l).alignedOf f).filter isTrainEnd).length)
    (hidle : d.flag (.txl l) fTxlLinkStatusRxIdle = true) :
    trainEndBody l f d = (d.lower (.txl l) fTxlLinkStatusRxIdle).put (.txl l) fTxlPhyRxMode phyData :=
  (if_neg (Nat.not_lt.mpr hends)).trans (if_pos hidle)

section
variable (hmode : d.rd (.txl l) fTxlPhyRxMode = phyTraining)
include hmode

/-- An aligned receiver goes to data, and a clock swap ends. -/
theorem trainEndBody_aligned {f : TrainFlit} (haligned : d.flag (.txl l) fTxlPhyRxAligned = true)
    (hidle : d.flag (.txl l) fTxlLinkStatusRxIdle = false)
    (hends : 2 ≤ (((d.lk l).alignedOf f).filter isTrainEnd).length) :
    trainEndBody l f d = ((if (d.lk l).clkSwapRx then (d.setLk l { d.lk l with clkSwapRx := false }).clockSwapped l else d).put (.txl l)
      fTxlPhyRxMode phyData).linkAdvance l :=
  (if_neg (Nat.not_lt.mpr hends)).trans ((if_neg (by simp [hidle])).trans (if_pos ⟨hmode, haligned⟩))

section
variable {f : TrainFlit} (haligned : d.flag (.txl l) fTxlPhyRxAligned = true)
  (he : e = d.setLk l { d.lk l with reportsSeen := (d.lk l).reportsIn f })
include haligned he

/-- No report of this flit stood in the one before. -/
theorem trainBody_unreported (h : ((d.lk l).reportsIn f).find? (fun r => (d.lk l).reportsSeen.contains r) = none) :
    trainBody l f d = e := by
  subst he
  refine (if_neg (by simp [hmode, haligned])).trans ?_
  rw [h]

theorem trainBody_reported {r : BitVec 12}
    (h : ((d.lk l).reportsIn f).find? (fun r => (d.lk l).reportsSeen.contains r) = some r) :
    trainBody l f d = e.takeReport l r := by
  subst he
  refine (if_neg (by simp [hmode, haligned])).trans ?_
  rw [h]

end

theorem trainRestartBody_unaligned (haligned : d.flag (.txl l) fTxlPhyRxAligned = false) :
    trainRestartBody l d =
      ((d.lower (.txl l) fTxlPhyRxDllLocked).setLk l { d.lk l with cannot := false }).raise (.txl l) cTxlTrainFail :=
  if_pos ⟨hmode, haligned⟩

end

/-! ### A report that is accepted (R209, R217, R224) -/

/-- The partner's receiver expects lane `ds` on the spare: the transmitter moves it there (R217). -/
def Device.laneReported (d : Device) (l : Fin 144) (ds : Nat) : Device :=
  if ds < 4 ∧ d.rd (.txl l) fTxlPhyTxDsCarries ≠ ds then
    let g := d.put (.txl l) fTxlPhyTxDsCarries ds
    ((g.put (.txl l) fTxlPhyTxFailed (Nat.lor (g.rd (.txl l) fTxlPhyTxFailed) (2 ^ ds))).raise (.txl l) cTxlLaneSwapped).count (.txl l) 0
  else d

/-- The partner's receiver is on the clock spare: the transmitter drives that (R224). -/
def Device.clockReported (d : Device) (l : Fin 144) (onSpare : Bool) : Device :=
  if onSpare && d.rd (.txl l) fTxlPhyTxClkSel == 0 then
    let g := d.raise (.txl l) fTxlPhyTxClkSel
    g.setLk l { g.lk l with clkSwapTx := true }
  else d

section
variable {r : BitVec 12} {ds : Nat} (hds : ds = (r.extractLsb' 1 3).toNat) (he : e = d.setLk l { d.lk l with report := r })
include hds he

theorem takeReport_eq : d.takeReport l r = (e.laneReported l ds).clockReported l (r.getLsbD 4) := by
  subst hds he
  rfl

/-- A report that names no lane, and no clock spare, is recorded and no more. -/
theorem takeReport_records (hlane : ¬ ds < 4) (hclk : r.getLsbD 4 = false) : d.takeReport l r = e := by
  rw [takeReport_eq hds he, hclk, Device.laneReported, if_neg fun h => hlane h.1]
  rfl

theorem takeReport_clock (hlane : ¬ ds < 4) (hclk : r.getLsbD 4 = true) (hsel : e.rd (.txl l) fTxlPhyTxClkSel = 0) {g : Device}
    (hg : g = e.raise (.txl l) fTxlPhyTxClkSel) : d.takeReport l r = g.setLk l { g.lk l with clkSwapTx := true } := by
  subst hg
  rw [takeReport_eq hds he, hclk, Device.laneReported, if_neg fun h => hlane h.1]
  exact if_pos (by rw [hsel]; rfl)

theorem takeReport_lane (hlane : ds < 4) (hclk : r.getLsbD 4 = false) (hother : e.rd (.txl l) fTxlPhyTxDsCarries ≠ ds) {g : Device}
    (hg : g = e.put (.txl l) fTxlPhyTxDsCarries ds) :
    d.takeReport l r = ((g.put (.txl l) fTxlPhyTxFailed (Nat.lor (g.rd (.txl l) fTxlPhyTxFailed) (2 ^ ds))).raise (.txl l)
      cTxlLaneSwapped).count (.txl l) 0 := by
  subst hg
  rw [takeReport_eq hds he, hclk, Device.laneReported, if_pos ⟨hlane, hother⟩]
  rfl

end

/-! ### A bring-up that takes long (R244) -/

section
variable (hup : d.bringingUp l = true)
include hup

theorem bringupLateBody_up : bringupLateBody l d = d.raise (.txl l) cTxlBringupLate := if_pos hup

theorem bringupLimitBody_limited (h : d.rd (.txl l) fTxlBringupLimitLimit ≠ 0) : bringupLimitBody l d = d.linkEnterFault l :=
  if_pos (by simp [hup, h])

end

theorem bringupLimitBody_unlimited (h : d.rd (.txl l) fTxlBringupLimitLimit = 0) : bringupLimitBody l d = d :=
  if_neg (by simp [h])

/-! ### The end of an alignment (R212, R216, R217) -/

/-- A DLL that has locked on lane C, with the clock spare seen: the lane map follows. -/
theorem dllLockBody_mainClock {o : AlignOutcome} {c : Device} (hmode : d.rd (.txl l) fTxlPhyRxMode = phyTraining)
    (hmain : o.onSpare = false) (hseen : o.spareSeen = true) (hclk : d.flag (.txl l) fTxlPhyRxCFailed = false)
    (hc : c = ((((d.raise (.txl l) fTxlPhyRxDllLocked).put (.txl l) fTxlPhyRxClkSel 0).put (.txl l) fTxlSkewFound o.skew.toNat).put
      (.txl l) fTxlCentreFound o.centre.toNat)) :
    dllLockBody l o d = (if o.crossed = 0 then c else c.raise (.txl l) cTxlLaneOrder).laneMap l o := by
  subst hc
  refine (if_neg (by simp [hmode, hmain, hclk])).trans ?_
  simp only [hmain, hseen, Bool.false_and, Bool.false_eq_true, if_false, if_true, Bool.toNat_false]

section
variable {o : AlignOutcome} {failed : Nat} {ok : Nat → Bool} (hfailed : failed = d.rd (.txl l) fTxlPhyRxFailed)
  (hok : ok = fun i => inReach o i && !o.crossed.getLsbD i && !failed.testBit i)
  (he : e = d.setLk l { d.lk l with alignedLanes := BitVec.ofNat 5 (((List.range 5).filter ok).foldl (fun s i => s + 2 ^ i) 0) })
include hfailed hok he

/-- The lane map where D0 to D3 have aligned, by what has become of DS. -/
theorem laneMap_whole (hall : ((List.range 4).filter fun i => !ok i) = []) : d.laneMap l o =
    if ok 4 then (e.put (.txl l) fTxlPhyRxDsCarries 7).raise (.txl l) fTxlPhyRxAligned
    else if failed.testBit 4 then (e.put (.txl l) fTxlPhyRxDsCarries 7).raise (.txl l) fTxlPhyRxAligned
    else if o.crossed.getLsbD 4 then e.cannotTrain l
    else (((e.put (.txl l) fTxlPhyRxFailed (Nat.lor failed 16)).raise (.txl l) cTxlSpareLost).put (.txl l) fTxlPhyRxDsCarries 7).raise
      (.txl l) fTxlPhyRxAligned := by
  subst hfailed hok he
  unfold Device.laneMap
  dsimp only at hall ⊢
  rw [hall]

theorem laneMap_aligned (hall : ((List.range 4).filter fun i => !ok i) = []) (h : ok 4 = true ∨ failed.testBit 4 = true) :
    d.laneMap l o = (e.put (.txl l) fTxlPhyRxDsCarries 7).raise (.txl l) fTxlPhyRxAligned := by
  rw [laneMap_whole hfailed hok he hall]
  rcases h with h | h
  · exact if_pos h
  · rw [if_pos h, ite_self]

theorem laneMap_spareCrossed (hall : ((List.range 4).filter fun i => !ok i) = []) (hspare : ok 4 = false)
    (hstands : failed.testBit 4 = false) (hcross : o.crossed.getLsbD 4 = true) : d.laneMap l o = e.cannotTrain l := by
  rw [laneMap_whole hfailed hok he hall, hspare, hstands, hcross]
  rfl

theorem laneMap_spareLost (hall : ((List.range 4).filter fun i => !ok i) = []) (hspare : ok 4 = false)
    (hstands : failed.testBit 4 = false) (hcross : o.crossed.getLsbD 4 = false) :
    d.laneMap l o = (((e.put (.txl l) fTxlPhyRxFailed (Nat.lor failed 16)).raise (.txl l) cTxlSpareLost).put (.txl l)
      fTxlPhyRxDsCarries 7).raise (.txl l) fTxlPhyRxAligned := by
  rw [laneMap_whole hfailed hok he hall, hspare, hstands, hcross]
  rfl

/-- The lane map where one of D0 to D3 has not aligned. -/
theorem laneMap_one {i : Nat} (hone : ((List.range 4).filter fun i => !ok i) = [i]) : d.laneMap l o =
    if ok 4 && (e.eff (.txl l) fTxlSubLinkLink).testBit 2 then
      (((if e.rd (.txl l) fTxlPhyRxDsCarries = i then e else (e.raise (.txl l) cTxlLaneSwapped).count (.txl l) 0).put (.txl l)
        fTxlPhyRxFailed (Nat.lor failed (2 ^ i))).put (.txl l) fTxlPhyRxDsCarries i).raise (.txl l) fTxlPhyRxAligned
    else e.cannotTrain l := by
  subst hfailed hok he
  unfold Device.laneMap
  dsimp only at hone ⊢
  rw [hone]

theorem laneMap_carried {i : Nat} (hone : ((List.range 4).filter fun i => !ok i) = [i]) (hspare : ok 4 = true)
    (hallow : (e.eff (.txl l) fTxlSubLinkLink).testBit 2 = true) {f : Device}
    (hf : (if e.rd (.txl l) fTxlPhyRxDsCarries = i then e else (e.raise (.txl l) cTxlLaneSwapped).count (.txl l) 0) = f) :
    d.laneMap l o = ((f.put (.txl l) fTxlPhyRxFailed (Nat.lor failed (2 ^ i))).put (.txl l) fTxlPhyRxDsCarries i).raise (.txl l)
      fTxlPhyRxAligned := by
  rw [laneMap_one hfailed hok he hone, hspare, hallow, hf]
  rfl

theorem laneMap_uncarried {i : Nat} (hone : ((List.range 4).filter fun i => !ok i) = [i])
    (h : ok 4 = false ∨ (e.eff (.txl l) fTxlSubLinkLink).testBit 2 = false) : d.laneMap l o = e.cannotTrain l :=
  (laneMap_one hfailed hok he hone).trans (if_neg (by rcases h with h | h <;> simp [h]))

theorem laneMap_more (hmore : 2 ≤ ((List.range 4).filter fun i => !ok i).length) : d.laneMap l o = e.cannotTrain l := by
  subst hfailed hok he
  unfold Device.laneMap
  dsimp only at hmore ⊢
  split
  next hnone =>
    rw [hnone] at hmore
    exact absurd hmore (by decide)
  next hone =>
    rw [hone] at hmore
    exact absurd hmore (by simp)
  next => rfl

end

end

/-- Settles O28: ENABLE is `enableBody_txl` and then the link's start or end. TRAIN and TRAIN_END have a lemma for each state of the
receiver (`trainBody_reported` with the three of `takeReport`, `trainEndBody_aligned`); at the end of an alignment `dllLockBody_mainClock`
leaves the lane map, which goes by the lanes of D0 to D3 that have not aligned (`laneMap_whole`, `laneMap_one`, `laneMap_more`). -/
theorem linksTrain : Obligations.LinksTrain := by
  unfold Obligations.LinksTrain
  refine ⟨fun s l => ⟨fun rq tag hr hepoch => ⟨fun e he => ⟨fun hstate hmesh => ⟨?starts, ?invalid⟩, ?passed⟩, ?disable⟩,
    fun hmode haligned hidle => ⟨?trainEnd, ?train⟩, fun f hfew => run_eq _ s _ (trainEndBody_few hfew),
    fun hmode haligned e he => ?restart, fun hidle f hends => run_eq _ s _ (trainEndBody_idle hends hidle),
    fun hup => ⟨run_eq _ s _ (bringupLateBody_up hup), fun h => run_eq _ s _ (bringupLimitBody_limited hup h),
      fun h => run_eq _ s _ (bringupLimitBody_unlimited h)⟩⟩,
    fun s l o c d e failed ok hmode hmain hseen hclk hc hplain hcrossed hfailed hok he => ?align⟩
  case starts =>
    subst he
    exact fun htable => run_eq _ s _ ((enableBody_txl hr hepoch true).trans (linkEnable_starts hstate hmesh htable))
  case invalid =>
    subst he
    exact fun htable => run_eq _ s _ ((enableBody_txl hr hepoch true).trans (linkEnable_invalidTable hstate hmesh htable))
  case passed =>
    subst he
    exact fun h => run_eq _ s _ ((enableBody_txl hr hepoch true).trans (linkEnable_passed h))
  case disable =>
    rintro e rfl hstate f hf
    exact run_eq _ s _ ((enableBody_txl hr hepoch false).trans (linkDisable_empties hstate hf))
  case trainEnd =>
    intro f e hends hplain hswap
    have hswapped : (if (s.dev.lk l).clkSwapRx then (s.dev.setLk l { s.dev.lk l with clkSwapRx := false }).clockSwapped l
        else s.dev) = e :=
      ite_eq_iff'.mpr ⟨fun h => (hswap h).symm, fun h => (hplain (Bool.eq_false_iff.mpr h)).symm⟩
    refine run_eq _ s _ ((trainEndBody_aligned hmode haligned hidle hends).trans ?_)
    rw [hswapped]
  case train =>
    rintro f _ d rfl hd
    refine ⟨fun h => run_eq _ s _ (trainBody_unreported hmode haligned hd h), fun r ds e h hds he => ?_⟩
    have htakes {t : Device} (ht : d.takeReport l r = t) : exec (.train l f) s = .next (s.after t) :=
      run_eq _ s _ ((trainBody_reported hmode haligned hd h).trans ht)
    exact ⟨fun hlane hclk => htakes (takeReport_records hds he hlane hclk),
      fun hlane hclk hsel g hg => htakes (takeReport_clock hds he hlane hclk hsel hg),
      fun g hlane hclk hother hg => htakes (takeReport_lane hds he hlane hclk hother hg)⟩
  case restart =>
    subst he
    exact run_eq _ s _ (trainRestartBody_unaligned hmode haligned)
  case align =>
    have hmap : dllLockBody l o s.dev = d.laneMap l o := by
      rw [dllLockBody_mainClock hmode hmain hseen hclk hc, ite_eq_iff'.mpr ⟨fun h => (hplain h).symm, fun h => (hcrossed h).symm⟩]
    have hlocks {t : Device} (h : d.laneMap l o = t) : exec (.dllLock l o) s = .next (s.after t) := run_eq _ s _ (hmap.trans h)
    refine ⟨fun hall => ⟨fun h => hlocks (laneMap_aligned hfailed hok he hall h),
        fun hspare hstands hcross => hlocks (laneMap_spareCrossed hfailed hok he hall hspare hstands hcross),
        fun hspare hstands hcross => hlocks (laneMap_spareLost hfailed hok he hall hspare hstands hcross)⟩,
      fun i hone => ⟨fun hspare hallow f hsame hswap => ?carried, fun h => hlocks (laneMap_uncarried hfailed hok he hone h)⟩,
      fun hmore => hlocks (laneMap_more hfailed hok he hmore)⟩
    case carried =>
      exact hlocks (laneMap_carried hfailed hok he hone hspare hallow
        (ite_eq_iff'.mpr ⟨fun h => (hsame h).symm, fun h => (hswap h).symm⟩))

end Sys2Proof.Machine
end

section
/-! PROOFS. Packet flits are sequenced and framed (O30): what a good flit meets at an ACTIVE link, its place in the sequence, its
decryption in link mode, and the framing of HEAD, MID, TAIL and SOLE. -/

namespace Sys2Proof.Machine

open Sys2Proof

section
variable {d e : Device} {l : Fin 144} {b : BitVec 512}

/-! ### What a good flit meets, and its place in the sequence (R236) -/

theorem not_hello_of_active (hstate : d.linkState l = linkActive) : d.linkState l ≠ linkHello := by
  rw [hstate]
  decide

theorem meetFlit_active (hstate : d.linkState l = linkActive) (hrx : d.receives l = true) : d.meetFlit l = some d :=
  (if_neg (by simp [hrx])).trans (if_neg (not_hello_of_active hstate))

section
variable (accept : Device → BitVec 64 → Device)

theorem sequenced_waiting (hwait : (d.lk l).wait = true) : d.sequenced l accept = d := if_pos hwait

section
variable (hwait : (d.lk l).wait = false)
include hwait

theorem sequenced_unexpected (hcount : (d.lk l).count ≠ (d.lk l).expect) :
    d.sequenced l accept = d.setLk l { d.lk l with count := (d.lk l).count + 1 } :=
  (if_neg (by simp [hwait])).trans (if_neg hcount)

theorem sequenced_expected (hcount : (d.lk l).count = (d.lk l).expect)
    (he : e = d.setLk l { d.lk l with expect := (d.lk l).expect + 1, count := (d.lk l).count + 1 }) :
    d.sequenced l accept = accept e (d.lk l).expect := by
  subst he
  exact (if_neg (by simp [hwait])).trans (if_pos hcount)

end

end

/-! ### A packet flit by the mode of the engine (R272, R274, R281) -/

/-- What becomes of a packet flit that the sequence accepts. -/
def Device.acceptFlit (d : Device) (l : Fin 144) (kind : FlitKind) (b : BitVec 512) (seq : BitVec 64) : Device :=
  if d.curMode l ≠ 2 then d.frameFlit l kind b
  else if (d.cur l).stopped then d.stall l kind seq b
  else d.cipherFlit l kind seq b

theorem acceptFlit_plain (kind : FlitKind) (seq : BitVec 64) (hmode : d.curMode l ≠ 2) :
    d.acceptFlit l kind b seq = d.frameFlit l kind b := if_pos hmode

theorem acceptFlit_stalls (kind : FlitKind) (seq : BitVec 64) (hmode : d.curMode l = 2) (hstop : (d.cur l).stopped = true) :
    d.acceptFlit l kind b seq = d.stall l kind seq b := (if_neg (not_not_intro hmode)).trans (if_pos hstop)

theorem acceptFlit_deciphers (kind : FlitKind) (seq : BitVec 64) (hmode : d.curMode l = 2) (hstop : (d.cur l).stopped = false) :
    d.acceptFlit l kind b seq = d.cipherFlit l kind seq b := (if_neg (not_not_intro hmode)).trans (if_neg (by simp [hstop]))

theorem cipherFlit_eq (kind : FlitKind) (seq : BitVec 64)
    (he : e = d.setLk l { d.lk l with rxCover := (d.lk l).rxCover ++ [(seq, b)] }) :
    d.cipherFlit l kind seq b = e.frameFlit l kind (flitCrypt (e.slotKey l (e.flag (curPage l) fCurCurStatusRxPhase))
      (BitVec.ofNat 10 (e.rd (.txl l) fTxlPeerNodeLoNode0)) seq b) := by
  subst he
  rfl

section
variable (hstate : d.linkState l = linkActive) (hrx : d.receives l = true) (kind : FlitKind)
include hstate hrx

theorem packetFlit_active : packetFlit kind l b d = d.sequenced l fun e seq => e.acceptFlit l kind b seq := by
  unfold packetFlit
  rw [meetFlit_active hstate hrx]
  rfl

theorem packetFlit_waiting (hwait : (d.lk l).wait = true) : packetFlit kind l b d = d :=
  (packetFlit_active hstate hrx kind).trans (sequenced_waiting _ hwait)

variable (hwait : (d.lk l).wait = false)
include hwait

theorem packetFlit_unexpected (hcount : (d.lk l).count ≠ (d.lk l).expect) :
    packetFlit kind l b d = d.setLk l { d.lk l with count := (d.lk l).count + 1 } :=
  (packetFlit_active hstate hrx kind).trans (sequenced_unexpected _ hwait hcount)

theorem packetFlit_expected (hcount : (d.lk l).count = (d.lk l).expect)
    (he : e = d.setLk l { d.lk l with expect := (d.lk l).expect + 1, count := (d.lk l).count + 1 }) :
    packetFlit kind l b d = e.acceptFlit l kind b (d.lk l).expect :=
  (packetFlit_active hstate hrx kind).trans (sequenced_expected _ hwait hcount he)

end

/-- The rows of the table that bring a packet flit. -/
theorem exec_packetFlit {i : Instr} (hi : i ∈ [Instr.sole l b, .head l b, .mid l b, .tail l b]) :
    ∃ kind, ∀ s, exec i s = run (packetFlit kind l b) s := by
  simp only [List.mem_cons, List.not_mem_nil, or_false] at hi
  rcases hi with rfl | rfl | rfl | rfl
  · exact ⟨.sole, fun _ => rfl⟩
  · exact ⟨.head, fun _ => rfl⟩
  · exact ⟨.mid, fun _ => rfl⟩
  · exact ⟨.tail, fun _ => rfl⟩

/-! ### Framing (R231, R232) -/

section
variable (hopen : (d.lk l).rxOpen = none)
include hopen

theorem frameFlit_head_closed : d.frameFlit l .head b = d.setLk l { d.lk l with rxOpen := some [b], rxSkip := none } := by
  simp only [Device.frameFlit, hopen]

theorem frameFlit_sole_closed :
    d.frameFlit l .sole b = (d.setLk l { d.lk l with rxOpen := none, rxSkip := none }).linkPacket l [b] := by
  simp only [Device.frameFlit, hopen]

variable (hskip : (d.lk l).rxSkip = none)
include hskip

theorem frameFlit_mid_closed : d.frameFlit l .mid b = d.raise (.txl l) cTxlProtocol := by
  simp only [Device.frameFlit, hopen, hskip]

theorem frameFlit_tail_closed : d.frameFlit l .tail b = d.raise (.txl l) cTxlProtocol := by
  simp only [Device.frameFlit, hopen, hskip]

end

section
variable {fs : List (BitVec 512)} (hopen : (d.lk l).rxOpen = some fs)
include hopen

section
variable (he : e = d.framingLoss l fs fs.length)
include he

theorem frameFlit_head_open : d.frameFlit l .head b = e.setLk l { e.lk l with rxOpen := some [b], rxSkip := none } := by
  simp only [Device.frameFlit, hopen, he]

theorem frameFlit_sole_open :
    d.frameFlit l .sole b = (e.setLk l { e.lk l with rxOpen := none, rxSkip := none }).linkPacket l [b] := by
  simp only [Device.frameFlit, hopen, he]

end

variable (hskip : (d.lk l).rxSkip = none)
include hskip

theorem frameFlit_mid_open : d.frameFlit l .mid b =
    if fs.length = 5 then d.sixthFlit l fs else d.setLk l { d.lk l with rxOpen := some (fs ++ [b]) } := by
  simp only [Device.frameFlit, hopen, hskip]

theorem frameFlit_tail_open : d.frameFlit l .tail b =
    if fs.length = 5 then d.sixthFlit l fs else (d.setLk l { d.lk l with rxOpen := none }).linkPacket l (fs ++ [b]) := by
  simp only [Device.frameFlit, hopen, hskip]

end

section
variable {c : Nat} (hskip : (d.lk l).rxSkip = some c)
include hskip

theorem frameFlit_mid_skipped : d.frameFlit l .mid b = d.setLk l { d.lk l with freed := bump (d.lk l).freed c 1 } := by
  simp only [Device.frameFlit, hskip]

theorem frameFlit_tail_skipped : d.frameFlit l .tail b = d.setLk l { d.lk l with freed := bump (d.lk l).freed c 1 } := by
  simp only [Device.frameFlit, hskip]

end

/-! ### Bad flits (R236) -/

theorem naks_waiting (hwait : (d.lk l).wait = true) : d.naks l = d := if_pos hwait

theorem naks_once (hwait : (d.lk l).wait = false) : d.naks l = d.setLk l { d.lk l with wait := true, oweNak := true } :=
  if_neg (by simp [hwait])

theorem badFlitBody_receiving (hrx : d.receives l = true) : badFlitBody l d = (d.count (.txl l) 4).naks l := if_pos hrx

end

/-- Settles O30: `packetFlit_waiting`, `packetFlit_unexpected` and `packetFlit_expected` are the three places in the sequence; an accepted
flit goes by the mode (`acceptFlit_plain`, `acceptFlit_deciphers`, `acceptFlit_stalls`) and by what the framing holds (the lemmas of
`frameFlit`); a bad flit counts, and asks once (`naks_once`). -/
theorem packetFlitsAreSequenced : Obligations.PacketFlitsAreSequenced := by
  unfold Obligations.PacketFlitsAreSequenced
  intro s l b hstate hrx
  refine ⟨fun i hi => ⟨fun hwait => ?waits, fun hwait hcount => ?counted⟩, fun hwait hcount e he hmode => ?framed,
    fun hwait hcount e f he hmode hstop hf => ?deciphered, fun hwait hcount e he hmode hstop => ?stalled, ?bad⟩
  case waits =>
    obtain ⟨kind, hexec⟩ := exec_packetFlit hi
    exact (hexec s).trans (run_eq _ s _ (packetFlit_waiting hstate hrx kind hwait))
  case counted =>
    obtain ⟨kind, hexec⟩ := exec_packetFlit hi
    exact (hexec s).trans (run_eq _ s _ (packetFlit_unexpected hstate hrx kind hwait hcount))
  case framed =>
    have hframes (kind : FlitKind) {t : Device} (h : e.frameFlit l kind b = t) : run (packetFlit kind l b) s = .next (s.after t) :=
      run_eq _ s _ ((packetFlit_expected hstate hrx kind hwait hcount he).trans ((acceptFlit_plain kind _ hmode).trans h))
    refine ⟨fun hopen => ⟨hframes .head (frameFlit_head_closed hopen), hframes .sole (frameFlit_sole_closed hopen), fun hskip =>
        ⟨hframes .mid (frameFlit_mid_closed hopen hskip), hframes .tail (frameFlit_tail_closed hopen hskip)⟩⟩,
      fun fs hopen hskip => ⟨fun hfive => ⟨?_, ?_⟩, fun hfive => ⟨?_, ?_⟩⟩,
      fun fs f hopen hf => ⟨hframes .head (frameFlit_head_open hopen hf), hframes .sole (frameFlit_sole_open hopen hf)⟩,
      fun c hskip => ⟨hframes .mid (frameFlit_mid_skipped hskip), hframes .tail (frameFlit_tail_skipped hskip)⟩⟩
    · exact hframes .mid ((frameFlit_mid_open hopen hskip).trans (if_neg hfive))
    · exact hframes .tail ((frameFlit_tail_open hopen hskip).trans (if_neg hfive))
    · exact hframes .mid ((frameFlit_mid_open hopen hskip).trans (if_pos hfive))
    · exact hframes .tail ((frameFlit_tail_open hopen hskip).trans (if_pos hfive))
  case deciphered =>
    exact run_eq _ s _ ((packetFlit_expected hstate hrx .head hwait hcount he).trans
      ((acceptFlit_deciphers .head _ hmode hstop).trans (cipherFlit_eq .head _ hf)))
  case stalled =>
    exact run_eq _ s _ ((packetFlit_expected hstate hrx .head hwait hcount he).trans (acceptFlit_stalls .head _ hmode hstop))
  case bad =>
    rintro d rfl
    exact ⟨fun hwait => run_eq _ s _ ((badFlitBody_receiving hrx).trans (naks_waiting hwait)),
      fun hwait => run_eq _ s _ ((badFlitBody_receiving hrx).trans (naks_once hwait))⟩

end Sys2Proof.Machine
end

section
/-! PROOFS. LINK flits take effect (O31): which rows bring one, and what its FAULT and its ACK_SEQ come to at an ACTIVE link. -/

namespace Sys2Proof.Machine

open Sys2Proof

section
variable {d e : Device} {l : Fin 144} {b : BitVec 512}

/-! ### The rows that bring a LINK flit (R233, R236) -/

theorem ctrlFlitBody_link (htype : fieldAt b 0 4 = 1) : ctrlFlitBody l b d = linkFlitBody l b d := by
  simp only [ctrlFlitBody, htype]

theorem linkFlitIf_carried {carries : BitVec 512 → Bool} (htype : fieldAt b 0 4 = 1) (hcarries : carries b = true) :
    linkFlitIf carries l b d = linkFlitBody l b d := if_pos (by simp [htype, hcarries])

/-- A row that names a field of a LINK flit is that flit where the field is set. -/
theorem exec_linkFlit_row (htype : fieldAt b 0 4 = 1) {c : Bool} {i : Instr}
    (hrow : (c, i) ∈ [(true, Instr.linkFlit l b), (bitAt b 20, .nak l b), (bitAt b 21, .replay l b),
      (decide (fieldAt b 88 4 = 1), .enterIdle l b), (decide (fieldAt b 88 4 = 2), .sleepReq l b),
      (decide (fieldAt b 88 4 = 3), .sleepAck l b), (decide (fieldAt b 88 4 = 4), .sleepNak l b), (bitAt b 96, .dswapReq l b),
      (bitAt b 100, .cswapReq l b), (bitAt b 101, .retrainReq l b), (bitAt b 102, .fault l b)]) (hc : c = true) (s : State) :
    exec i s = run (linkFlitBody l b) s := by
  have hcarried {carries : BitVec 512 → Bool} (h : carries b = true) : run (linkFlitIf carries l b) s = run (linkFlitBody l b) s :=
    run_eq _ s _ (linkFlitIf_carried htype h)
  have hpm {n : Nat} (h : decide (fieldAt b 88 4 = n) = true) : (fieldAt b 88 4 == n) = true := h
  simp only [List.mem_cons, Prod.mk.injEq, List.not_mem_nil, or_false] at hrow
  rcases hrow with ⟨-, rfl⟩ | ⟨rfl, rfl⟩ | ⟨rfl, rfl⟩ | ⟨rfl, rfl⟩ | ⟨rfl, rfl⟩ | ⟨rfl, rfl⟩ | ⟨rfl, rfl⟩ | ⟨rfl, rfl⟩ | ⟨rfl, rfl⟩ |
    ⟨rfl, rfl⟩ | ⟨rfl, rfl⟩
  · exact run_eq _ s _ (ctrlFlitBody_link htype)
  · exact (exec_nak l b s).trans (hcarried hc)
  · exact (exec_replay l b s).trans (hcarried hc)
  · exact (exec_enterIdle l b s).trans (hcarried (hpm hc))
  · exact (exec_sleepReq l b s).trans (hcarried (hpm hc))
  · exact (exec_sleepAck l b s).trans (hcarried (hpm hc))
  · exact (exec_sleepNak l b s).trans (hcarried (hpm hc))
  · exact (exec_dswapReq l b s).trans (hcarried hc)
  · exact (exec_cswapReq l b s).trans (hcarried hc)
  · exact (exec_retrainReq l b s).trans (hcarried hc)
  · exact (exec_fault l b s).trans (hcarried hc)

/-! ### A LINK flit at an ACTIVE link (R236, R237, R249) -/

section
variable (hstate : d.linkState l = linkActive) (hrx : d.receives l = true)
include hstate hrx

theorem linkFlitBody_active : linkFlitBody l b d = if bitAt b 102 then d.linkEnterFault l
    else (((d.takeAck l b).takeTxSeq l b).takePm l (fieldAt b 88 4)).takeAsks l b ((d.lk l).ack (b.extractLsb' 8 12)).isSome := by
  have hhello : (d.linkState l == linkHello) = false := beq_eq_false_iff_ne.mpr (not_hello_of_active hstate)
  unfold linkFlitBody
  rw [hhello, meetFlit_active hstate hrx]
  simp only [Bool.and_false, Bool.false_and, Bool.false_eq_true, if_false]

theorem linkFlitBody_fault (hfault : bitAt b 102 = true) : linkFlitBody l b d = d.linkEnterFault l :=
  (linkFlitBody_active hstate hrx).trans (if_pos hfault)

section
variable (hfault : bitAt b 102 = false)
include hfault

theorem linkFlitBody_acked {k : LinkSt} (hack : (d.lk l).ack (b.extractLsb' 8 12) = some k) :
    linkFlitBody l b d = (((d.takeAck l b).takeTxSeq l b).takePm l (fieldAt b 88 4)).takeAsks l b true := by
  simp only [linkFlitBody_active hstate hrx, hfault, Bool.false_eq_true, if_false, hack, Option.isSome_some]

theorem linkFlitBody_unacked (hack : (d.lk l).ack (b.extractLsb' 8 12) = none) :
    linkFlitBody l b d = (((d.takeAck l b).takeTxSeq l b).takePm l (fieldAt b 88 4)).takeAsks l b false := by
  simp only [linkFlitBody_active hstate hrx, hfault, Bool.false_eq_true, if_false, hack, Option.isSome_none]

end

end

/-! ### ACK_SEQ (R237, R240, R262) -/

/-- An ACK_SEQ in the range held: accesses that waited for a posted write go on. -/
theorem takeAck_held {k : LinkSt} (hack : (d.lk l).ack (b.extractLsb' 8 12) = some k)
    (he : e = d.setLk l (k.addCredits b).postsAcked) :
    d.takeAck l b = if (d.lk l).posts.isEmpty then e else e.curPump l := by
  subst he
  unfold Device.takeAck
  rw [hack]

theorem takeAck_outside (hack : (d.lk l).ack (b.extractLsb' 8 12) = none) :
    d.takeAck l b = (d.raise (.txl l) cTxlProtocol).setLk l ((d.lk l).addCredits b) := by
  unfold Device.takeAck
  rw [hack]

end

/-- Settles O31: every row is the LINK flit (`exec_linkFlit_row`), which faults the link (`linkFlitBody_fault`) or takes its ACK_SEQ,
in the range held (`takeAck_held`) or outside it (`takeAck_outside`), and then its other fields. -/
theorem linkFlitsTakeEffect : Obligations.LinkFlitsTakeEffect := by
  unfold Obligations.LinkFlitsTakeEffect
  intro s l b hstate hrx htype c i hrow hc
  have hexec := exec_linkFlit_row htype hrow hc s
  refine ⟨fun hfault => hexec.trans (run_eq _ s _ (linkFlitBody_fault hstate hrx hfault)), fun hfault => ⟨?held, ?outside⟩⟩
  case held =>
    intro k d e hack he hnone hsome
    have htaken : s.dev.takeAck l b = d := (takeAck_held hack he).trans <|
      ite_eq_iff'.mpr ⟨fun h => (hnone (List.isEmpty_iff.mp h)).symm,
        fun h => (hsome fun hnil => h (List.isEmpty_iff.mpr hnil)).symm⟩
    refine hexec.trans (run_eq _ s _ ((linkFlitBody_acked hstate hrx hfault hack).trans ?_))
    rw [htaken]
  case outside =>
    rintro hack d rfl
    refine hexec.trans (run_eq _ s _ ((linkFlitBody_unacked hstate hrx hfault hack).trans ?_))
    rw [takeAck_outside hack]

end Sys2Proof.Machine
end

section
/-! PROOFS. HELLO and TAG flits (O32): what the first HELLO settles and what a later one must repeat, and what a TAG flit verifies. -/

namespace Sys2Proof.Machine

open Sys2Proof

section
variable {d e : Device} {l : Fin 144} {b : BitVec 512}

/-! ### HELLO (R242, R243, R255) -/

section
variable (hstate : d.linkState l = linkHello) (hrx : d.receives l = true) (htype : fieldAt b 0 4 = 2)
include hstate hrx htype

/-- A HELLO flit is not passed over where the link is in HELLO and receives. -/
theorem hello_taken : ¬ (d.linkState l ≠ linkHello ∨ d.receives l = false ∨ fieldAt b 0 4 ≠ 2) := by
  simp [hstate, hrx, htype]

section
variable {chosen : Nat} (hpeer : (d.lk l).peer = none)
  (hchosen : chosen = chooseVersion (fieldAt (d.lk l).ownHello 8 3) (fieldAt b 8 3)) (he : e = d.recordPeer l b chosen)
include hpeer hchosen he

/-- The first HELLO, once the partner and the version are recorded. -/
theorem helloFlitBody_first : helloFlitBody l b d =
    if chosen = 0 then (e.raise (.txl l) cTxlVersionMismatch).linkEnterFault l
    else if (e.curMode l = 1 ∧ bitAt b 25 = false) ∨ (e.curMode l = 2 ∧ (chosen = 1 ∨ bitAt b 24 = false)) then
      (e.raise (curPage l) cCurModeRefused).linkEnterFault l
    else
      let f := (e.lower (curPage l) fCurCurStatusRxPhase).lower (curPage l) fCurCurStatusTxPhase
      (f.setLk l { f.lk l with peerReady := bitAt b 20 && fieldAt b 16 4 == chosen }).helloDone l := by
  subst hchosen he
  refine (if_neg (hello_taken hstate hrx htype)).trans ?_
  rw [hpeer]

theorem helloFlitBody_noVersion (h : chosen = 0) :
    helloFlitBody l b d = (e.raise (.txl l) cTxlVersionMismatch).linkEnterFault l :=
  (helloFlitBody_first hstate hrx htype hpeer hchosen he).trans (if_pos h)

variable (hversion : chosen ≠ 0)
include hversion

theorem helloFlitBody_modeRefused
    (h : (e.curMode l = 1 ∧ bitAt b 25 = false) ∨ (e.curMode l = 2 ∧ (chosen = 1 ∨ bitAt b 24 = false))) :
    helloFlitBody l b d = (e.raise (curPage l) cCurModeRefused).linkEnterFault l :=
  (helloFlitBody_first hstate hrx htype hpeer hchosen he).trans ((if_neg hversion).trans (if_pos h))

theorem helloFlitBody_agreed (hmemory : e.curMode l = 1 → bitAt b 25 = true)
    (hlink : e.curMode l = 2 → chosen ≠ 1 ∧ bitAt b 24 = true) {f : Device}
    (hf : f = (e.lower (curPage l) fCurCurStatusRxPhase).lower (curPage l) fCurCurStatusTxPhase) :
    helloFlitBody l b d = (f.setLk l { f.lk l with peerReady := bitAt b 20 && fieldAt b 16 4 == chosen }).helloDone l := by
  have hoffered : ¬ ((e.curMode l = 1 ∧ bitAt b 25 = false) ∨ (e.curMode l = 2 ∧ (chosen = 1 ∨ bitAt b 24 = false))) := by
    rintro (⟨hmode, h⟩ | ⟨hmode, h | h⟩)
    · exact Bool.eq_false_iff.mp h (hmemory hmode)
    · exact (hlink hmode).1 h
    · exact Bool.eq_false_iff.mp h (hlink hmode).2
  subst hf
  exact (helloFlitBody_first hstate hrx htype hpeer hchosen he).trans ((if_neg hversion).trans (if_neg hoffered))

end

section
variable {first : BitVec 512} (hpeer : (d.lk l).peer = some first)
include hpeer

/-- A later HELLO that differs in more than its ready fields. -/
theorem helloFlitBody_differs (h : b &&& helloMask ≠ first &&& helloMask) :
    helloFlitBody l b d = (d.raise (.txl l) cTxlProtocol).linkRetrainNow l := by
  refine (if_neg (hello_taken hstate hrx htype)).trans ?_
  rw [hpeer]
  exact if_pos h

/-- A later HELLO that says that the partner has seen this side's, with the version that stands. -/
theorem helloFlitBody_ready (h : b &&& helloMask = first &&& helloMask) (hseen : bitAt b 20 = true)
    (hversion : fieldAt b 16 4 = d.rd (.txl l) fTxlLinkStatusVersion) :
    helloFlitBody l b d = (d.setLk l { d.lk l with peerReady := true }).helloDone l := by
  have hready : ((d.lk l).peerReady || (bitAt b 20 && fieldAt b 16 4 == d.rd (.txl l) fTxlLinkStatusVersion)) = true := by
    simp [hseen, hversion]
  refine (if_neg (hello_taken hstate hrx htype)).trans ?_
  rw [hpeer]
  refine (if_neg (not_not_intro h)).trans ?_
  rw [hready, ← hpeer]

end

end

/-! ### TAG flits (R273 to R275, R278, R281) -/

/-- An accepted TAG flit meets the engine. -/
theorem tagFlitBody_expected (hstate : d.linkState l = linkActive) (hrx : d.receives l = true) (htype : fieldAt b 0 4 = 4)
    (hwait : (d.lk l).wait = false) (hcount : (d.lk l).count = (d.lk l).expect)
    (he : e = d.setLk l { d.lk l with expect := (d.lk l).expect + 1, count := (d.lk l).count + 1 }) :
    tagFlitBody l b d = if (e.cur l).stopped && e.curMode l == 2 then e.stall l .ctrl (d.lk l).expect b else e.takeTag l b := by
  unfold tagFlitBody
  rw [if_neg (not_not_intro htype), meetFlit_active hstate hrx]
  exact sequenced_expected _ hwait hcount he

section
variable {first : BitVec 64 × BitVec 512} {rest : List (BitVec 64 × BitVec 512)} {tag : Nat}
  (hcover : (d.lk l).rxCover = first :: rest)
  (htag : tag = natLEn (coverTag (d.slotKey l (d.flag (curPage l) fCurCurStatusRxPhase))
    (BitVec.ofNat 10 (d.rd (.txl l) fTxlPeerNodeLoNode0)) (first :: rest)))
  (hmode : d.curMode l = 2)
include hcover htag hmode

/-- A TAG flit is right where it names the flits that stand, from the first, and their tag. -/
theorem tagGood_iff : d.tagGood l b = true ↔
    fieldAt b 16 6 = rest.length + 1 ∧ b.extractLsb' 24 64 = first.1 ∧ fieldAt b 96 128 = tag := by
  subst htag
  simp only [Device.tagGood, hcover, hmode, List.length_cons, List.map_cons, List.head?_cons, Option.getD_some, List.isEmpty_cons,
    Bool.not_false, Bool.and_true, beq_self_eq_true, Bool.and_eq_true, beq_iff_eq, and_assoc]

theorem takeTag_right (h : fieldAt b 16 6 = rest.length + 1 ∧ b.extractLsb' 24 64 = first.1 ∧ fieldAt b 96 128 = tag)
    {f g k : Device} (hf : f = d.setLk l { d.lk l with rxCover := [], rxHeld := [], specs := [] })
    (hg : g = ((d.lk l).specs.filter (·.owed)).foldl (fun (d : Device) p => d.injectRsp (.link l.val) 0 (specMarker p true)) f)
    (hk : k = (d.lk l).rxHeld.foldl (fun (d : Device) p => d.linkDeliver l p) g) :
    d.takeTag l b = k.put (curPage l) fCurCurStatusRxPhase (bitAt b 8).toNat := by
  subst hf hg hk
  exact if_pos ((tagGood_iff hcover htag hmode).mpr h)

theorem takeTag_wrong (h : fieldAt b 16 6 ≠ rest.length + 1 ∨ b.extractLsb' 24 64 ≠ first.1 ∨ fieldAt b 96 128 ≠ tag) :
    d.takeTag l b = (d.lk l).specs.foldl (fun d p => d.nameForged l p)
      ((((d.raise (curPage l) cCurLinkTagFail).count (curPage l) 6).curLog l 4 0 (fieldAt b 24 64)).linkEnterFault l) := by
  refine if_neg fun hgood => ?_
  obtain ⟨hlength, hfirst, htagged⟩ := (tagGood_iff hcover htag hmode).mp hgood
  rcases h with h | h | h
  · exact h hlength
  · exact h hfirst
  · exact h htagged

end

end

/-- Settles O32: the first HELLO has three outcomes (`helloFlitBody_noVersion`, `helloFlitBody_modeRefused`, `helloFlitBody_agreed`) and a
later one two (`helloFlitBody_differs`, `helloFlitBody_ready`); an accepted TAG flit waits, or is right or wrong by `tagGood_iff`. -/
theorem helloAndTagFlits : Obligations.HelloAndTagFlits := by
  unfold Obligations.HelloAndTagFlits
  refine ⟨fun s l b hstate hrx htype => ⟨fun hpeer chosen hchosen e he => ⟨?noVersion, ?refused, ?agreed⟩,
      fun first hpeer => ⟨?differs, ?ready⟩⟩,
    fun s l b hstate hrx htype hwait hcount e he first rest tag hcover htag hmode => ?tagFlit⟩
  case noVersion => exact fun h => run_eq _ s _ (helloFlitBody_noVersion hstate hrx htype hpeer hchosen he h)
  case refused => exact fun hversion h => run_eq _ s _ (helloFlitBody_modeRefused hstate hrx htype hpeer hchosen he hversion h)
  case agreed =>
    exact fun hversion hmemory hlink f hf =>
      run_eq _ s _ (helloFlitBody_agreed hstate hrx htype hpeer hchosen he hversion hmemory hlink hf)
  case differs => exact fun h => run_eq _ s _ (helloFlitBody_differs hstate hrx htype hpeer h)
  case ready => exact fun h hseen hversion => run_eq _ s _ (helloFlitBody_ready hstate hrx htype hpeer h hseen hversion)
  case tagFlit =>
    have htaken := tagFlitBody_expected hstate hrx htype hwait hcount he
    refine ⟨fun hstop => run_eq _ s _ (htaken.trans (if_pos (by simp [hstop, hmode]))), fun hstop => ?_⟩
    have hverified : tagFlitBody l b s.dev = e.takeTag l b := htaken.trans (if_neg (by simp [hstop]))
    exact ⟨fun hlength hfirst htagged f g h hf hg hh =>
        run_eq _ s _ (hverified.trans (takeTag_right hcover htag hmode ⟨hlength, hfirst, htagged⟩ hf hg hh)),
      fun hwrong => run_eq _ s _ (hverified.trans (takeTag_wrong hcover htag hmode hwrong))⟩

end Sys2Proof.Machine
end

section
/-! PROOFS. Link timers and requests (O33): the timers of an ACTIVE link, IDLE and its resume, and PM_CTRL. -/

namespace Sys2Proof.Machine

open Sys2Proof

section
variable {d e : Device} {l : Fin 144}

/-! ### Timers of an ACTIVE link (R236 to R238, R241, R246) -/

section
variable (hstate : d.linkState l = linkActive)
include hstate

theorem replayTimeoutBody_active (hheld : (d.lk l).retry ≠ []) (hidle : d.flag (.txl l) fTxlLinkStatusTxIdle = false) :
    replayTimeoutBody l d = d.linkReplay l := if_pos ⟨hstate, hheld, hidle⟩

theorem nakRepeatBody_waiting (hwait : (d.lk l).wait = true) :
    nakRepeatBody l d = d.setLk l { d.lk l with oweNak := true } := if_pos ⟨hstate, hwait⟩

theorem rxSilenceBody_active (hidle : d.flag (.txl l) fTxlLinkStatusRxIdle = false) : rxSilenceBody l d = d.linkRetrainNow l :=
  if_pos ⟨hstate, hidle⟩

theorem resumeTrainTimeoutBody_idle (hidle : d.flag (.txl l) fTxlLinkStatusRxIdle = true) :
    resumeTrainTimeoutBody l d = d.linkRetrainNow l := if_pos (by simp [hidle, hstate])

/-- A packet at the head of its class stalls where the credits of the class are fewer than its flits. -/
theorem creditStallBody_headed {c : Fin 4} {q : Queued} (hq : (d.lk l).headOf c.val = some q) : creditStallBody l c d =
    if classField (d.lk l).credits c.val < flitCount q.pkt.payload.length then
      (d.raise (.txl l) cTxlCreditStall).count (.txl l) 7
    else d := by
  simp only [creditStallBody, hq, hstate, true_and]

end

/-! ### IDLE (R208, R246) -/

theorem idleEnterBody_quiet (hstate : d.linkState l = linkActive) (hcfg : d.eff (.txl l) fTxlLlCfgIdleEn = 1)
    (hquiet : (d.lk l).quiet = true) (hsettled : (d.lk l).settled = true) (hpm : (d.lk l).owePm = 0) (hnak : (d.lk l).oweNak = false)
    (hidle : d.flag (.txl l) fTxlLinkStatusTxIdle = false) (hmode : d.rd (.txl l) fTxlPhyTxMode = phyData) :
    idleEnterBody l d = (((d.setLk l ((d.lk l).askPm 1)).sendLink l false).raise (.txl l) fTxlLinkStatusTxIdle).put (.txl l)
      fTxlPhyTxMode phyParked :=
  if_pos ⟨hstate, hcfg, hquiet, hsettled, hpm, hnak, hidle, hmode⟩

section
variable (hidle : d.flag (.txl l) fTxlLinkStatusTxIdle = true)
include hidle

theorem txResume_idle (he : e = d.setLk l { d.lk l with precode := [0, 0, 0, 0, 0] }) :
    d.txResume l = ((((List.range 16).foldl (fun d _ => d.sendResume l false) e).sendResume l true).lower (.txl l)
      fTxlLinkStatusTxIdle).put (.txl l) fTxlPhyTxMode phyData := by
  subst he
  exact if_pos hidle

theorem idleResumeBody_idle (hstate : d.linkState l = linkActive) : idleResumeBody l d = (d.txResume l).sendLink l false :=
  if_pos ⟨hidle, hstate⟩

end

/-! ### SLEEP and PM_CTRL (R238, R247, R248) -/

theorem sleepRetryBody_refused (h : (d.lk l).sleepRepeat = true) :
    sleepRetryBody l d = d.setLk l { d.lk l with sleepRepeat := false, sleepWanted := true } := if_pos h

/-- PM_CTRL stores nothing: its fields are write-only. -/
theorem blockWrite_pmCtrl (d : Device) (l : Fin 144) (w : Word) : d.blockWrite (.txl l) fTxlPmCtrlSleep.off w = d.pmWrite l w := by
  have hwo : ∀ f ∈ fieldsAt (.txl 0) fTxlPmCtrlSleep.off, f.ty = .wo ∨ f.ty = .ro := by decide
  have hfields : d.fieldsWrite (.txl l) fTxlPmCtrlSleep.off w (fun _ => false) = d := fieldsWrite_nil hwo
  have hswap : fTxlPmCtrlSleep.off ≠ fTxlSwapTestLane.off := by decide
  have hshutter : fTxlPmCtrlSleep.off ≠ fTxlShutterState.off := by decide
  simp only [Device.blockWrite, Device.txlWrite, hfields, if_neg hswap, if_neg hshutter, if_true]

theorem pmCtrl_write {rq : Requester} (h : d.takes rq (.txl l) (.txl l)) (w : Word) :
    regWriteBody rq (regAt (.txl l) fTxlPmCtrlSleep) w d = d.pmWrite l w :=
  (takes_fld h fTxlPmCtrlSleep 0 w (by decide) (by decide)).trans (blockWrite_pmCtrl d l w)

/-- SLEEP is bit 0 of PM_CTRL, WAKE bit 1, RETRAIN bit 2. -/
theorem pmWrite_sleep (d : Device) (l : Fin 144) : d.pmWrite l 1 = pmSleep l d := rfl

theorem pmWrite_wake (d : Device) (l : Fin 144) : d.pmWrite l 2 = pmWake l d := rfl

theorem pmWrite_retrain (d : Device) (l : Fin 144) : d.pmWrite l 4 = d.linkRetrainNow l := rfl

/-- SLEEP is remembered by a link that is active or comes up. -/
theorem pmSleep_eq (d : Device) (l : Fin 144) : pmSleep l d =
    if d.linkState l ∈ [linkActive, linkRetrain, linkTraining, linkHello] then d.setLk l { d.lk l with sleepWanted := true }
    else d := by
  simp only [pmSleep, List.mem_cons, List.not_mem_nil, or_false]

theorem linkWake_asleep (hstate : d.linkState l = linkSleep) (habort : (d.lk l).sleepAfterAbort = false) :
    d.linkWake l = d.startTraining l linkTraining true true := if_pos ⟨hstate, habort⟩

theorem linkWake_awake (hstate : d.linkState l ≠ linkSleep) : d.linkWake l = d := if_neg fun h => hstate h.1

theorem pmWake_eq (he : e = d.setLk l { d.lk l with sleepWanted := false, sleepRepeat := false }) : pmWake l d = e.linkWake l := by
  subst he
  rfl

end

/-- Settles O33: each timer acts on an ACTIVE link by its own condition; a resume is `txResume_idle`; PM_CTRL is a write of its register
(`pmCtrl_write`), whose SLEEP, WAKE and RETRAIN are `pmSleep_eq`, `pmWake_eq` with `linkWake`, and a retraining. -/
theorem linkTimersAndRequests : Obligations.LinkTimersAndRequests := by
  unfold Obligations.LinkTimersAndRequests
  intro s l
  refine ⟨fun hstate => ⟨fun hheld hidle => run_eq _ s _ (replayTimeoutBody_active hstate hheld hidle),
      fun hwait => run_eq _ s _ (nakRepeatBody_waiting hstate hwait), fun hidle => run_eq _ s _ (rxSilenceBody_active hstate hidle),
      fun hidle => run_eq _ s _ (resumeTrainTimeoutBody_idle hstate hidle),
      fun hcfg hquiet hsettled hpm hnak hidle hmode =>
        run_eq _ s _ (idleEnterBody_quiet hstate hcfg hquiet hsettled hpm hnak hidle hmode),
      fun hidle d hd => ?resume, fun c q hq => ⟨?stalls, ?passes⟩⟩,
    fun h => run_eq _ s _ (sleepRetryBody_refused h),
    fun rq htakes => ⟨?sleeps, ?ignores, fun _ => run_eq _ s _ ((pmCtrl_write htakes 4).trans (pmWrite_retrain _ _)),
      fun d hd => ⟨?wakes, ?awake⟩⟩⟩
  case resume =>
    refine run_eq _ s _ ((idleResumeBody_idle hidle hstate).trans ?_)
    rw [txResume_idle hidle hd]
  case stalls => exact fun h => run_eq _ s _ ((creditStallBody_headed hstate hq).trans (if_pos h))
  case passes => exact fun h => run_eq _ s _ ((creditStallBody_headed hstate hq).trans (if_neg (Nat.not_lt.mpr h)))
  case sleeps =>
    exact fun hup => run_eq _ s _ ((pmCtrl_write htakes 1).trans ((pmWrite_sleep _ _).trans ((pmSleep_eq _ _).trans (if_pos hup))))
  case ignores =>
    exact fun hup => run_eq _ s _ ((pmCtrl_write htakes 1).trans ((pmWrite_sleep _ _).trans ((pmSleep_eq _ _).trans (if_neg hup))))
  case wakes =>
    exact fun hstate habort => run_eq _ s _
      ((pmCtrl_write htakes 2).trans ((pmWrite_wake _ _).trans ((pmWake_eq hd).trans (linkWake_asleep hstate habort))))
  case awake =>
    exact fun hstate => run_eq _ s _
      ((pmCtrl_write htakes 2).trans ((pmWrite_wake _ _).trans ((pmWake_eq hd).trans (linkWake_awake hstate))))

end Sys2Proof.Machine
end

section
/-! PROOFS. Flit slots send (O34): the slot of a transmitter in training, in HELLO, in data before its receiver, and in ACTIVE, where
what is owed, the replay and new flits come in turn. -/

namespace Sys2Proof.Machine

open Sys2Proof

section
variable {c d e : Device} {l : Fin 144}

/-! ### The slot of a transmitter (R209, R210, R234, R242) -/

/-- What a slot does once packets on their way to the link have moved. -/
def Device.sendSlot (d : Device) (l : Fin 144) : Device :=
  if d.rd (.txl l) fTxlPhyTxMode = phyTraining ∧ (d.linkState l = linkTraining ∨ d.linkState l = linkRetrain) then d.trainSlot l
  else if d.rd (.txl l) fTxlPhyTxMode = phyData then
    if d.linkState l = linkHello then d.helloSlot l
    else if d.linkState l = linkActive then d.activeSlot l
    else if d.linkState l = linkTraining ∨ d.linkState l = linkRetrain then d.earlySlot l
    else d
  else d

theorem flitSlotBody_eq (hstays : (d.mesh.any fun f => f.dst == .link l.val) = false → c = d)
    (hmoves : (d.mesh.any fun f => f.dst == .link l.val) = true → c = d.meshRun) : flitSlotBody l d = c.sendSlot l := by
  have hc : (if (d.mesh.any fun f => f.dst == .link l.val) then d.meshRun else d) = c :=
    ite_eq_iff'.mpr ⟨fun h => (hmoves h).symm, fun h => (hstays (Bool.eq_false_iff.mpr h)).symm⟩
  subst hc
  rfl

theorem sendSlot_training (hmode : d.rd (.txl l) fTxlPhyTxMode = phyTraining)
    (hstate : d.linkState l = linkTraining ∨ d.linkState l = linkRetrain) : d.sendSlot l = d.trainSlot l := if_pos ⟨hmode, hstate⟩

theorem sendSlot_parked (hmode : d.rd (.txl l) fTxlPhyTxMode = phyParked) : d.sendSlot l = d := by
  unfold Device.sendSlot
  rw [hmode]
  exact (if_neg fun h => absurd h.1 (by decide)).trans (if_neg (by decide))

section
variable (hmode : d.rd (.txl l) fTxlPhyTxMode = phyData)
include hmode

theorem sendSlot_data : d.sendSlot l =
    if d.linkState l = linkHello then d.helloSlot l
    else if d.linkState l = linkActive then d.activeSlot l
    else if d.linkState l = linkTraining ∨ d.linkState l = linkRetrain then d.earlySlot l
    else d := by
  have hdata : ¬ (d.rd (.txl l) fTxlPhyTxMode = phyTraining ∧ (d.linkState l = linkTraining ∨ d.linkState l = linkRetrain)) := by
    rw [hmode]
    exact fun h => absurd h.1 (by decide)
  exact (if_neg hdata).trans (if_pos hmode)

theorem sendSlot_hello (hstate : d.linkState l = linkHello) : d.sendSlot l = d.helloSlot l :=
  (sendSlot_data hmode).trans (if_pos hstate)

theorem sendSlot_active (hstate : d.linkState l = linkActive) : d.sendSlot l = d.activeSlot l :=
  (sendSlot_data hmode).trans ((if_neg (not_hello_of_active hstate)).trans (if_pos hstate))

theorem sendSlot_early (hstate : d.linkState l = linkTraining ∨ d.linkState l = linkRetrain) : d.sendSlot l = d.earlySlot l := by
  have hhello : d.linkState l ≠ linkHello := by rcases hstate with h | h <;> rw [h] <;> decide
  have hactive : d.linkState l ≠ linkActive := by rcases hstate with h | h <;> rw [h] <;> decide
  exact (sendSlot_data hmode).trans ((if_neg hhello).trans ((if_neg hactive).trans (if_pos hstate)))

end

/-! ### Training (R210, R224) -/

theorem trainSlot_ends (haligned : d.flag (.txl l) fTxlPhyRxAligned = true) (hreport : (d.lk l).report.getLsbD 0 = true)
    (hsent : 1024 ≤ (d.lk l).trainSent) (he : e = (d.sendTraining l true).put (.txl l) fTxlPhyTxMode phyData) :
    d.trainSlot l =
      (if (d.lk l).clkSwapTx then (e.setLk l { e.lk l with clkSwapTx := false }).clockSwapped l else e).linkAdvance l := by
  subst he
  exact if_pos ⟨haligned, hreport, hsent⟩

theorem trainSlot_goesOn (h : d.flag (.txl l) fTxlPhyRxAligned = false ∨ (d.lk l).report.getLsbD 0 = false ∨
    (d.lk l).trainSent < 1024) : d.trainSlot l = d.sendTraining l false := by
  refine if_neg fun ⟨haligned, hreport, hsent⟩ => ?_
  rcases h with h | h | h
  · exact Bool.eq_false_iff.mp h haligned
  · exact Bool.eq_false_iff.mp h hreport
  · exact Nat.not_lt.mpr hsent h

/-! ### HELLO, and data before the receiver (R234, R238, R242) -/

theorem helloSlot_sends (hretrain : (d.lk l).oweRetrain = 0) (hswap : (d.lk l).swapReq = none) (hdone : (d.lk l).oweDone = 0)
    (he : e = d.sendFlit l .ctrl (d.helloBody l)) :
    d.helloSlot l = (e.setLk l { e.lk l with
      seenSent := if (d.lk l).peer.isSome then (d.lk l).seenSent + 1 else (d.lk l).seenSent }).helloDone l := by
  subst he
  exact if_neg (by simp [hretrain, hswap, hdone])

/-- After a training without HELLO the replay is owed (R238). -/
def LinkSt.replayOwed (k : LinkSt) : LinkSt :=
  if k.noHello then { k with oweReplay := true, replayAt := if k.retry.isEmpty then none else some 0 } else k

theorem earlySlot_eq (d : Device) (l : Fin 144) : d.earlySlot l = (d.setLk l (d.lk l).replayOwed).sendLink l false := rfl

/-! ### ACTIVE: what comes first (R234, R237, R247, R273) -/

/-- A sleep that is asked for goes out where nothing stands against it (R247). -/
def LinkSt.sleepAsked (k : LinkSt) : LinkSt :=
  if k.sleepWanted && !k.sleepSent && k.quiet && k.settled then { k.askPm 2 with sleepSent := true, sleepWanted := false } else k

theorem sleepAsked_unwanted {k : LinkSt} (h : k.sleepWanted = false) : k.sleepAsked = k := if_neg (by simp [h])

/-- The cover that stands grows older by a slot (R273). -/
def LinkSt.coverAged (k : LinkSt) : LinkSt := if k.txCover.isEmpty then k else { k with txCoverAge := k.txCoverAge + 1 }

section
variable (k : LinkSt)

theorem coverAged_owesLink : k.coverAged.owesLink = k.owesLink := by
  unfold LinkSt.coverAged
  split <;> rfl

theorem coverAged_sinceLink : k.coverAged.sinceLink = k.sinceLink := by
  unfold LinkSt.coverAged
  split <;> rfl

theorem coverAged_replayAt : k.coverAged.replayAt = k.replayAt := by
  unfold LinkSt.coverAged
  split <;> rfl

end

/-- A sequenced flit: of the replay, where one runs, or a new one. -/
def Device.sequencedSlot (d : Device) (l : Fin 144) : Option Nat → Device
  | some i => d.replaySlot l i
  | none => d.newSlot l

section
variable (hsleep : (c.lk l).sleepWanted = false) (hd : d = c.setLk l (c.lk l).coverAged)
include hsleep hd

theorem activeSlot_awake : c.activeSlot l =
    if (c.lk l).owesLink || decide (31 ≤ (c.lk l).sinceLink) then d.sendLink l false
    else d.sequencedSlot l (c.lk l).replayAt := by
  have hslot (k : LinkSt) (hk : k = (c.lk l).sleepAsked.coverAged) : c.activeSlot l =
      if k.owesLink || decide (31 ≤ k.sinceLink) then (c.setLk l k).sendLink l false
      else (c.setLk l k).sequencedSlot l k.replayAt := by
    subst hk
    rfl
  rw [hslot _ rfl, sleepAsked_unwanted hsleep, coverAged_owesLink, coverAged_sinceLink, coverAged_replayAt, hd]

theorem activeSlot_link (h : (c.lk l).oweNak = true ∨ (c.lk l).oweReplay = true ∨ 31 ≤ (c.lk l).sinceLink) :
    c.activeSlot l = d.sendLink l false := by
  refine (activeSlot_awake hsleep hd).trans (if_pos ?_)
  rcases h with h | h | h <;> simp [LinkSt.owesLink, h]

section
variable (howes : (c.lk l).owesLink = false) (hsince : (c.lk l).sinceLink < 31)
include howes hsince

theorem activeSlot_sequenced : c.activeSlot l = d.sequencedSlot l (c.lk l).replayAt :=
  (activeSlot_awake hsleep hd).trans (if_neg (by simp [howes, hsince]))

theorem activeSlot_replays {i : Nat} (hreplay : (c.lk l).replayAt = some i) : c.activeSlot l = d.replaySlot l i := by
  rw [activeSlot_sequenced hsleep hd howes hsince, hreplay]
  rfl

theorem activeSlot_new (hreplay : (c.lk l).replayAt = none) : c.activeSlot l = d.newSlot l := by
  rw [activeSlot_sequenced hsleep hd howes hsince, hreplay]
  rfl

end

end

theorem replaySlot_held {i : Nat} {h : Held} (hheld : (d.lk l).retry[i]? = some h)
    (he : e = d.setLk l { d.lk l with replayAt := if i + 1 < (d.lk l).retry.length then some (i + 1) else none }) :
    d.replaySlot l i = e.sendFlit l h.kind h.body := by
  subst he
  simp only [Device.replaySlot, hheld]

/-! ### New flits (R231, R237, R273, R281) -/

theorem newSlot_stopped (hstop : (d.cur l).stopped = true) : d.newSlot l = d.sendLink l false := if_pos hstop

section
variable (hstop : (d.cur l).stopped = false)
include hstop

theorem newSlot_underWay (hcur : (d.lk l).cur ≠ []) : d.newSlot l = d.sendPacketFlit l :=
  (if_neg (by simp [hstop])).trans (if_pos (by simp [hcur]))

variable (hcur : (d.lk l).cur = [])
include hcur

theorem newSlot_ungranted (h : (d.lk l).sleepSent = true ∨ d.egressGrant l = none) :
    d.newSlot l = if (d.lk l).txCover.isEmpty then d.sendLink l false else d.sendTag l := by
  have hnone : (if (d.lk l).sleepSent then none else d.egressGrant l) = none := by
    rcases h with h | h
    · exact if_pos h
    · rw [h, ite_self]
  refine (if_neg (by simp [hstop])).trans ((if_neg (by simp [hcur])).trans ?_)
  rw [hnone]

section
variable {q : Queued} (hsent : (d.lk l).sleepSent = false) (hgrant : d.egressGrant l = some q)
include hsent hgrant

theorem newSlot_granted : d.newSlot l =
    if d.atomicRefused l q.pkt then (d.dropAtomic l q).sendLink l false
    else if (d.lk l).tagFirst (roomOf q.pkt) then d.sendTag l
    else if 64 < (d.lk l).retry.length + roomOf q.pkt + (d.curMode l == 2).toNat then
      (if (d.lk l).txCover.isEmpty then d.sendLink l false else d.sendTag l)
    else (d.startPacket l q).sendPacketFlit l := by
  refine (if_neg (by simp [hstop])).trans ((if_neg (by simp [hcur])).trans ?_)
  rw [hsent, hgrant]
  rfl

end

end

end

/-- Settles O34: once packets have moved (`flitSlotBody_eq`), the slot goes by the transmitter and the state of the link (the lemmas of
`sendSlot`). In ACTIVE a LINK flit that is owed comes first (`activeSlot_link`), then the replay (`activeSlot_replays`), then new flits
(`activeSlot_new`), by what is under way and granted (`newSlot_underWay`, `newSlot_ungranted`, `newSlot_granted`). -/
theorem flitSlotsSend : Obligations.FlitSlotsSend := by
  unfold Obligations.FlitSlotsSend
  intro s l c hstays hmoves
  have hslot {e : Device} (h : c.sendSlot l = e) : exec (.flitSlot l) s = .next (s.after e) :=
    run_eq _ s _ ((flitSlotBody_eq hstays hmoves).trans h)
  refine ⟨fun hmode hstate => ⟨?ends, fun h => hslot ((sendSlot_training hmode hstate).trans (trainSlot_goesOn h))⟩,
    fun hmode hstate hretrain hswap hdone d hd =>
      hslot ((sendSlot_hello hmode hstate).trans (helloSlot_sends hretrain hswap hdone hd)),
    fun d hmode hstate hhello hreplay => ?early, fun hmode => hslot (sendSlot_parked hmode),
    fun hmode hstate hsleep d hplain haged => ?active⟩
  case ends =>
    intro haligned hreport hsent d e hd hplain hswap
    have hswapped : (if (c.lk l).clkSwapTx then (d.setLk l { d.lk l with clkSwapTx := false }).clockSwapped l else d) = e :=
      ite_eq_iff'.mpr ⟨fun h => (hswap h).symm, fun h => (hplain (Bool.eq_false_iff.mpr h)).symm⟩
    refine hslot ((sendSlot_training hmode hstate).trans ((trainSlot_ends haligned hreport hsent hd).trans ?_))
    rw [hswapped]
  case early =>
    have hd : c.setLk l (c.lk l).replayOwed = d := by
      unfold LinkSt.replayOwed
      split
      next h => exact (hreplay h).symm
      next h => exact (hhello (Bool.eq_false_iff.mpr h)).symm
    refine hslot ((sendSlot_early hmode hstate).trans ((earlySlot_eq c l).trans ?_))
    rw [hd]
  case active =>
    have hd : d = c.setLk l (c.lk l).coverAged := by
      unfold LinkSt.coverAged
      split
      next h => exact hplain (List.isEmpty_iff.mp h)
      next h => exact haged fun hnil => h (List.isEmpty_iff.mpr hnil)
    have hactive {e : Device} (h : c.activeSlot l = e) : exec (.flitSlot l) s = .next (s.after e) :=
      hslot ((sendSlot_active hmode hstate).trans h)
    refine ⟨fun h => hactive (activeSlot_link hsleep hd h), fun howes hsince => ⟨fun i h hreplay _ e he hheld =>
      hactive ((activeSlot_replays hsleep hd howes hsince hreplay).trans (replaySlot_held hheld he)), fun hreplay => ?new⟩⟩
    have hnew {e : Device} (h : d.newSlot l = e) : exec (.flitSlot l) s = .next (s.after e) :=
      hactive ((activeSlot_new hsleep hd howes hsince hreplay).trans h)
    refine ⟨fun hstop => hnew (newSlot_stopped hstop), fun hstop hcur => hnew (newSlot_underWay hstop hcur),
      fun hstop hcur => ⟨fun hnone => ⟨?linkFlit, ?coverTag⟩, fun q hsent hgrant => ⟨?refused, fun hatomic => ⟨?tagFirst, ?starts⟩⟩⟩⟩
    case linkFlit => exact fun hcover => hnew ((newSlot_ungranted hstop hcur hnone).trans (if_pos (List.isEmpty_iff.mpr hcover)))
    case coverTag =>
      exact fun hcover => hnew ((newSlot_ungranted hstop hcur hnone).trans (if_neg fun h => hcover (List.isEmpty_iff.mp h)))
    case refused => exact fun hatomic => hnew ((newSlot_granted hstop hcur hsent hgrant).trans (if_pos hatomic))
    case tagFirst =>
      refine fun htag => hnew ((newSlot_granted hstop hcur hsent hgrant).trans ?_)
      exact (if_neg (Bool.eq_false_iff.mp hatomic)).trans (if_pos htag)
    case starts =>
      refine fun htag hroom => hnew ((newSlot_granted hstop hcur hsent hgrant).trans ?_)
      exact (if_neg (Bool.eq_false_iff.mp hatomic)).trans ((if_neg (Bool.eq_false_iff.mp htag)).trans (if_neg (Nat.not_lt.mpr hroom)))

end Sys2Proof.Machine
end

section
/-! PROOFS. A core's instructions decode from their words (O47): the readers of R400 get back what the writers put in, also where a
field is 0 or shorter than the place it stands in. -/

namespace Sys2Proof.Machine

open Sys2Proof

/-- A reader of format R gets back the three registers. -/
theorem readR_wordR (op : BitVec 6) (rd ra rb : RegNo) (f : RegNo → RegNo → RegNo → Option CoreInsn) :
    readR (wordR op rd ra rb) f = f rd ra rb := by
  simp [readR]

theorem readZ_wordR (op : BitVec 6) (i : CoreInsn) : readZ (wordR op 0#4 0#4 0#4) i = some i := by
  refine if_pos (BitVec.eq_of_getLsbD_eq fun k hk => ?_)
  simp only [BitVec.getLsbD_extractLsb', wordR_bit]
  split_ifs <;> simp_all

/-- A part of the immediate of a word is that part of the value. -/
theorem immPart_wordI (op : BitVec 6) (r s : RegNo) (v : BitVec 18) {lo n : Nat} (h : lo + n ≤ 18) :
    (wordI op r s v).extractLsb' lo n = v.extractLsb' lo n := by
  refine BitVec.eq_of_getLsbD_eq fun i hi => ?_
  simp only [BitVec.getLsbD_extractLsb', wordI_bit]
  rw [if_pos (by omega)]

theorem immLow_setWidth {n : Nat} (v : BitVec n) (h : n ≤ 18) : (v.setWidth 18).extractLsb' 0 n = v := by
  refine BitVec.eq_of_getLsbD_eq fun i hi => ?_
  simp [hi, show i < 18 by omega]

theorem immHigh_setWidth {n : Nat} (v : BitVec n) (k : Nat) : (v.setWidth 18).extractLsb' n k = 0#k := by
  refine BitVec.eq_of_getLsbD_eq fun i hi => ?_
  simp

/-- Settles O47: by the format of each instruction; the opcode leads to its reader, and the reader gets back the fields. -/
theorem coreInstructionsDecodeAsEncoded : Obligations.CoreInstructionsDecodeAsEncoded := by
  unfold Obligations.CoreInstructionsDecodeAsEncoded
  intro i
  cases i with
  | alu op rd ra rb => cases op <;> simp [encodeCore, decodeCore, AluOp.code, readAlu, readR_wordR]
  | imm op rd ra v => cases op <;> simp [encodeCore, decodeCore, ImmOp.code, readImm]
  | lui rd v => simp [encodeCore, decodeCore]
  | load k rd ra v => cases k <;> simp [encodeCore, decodeCore, loadCode, readLoad]
  | store k rd ra v => cases k <;> simp [encodeCore, decodeCore, StoreSize.code, readStore]
  | branch k ra rb off => cases k <;> simp [encodeCore, decodeCore, Cond.code, readBranch]
  | jal off => simp [encodeCore, decodeCore]
  | jalr rd ra v => simp [encodeCore, decodeCore]
  | ldx rd ra => simp [encodeCore, decodeCore, readR_wordR]
  | stx rd ra rb => simp [encodeCore, decodeCore, readR_wordR]
  | atomic op rd ra rb => cases op <;> simp [encodeCore, decodeCore, AtomicOp.code, readAtomic, readR_wordR]
  | msg rd ra rb => simp [encodeCore, decodeCore, readR_wordR]
  | mfence => simp [encodeCore, decodeCore, readZ_wordR]
  | mfc rd cr => simp [encodeCore, decodeCore, readMfc, immPart_wordI, immLow_setWidth, immHigh_setWidth]
  | mtc ra cr => simp [encodeCore, decodeCore, readMtc, immPart_wordI, immLow_setWidth, immHigh_setWidth]
  | trap code => simp [encodeCore, decodeCore, readTrap, immPart_wordI, immLow_setWidth, immHigh_setWidth]
  | rfe => simp [encodeCore, decodeCore, readZ_wordR]
  | wfi => simp [encodeCore, decodeCore, readZ_wordR]
  | take rd => simp [encodeCore, decodeCore, readR_wordR]
  | yield => simp [encodeCore, decodeCore, readZ_wordR]
  | sleep ra => simp [encodeCore, decodeCore, readR_wordR]

end Sys2Proof.Machine
end

section
/-! PROOFS. Register instructions of a core (O48): what `insnBody` comes to for an instruction that writes a register, goes on, jumps,
waits or takes an exception, once for all instructions; and what a register write leaves. -/

namespace Sys2Proof.Machine

open Sys2Proof

section
variable {α β : Type}

theorem forall_mem_pairs_nil {P : α → β → Prop} : (∀ x y, (x, y) ∈ ([] : List (α × β)) → P x y) ↔ True := by simp

/-- What is said of every pair of a list, said of the first and of the others. -/
theorem forall_mem_pairs_cons {P : α → β → Prop} {a : α} {b : β} {l : List (α × β)} :
    (∀ x y, (x, y) ∈ (a, b) :: l → P x y) ↔ P a b ∧ ∀ x y, (x, y) ∈ l → P x y := by
  simp only [List.mem_cons, Prod.mk.injEq]
  exact ⟨fun h => ⟨h a b (.inl ⟨rfl, rfl⟩), fun x y hm => h x y (.inr hm)⟩,
    fun h x y hm => hm.elim (fun he => he.1 ▸ he.2 ▸ h.1) (h.2 x y)⟩
end

/-! ### An instruction of a core that is ready (R400, R402) -/

section
variable {d e r : Device} {c : Fin 2} {i : CoreInsn} (h : d.ready c e)
include h

theorem insnBody_illegal (hl : insnLegal i = false) : insnBody c i d = e.insnExc c (exIllegal (encodeCore i)) :=
  insn_illegal h i (coreInstructionsDecodeAsEncoded i) hl

section
variable (hl : insnLegal i = true)
include hl

theorem insnBody_legal : insnBody c i d = e.insnEnd c (e.insnEffect c false (encodeCore i) i) :=
  insn_exec h i (coreInstructionsDecodeAsEncoded i) hl

/-- An instruction that goes on to the next word once its access is over. -/
theorem insnBody_goesOn {acc : Option CompAccess} (hu : r.unwatched c)
    (hi : e.insnEffect c false (encodeCore i) i = { dev := r, eff := .seq, acc := acc }) :
    insnBody c i d = r.setPc c ((e.core c).pc + 4) := by
  rw [insnBody_legal h hl, hi, end_seq hu]

/-- An instruction whose access gives a register its value. -/
theorem insnBody_reads {acc : Option CompAccess} {rd : RegNo} {v : Word} (hu : r.unwatched c)
    (hi : e.insnEffect c false (encodeCore i) i = { dev := r.setCore c ((r.core c).setReg rd v), eff := .seq, acc := acc }) :
    insnBody c i d = (r.setCore c ((r.core c).setReg rd v)).setPc c ((e.core c).pc + 4) := by
  rw [insnBody_legal h hl, hi, end_set hu]

/-- An instruction that only writes a register. -/
theorem insnBody_sets {rd : RegNo} {v : Word} (hi : e.insnEffect c false (encodeCore i) i = e.insnSet c rd v) :
    insnBody c i d = (e.setCore c ((e.core c).setReg rd v)).setPc c ((e.core c).pc + 4) :=
  insnBody_reads h hl h.2.2.2 hi

/-- An instruction that jumps. -/
theorem insnBody_jumps {t : Word} (hu : r.unwatched c) (hi : e.insnEffect c false (encodeCore i) i = .plain r (.to t)) :
    insnBody c i d = (r.setPc c t).traceRecord c (traceWord traceBranch (e.core c).pc t.toNat) := by
  rw [insnBody_legal h hl, hi, end_to hu]

/-- An instruction that takes an exception. -/
theorem insnBody_excepts {x : Exc} (hi : e.insnEffect c false (encodeCore i) i = .plain r (.exc x)) :
    insnBody c i d = r.insnExc c x := by
  rw [insnBody_legal h hl, hi]
  rfl

/-- An instruction that waits. -/
theorem insnBody_waits {wait : CoreWait} {t : Option Nat} (hi : e.insnEffect c false (encodeCore i) i = .plain r (.wait wait t)) :
    insnBody c i d = r.setCore c { r.core c with mode := .waiting, wait := some wait, waitTag := t, fed := false } := by
  rw [insnBody_legal h hl, hi]
  rfl

end
end

/-! ### What a register write leaves (R399) -/

theorem reg_setReg_self (k : CoreSt) {rd : RegNo} (h : rd ≠ 0) (v : Word) : (k.setReg rd v).reg rd = v := by
  unfold CoreSt.setReg CoreSt.reg
  rw [if_neg h, if_neg h]
  exact sget_sset_self ..

theorem reg_setReg_ne (k : CoreSt) {rd r : RegNo} (h : r ≠ rd) (v : Word) : (k.setReg rd v).reg r = k.reg r := by
  have hkey : r.toNat ≠ rd.toNat := fun hn => h (BitVec.eq_of_toNat_eq hn)
  unfold CoreSt.setReg CoreSt.reg
  split_ifs
  · rfl
  · rfl
  · exact sget_sset_ne _ _ _ _ _ hkey

theorem setReg_frame (k : CoreSt) (rd : RegNo) (v : Word) : { k.setReg rd v with regs := k.regs, pc := k.pc } = k := by
  unfold CoreSt.setReg
  split <;> rfl

theorem setCore_frame (d : Device) (c : Fin 2) (k : CoreSt) (m : Sparse CoreSt) :
    { d.setCore c k with cores := m } = { d with cores := m } := by
  unfold Device.setCore
  rfl

/-- Settles O48: each row is `insnBody_sets` with its operation, and a shift by 32 or more is the illegal instruction of
`insnBody_illegal`; a write of a register and of the PC is two writes of the core, by `reg_setReg_self`, `reg_setReg_ne` and
`setReg_frame`. -/
theorem registerInstructions : Obligations.RegisterInstructions := by
  unfold Obligations.RegisterInstructions
  refine ⟨fun s c e h rd ra rb imm a b x z ha hb hx hz => ?_, fun e c rd v pc d hd => ?_⟩
  · subst ha hb hx hz
    have alu op := run_eq _ s _ (insnBody_sets h (i := .alu op rd ra rb) rfl rfl)
    have imms {op} hl := run_eq _ s _ (insnBody_sets h (i := .imm op rd ra imm) hl rfl)
    have illegal {op} hl := run_eq _ s _ (insnBody_illegal h (i := .imm op rd ra imm) hl)
    refine ⟨?sets, fun up => run_eq _ s _ (insnBody_sets h (i := .lui rd up) rfl rfl), ?shifts⟩
    case sets =>
      simp only [forall_mem_pairs_cons, forall_mem_pairs_nil]
      exact ⟨alu .add, alu .sub, alu .and, alu .or, alu .xor, alu .sll, alu .srl, alu .sra, alu .slt, alu .sltu, alu .mul,
        alu .mulh, alu .mulhu, alu .div, alu .divu, imms (op := .addi) rfl, imms (op := .andi) rfl, imms (op := .ori) rfl,
        imms (op := .xori) rfl, imms (op := .slti) rfl, imms (op := .sltiu) rfl, trivial⟩
    case shifts =>
      have hlegal (hlt : imm.toNat < 32) : decide (imm.toNat < 32) = true := decide_eq_true hlt
      have hillegal (hge : 32 ≤ imm.toNat) : decide (imm.toNat < 32) = false := decide_eq_false (Nat.not_lt.mpr hge)
      have whole (hlt : imm.toNat < 32) : imm.toNat = imm.toNat % 32 := (Nat.mod_eq_of_lt hlt).symm
      intro v op i hi
      simp only [List.mem_cons, Prod.mk.injEq, List.not_mem_nil, or_false] at hi
      obtain ⟨rfl, rfl, rfl⟩ | ⟨rfl, rfl, rfl⟩ | ⟨rfl, rfl, rfl⟩ := hi
      · exact ⟨fun hlt => whole hlt ▸ imms (op := .slli) (hlegal hlt), fun hge => illegal (hillegal hge)⟩
      · exact ⟨fun hlt => whole hlt ▸ imms (op := .srli) (hlegal hlt), fun hge => illegal (hillegal hge)⟩
      · exact ⟨fun hlt => whole hlt ▸ imms (op := .srai) (hlegal hlt), fun hge => illegal (hillegal hge)⟩
  · have hk : d.core c = { (e.core c).setReg rd v with pc := pc } := by
      rw [hd, Device.setPc, Device.setCore_core, Device.setCore_core]
    refine ⟨reg_zero _, fun hrd => hk ▸ reg_setReg_self _ hrd v, fun r hr => hk ▸ reg_setReg_ne _ hr v, hk ▸ rfl, ?_, fun c' hc => ?_, ?_⟩
    · rw [hk]
      exact setReg_frame (e.core c) rd v
    · rw [hd, Device.setPc, Device.setCore_core_ne _ _ _ _ hc, Device.setCore_core_ne _ _ _ _ hc]
    · rw [hd, Device.setPc, setCore_frame, setCore_frame]

end Sys2Proof.Machine
end

section
/-! PROOFS. Loads and stores of a core (O49): an equation for each region of the address map and each way an access can go. -/

namespace Sys2Proof.Machine

open Sys2Proof

/-! ### Where an address leads (R403) -/

theorem misalignedAt_mgmt {a : Word} {off : Nat} (h : regionOf a = .mgmt off) (size : Nat) : misalignedAt a size = false := by
  simp only [misalignedAt, h]

/-! ### Loads (R401, R404) -/

section
variable {d d1 : Device} {c : Fin 2} {fed : Bool} {k : LoadKind} {rd : RegNo} {a w : Word}

theorem insnLoad_misaligned (h : misalignedAt a (loadSize k) = true) :
    d.insnLoad c fed k rd a w = .plain d (.exc (exMisaligned a)) := if_pos h

theorem tcmLoad_good {bs : List Byte} (hread : d.tcmRead c a.toNat (loadSize k) = (some bs, d1)) : d.tcmLoad c k rd a =
    { dev := d1.setCore c ((d1.core c).setReg rd (loadValue k (natLE bs))), eff := .seq
      acc := some (accOf a (loadSize k) true false (some (BitVec.ofNat 32 (natLE bs)))) } := by
  simp only [Device.tcmLoad, hread]

theorem tcmLoad_bad (hread : d.tcmRead c a.toNat (loadSize k) = (none, d1)) :
    d.tcmLoad c k rd a = .plain d1 (.exc (exBus a busTcm)) := by
  simp only [Device.tcmLoad, hread]

theorem insnLoad_mgmt_word {off : Nat} {v : Word} (hregion : regionOf a = .mgmt off) (hsize : loadSize k = 4) (hoff : off % 4 = 0)
    (hread : d.mgmtRead (.core c) fed off = (v, d1)) : d.insnLoad c fed k rd a w =
    { dev := d1.setCore c ((d1.core c).setReg rd v), eff := .seq, acc := some (accOf a 4 true false (some v)) } := by
  simp only [Device.insnLoad, misalignedAt_mgmt hregion, hregion, hsize, hoff, hread]
  rfl

theorem insnLoad_mgmt_part {off : Nat} (hregion : regionOf a = .mgmt off) (h : loadSize k ≠ 4 ∨ off % 4 ≠ 0) :
    d.insnLoad c fed k rd a w = .plain d (.exc (exBus a busMgmt)) := by
  simp only [Device.insnLoad, misalignedAt_mgmt hregion, hregion]
  refine (if_neg Bool.false_ne_true).trans (if_neg fun hw => ?_)
  exact h.elim (· hw.1) (· hw.2)

section
variable (haligned : misalignedAt a (loadSize k) = false)
include haligned

theorem insnLoad_tcm (hregion : regionOf a = .itcm ∨ regionOf a = .dtcm) : d.insnLoad c fed k rd a w = d.tcmLoad c k rd a := by
  obtain h | h := hregion <;> simp [Device.insnLoad, haligned, h]

theorem insnLoad_unmapped (h : regionOf a = .hole ∨ ∃ ap x, regionOf a = .aperture ap x ∧ d.apValid c ap = false) :
    d.insnLoad c fed k rd a w = .plain d (.exc (exBus a busUnmapped)) := by
  obtain h | ⟨ap, x, h, hv⟩ := h
  · simp [Device.insnLoad, haligned, h]
  · simp [Device.insnLoad, haligned, h, hv]

variable {ap x : Nat} (hregion : regionOf a = .aperture ap x) (hvalid : d.apValid c ap = true)
include hregion hvalid

theorem insnLoad_sent {t : Nat} (hissue : d.coreIssue c (.core c.val)
      (d.corePacket 0 0x00 (d.apGlobal c ap x) (loadSize k) (d.apAttr c ap) []) = .sent t d1) :
    d.insnLoad c fed k rd a w = .plain d1 (.wait (.load rd.toNat k a) (some t)) := by
  simp [Device.insnLoad, haligned, hregion, hvalid, hissue]

theorem insnLoad_refused {st : Nat} (hissue : d.coreIssue c (.core c.val)
      (d.corePacket 0 0x00 (d.apGlobal c ap x) (loadSize k) (d.apAttr c ap) []) = .refused st) :
    d.insnLoad c fed k rd a w = .plain d (.exc (exMesh a ap st)) := by
  simp [Device.insnLoad, haligned, hregion, hvalid, hissue]

end
end

/-! ### Stores (R401, R404, R406) -/

section
variable {d d1 : Device} {c : Fin 2} {n : Nat} {v a w : Word}

theorem insnStore_misaligned (h : misalignedAt a n = true) : d.insnStore c n v a w = .plain d (.exc (exMisaligned a)) := if_pos h

theorem tcmStore_good (hwrite : d.tcmWrite c a.toNat (bytesLE n v.toNat) = (true, d1)) : d.tcmStore c n v a =
    { dev := d1, eff := .seq, acc := some (accOf a n false true (some (lowBytes n v))) } := by
  simp only [Device.tcmStore, hwrite]

theorem tcmStore_bad (hwrite : d.tcmWrite c a.toNat (bytesLE n v.toNat) = (false, d1)) :
    d.tcmStore c n v a = .plain d1 (.exc (exBus a busTcm)) := by
  simp only [Device.tcmStore, hwrite]

theorem insnStore_mgmt_word {off : Nat} (hregion : regionOf a = .mgmt off) (hsize : n = 4) (hoff : off % 4 = 0)
    (hwrite : d.mgmtWrite0 (.core c) off v = some d1) : d.insnStore c n v a w =
    { dev := d1, eff := .seq, acc := some (accOf a n false true (some (lowBytes n v))) } := by
  simp [Device.insnStore, misalignedAt_mgmt hregion, hregion, hsize, hoff, hwrite]

theorem insnStore_mgmt_refused {off : Nat} (hregion : regionOf a = .mgmt off)
    (h : n ≠ 4 ∨ off % 4 ≠ 0 ∨ d.mgmtWrite0 (.core c) off v = none) :
    d.insnStore c n v a w = .plain d (.exc (exBus a busMgmt)) := by
  simp only [Device.insnStore, misalignedAt_mgmt hregion, hregion]
  refine (if_neg Bool.false_ne_true).trans ?_
  split_ifs with hw
  · rw [(h.resolve_left (not_not_intro hw.1)).resolve_left (not_not_intro hw.2)]
  · rfl

section
variable (haligned : misalignedAt a n = false)
include haligned

theorem insnStore_tcm (hregion : regionOf a = .itcm ∨ regionOf a = .dtcm) : d.insnStore c n v a w = d.tcmStore c n v a := by
  obtain h | h := hregion <;> simp [Device.insnStore, haligned, h]

theorem insnStore_unmapped (h : regionOf a = .hole ∨ ∃ ap x, regionOf a = .aperture ap x ∧ d.apValid c ap = false) :
    d.insnStore c n v a w = .plain d (.exc (exBus a busUnmapped)) := by
  obtain h | ⟨ap, x, h, hv⟩ := h
  · simp [Device.insnStore, haligned, h]
  · simp [Device.insnStore, haligned, h, hv]

variable {ap x : Nat} (hregion : regionOf a = .aperture ap x) (hvalid : d.apValid c ap = true)
include hregion hvalid

theorem insnStore_posted (hnp : d.apNp c ap = false) : d.insnStore c n v a w =
    { dev := d.corePosted c.val (d.corePacket 2 0x10 (d.apGlobal c ap x) n (d.apAttr c ap) (bytesLE n v.toNat)), eff := .seq
      acc := some (accOf a n false true (some (lowBytes n v))) } := by
  simp [Device.insnStore, haligned, hregion, hvalid, hnp]

theorem insnStore_sent {t : Nat} (hnp : d.apNp c ap = true) (hissue : d.coreIssue c (.coreStore c.val ap a)
      (d.corePacket 0 0x01 (d.apGlobal c ap x) n (d.apAttr c ap) (bytesLE n v.toNat)) = .sent t d1) : d.insnStore c n v a w =
    { dev := d1, eff := .seq, acc := some (accOf a n false true (some (lowBytes n v))) } := by
  simp [Device.insnStore, haligned, hregion, hvalid, hnp, hissue]

end
end

/-- Settles O49: a row is `insnBody` of its load or store, whose effect the lemmas of `insnLoad` and `insnStore` give for each region;
how the instruction then ends is `insnBody_reads`, `insnBody_goesOn`, `insnBody_waits` or `insnBody_excepts`. -/
theorem loadsAndStores : Obligations.LoadsAndStores := by
  unfold Obligations.LoadsAndStores
  refine ⟨fun s c e h rd ra imm a ha k i hi => ?_, fun s c e h rd ra imm a v ha hv n i hi E hE => ?_⟩
  · have hrow : exec i s = run (insnBody c (.load k rd ra imm)) s := by
      revert k i
      simp only [forall_mem_pairs_cons, forall_mem_pairs_nil]
      exact ⟨rfl, rfl, rfl, rfl, rfl, trivial⟩
    simp only [hrow]
    subst ha
    have excepts {r x} := fun hi => run_eq _ s _ (insnBody_excepts h (i := .load k rd ra imm) (r := r) (x := x) rfl hi)
    have reads {r acc reg v} := fun hu hi => run_eq _ s _ (insnBody_reads h (i := .load k rd ra imm) (r := r) (acc := acc)
      (rd := reg) (v := v) rfl hu hi)
    have waits {r wait t} := fun hi => run_eq _ s _ (insnBody_waits h (i := .load k rd ra imm) (r := r) (wait := wait) (t := t) rfl hi)
    refine ⟨fun hm => excepts (insnLoad_misaligned hm),
      fun hal hr => ⟨fun bs e1 hread hu => reads hu ((insnLoad_tcm hal hr).trans (tcmLoad_good hread)),
        fun e1 hread => excepts ((insnLoad_tcm hal hr).trans (tcmLoad_bad hread))⟩,
      fun off hr => ⟨fun hn ho v e1 hread hu => reads hu (insnLoad_mgmt_word hr hn ho hread),
        fun hpart => excepts (insnLoad_mgmt_part hr hpart)⟩,
      fun hal ap x hr hvalid iss hiss => ⟨fun t e1 hsent => waits (insnLoad_sent hal hr hvalid (hiss.trans hsent)),
        fun st href => excepts (insnLoad_refused hal hr hvalid (hiss.trans href))⟩,
      fun hal hr => excepts (insnLoad_unmapped hal hr)⟩
  · obtain ⟨z, hz, hrow⟩ : ∃ z : StoreSize, z.bytes = n ∧ exec i s = runChecked (insnBody c (.store z rd ra imm)) s := by
      revert n i
      simp only [forall_mem_pairs_cons, forall_mem_pairs_nil]
      exact ⟨⟨.b, rfl, rfl⟩, ⟨.h, rfl, rfl⟩, ⟨.w, rfl, rfl⟩, trivial⟩
    simp only [hrow]
    subst ha hv hz
    have excepts {r x} := fun hi he => runChecked_eq _ s E
      ((insnBody_excepts h (i := .store z rd ra imm) (r := r) (x := x) rfl hi).trans (Eq.symm he)) hE
    have goesOn {r acc} := fun hu hi he => runChecked_eq _ s E
      ((insnBody_goesOn h (i := .store z rd ra imm) (r := r) (acc := acc) rfl hu hi).trans (Eq.symm he)) hE
    refine ⟨fun hm => excepts (insnStore_misaligned hm),
      fun hal hr ok e1 hwrite => ⟨fun hok hu => goesOn hu ((insnStore_tcm hal hr).trans (tcmStore_good (hok ▸ hwrite))),
        fun hbad => excepts ((insnStore_tcm hal hr).trans (tcmStore_bad (hbad ▸ hwrite)))⟩,
      fun off hr => ⟨fun e1 hn ho hwrite hu => goesOn hu (insnStore_mgmt_word hr hn ho hwrite),
        fun href => excepts (insnStore_mgmt_refused hr href)⟩,
      fun hal ap x hr hvalid => ⟨fun e1 hnp he hu => goesOn hu (he ▸ insnStore_posted hal hr hvalid hnp),
        fun t e1 hnp hissue hu => goesOn hu (insnStore_sent hal hr hvalid hnp hissue)⟩,
      fun hal hr => excepts (insnStore_unmapped hal hr)⟩

end Sys2Proof.Machine
end

section
/-! PROOFS. Exceptions of a core (O51): what R409 makes of the core, and that logging, tracing and the monitor's depth leave it so. -/

namespace Sys2Proof.Machine

open Sys2Proof

/-- The control registers as R409 saves them: EPC, cause and information, the bus error word of a bus error, then STATUS. -/
def CoreSt.saved (k : CoreSt) (x : Exc) (epc : Word) : CoreSt :=
  let logged := ((k.setCr crEpc epc).setCr crEcause (BitVec.ofNat 32 x.code)).setCr crEinfo x.einfo
  let logged := if x.code = excBus then logged.setCr crBerr x.berr else logged
  logged.setCr crStatus (statusWord false logged.ie true)

/-- The core in its handler. -/
def CoreSt.entered (k : CoreSt) (x : Exc) (epc : Word) : CoreSt :=
  { k.saved x epc with resv := none, pc := (k.saved x epc).cr crEvbase + BitVec.ofNat 32 (vectorOf x.code), mode := .running
                       wait := none, waitTag := none }

/-- `e` is `d` with core `c` made `k` but for its trace, the tightly coupled memories and CATCH untouched. -/
structure Device.MadeCore (d : Device) (c : Fin 2) (k : CoreSt) (e : Device) : Prop where
  core : ∃ t b p, e.core c = { k with trace := t, tracing := b, post := p }
  tcm : e.tcm = d.tcm
  caught : e.dbgRd c fDbgcRunCtrlCatch = d.dbgRd c fDbgcRunCtrlCatch

/-- CATCH is in a register of its own beside those that an exception writes. -/
theorem catchKey_apart (c : Fin 2) : let key := fldKey .dbg (dbgF c fDbgcRunCtrlCatch) 0
    key ≠ fldKey (.tcore c) fTcoreLastExc0Epc 0 ∧ key ≠ fldKey (.tcore c) fTcoreLastExc1Code 0 ∧
      key ≠ fldKey (.tcore c) fTcoreLastExc2Einfo 0 ∧ key ≠ fldKey .dbg (dbgF c fDbgcMonCtrlMonDepth) 0 := by
  revert c
  decide

section
variable {d e : Device} {c : Fin 2} {k : CoreSt}

theorem madeCore_setCore (d : Device) (c : Fin 2) (k : CoreSt) : d.MadeCore c k (d.setCore c k) :=
  ⟨⟨k.trace, k.tracing, k.post, Device.setCore_core ..⟩, rfl, rfl⟩

theorem Device.MadeCore.put (h : d.MadeCore c k e) {pg : PageRef} {f : Fld} {i : Nat}
    (hkey : fldKey .dbg (dbgF c fDbgcRunCtrlCatch) 0 ≠ fldKey pg f i) (v : Nat) : d.MadeCore c k (e.put pg f v i) :=
  ⟨h.core, h.tcm, (rd_put_key e pg .dbg f _ v i 0 hkey).trans h.caught⟩

theorem Device.MadeCore.count (h : d.MadeCore c k e) (pg : PageRef) (n : Nat) : d.MadeCore c k (e.count pg n) := by
  obtain ⟨t, ht⟩ := count_changes_tally e pg n
  rw [ht]
  exact ⟨h.core, h.tcm, h.caught⟩

theorem Device.MadeCore.trace (h : d.MadeCore c k e) (r : DWord) : d.MadeCore c k (e.traceRecord c r) := by
  obtain ⟨t, b, p, hr | hr⟩ := trace_core e c r
  · rw [hr]
    exact h
  · obtain ⟨t', b', p', hk⟩ := h.core
    rw [hr]
    exact ⟨⟨t, b, p, by rw [Device.setCore_core, hk]⟩, h.tcm, h.caught⟩

theorem Device.MadeCore.busCounted (h : d.MadeCore c k e) (x : Exc) :
    d.MadeCore c k (if x.code = excBus then e.count (.tcore c) 4 else e) := by
  split
  · exact h.count _ _
  · exact h

theorem Device.MadeCore.deepened (h : d.MadeCore c k e) : d.MadeCore c k
    (if e.dbgFlag c fDbgcMonCtrlMonActive then e.dbgPut c fDbgcMonCtrlMonDepth (e.dbgRd c fDbgcMonCtrlMonDepth + 1) else e) := by
  split
  · exact h.put (catchKey_apart c).2.2.2 _
  · exact h

theorem Device.MadeCore.uncaught (h : d.MadeCore c k e) {x : Exc}
    (hcatch : (d.dbgRd c fDbgcRunCtrlCatch).testBit (x.code - 1) = false) :
    d.MadeCore c k (if 1 ≤ x.code ∧ x.code ≤ 4 ∧ (e.dbgRd c fDbgcRunCtrlCatch).testBit (x.code - 1) = true then
      e.halt c haltCatch 0 else e) := by
  rw [if_neg fun hx => Bool.false_ne_true (hcatch.symm.trans (h.caught ▸ hx.2.2))]
  exact h

end

theorem takeExc_madeCore {d : Device} {c : Fin 2} {x : Exc} (epc : Word)
    (hexl : (d.core c).exl = false ∨ x.code = 0 ∨ 4 < x.code)
    (hcatch : (d.dbgRd c fDbgcRunCtrlCatch).testBit (x.code - 1) = false) :
    d.MadeCore c ((d.core c).entered x epc) (d.takeExc c x epc) := by
  have hunlocked : ((d.core c).exl && decide (1 ≤ x.code ∧ x.code ≤ 4)) = false := by
    obtain h | h := hexl
    · simp [h]
    · simp [show ¬ (1 ≤ x.code ∧ x.code ≤ 4) by omega]
  obtain ⟨hepc, hcode, hinfo, -⟩ := catchKey_apart c
  have hlogged := (((madeCore_setCore d c ((d.core c).entered x epc)).put hepc epc.toNat).put hcode x.code).put hinfo x.einfo.toNat
  unfold Device.takeExc
  simp only [hunlocked, Bool.false_eq_true, if_false]
  exact (((hlogged.busCounted x).trace _).deepened).uncaught hcatch

theorem CoreSt.cr_setCr (k : CoreSt) (n m : Nat) (w : Word) : (k.setCr n w).cr m = if m = n then w else k.cr m := by
  split
  next h => exact h ▸ sget_sset_self ..
  next h => exact sget_sset_ne _ _ _ _ _ h

theorem CoreSt.saved_cr (k : CoreSt) (x : Exc) (epc : Word) : (k.saved x epc).cr crEpc = epc ∧
    (k.saved x epc).cr crEcause = BitVec.ofNat 32 x.code ∧ (k.saved x epc).cr crEinfo = x.einfo ∧
    (x.code = excBus → (k.saved x epc).cr crBerr = x.berr) ∧ (k.saved x epc).cr crStatus = statusWord false k.ie true ∧
    (k.saved x epc).cr crEvbase = k.cr crEvbase := by
  by_cases h : x.code = excBus <;>
    simp [CoreSt.saved, h, CoreSt.cr_setCr, CoreSt.ie, crEpc, crEcause, crEinfo, crBerr, crStatus, crEvbase]

theorem CoreSt.saved_regs (k : CoreSt) (x : Exc) (epc : Word) : (k.saved x epc).regs = k.regs := by
  unfold CoreSt.saved
  dsimp only
  split <;> rfl

/-- Settles O51: the core after an exception is `CoreSt.entered` but for its trace (`takeExc_madeCore`), and that core reads as the
rule says (`CoreSt.saved_cr`). -/
theorem exceptionsSaveAndEnter : Obligations.ExceptionsSaveAndEnter := by
  unfold Obligations.ExceptionsSaveAndEnter
  intro d c x epc hexl hcatch k hk
  obtain ⟨⟨t, b, p, hcore⟩, htcm, -⟩ := takeExc_madeCore epc hexl hcatch
  obtain ⟨hepc, hcause, hinfo, hberr, hstatus, hevbase⟩ := (d.core c).saved_cr x epc
  rw [hcore] at hk
  subst hk
  exact ⟨hepc, hcause, hinfo, hberr, hstatus, congrArg (· + BitVec.ofNat 32 (vectorOf x.code)) hevbase, rfl, rfl,
    (d.core c).saved_regs x epc, htcm⟩

end Sys2Proof.Machine
end

section
/-! PROOFS. Control transfers of a core (O50): branches and jumps go through `insnBody_jumps`; TRAP, RFE and WFI each end in their own
way. -/

namespace Sys2Proof.Machine

open Sys2Proof

/-! ### How an instruction without an access ends (R443) -/

theorem insnDone_unstepped {d : Device} {c : Fin 2} (h : (d.core c).stepping = false) : d.insnDone c none = d := by
  simp [Device.insnDone, Device.stepEnds, h]

theorem unwatched_setReg {d : Device} {c : Fin 2} (h : d.unwatched c) (rd : RegNo) (v : Word) :
    (d.setCore c ((d.core c).setReg rd v)).unwatched c :=
  unw_set h _ ((setReg_mode ..).trans h.1) ((setReg_stepping ..).trans h.2.1)

theorem insnExc_trap (d : Device) (c : Fin 2) (info : Word) : d.insnExc c { code := excTrap, einfo := info, berr := 0 } =
    (d.takeExc c { code := excTrap, einfo := info, berr := 0 } ((d.core c).pc + 4)).stepEnds c := rfl

/-! ### Branches and jumps (R401) -/

section
variable {e : Device} {c : Fin 2} {w : Word}

theorem insnEffect_branch_taken {k : Cond} {ra rb : RegNo} {off : BitVec 18}
    (h : condHolds k ((e.core c).reg ra) ((e.core c).reg rb) = true) : e.insnEffect c false w (.branch k ra rb off) =
      .plain e (.to ((e.core c).pc + off.signExtend 32 * 4)) := if_pos h

theorem insnEffect_branch_passed {k : Cond} {ra rb : RegNo} {off : BitVec 18}
    (h : condHolds k ((e.core c).reg ra) ((e.core c).reg rb) = false) :
    e.insnEffect c false w (.branch k ra rb off) = .plain e .seq := if_neg (by simp [h])

theorem insnEffect_jalr_aligned {rd ra : RegNo} {v : BitVec 18} (h : ((e.core c).reg ra + v.signExtend 32).toNat % 4 = 0) :
    e.insnEffect c false w (.jalr rd ra v) = .plain (e.setCore c ((e.core c).setReg rd ((e.core c).pc + 4)))
      (.to ((e.core c).reg ra + v.signExtend 32)) := if_neg (not_not_intro h)

theorem insnEffect_jalr_misaligned {rd ra : RegNo} {v : BitVec 18} (h : ((e.core c).reg ra + v.signExtend 32).toNat % 4 ≠ 0) :
    e.insnEffect c false w (.jalr rd ra v) = .plain e (.exc (exMisaligned ((e.core c).reg ra + v.signExtend 32))) := if_pos h

theorem insnEffect_rfe_returns (h : (e.core c).exl = true) : e.insnEffect c false w .rfe = .plain e .back := if_pos h

theorem insnEffect_rfe_illegal (h : (e.core c).exl = false) : e.insnEffect c false w .rfe = .plain e (.exc (exIllegal w)) :=
  if_neg (by simp [h])

end

/-! ### RFE and WFI (R408, R409) -/

section
variable {d e : Device} {c : Fin 2} (h : d.ready c e)
include h

theorem insnBody_rfe (hexl : (e.core c).exl = true) (hu : (e.returnExc c).unwatched c) : insnBody c .rfe d = e.returnExc c := by
  rw [insnBody_legal h rfl, insnEffect_rfe_returns hexl]
  exact insnDone_unstepped hu.2.1

variable {e1 : Device} (he : e1 = e.setCore c { e.core c with pc := (e.core c).pc + 4, mode := .wfi })
include he

theorem insnBody_wfi : insnBody c .wfi d = (e1.wfiEnds c).insnDone c none := by
  rw [insnBody_legal h rfl, he]
  rfl

theorem wfi_core : (e1.core c).mode = .wfi ∧ (e1.core c).stepping = false := by
  rw [he, Device.setCore_core]
  exact ⟨rfl, h.2.2.2.2.1⟩

theorem insnBody_wfi_waits (hirq : (e1.irqSources c).isEmpty = true) : insnBody c .wfi d = e1 := by
  have hends : e1.wfiEnds c = e1 := if_neg (by simp [hirq])
  rw [insnBody_wfi h he, hends, insnDone_unstepped (wfi_core h he).2]

theorem insnBody_wfi_goesOn (hirq : (e1.irqSources c).isEmpty = false) :
    insnBody c .wfi d = e1.setCore c { e1.core c with mode := .running } := by
  have hends : e1.wfiEnds c = e1.setCore c { e1.core c with mode := .running } := if_pos ⟨(wfi_core h he).1, hirq⟩
  rw [insnBody_wfi h he, hends, insnDone_unstepped]
  rw [Device.setCore_core]
  exact (wfi_core h he).2

end

/-- Settles O50: a branch and a jump by their effect, TRAP and the misaligned JALR by their exception, RFE and WFI by `insnBody_rfe` and
the two outcomes of `insnBody_wfi`. -/
theorem controlTransfers : Obligations.ControlTransfers := by
  unfold Obligations.ControlTransfers
  intro s c e h rd ra rb imm a b pc ha hb hpc
  subst ha hb hpc
  have hu : e.unwatched c := h.2.2.2
  refine ⟨fun p i hi => ?branch, fun off => run_eq _ s _ (insnBody_jumps h (i := .jal off) rfl (unwatched_setReg hu 15 _) rfl),
    fun hal => run_eq _ s _ (insnBody_jumps h rfl (unwatched_setReg hu rd _) (insnEffect_jalr_aligned hal)),
    fun hmis => run_eq _ s _ (insnBody_excepts h rfl (insnEffect_jalr_misaligned hmis)),
    fun code => run_eq _ s _ ((insnBody_excepts h (i := .trap code) rfl rfl).trans (insnExc_trap e c _)),
    fun hexl hret => run_eq _ s _ (insnBody_rfe h hexl hret),
    fun hexl => run_eq _ s _ (insnBody_excepts h rfl (insnEffect_rfe_illegal hexl)),
    fun e1 he => ⟨fun hirq => run_eq _ s _ (insnBody_wfi_waits h he hirq), fun hirq => run_eq _ s _ (insnBody_wfi_goesOn h he hirq)⟩⟩
  case branch =>
    obtain ⟨k, hrow, hcond⟩ : ∃ k, exec i s = run (insnBody c (.branch k ra rb imm)) s ∧
        (p ↔ condHolds k ((e.core c).reg ra) ((e.core c).reg rb) = true) := by
      revert p i
      simp only [forall_mem_pairs_cons, forall_mem_pairs_nil]
      exact ⟨⟨.eq, rfl, by simp [condHolds]⟩, ⟨.ne, rfl, by simp [condHolds]⟩, ⟨.lt, rfl, by simp [condHolds]⟩,
        ⟨.ge, rfl, by simp [condHolds]⟩, ⟨.ltu, rfl, by simp [condHolds]⟩, ⟨.geu, rfl, by simp [condHolds]⟩, trivial⟩
    rw [hrow, hcond]
    exact ⟨fun hp => run_eq _ s _ (insnBody_jumps h rfl hu (insnEffect_branch_taken hp)),
      fun hp => run_eq _ s _ (insnBody_goesOn h rfl hu (insnEffect_branch_passed (Bool.eq_false_iff.mpr hp)))⟩

end Sys2Proof.Machine
end

section
/-! PROOFS. Atomics, messages and fences of a core (O52): the effect of each in every region and for every outcome of its request. -/

namespace Sys2Proof.Machine

open Sys2Proof

theorem misalignedAt_eq_false {a : Word} {n : Nat} (h : a.toNat % n = 0) : misalignedAt a n = false := by
  unfold misalignedAt
  split <;> simp [h]

section
variable {d d1 : Device} {c : Fin 2} {rd rb : RegNo} {a w : Word} {ap x : Nat}

/-! ### Atomics (R405) -/

section
variable {op : AtomicOp} {code : Nat} {data : List Byte} (haligned : a.toNat % 8 = 0) (hregion : regionOf a = .aperture ap x)
  (hvalid : d.apValid c ap = true) (hpkt : (d.core c).atomicPacket op rd rb = (code, data))
include haligned hregion hvalid hpkt

theorem insnAtomic_sent {t : Nat} (hissue : d.coreIssue c (.core c.val)
      (d.corePacket 0 code (d.apGlobal c ap x) data.length (d.apAttr c ap) data) = .sent t d1) :
    d.insnAtomic c op rd rb a w = .plain d1 (.wait (.atomic rd.toNat a) (some t)) := by
  simp [Device.insnAtomic, misalignedAt_eq_false haligned, hregion, hvalid, hpkt, hissue]

theorem insnAtomic_refused {st : Nat} (hissue : d.coreIssue c (.core c.val)
      (d.corePacket 0 code (d.apGlobal c ap x) data.length (d.apAttr c ap) data) = .refused st) :
    d.insnAtomic c op rd rb a w = .plain d (.exc (exMesh a ap st)) := by
  simp [Device.insnAtomic, misalignedAt_eq_false haligned, hregion, hvalid, hpkt, hissue]

end

/-! ### Messages (R405) -/

theorem insnMsgSend_posted (hregion : regionOf a = .aperture ap x) (hvalid : d.apValid c ap = true) : d.insnMsgSend c rd rb a =
    { dev := d.corePosted c.val (d.corePacket 2 0x11 (d.apGlobal c ap x) 8 (d.apAttr c ap)
        (bytesLE 4 ((d.core c).reg rd).toNat ++ bytesLE 4 ((d.core c).reg rb).toNat)), eff := .seq
      acc := some (accOf a 8 false true none) } := by
  simp [Device.insnMsgSend, hregion, hvalid]

theorem insnMsgSend_unmapped (hregion : regionOf a = .hole ∨ regionOf a = .itcm ∨ regionOf a = .dtcm) :
    d.insnMsgSend c rd rb a = .plain d (.exc (exBus a busUnmapped)) := by
  obtain h | h | h := hregion <;> simp only [Device.insnMsgSend, h]

/-! ### Fences (R406) -/

theorem insnFence_waits (h : d.coreOutstanding c ≠ 0) (fed : Bool) : d.insnFence c fed = .plain d (.wait .fence none) := if_neg h

section
variable (h : d.coreOutstanding c = 0)
include h

theorem insnFence_done (hfail : (d.core c).fail = none) (fed : Bool) : d.insnFence c fed = .plain d .seq := by
  simp only [Device.insnFence, if_pos h, Device.fenceEnd, hfail]

theorem insnFence_failed {st : Nat} {la : Word} (hfail : (d.core c).fail = some (ap, st, la)) : d.insnFence c false =
    .plain (d.setCore c { d.core c with fail := none })
      (.exc { code := excBus, einfo := la, berr := berrWord ap false st busDeferred }) := by
  simp only [Device.insnFence, if_pos h, Device.fenceEnd, hfail]
  rfl

end
end

/-- Settles O52: each row is `insnBody` of its instruction, with the effect that the lemmas of `insnAtomic`, `insnMsgSend` and
`insnFence` give. -/
theorem meshInstructions : Obligations.MeshInstructions := by
  unfold Obligations.MeshInstructions
  intro s c e h rd ra rb a pc ha hpc
  subst ha hpc
  refine ⟨fun op i hi => ?atomic, fun ap x hr hv e1 he hu => ?msg,
    fun hr => run_eq _ s _ (insnBody_excepts h (i := .msg rd ra rb) rfl (insnMsgSend_unmapped hr)),
    fun hout hfail => run_eq _ s _ (insnBody_goesOn h (i := .mfence) rfl h.2.2.2 (insnFence_done hout hfail false)),
    fun hout => run_eq _ s _ (insnBody_waits h (i := .mfence) rfl (insnFence_waits hout false)),
    fun ap st la hout hfail => run_eq _ s _ (insnBody_excepts h (i := .mfence) rfl (insnFence_failed hout hfail))⟩
  case atomic =>
    have hrow : exec i s = run (insnBody c (.atomic op rd ra rb)) s := by
      revert op i
      simp only [forall_mem_pairs_cons, forall_mem_pairs_nil]
      exact ⟨rfl, rfl, rfl, trivial⟩
    simp only [hrow]
    exact ⟨fun hpair => run_eq _ s _ (insnBody_illegal h hpair), fun hpair hal ap x hr hv code data hpkt iss hiss =>
      ⟨fun t e1 hsent => run_eq _ s _ (insnBody_waits h (i := .atomic op rd ra rb) hpair (insnAtomic_sent hal hr hv hpkt (hiss.trans hsent))),
        fun st href => run_eq _ s _ (insnBody_excepts h (i := .atomic op rd ra rb) hpair (insnAtomic_refused hal hr hv hpkt (hiss.trans href)))⟩⟩
  case msg =>
    subst he
    exact run_eq _ s _ (insnBody_goesOn h (i := .msg rd ra rb) rfl hu (insnMsgSend_posted hr hv))

end Sys2Proof.Machine
end

section
/-! PROOFS. Reservations, control registers and task instructions of a core (O53): what LDX and STX do on an aligned word of the data
memory, and which words are illegal. -/

namespace Sys2Proof.Machine

open Sys2Proof

/-! ### Reservations (R407) -/

section
variable {d d1 : Device} {c : Fin 2} {rd : RegNo} {v a : Word} (haligned : a.toNat % 4 = 0) (hregion : regionOf a = .dtcm)
include haligned hregion

theorem insnLdx_reserves {bs : List Byte} {e : Device} (hread : d.tcmRead c a.toNat 4 = (some bs, d1))
    (he : e = d1.setCore c ((d1.core c).setReg rd (BitVec.ofNat 32 (natLE bs)))) : d.insnLdx c rd a =
      { dev := e.setCore c { e.core c with resv := some (a.toNat / 8) }, eff := .seq
        acc := some (accOf a 4 true false (some (BitVec.ofNat 32 (natLE bs)))) } := by
  have hload := tcmLoad_good (k := .w) (rd := rd) hread
  simp only [Device.insnLdx, misalignedAt_eq_false haligned, hregion, hload, he]
  rfl

theorem insnStx_stores (hresv : (d.core c).resv = some (a.toNat / 8))
    (hwrite : d.tcmWrite c a.toNat (bytesLE 4 v.toNat) = (true, d1)) : d.insnStx c rd v a =
      { dev := d1.setCore c { (d1.core c).setReg rd 0 with resv := none }, eff := .seq
        acc := some (accOf a 4 false true (some (lowBytes 4 v))) } := by
  simp only [Device.insnStx, misalignedAt_eq_false haligned, hregion, hresv, tcmStore_good hwrite]
  rfl

theorem insnStx_unreserved (hresv : (d.core c).resv ≠ some (a.toNat / 8)) :
    d.insnStx c rd v a = .plain (d.setCore c { (d.core c).setReg rd 1 with resv := none }) .seq := by
  simp only [Device.insnStx, misalignedAt_eq_false haligned, hregion]
  exact (if_neg Bool.false_ne_true).trans (if_neg hresv)

end

theorem unwatched_setReg_resv {d : Device} {c : Fin 2} (h : d.unwatched c) (rd : RegNo) (v : Word) (g : Option Nat) :
    (d.setCore c { (d.core c).setReg rd v with resv := g }).unwatched c :=
  unw_set h _ ((setReg_mode ..).trans h.1) ((setReg_stepping ..).trans h.2.1)

theorem unwatched_resv {d : Device} {c : Fin 2} (h : d.unwatched c) (g : Option Nat) :
    (d.setCore c { d.core c with resv := g }).unwatched c := unw_set h _ h.1 h.2.1

/-! ### Task instructions (R424) -/

theorem insnEffect_take {e e1 : Device} {c : Fin 2} {w v : Word} {rd : RegNo} (htake : e.take c.val = (v, e1)) :
    e.insnEffect c false w (.take rd) = e1.insnSet c rd v := by
  simp only [Device.insnEffect, htake]

theorem sleepLegal_iff (n : Word) : sleepLegal n = true ↔ n.toNat < 2 ^ 24 := by
  have h : (n.extractLsb' 24 8).toNat = n.toNat / 2 ^ 24 := by
    rw [BitVec.extractLsb'_toNat, Nat.shiftRight_eq_div_pow]
    exact Nat.mod_eq_of_lt (by omega)
  rw [sleepLegal, beq_iff_eq, ← BitVec.toNat_inj, h]
  simp only [BitVec.ofNat_eq_ofNat, BitVec.toNat_ofNat]
  omega

section
variable {e : Device} {c : Fin 2} {ra : RegNo} {w : Word}

theorem insnEffect_sleep_legal (h : ((e.core c).reg ra).toNat < 2 ^ 24) :
    e.insnEffect c false w (.sleep ra) = .plain (e.sleepTask c.val ((e.core c).reg ra).toNat) .seq :=
  if_pos ((sleepLegal_iff _).mpr h)

theorem insnEffect_sleep_illegal (h : 2 ^ 24 ≤ ((e.core c).reg ra).toNat) :
    e.insnEffect c false w (.sleep ra) = .plain e (.exc (exIllegal w)) :=
  if_neg fun hl => Nat.not_lt.mpr h ((sleepLegal_iff _).mp hl)

end

/-- Settles O53: each row is `insnBody` of its instruction; LDX, STX and SLEEP by their effects above, an unlisted control register by
`insnBody_illegal`. -/
theorem reservationsAndControlRegisters : Obligations.ReservationsAndControlRegisters := by
  unfold Obligations.ReservationsAndControlRegisters
  intro s c e h rd ra rb a pc ha hpc
  subst ha hpc
  have hu := h.2.2.2
  refine ⟨fun hal hr bs e1 hread hu1 e2 he2 => ?ldx,
    fun hal hr hresv e1 hwrite hu1 => run_eq _ s _ (insnBody_goesOn h (i := .stx rd ra rb) rfl (unwatched_setReg_resv hu1 rd 0 none)
      (insnStx_stores hal hr hresv hwrite)),
    fun hal hr hresv => run_eq _ s _ (insnBody_goesOn h (i := .stx rd ra rb) rfl (unwatched_setReg_resv hu rd 1 none)
      (insnStx_unreserved hal hr hresv)),
    fun n hn => ⟨run_eq _ s _ (insnBody_sets h (i := .mfc rd n) hn rfl),
      fun hu1 => run_eq _ s _ (insnBody_goesOn h (i := .mtc ra n) hn hu1 rfl)⟩,
    fun n hn => ⟨run_eq _ s _ (insnBody_illegal h (i := .mfc rd n) hn), run_eq _ s _ (insnBody_illegal h (i := .mtc ra n) hn)⟩,
    fun v e1 htake hu1 => run_eq _ s _ (insnBody_reads h (i := .take rd) rfl hu1 (insnEffect_take htake)),
    fun hu1 => run_eq _ s _ (insnBody_goesOn h (i := .yield) rfl hu1 rfl),
    fun hlt hu1 => run_eq _ s _ (insnBody_goesOn h rfl hu1 (insnEffect_sleep_legal hlt)),
    fun hge => run_eq _ s _ (insnBody_excepts h rfl (insnEffect_sleep_illegal hge))⟩
  case ldx =>
    have hu2 : e2.unwatched c := he2 ▸ unwatched_setReg hu1 rd _
    exact run_eq _ s _ (insnBody_goesOn h (i := .ldx rd ra) rfl (unwatched_resv hu2 _) (insnLdx_reserves hal hr hread he2))

end Sys2Proof.Machine
end

section
/-! PROOFS. Events of a core (O54): interrupts, the timer, the watchdog, the write of HOLD, and the sweeps and upsets of its memories. -/

namespace Sys2Proof.Machine

open Sys2Proof

section
variable {d : Device} {c : Fin 2}

/-! ### Interrupts and the timer (R399, R411) -/

theorem interruptBody_takes {src : Nat} (hmode : (d.core c).mode = .running) (hirq : d.irqNow c = some src) :
    interruptBody c d = d.takeExc c { code := excIrq, einfo := BitVec.ofNat 32 src, berr := 0 } (d.core c).pc := by
  have hends : d.wfiEnds c = d := if_neg (by simp [hmode])
  simp only [interruptBody, hends, hmode, hirq]
  rfl

theorem timerMatchBody_reaches {cmp : Nat} (hcmp : cmp = ((d.core c).cr 14).toNat + ((d.core c).cr 15).toNat * 2 ^ 32)
    (hmode : (d.core c).mode ≠ .reset) (hclock : d.coreClock = true) (hlt : (d.core c).cycle.toNat < cmp) :
    timerMatchBody c d = d.setCore c { d.core c with cycle := BitVec.ofNat 64 cmp } := by
  subst hcmp
  exact (if_neg (by simp [hmode, hclock])).trans (if_pos hlt)

/-! ### The watchdog (R412, R413) -/

theorem wdExpireBody_resets {e : Device} (hen : d.flag (.tcore c) fTcoreWdCtrlEn = true) (hclock : d.coreClock = true)
    (hpolicy : (d.core c).mode ≠ .halted ∨ d.flag (.tcore c) fTcoreWdCtrlWdDebugPolicy = true) {f : Device}
    (hf : f = ((d.raise (.tcore c) cTcoreWdExpired).count (.tcore c) 5).coreReset c)
    (he : e = f.put (.tcore c) fTcoreWdCount (f.rd (.tcore c) fTcoreWdLoad))
    (hhold : e.flag (.tcore c) fTcoreCoreCtrlHold = false) : wdExpireBody c d = e.coreStart c := by
  subst hf he
  refine (if_neg (by simp [hen, hclock])).trans ((if_neg ?_).trans (if_neg (by simp [hhold])))
  obtain h | h := hpolicy <;> simp [h]

/-! ### HOLD (R414) -/

/-- A row that writes the first place of a field writes that register of the page that holds it. -/
theorem page_write {rq : Requester} {pg b : PageRef} (h : d.takes rq pg b) (f : Fld) (w : Word) (hlo : 0x40 ≤ f.off)
    (hhi : f.off < 0x1000) : regWriteBody rq (regAt pg f) w d = d.blockWrite b f.off w := by
  rw [← Fld.at_zero] at hlo hhi ⊢
  exact takes_fld h f 0 w hlo hhi

theorem tcoreWrite_hold (d : Device) (c : Fin 2) (w : Word) : d.tcoreWrite c fTcoreCoreCtrlHold.off w =
    (d.fieldsWrite (.tcore c) fTcoreCoreCtrlHold.off w fun _ => false).holdWritten c (d.flag (.tcore c) fTcoreCoreCtrlHold) := by
  unfold Device.tcoreWrite
  exact (if_neg (show fTcoreCoreCtrlHold.off ≠ fTcorePeepRxWord.off by decide)).trans (if_pos rfl)

/-- A write of a one-bit field takes every value of its width. -/
theorem fieldWrite_bit {pg : PageRef} {f : Fld} (hty : f.ty = .rw) (hmin : f.minV = 0) (hmax : f.maxV = 1) (d : Device) (i : Nat)
    {v : Nat} (hv : v ≤ 1) : d.fieldWrite pg f i v = d.put pg f v i := by
  simp [Device.fieldWrite, hty, hmin, hmax, hv]

/-- The write of HOLD puts its bit, and then does what the change asks for. -/
theorem hold_write {rq : Requester} (h : d.takes rq (.tcore c) (.tcore c)) (b : Bool) :
    regWriteBody rq (regAt (.tcore c) fTcoreCoreCtrlHold) (BitVec.ofNat 32 b.toNat) d =
      (d.put (.tcore c) fTcoreCoreCtrlHold b.toNat).holdWritten c (d.flag (.tcore c) fTcoreCoreCtrlHold) := by
  have hone : (fieldsAt (.tcore c) fTcoreCoreCtrlHold.off).filter Fld.takesWrites = [fTcoreCoreCtrlHold] := rfl
  have hbit : bitsOf (BitVec.ofNat 32 b.toNat) fTcoreCoreCtrlHold.lo fTcoreCoreCtrlHold.width = b.toNat := by cases b <;> rfl
  rw [page_write h _ _ (by decide) (by decide), Device.blockWrite, tcoreWrite_hold, fieldsWrite_one hone (by decide), hbit,
    fieldWrite_bit rfl rfl rfl d 0 (Bool.toNat_le b)]

section
variable {rq : Requester} (h : d.takes rq (.tcore c) (.tcore c))
include h

theorem holdBody_resets (hbefore : d.flag (.tcore c) fTcoreCoreCtrlHold = false) :
    regWriteBody rq (regAt (.tcore c) fTcoreCoreCtrlHold) 1 d = (d.raise (.tcore c) fTcoreCoreCtrlHold).coreReset c := by
  have hnow : (d.raise (.tcore c) fTcoreCoreCtrlHold).flag (.tcore c) fTcoreCoreCtrlHold = true :=
    flag_raise d _ _ 0 (by decide) (by decide)
  refine (hold_write h true).trans (if_pos ?_)
  rw [hbefore]
  exact (Bool.and_true _).trans hnow

theorem holdReleaseBody_starts {e : Device} (he : e = (d.lower (.tcore c) fTcoreCoreCtrlHold).coreStart c)
    (hbefore : d.flag (.tcore c) fTcoreCoreCtrlHold = true) : regWriteBody rq (regAt (.tcore c) fTcoreCoreCtrlHold) 0 d =
      if e.dbgFlag c fDbgcRunCtrlHaltOnReset then e.halt c haltReset 0 else e := by
  have hnow : (d.lower (.tcore c) fTcoreCoreCtrlHold).flag (.tcore c) fTcoreCoreCtrlHold = false := flag_lower d _ _ 0 (by decide)
  subst he
  refine (hold_write h false).trans ?_
  rw [hbefore]
  exact (if_neg (by simp)).trans (if_pos (congrArg (!·) hnow))

end

/-! ### Sweeps and upsets (R404, R420) -/

section
variable {w : BitVec 14}

theorem tcmSweepBody_tcm (hclock : d.coreClock = true) (m : Fin 2) :
    tcmSweepBody (.tcm c m) w d = (d.tcmRead c (0x20000 * m.val + 8 * w.toNat) 8).2 := if_neg (by simp [hclock])

theorem tcmSweepBody_porter (hclock : d.coreClock = true) (hw : w.toNat < 8192) :
    tcmSweepBody .porter w d = (d.porterRead (8 * w.toNat) 8).2 := (if_neg (by simp [hclock])).trans (if_pos hw)

theorem tcmUpsetBody_porter (hw : w.toNat < 8192) (bit : Fin 72) :
    tcmUpsetBody .porter w bit d = { d with porterRam := ramFlip d.porterRam w.toNat bit.val } := if_pos hw

end
end

/-- Settles O54: each row is the body that its lemma names; HOLD and its release are the write of HOLD. -/
theorem coreEvents : Obligations.CoreEvents := by
  unfold Obligations.CoreEvents
  intro s c
  refine ⟨fun src hmode hirq => run_eq _ s _ (interruptBody_takes hmode hirq),
    fun cmp hcmp hmode hclock hlt => run_eq _ s _ (timerMatchBody_reaches hcmp hmode hclock hlt),
    fun d hd hen hclock hpolicy e he hhold => run_eq _ s _ (wdExpireBody_resets hen hclock hpolicy hd he hhold),
    fun rq h => ⟨fun hbefore => run_eq _ s _ (holdBody_resets h hbefore),
      fun e he hbefore hgo => run_eq _ s _ ((holdReleaseBody_starts h he hbefore).trans (if_neg (Bool.eq_false_iff.mp hgo))),
      fun e he hbefore hhalt => run_eq _ s _ ((holdReleaseBody_starts h he hbefore).trans (if_pos hhalt))⟩,
    fun m w => ⟨fun hclock => run_eq _ s _ (tcmSweepBody_tcm hclock m),
      fun hclock hw => run_eq _ s _ (tcmSweepBody_porter hclock hw),
      fun bit => ⟨run_eq _ s _ rfl, fun hw => run_eq _ s _ (tcmUpsetBody_porter hw bit)⟩⟩⟩

end Sys2Proof.Machine
end

section
/-! PROOFS. Tasks of the porter (O55): the word of a task command names its operands, and what each command does in each state of a
task whose descriptor is good. -/

namespace Sys2Proof.Machine

open Sys2Proof

/-! ### TASK_CMD (R423) -/

theorem bitsOf_ofNat {n lo k : Nat} (hn : n < 2 ^ 32) : bitsOf (BitVec.ofNat 32 n) lo k = n / 2 ^ lo % 2 ^ k := by
  rw [bitsOf, BitVec.extractLsb'_toNat, BitVec.toNat_ofNat, Nat.mod_eq_of_lt hn, Nat.shiftRight_eq_div_pow]

section
variable {d : Device}

theorem porterRegWrite_taskCmd {w : Word} {t prio op : Nat} (ht : bitsOf w 0 10 = t) (hprio : bitsOf w 10 5 = prio)
    (hop : bitsOf w 16 3 = op) (hlisted : 1 ≤ op ∧ op ≤ 4) : d.porterRegWrite fPorterTaskCmdTask.off w = d.taskCmd t prio op := by
  subst ht hprio hop
  exact (if_pos rfl).trans (if_pos hlisted)

/-- A row that writes TASK_CMD is the command that its word names. -/
theorem taskCmd_write {rq : Requester} (h : d.takes rq .porter .porter) (t : Task) (prio : BitVec 5) {op : Nat}
    (hlisted : 1 ≤ op ∧ op ≤ 4) : regWriteBody rq (regAt .porter fPorterTaskCmdTask)
      (BitVec.ofNat 32 (t.toNat + prio.toNat * 2 ^ 10 + op * 2 ^ 16)) d = d.taskCmd t.toNat prio.toNat op := by
  have ht := t.isLt
  have hp := prio.isLt
  have hn : t.toNat + prio.toNat * 2 ^ 10 + op * 2 ^ 16 < 2 ^ 32 := by omega
  rw [page_write h _ _ (by decide) (by decide)]
  refine porterRegWrite_taskCmd ?_ ?_ ?_ hlisted
  · rw [bitsOf_ofNat hn]
    omega
  · rw [bitsOf_ofNat hn]
    omega
  · rw [bitsOf_ofNat hn]
    omega

theorem taskCmd_write_plain {rq : Requester} (h : d.takes rq .porter .porter) (t : Task) {op : Nat} (hlisted : 1 ≤ op ∧ op ≤ 4) :
    regWriteBody rq (regAt .porter fPorterTaskCmdTask) (BitVec.ofNat 32 (t.toNat + op * 2 ^ 16)) d = d.taskCmd t.toNat 0 op := by
  simpa using taskCmd_write h t 0 hlisted

end

/-! ### What a command does to a task with a good descriptor (R421 to R423) -/

section
variable {d : Device} {t : Nat} (hgood : eccVerdict (sget ramDflt d.porterRam (8 * t)) = .good)
include hgood

theorem descCheck_good : d.descCheck t = d := by
  unfold Device.descCheck
  rw [hgood]

theorem taskCmd_activate : d.taskCmd t 0 1 = if d.taskState t = tFree then d.setState t tBlocked else d.cmdRefused := by
  simp only [Device.taskCmd, descCheck_good hgood]
  rfl

theorem taskCmd_post : d.taskCmd t 0 2 = if d.taskState t = tFree then d.cmdRefused else (d.event t 0).1 := by
  simp only [Device.taskCmd, descCheck_good hgood]
  rfl

theorem taskCmd_retire : d.taskCmd t 0 3 = if d.taskState t = tBlocked ∨ d.taskState t = tReady ∨ d.taskState t = tDelayed then
    ((d.unlist t).leaveSlot t).setState t tFree else d.cmdRefused := by
  simp only [Device.taskCmd, descCheck_good hgood]
  rfl

theorem taskCmd_setPrio (prio : Nat) : d.taskCmd t prio 4 =
    if d.taskState t = tFree ∨ d.taskState t = tRunning then d.cmdRefused
    else if d.taskState t = tReady then ((d.unlist t).setTask t 0 5 prio).setReady prio
      (((d.unlist t).setTask t 0 5 prio).readyList prio ++ [t])
    else d.setTask t 0 5 prio := by
  simp only [Device.taskCmd, descCheck_good hgood]
  rfl

theorem taskCmd_setPrio_waiting (h : d.taskState t = tBlocked ∨ d.taskState t = tDelayed) (prio : Nat) :
    d.taskCmd t prio 4 = d.setTask t 0 5 prio := by
  rw [taskCmd_setPrio hgood]
  obtain h | h := h <;> rw [h] <;> rfl

theorem taskCmd_setPrio_ready (h : d.taskState t = tReady) (prio : Nat) {e : Device} (he : e = (d.unlist t).setTask t 0 5 prio) :
    d.taskCmd t prio 4 = e.setReady prio (e.readyList prio ++ [t]) := by
  rw [taskCmd_setPrio hgood, h, he]
  rfl

/-! ### Events (R426, R431) -/

theorem event_blocked (h : d.taskState t = tBlocked) (ev : Nat) :
    (d.event t ev).1 = ((d.setTaskWord t 3 ev).makeReady t).porterRecord kReady none false (some t) 0 := by
  simp only [Device.event, descCheck_good hgood, if_pos h]

theorem event_pends (h : d.taskState t = tReady ∨ d.taskState t = tRunning) (ev : Nat) : (d.event t ev).1 = d.pend t ev := by
  have hb : d.taskState t ≠ tBlocked := by
    obtain h | h := h <;> rw [h] <;> decide
  simp only [Device.event, descCheck_good hgood, if_neg hb, if_pos h]

section
variable (h : d.taskState t = tDelayed)
include h

theorem event_delayed_due (hdue : d.wakeDue t = true) (ev : Nat) : (d.event t ev).1 = (d.expire t).pend t ev := by
  simp only [Device.event, descCheck_good hgood, h, hdue]
  rfl

theorem event_delayed_early (hdue : d.wakeDue t = false) (ev : Nat) : (d.event t ev).1 =
    (((d.unlist t).setTaskWord t 3 ev).makeReady t).porterRecord kReady none false (some t) 0 := by
  simp only [Device.event, descCheck_good hgood, h, hdue]
  rfl

end
end

/-! ### The tick, expiry and the trace (R422, R427, R429) -/

section
variable {d : Device}

theorem porterTickBody_counts (hclock : d.coreClock = true) : porterTickBody d = d.put .porter fPorterTickCount (d.tick + 1) :=
  if_pos hclock

theorem delayExpiryBody_due {t : Nat} (hclock : d.coreClock = true) (hfind : (d.porter.delay.find? fun t => d.wakeDue t) = some t)
    (hgood : eccVerdict (sget ramDflt d.porterRam (8 * t)) = .good) (hst : d.taskState t = tDelayed) :
    delayExpiryBody d = d.expire t := by
  simp only [delayExpiryBody, hclock, hfind, descCheck_good hgood]
  exact if_pos hst

theorem descBadBody_bad {t : Task} (hbad : eccVerdict (sget ramDflt d.porterRam (8 * t.toNat)) = .bad) :
    descBadBody t d = d.descBad t.toNat := if_pos hbad

/-- A write of TRACE_CTRL with STREAM 0 writes out the burst of a stream under way. -/
theorem traceFlush_write {rq : Requester} (h : d.takes rq .porter .porter) (w : Word) :
    regWriteBody rq (regAt .porter fPorterTraceCtrlEn) (w &&& ~~~(2 : Word)) d =
      (if d.flag .porter fPorterTraceCtrlStream then d.traceBurst else d).fieldsWrite .porter fPorterTraceCtrlEn.off
        (w &&& ~~~(2 : Word)) (fun _ => false) := by
  have hbit : (w &&& ~~~(2 : Word)).getLsbD 1 = false := by simp
  have hwrite : d.porterRegWrite fPorterTraceCtrlEn.off (w &&& ~~~(2 : Word)) = _ :=
    (if_neg (show fPorterTraceCtrlEn.off ≠ fPorterTaskCmdTask.off by decide)).trans (if_pos rfl)
  rw [page_write h _ _ (by decide) (by decide), Device.blockWrite, hwrite]
  simp only [hbit, Bool.not_false, Bool.and_true, Bool.and_false, Bool.false_eq_true, if_false]
  rfl

end

/-- Settles O55: a row of TASK_CMD is its command (`taskCmd_write`), which acts by the state of the task; the events are the bodies that
their lemmas name. -/
theorem porterTasks : Obligations.PorterTasks := by
  unfold Obligations.PorterTasks
  refine ⟨fun s rq t h hgood st hst => ?_, fun s hclock => ⟨run_eq _ s _ (porterTickBody_counts hclock),
    fun t hfind hgood hst e he => run_eq _ s _ (he ▸ delayExpiryBody_due hclock hfind hgood hst)⟩,
    fun s t hbad => run_eq _ s _ (descBadBody_bad hbad),
    fun s rq w h e he hu => runChecked_eq _ s e ((traceFlush_write h w).trans he.symm) hu⟩
  have activate {e} he := run_eq _ s e ((taskCmd_write_plain h t (op := 1) (by decide)).trans ((taskCmd_activate hgood).trans he))
  have post {e} he := run_eq _ s e ((taskCmd_write_plain h t (op := 2) (by decide)).trans ((taskCmd_post hgood).trans he))
  have retire {e} he := run_eq _ s e ((taskCmd_write_plain h t (op := 3) (by decide)).trans ((taskCmd_retire hgood).trans he))
  have setPrio {e} prio he := run_eq _ s e ((taskCmd_write h t prio (op := 4) (by decide)).trans he)
  subst hst
  have posted (hfree : s.dev.taskState t.toNat ≠ tFree) {e} (he : (s.dev.event t.toNat 0).1 = e) := post ((if_neg hfree).trans he)
  refine ⟨fun hst => ⟨activate (if_pos hst), post (if_pos hst), retire (if_neg (by rw [hst]; decide)),
      fun prio => setPrio prio ((taskCmd_setPrio hgood _).trans (if_pos (.inl hst)))⟩,
    fun hst => activate (if_neg hst), fun hst => posted (by rw [hst]; decide) (event_blocked hgood hst 0),
    fun hst => posted (by obtain hst | hst := hst <;> rw [hst] <;> decide) (event_pends hgood hst 0),
    fun hst => ⟨fun hdue => posted (by rw [hst]; decide) (event_delayed_due hgood hst hdue 0),
      fun hdue => posted (by rw [hst]; decide) (event_delayed_early hgood hst hdue 0)⟩,
    fun hst => retire (if_pos hst), fun hst => ⟨retire (if_neg (by rw [hst]; decide)),
      fun prio => setPrio prio ((taskCmd_setPrio hgood _).trans (if_pos (.inr hst)))⟩,
    fun hst prio => setPrio prio (taskCmd_setPrio_waiting hgood hst _),
    fun d prio hst hd => setPrio prio (taskCmd_setPrio_ready hgood hst _ hd)⟩

end Sys2Proof.Machine
end

section
/-! PROOFS. The owner of the DBG page (O13): who may write its block registers, and what a claim and a release do. -/

namespace Sys2Proof.Machine

open Sys2Proof

section
variable {d : Device} {p : DbgPort} {o : Nat}

/-- A requester that is no debug port meets the conflict, whatever it writes. -/
theorem regWriteBody_dbg_stranger {rq : Requester} (hport : rq ≠ .debugPort) (hwindow : rq ≠ .debugWindow)
    (h : d.reaches rq .dbg) (w : Word) (hlo : 0x40 ≤ o) (hhi : o < 0x1000) :
    regWriteBody rq (pageBase .dbg + o) w d = d.raise .dbg cDbgDbgConflict := by
  obtain ⟨hbar, hans, hmay⟩ := h
  have h40 : ¬ o < 0x40 := by omega
  have hplain : d.mgmtWrite rq (pageBase .dbg + o) w = d.mgmtWrite0 rq (pageBase .dbg + o) w := by
    cases rq with
    | debugPort => exact absurd rfl hport
    | debugWindow => exact absurd rfl hwindow
    | _ => rfl
  have hwrite : d.mgmtWrite0 rq (pageBase .dbg + o) w = some (d.raise .dbg cDbgDbgConflict) := by
    unfold Device.mgmtWrite0
    rw [pageOf_pageBase .dbg o hhi, pageBase_add_mod .dbg o hhi]
    cases rq with
    | bar2 b => exact absurd rfl (hbar b)
    | _ =>
      simp only [hans, hmay, h40, if_false]
      rfl
  simp only [regWriteBody, hplain, hwrite, Option.getD_some]

/-- A port that the page answers reaches its block registers. -/
theorem regWriteBody_dbg_port (hans : p = .window → d.answers .debugWindow .dbg = true) (w : Word) (hlo : 0x40 ≤ o) (hhi : o < 0x1000) :
    regWriteBody (portRequester p) (pageBase .dbg + o) w d = (d.dbgWrite p o w).2 := by
  obtain ⟨hblock, hoff⟩ := dbgBlock_at o hlo hhi
  unfold regWriteBody Device.mgmtWrite
  cases p with
  | port => simp only [portRequester, hblock, hoff, if_true]; rfl
  | window => simp only [portRequester, hblock, hoff, if_true, hans rfl]; rfl

theorem dbgWrite_foreign (howned : d.rd .dbg fDbgOwner ≠ 0) (hother : d.rd .dbg fDbgOwner ≠ portCode p) (w : Word) :
    d.dbgWrite p o w = (false, d.raise .dbg cDbgDbgConflict) := by
  have h : d.dbgWrite0 p o w = (false, d.raise .dbg cDbgDbgConflict) := if_pos ⟨howned, hother⟩
  unfold Device.dbgWrite
  rw [h]
  rfl

/-- A write by a port that may write the page, at a register other than MAP_CTRL. -/
theorem dbgWrite_offMap (hfree : d.rd .dbg fDbgOwner = 0 ∨ d.rd .dbg fDbgOwner = portCode p) (w : Word) (ho : o ≠ 0x4C) :
    d.dbgWrite p o w =
      if o = 0x040 then (true, d.ownerWrite p w)
      else if o = 0x05C then (true, d.memCtrl w)
      else if 0x100 ≤ o ∧ o < 0x300 then d.dbgCoreWrite (Fin.ofNat 2 ((o - 0x100) / 0x100)) (o % 0x100) w
      else (true, d.fieldsWrite .dbg o w fun _ => false) := by
  have hmine : ¬ (d.rd .dbg fDbgOwner ≠ 0 ∧ d.rd .dbg fDbgOwner ≠ portCode p) := fun ⟨h0, h1⟩ => hfree.elim h0 h1
  have hnot : (o == 0x4C) = false := by simp [ho]
  unfold Device.dbgWrite
  simp only [hnot, Bool.and_false, Bool.false_and, Bool.false_eq_true, if_false]
  unfold Device.dbgWrite0
  simp only [if_neg hmine, if_neg ho]

theorem dbgWrite_owner (hfree : d.rd .dbg fDbgOwner = 0 ∨ d.rd .dbg fDbgOwner = portCode p) (w : Word) :
    (d.dbgWrite p 0x40 w).2 = d.ownerWrite p w := by
  rw [dbgWrite_offMap hfree w (by decide)]
  rfl

theorem ownerWrite_claims (hfree : d.rd .dbg fDbgOwner = 0) {w : Word} (hclaim : w.getLsbD 2 = true) :
    d.ownerWrite p w = d.put .dbg fDbgOwner (portCode p) :=
  (if_pos hfree).trans (if_pos hclaim)

theorem ownerWrite_releases (howned : d.rd .dbg fDbgOwner ≠ 0) {w : Word} (hrelease : w.getLsbD 3 = true) :
    d.ownerWrite p w = d.put .dbg fDbgOwner 0 :=
  (if_neg howned).trans (if_pos hrelease)

theorem popAt_dbg (o : Nat) : popAt .dbg o = none := by
  simp [popAt]

theorem mgmtRead_dbg {rq : Requester} (hbar : ∀ b, rq ≠ .bar2 b) (hans : d.answers rq .dbg = true) (peek : Bool) (hhi : o < 0x1000) :
    (d.mgmtRead rq peek (pageBase .dbg + o)).1 = d.pageRead .dbg o := by
  unfold Device.mgmtRead
  rw [pageOf_pageBase .dbg o hhi, pageBase_add_mod .dbg o hhi]
  cases rq with
  | bar2 b => exact absurd rfl (hbar b)
  | _ => simp [hans, popAt_dbg]

end

/-- Settles O13: strangers meet the conflict in `blockWrite`, ports reach `dbgWrite`, which asks for the owner first. -/
theorem debugPageKeepsItsOwner : Obligations.DebugPageKeepsItsOwner := by
  unfold Obligations.DebugPageKeepsItsOwner
  intro s off o w hoff hword hlo hhi
  have hrow : ∀ rq, registerWriteBody rq off 4 w s.dev = regWriteBody rq (pageBase .dbg + o) w s.dev :=
    fun rq => registerWriteBody_aligned hoff hword hhi rq w s.dev
  refine ⟨fun rq hport hwindow h hu => ?_, fun p hans => ⟨fun howned hother hu => ?_, fun hfree hu => ?_, ?_, ?_⟩,
    fun rq peek hbar hans => mgmtRead_dbg hbar hans peek hhi⟩
  · exact runChecked_eq _ s _ ((hrow rq).trans (regWriteBody_dbg_stranger hport hwindow h w hlo hhi)) hu
  · refine runChecked_eq _ s _ ((hrow _).trans ((regWriteBody_dbg_port hans w hlo hhi).trans ?_)) hu
    rw [dbgWrite_foreign howned hother]
  · exact runChecked_eq _ s _ ((hrow _).trans (regWriteBody_dbg_port hans w hlo hhi)) hu
  · rintro rfl hfree hclaim
    rw [dbgWrite_owner (.inl hfree), ownerWrite_claims hfree hclaim]
  · rintro rfl howned hmine hrelease
    rw [dbgWrite_owner (.inr hmine), ownerWrite_releases howned hrelease]

end Sys2Proof.Machine
end

section
/-! PROOFS. Debuggers (O56): what a port that may use the DBG page begins at it and does to a core. -/

namespace Sys2Proof.Machine

open Sys2Proof

/-- What needs a halted core is refused at a sealed one. -/
theorem haltedWrite_sealed {d : Device} {c : Fin 2} (hsealed : d.coreSealed c = true) (f : Device → Device) :
    d.haltedWrite c f = (false, d.raise .dbg cDbgSealedRefused) := if_pos hsealed

theorem haltedWrite_ready {d : Device} {c : Fin 2} (hopen : d.coreSealed c = false) (hready : d.feedReady c = true)
    (f : Device → Device) : d.haltedWrite c f = (true, f d) :=
  (if_neg (Bool.eq_false_iff.mp hopen)).trans (if_pos hready)

section
variable {d : Device} {p : DbgPort} (h : d.debugs p)
include h

theorem claimBody_claims (hfree : d.rd .dbg fDbgOwner = 0) : claimBody p d = d.put .dbg fDbgOwner (portCode p) := by
  rw [claimBody, dbgRow_eq h _ _ (by decide) (by decide), dbgWrite_owner h.1, ownerWrite_claims hfree (by decide)]

theorem releaseBody_releases (hmine : d.rd .dbg fDbgOwner = portCode p) : releaseBody p d = d.put .dbg fDbgOwner 0 := by
  have howned : d.rd .dbg fDbgOwner ≠ 0 := by rw [hmine]; cases p <;> decide
  rw [releaseBody, dbgRow_eq h _ _ (by decide) (by decide), dbgWrite_owner h.1, ownerWrite_releases howned (by decide)]

theorem mapGoBody_accesses (write : Bool) : mapGoBody p write d = d.mapAccess p write := by
  have hmine : ¬ (d.rd .dbg fDbgOwner ≠ 0 ∧ d.rd .dbg fDbgOwner ≠ portCode p) := fun ⟨h0, h1⟩ => h.1.elim h0 h1
  have hnothing (w : Word) : d.dbgWrite0 p 0x4C w = (true, d) := (if_neg hmine).trans rfl
  have hgo (w : Word) : (d.dbgWrite p 0x4C w).2 = if w.getLsbD 2 then d.mapAccess p (w.getLsbD 3) else d := by
    unfold Device.dbgWrite
    rw [hnothing]
    cases w.getLsbD 2 <;> rfl
  rw [mapGoBody, dbgRow_eq h _ _ (by decide) (by decide), hgo]
  cases write <;> rfl

theorem memGoBody_issues {write : Bool} {size : BitVec 2} {e : Device} (hidle : d.memBusy = false)
    (he : e = d.fieldsWrite .dbg 0x05C (BitVec.ofNat 32 (1 + 2 * write.toNat + 4 * size.toNat)) (fun _ => false)) :
    memGoBody p write size d = ((e.lower .dbg fDbgMemCtrlDone).put .dbg fDbgMemCtrlStatus 0).memIssue := by
  subst he
  have hgo : (BitVec.ofNat 32 (1 + 2 * write.toNat + 4 * size.toNat)).getLsbD 0 = true := by
    revert write size; decide
  rw [memGoBody, dbgRow_eq h _ _ (by decide) (by decide), dbgWrite_offMap h.1 _ (by decide)]
  exact (if_neg (by simp [hidle])).trans (if_pos hgo)

/-! ### The registers of a core -/

/-- Every register of a core in the DBG page is written by `dbgCoreWrite` at its offset. -/
theorem dbgRow_core (c : Fin 2) {r : Nat} (hr : r < 0x100) (w : Word) : dbgRow p (dbgCore c + r) w d = (d.dbgCoreWrite c r w).2 := by
  have hc : dbgCore c = 0x100 + 0x100 * c.val := rfl
  have hlo : 0x100 ≤ dbgCore c + r := by omega
  have hhi : dbgCore c + r < 0x300 := by omega
  have hcore : Fin.ofNat 2 ((dbgCore c + r - 0x100) / 0x100) = c := by
    apply Fin.ext
    show (dbgCore c + r - 0x100) / 0x100 % 2 = c.val
    omega
  have hreg : (dbgCore c + r) % 0x100 = r := by omega
  rw [dbgRow_eq h _ _ (by omega) (by omega), dbgWrite_offMap h.1 _ (by omega), if_neg (by omega), if_neg (by omega),
    if_pos ⟨hlo, hhi⟩, hcore, hreg]

/-- RUN_CTRL takes its fields and then does what its command bits ask for. -/
theorem runCtrlBody_eq (c : Fin 2) (bits : Nat) {w : Word} (hw : w = d.word (0xA000 + dbgCore c) ||| BitVec.ofNat 32 bits) :
    runCtrlBody p c bits d = ((d.fieldsWrite .dbg (dbgCore c) w fun _ => false).runWrite c w).2 := by
  subst hw
  exact dbgRow_core h c (r := 0) (by decide) _

theorem regDataBody_sealed {c : Fin 2} (hsealed : d.coreSealed c = true) (w : Word) :
    regDataBody p c w d = d.raise .dbg cDbgSealedRefused :=
  (dbgRow_core h c (by decide) w).trans (congrArg Prod.snd (haltedWrite_sealed hsealed fun d => d.regDataWrite c w))

theorem traceEnableBody_sealed {c : Fin 2} (hsealed : d.coreSealed c = true) (w : Word) :
    traceEnableBody p c w d = d.raise .dbg cDbgSealedRefused :=
  (dbgRow_core h c (by decide) w).trans (congrArg Prod.snd (if_pos hsealed))

theorem peepAckBody_pops (c : Fin 2) : peepAckBody p c d = d.peepTxPop c := dbgRow_core h c (by decide) 1

section
variable {c : Fin 2} (hopen : d.coreSealed c = false)

theorem haltReqBody_halts {e : Device} (he : e = d.fieldsWrite .dbg (dbgCore c) (d.word (0xA000 + dbgCore c) ||| 1) (fun _ => false))
    (hunsealed : e.coreSealed c = false) : haltReqBody p c d = e.halt c haltReq 0 := by
  subst he
  refine (runCtrlBody_eq h c 1 rfl).trans (congrArg Prod.snd ((if_pos ?_).trans (if_neg (Bool.eq_false_iff.mp hunsealed))))
  rw [BitVec.getLsbD_or]
  exact Bool.or_true _

theorem resumeBody_resumes {e : Device} (he : e = d.fieldsWrite .dbg (dbgCore c) (d.word (0xA000 + dbgCore c) ||| 2) (fun _ => false))
    (hnohalt : (d.word (0xA000 + dbgCore c)).getLsbD 0 = false) : resumeBody p c d = e.coreResume c true := by
  subst he
  refine (runCtrlBody_eq h c 2 rfl).trans (congrArg Prod.snd ((if_neg ?_).trans (if_pos ?_)))
  · rw [BitVec.getLsbD_or, hnohalt]
    decide
  · rw [BitVec.getLsbD_or]
    exact Bool.or_true _

theorem stepBody_steps {e : Device} (he : e = d.fieldsWrite .dbg (dbgCore c) (d.word (0xA000 + dbgCore c) ||| 4) (fun _ => false))
    (hunsealed : e.coreSealed c = false) (hnohalt : (d.word (0xA000 + dbgCore c)).getLsbD 0 = false)
    (hnoresume : (d.word (0xA000 + dbgCore c)).getLsbD 1 = false) : stepBody p c d = e.stepCore c := by
  subst he
  refine (runCtrlBody_eq h c 4 rfl).trans (congrArg Prod.snd
    ((if_neg ?_).trans ((if_neg ?_).trans ((if_pos ?_).trans (if_neg (Bool.eq_false_iff.mp hunsealed))))))
  · rw [BitVec.getLsbD_or, hnohalt]
    decide
  · rw [BitVec.getLsbD_or, hnoresume]
    decide
  · rw [BitVec.getLsbD_or]
    exact Bool.or_true _

include hopen

theorem regDataBody_writes (hready : d.feedReady c = true) (w : Word) : regDataBody p c w d = d.regDataWrite c w :=
  (dbgRow_core h c (by decide) w).trans (congrArg Prod.snd (haltedWrite_ready hopen hready fun d => d.regDataWrite c w))

theorem feedBody_feeds (hready : d.feedReady c = true) (hclock : d.coreClock = true) (w : Word) :
    feedBody p c w d = d.feedWord c w :=
  (dbgRow_core h c (by decide) w).trans ((congrArg Prod.snd
    (haltedWrite_ready hopen hready fun d => if d.coreClock then d.feedWord c w else d)).trans (if_pos hclock))

theorem traceEnableBody_enables (w : Word) : traceEnableBody p c w d =
    (d.fieldsWrite .dbg (dbgCore c + 0xA0) w fun _ => false).traceEnabled c (d.dbgFlag c fDbgcTraceCtrlEn) :=
  (dbgRow_core h c (by decide) w).trans (congrArg Prod.snd (if_neg (Bool.eq_false_iff.mp hopen)))

end
end

/-! ### The peephole and the comparators -/

theorem peepRx_writes {d : Device} {rq : Requester} {c : Fin 2} (h : d.takes rq (.tcore c) (.tcore c)) (w : Word) :
    regWriteBody rq (regAt (.tcore c) fTcorePeepRxWord) w d = d.peepRxWrite c w := by
  rw [page_write h _ _ (by decide) (by decide), Device.blockWrite, Device.tcoreWrite]
  exact if_pos rfl

theorem compMatchBody_acts {d : Device} {c : Fin 2} {i : Fin 8} {x : CompAccess} (hmode : (d.core c).mode = .running)
    (hfresh : (d.core c).acted.contains i.val = false) (hdata : 4 ≤ i.val) (hmatch : d.dataMatch c i.val x = true) :
    compMatchBody c i x d = (d.compAct c [i.val] (d.core c).pc).2 := by
  have hnot : ¬ i.val < 4 := by omega
  unfold compMatchBody
  simp only [hmode, hfresh, hnot, hmatch, if_true, if_false]
  simp

/-- Settles O56: each row is a write of its register of the DBG page, which the port may make. -/
theorem debuggersControlCores : Obligations.DebuggersControlCores := by
  unfold Obligations.DebuggersControlCores
  intro s p h
  refine ⟨fun hfree => run_eq _ s _ (claimBody_claims h hfree), fun hmine => run_eq _ s _ (releaseBody_releases h hmine),
    fun write e he hu => runChecked_eq _ s _ ((mapGoBody_accesses h write).trans he.symm) hu,
    fun write size d hidle hd => run_eq _ s _ (memGoBody_issues h hidle hd), fun c hopen => ⟨?_, ?_, ?_, fun w hready => ⟨?_, ?_⟩, ?_⟩,
    fun c hsealed w => ⟨run_eq _ s _ (regDataBody_sealed h hsealed w), run_eq _ s _ (traceEnableBody_sealed h hsealed w)⟩,
    fun c => run_eq _ s _ (peepAckBody_pops h c), fun c w rq ht => run_eq _ s _ (peepRx_writes ht w),
    fun c i x hmode hfresh hdata hmatch => run_eq _ s _ (compMatchBody_acts hmode hfresh hdata hmatch)⟩
  · exact fun d hd hunsealed => run_eq _ s _ (haltReqBody_halts h hd hunsealed)
  · exact fun d hd hnohalt => run_eq _ s _ (resumeBody_resumes h hd hnohalt)
  · exact fun d hd hunsealed hnohalt hnoresume hu => runChecked_eq _ s _ (stepBody_steps h hd hunsealed hnohalt hnoresume) hu
  · exact run_eq _ s _ (regDataBody_writes h hopen hready w)
  · exact fun e he hclock hu => runChecked_eq _ s _ ((feedBody_feeds h hopen hready hclock w).trans he.symm) hu
  · exact fun w => run_eq _ s _ (traceEnableBody_enables h hopen w)

end Sys2Proof.Machine
end

section
/-! PROOFS. The test access port (O57): what each instruction shifts, and the access that a DBGACC makes. -/

namespace Sys2Proof.Machine

open Sys2Proof

section
variable {d e : Device} {dr : BitVec 44} {o : Nat} (ho : o = (dr.extractLsb' 2 10).toNat * 4)
  (he : e = ({ d with free := d.free + 1, tap := { d.tap with ir := 0x8 } }.emit (.tdo (bitList 2 d.tap.status ++
    bitList 10 (Config.freeWord (d.free + 1)).toNat ++ bitList 32 d.tap.data.toNat))))
include ho he

/-- DBGACC is the access that OP asks for, made by the device that has shifted the last result out. -/
theorem dbgaccBody_eq : dbgaccBody dr d =
    if dr.extractLsb' 0 2 = 1 then
      let (v, d) := e.mgmtRead .debugPort true (0xA000 + o)
      { d with tap := { d.tap with status := 0, data := v } }
    else if dr.extractLsb' 0 2 = 2 then
      let (ok, d) := e.dbgaccWrite o (dr.extractLsb' 12 32)
      { d with tap := { d.tap with status := if ok then 0 else 2 } }
    else e := by
  subst ho he
  rfl

theorem dbgaccBody_reads {v : Word} {d1 : Device} (hop : dr.extractLsb' 0 2 = 1)
    (hread : e.mgmtRead .debugPort true (0xA000 + o) = (v, d1)) :
    dbgaccBody dr d = { d1 with tap := { d1.tap with status := 0, data := v } } := by
  rw [dbgaccBody_eq ho he, if_pos hop, hread]

theorem dbgaccBody_writes {ok : Bool} {d1 : Device} (hop : dr.extractLsb' 0 2 = 2) (hlo : 0x040 ≤ o)
    (hwrite : e.dbgWrite .port o (dr.extractLsb' 12 32) = (ok, d1)) :
    dbgaccBody dr d = { d1 with tap := { d1.tap with status := if ok then 0 else 2 } } := by
  have hread : dr.extractLsb' 0 2 ≠ 1 := by rw [hop]; decide
  have hacc : e.dbgaccWrite o (dr.extractLsb' 12 32) = (ok, d1) := (if_pos hlo).trans hwrite
  rw [dbgaccBody_eq ho he, if_neg hread, if_pos hop, hacc]

theorem dbgaccBody_rests (hop : dr.extractLsb' 0 2 = 0 ∨ dr.extractLsb' 0 2 = 3) : dbgaccBody dr d = e := by
  have hread : dr.extractLsb' 0 2 ≠ 1 := by obtain h | h := hop <;> rw [h] <;> decide
  have hwrite : dr.extractLsb' 0 2 ≠ 2 := by obtain h | h := hop <;> rw [h] <;> decide
  rw [dbgaccBody_eq ho he, if_neg hread, if_neg hwrite]

end

theorem wrapAccessBody_boundary {d : Device} {t : TapSt} (ht : t = { d.tap with ir := 0x9 }) {w : Fin 7} {x : ScanIn}
    (hwir : sget (fun _ => 0) t.wir w.val ≠ wirBypass) : wrapAccessBody (.wbr w x) d =
      { d with tap := { t with wbr := sset (fun _ => []) t.wbr w.val x.shifted
                               wbrSeen := sset (fun _ => []) t.wbrSeen w.val x.captured } }.emit (.tdo x.captured) := by
  subst ht
  exact if_neg hwir

/-- Settles O57: each row but DBGACC and the boundary of a wrapper is its body as it stands. -/
theorem testAccessPort : Obligations.TestAccessPort := by
  unfold Obligations.TestAccessPort
  refine ⟨fun s x => ⟨rfl, rfl⟩, fun s => ⟨rfl, rfl, rfl, rfl, fun bit => rfl⟩, fun s dr o d ho hd e hu => ⟨?_, ?_, ?_⟩,
    fun s t ht => ⟨fun x => ?_, fun w code keyed => ?_, fun w bit => ?_, fun w x hwir => run_eq _ s _ (wrapAccessBody_boundary ht hwir)⟩⟩
  · exact fun v d1 hop hread he => runChecked_eq _ s _ ((dbgaccBody_reads ho hd hop hread).trans he.symm) hu
  · exact fun ok d1 hop hlo hwrite he => runChecked_eq _ s _ ((dbgaccBody_writes ho hd hop hlo hwrite).trans he.symm) hu
  · exact fun hop he => runChecked_eq _ s _ ((dbgaccBody_rests ho hd hop).trans he.symm) hu
  · subst ht; rfl
  · subst ht; rfl
  · subst ht; rfl

end Sys2Proof.Machine
end

section
/-! PROOFS. Requests of a mode (O58): which are allowed, what a request begins, and the limit of the quiesce. -/

namespace Sys2Proof.Machine

open Sys2Proof

/-! ### Which requests are allowed (R453, R459, R461) -/

/-- Outside FAULT_HOLD and with no change under way the table of R453 decides, target by target. -/
theorem modeAllowed_iff_table {d : Device} {t : Nat} (ht : t < 8) (hmode : d.mode ≠ mFaultHold)
    (hidle : d.flag .pwr fPwrModeStatusBusy = false) :
    d.modeAllowed t = true ↔ ((t = mDormant ∧ d.mode ≠ mDormant) ∨
      (d.mode, t) ∈ [(mLoad, mDoorway), (mService, mDoorway), (mDrowse, mDoorway), (mQuiesced, mDoorway), (mService, mDrowse),
        (mDrowse, mDrowse), (mDrowse, mService), (mQuiesced, mService)] ∨
      (t = mQuiesced ∧ (d.mode = mService ∨ d.mode = mDrowse) ∧ d.loadBusy = false ∧ d.goldenRunning = false)) := by
  simp only [mDormant, mDoorway, mLoad, mService, mDrowse, mQuiesced, mFaultHold, Device.modeAllowed, hidle, mStartup,
    Bool.false_or, List.mem_cons, List.not_mem_nil, Prod.mk.injEq] at hmode ⊢
  generalize d.mode = m at hmode
  match t, ht with
  | 0, _ | 1, _ | 2, _ | 3, _ | 4, _ | 5, _ | 6, _ | 7, _ => simp [hmode, or_assoc, and_assoc]

/-- In FAULT_HOLD only DORMANT, DOORWAY and the mode that resumes are allowed. -/
theorem modeAllowed_iff_fault {d : Device} {t : Nat} (hmode : d.mode = mFaultHold) (hidle : d.flag .pwr fPwrModeStatusBusy = false) :
    d.modeAllowed t = true ↔ t ≠ mStartup ∧ t ≠ mFaultHold ∧ (t = mDormant ∨ t = mDoorway ∨
      (t = (if d.rd .sill fSillFaultFrom = mStartup then mLoad else d.rd .sill fSillFaultFrom) ∧
        (d.rd .sill fSillFaultSeen).testBit 2 = false ∧ (d.rd .sill fSillFaultSeen).testBit 5 = false)) := by
  rw [show (if d.rd .sill fSillFaultFrom = mStartup then mLoad else d.rd .sill fSillFaultFrom) = d.resumeMode from rfl]
  by_cases hnever : t = mStartup ∨ t = mFaultHold
  · obtain rfl | rfl := hnever <;> simp [Device.modeAllowed]
  · obtain ⟨hstartup, hfault⟩ := not_or.mp hnever
    simp [Device.modeAllowed, hidle, hmode, hstartup, hfault, or_assoc, and_assoc]

/-! ### The write of MODE_REQ (R452) -/

section
variable {d : Device} {rq : Requester} (h : d.takes rq .pwr .pwr)
include h

/-- A write of MODE_REQ with GO makes the request. -/
theorem modeReq_requests {t : Nat} (ht : t < 8) :
    regWriteBody rq (regAt .pwr fPwrModeReqTarget) (BitVec.ofNat 32 (8 + t)) d = d.modeRequest t := by
  have hnone (w : Word) : d.fieldsWrite .pwr fPwrModeReqTarget.off w (fun _ => false) = d := fieldsWrite_nil (by decide)
  have hgo : ∀ t < 8, (BitVec.ofNat 32 (8 + t)).getLsbD 3 = true ∧ bitsOf (BitVec.ofNat 32 (8 + t)) 0 3 = t := by decide
  rw [page_write h _ _ (by decide) (by decide), Device.blockWrite, Device.pwrWrite, hnone, (hgo t ht).2]
  exact (if_pos rfl).trans (if_pos (hgo t ht).1)

theorem modeReq_begins {t : Nat} (ht : t < 8) (hallowed : d.modeAllowed t = true) :
    regWriteBody rq (regAt .pwr fPwrModeReqTarget) (BitVec.ofNat 32 (8 + t)) d = d.beginMode t :=
  (modeReq_requests h ht).trans (if_pos hallowed)

theorem modeReq_refuses {t : Nat} (ht : t < 8) (hrefused : d.modeAllowed t = false) :
    regWriteBody rq (regAt .pwr fPwrModeReqTarget) (BitVec.ofNat 32 (8 + t)) d = (d.raise .pwr cPwrModeRefused).count .pwr 1 :=
  (modeReq_requests h ht).trans (if_neg (Bool.eq_false_iff.mp hrefused))

end

theorem quiesceLimitBody_forces {d : Device} (hstep : d.modeStep = some .asleep) {awake : List (Fin 144)}
    (hawake : awake = (List.finRange 144).filter d.linkAwakeNow) (hsome : awake ≠ []) :
    quiesceLimitBody d = (awake.foldl (fun (d : Device) (l : Fin 144) => linkDisable l d) d).raise .pwr cPwrLinkForced := by
  subst hawake
  exact (if_pos hstep).trans (if_neg (by rwa [List.isEmpty_iff]))

/-- Settles O58: the table and FAULT_HOLD by the two readings of `modeAllowed`, the rows by the write of MODE_REQ. -/
theorem modesAreRequested : Obligations.ModesAreRequested := by
  unfold Obligations.ModesAreRequested
  refine ⟨fun d t => modeAllowed_iff_table, fun d t => modeAllowed_iff_fault, fun s rq h => ⟨?_, ?_⟩,
    fun s awake hstep hawake hsome => run_eq _ s _ (quiesceLimitBody_forces hstep hawake hsome)⟩
  · have hrow {t : Nat} (ht : t < 8) {i : Instr}
        (hi : exec i s = run (regWriteBody rq (regAt .pwr fPwrModeReqTarget) (BitVec.ofNat 32 (8 + t))) s) :
        (s.dev.modeAllowed t = true → exec i s = .next (s.after (s.dev.beginMode t))) ∧
        (s.dev.modeAllowed t = false → exec i s = .next (s.after ((s.dev.raise .pwr cPwrModeRefused).count .pwr 1))) :=
      ⟨fun ha => hi.trans (run_eq _ s _ (modeReq_begins h ht ha)), fun ha => hi.trans (run_eq _ s _ (modeReq_refuses h ht ha))⟩
    simp only [forall_mem_pairs_cons, forall_mem_pairs_nil]
    exact ⟨hrow (t := mDormant) (by decide) rfl, hrow (t := mDoorway) (by decide) rfl, hrow (t := mDrowse) (by decide) rfl,
      hrow (t := mQuiesced) (by decide) rfl, trivial⟩
  · have hrow {t : Nat} (ht : t < 8) {e : Device} (hu : undefinedBy s.dev e = none) {i : Instr}
        (hi : exec i s = runChecked (regWriteBody rq (regAt .pwr fPwrModeReqTarget) (BitVec.ofNat 32 (8 + t))) s) :
        (s.dev.modeAllowed t = true → e = s.dev.beginMode t → exec i s = .next (s.after e)) ∧
        (s.dev.modeAllowed t = false → e = (s.dev.raise .pwr cPwrModeRefused).count .pwr 1 → exec i s = .next (s.after e)) :=
      ⟨fun ha he => hi.trans (runChecked_eq _ s _ ((modeReq_begins h ht ha).trans he.symm) hu),
        fun ha he => hi.trans (runChecked_eq _ s _ ((modeReq_refuses h ht ha).trans he.symm) hu)⟩
    simp only [forall_mem_pairs_cons, forall_mem_pairs_nil]
    exact ⟨fun e hu => hrow (t := mService) (by decide) hu rfl, fun e hu => hrow (t := mLoad) (by decide) hu rfl, trivial⟩

end Sys2Proof.Machine
end

section
/-! PROOFS. Wakes and resets (O59): L1.2, PERST_N, the wake sources, the sill timer and the references. -/

namespace Sys2Proof.Machine

open Sys2Proof

section
variable {d : Device}

/-! ### L1.2 and PERST_N outside DORMANT (R248, R453, R456) -/

section
variable (hmode : d.mode ≠ mDormant)
include hmode

theorem pcieL12EntryBody_loses : pcieL12EntryBody true d = d.linkDown := (if_neg hmode).trans (if_pos rfl)

theorem pcieL12EntryBody_sleeps (hup : d.rd .pcie fPcieLinkStatusRate ≠ 0) :
    pcieL12EntryBody false d = d.put .pcie fPcieLinkStatusPm 4 :=
  (if_neg hmode).trans ((if_neg (by decide)).trans (if_neg hup))

theorem pcieL12ExitBody_wakes (hpm : d.rd .pcie fPcieLinkStatusPm = 4) (hstep : d.modeStep = none) : pcieL12ExitBody d = d.linkAwake :=
  (if_pos hpm).trans (if_neg (by simp [hmode, hstep]))

theorem linkWakeDetectBody_detects (l : Fin 144) (hstep : d.modeStep = none) : linkWakeDetectBody l d = d.wakeDetected l :=
  if_neg (by simp [hmode, hstep])

theorem perstNAssertBody_resets {low : Bool}
    (hlow : low = (d.flag .pwr fPwrTempValid 15 && decide ((BitVec.ofNat 12 (d.rd .pwr fPwrTemp 15)).toInt < 400))) :
    perstNAssertBody d =
      Device.tripRelease (Device.enterDormant { d with perst := true, heldWake := none, lateWake := none, judging := [] } 1) low := by
  subst hlow
  exact congrArg (Device.tripRelease · _) (if_neg fun ⟨hdormant, _⟩ => hmode hdormant)

end

theorem perstNDeassertBody_wakes (hperst : d.perst = true) :
    perstNDeassertBody d = Device.wake { d with perst := false } wakePerst 0 := if_pos hperst

/-! ### Wakes in DORMANT (R455, R497) -/

section
variable (hmode : d.mode = mDormant)
include hmode

theorem sillTimerBody_wakes (hcmp : d.rd .sill fSillTimerCmp ≠ 0) (hclock : d.flag .clk fClkSillClkDead = false) :
    sillTimerBody d = (d.put .sill fSillTimerCount (d.rd .sill fSillTimerCmp)).wake wakeTimer 0 :=
  if_pos ⟨hmode, hcmp, hclock⟩

/-- The first enabled wake names its source, is held, and has the references judged afresh. -/
theorem wake_holds {source link : Nat} (hperst : d.perst = false) (hfirst : d.heldWake = none)
    (hsource : d.rd .sill fSillWakeSrcSource = 0) (henabled : d.wakeEnabled source link = true) {e : Device}
    (he : e = (d.put .sill fSillWakeSrcSource source).put .sill fSillWakeSrcLink link) :
    d.wake source link = { ((e.lower .clk fClkRefStatusAGood).lower .clk fClkRefStatusBGood).lower .clk fClkRefStatusPcieRefGood with
      heldWake := some (source, link), judging := [.a, .b, .pcie] } := by
  subst he
  unfold Device.wake
  rw [if_neg (by simp [hperst, henabled]), if_neg (not_not.mpr hmode), if_neg (by simp [hfirst]), if_pos hsource]

theorem linkWakeDetectBody_dormant (l : Fin 144) : linkWakeDetectBody l d = d.wake wakeLink l.val := if_pos (.inl hmode)

end

/-! ### The references (R497) -/

section
variable {r : RefClk} (hjudging : d.judging.contains r = true) {g : Fld} {e : Device}
  (he : e = Device.raise { d with judging := d.judging.erase r } .clk g)
include hjudging he

theorem referenceJudgedGoodBody_pcie (hrow : (r, g) = (.pcie, fClkRefStatusPcieRefGood)) : referenceJudgedGoodBody r d = e := by
  obtain ⟨rfl, rfl⟩ := Prod.mk.inj hrow
  exact (if_neg (by rw [hjudging]; decide)).trans he.symm

/-- The first reference that is good while a wake is held leaves DORMANT. -/
theorem referenceJudgedGoodBody_leaves (hrow : (r, g) ∈ [(RefClk.a, fClkRefStatusAGood), (.b, fClkRefStatusBGood)])
    (hheld : d.heldWake ≠ none) : referenceJudgedGoodBody r d = e.leaveDormant (r == .b) := by
  have hstill : e.heldWake.isSome = true := by
    rw [he, show (Device.raise { d with judging := d.judging.erase r } .clk g).heldWake = d.heldWake from rfl]
    exact Option.isSome_iff_ne_none.mpr hheld
  have hjudged (b : Bool) : referenceJudgedGoodBody.judged b e = e.leaveDormant b := if_pos hstill
  rw [List.mem_cons, List.mem_singleton] at hrow
  obtain hrow | hrow := hrow <;> obtain ⟨rfl, rfl⟩ := Prod.mk.inj hrow
  · refine (if_neg (by rw [hjudging]; decide)).trans (.trans ?_ (hjudged false))
    rw [he]
  · refine (if_neg (by rw [hjudging]; decide)).trans (.trans ?_ (hjudged true))
    rw [he]

end

end

/-- Settles O59. -/
theorem wakesAndResets : Obligations.WakesAndResets := by
  unfold Obligations.WakesAndResets
  refine ⟨fun s hmode => ⟨run_eq _ s _ (pcieL12EntryBody_loses hmode), fun hup => run_eq _ s _ (pcieL12EntryBody_sleeps hmode hup),
      fun hpm hstep => run_eq _ s _ (pcieL12ExitBody_wakes hmode hpm hstep),
      fun l hstep => run_eq _ s _ (linkWakeDetectBody_detects hmode l hstep),
      fun low hlow => run_eq _ s _ (perstNAssertBody_resets hmode hlow)⟩,
    fun s d hmode hperst hfirst hsource src link i hrow henabled hd => ?_,
    fun s hmode hcmp hclock => run_eq _ s _ (sillTimerBody_wakes hmode hcmp hclock),
    fun s hperst => run_eq _ s _ (perstNDeassertBody_wakes hperst), fun s r g hrow hjudging d hd e hu => ?_⟩
  · have hwake := wake_holds hmode hperst hfirst hsource henabled hd
    rw [List.mem_append, List.mem_singleton, List.mem_map] at hrow
    obtain hpin | ⟨l, -, hlink⟩ := hrow
    · simp only [Prod.mk.injEq] at hpin
      obtain ⟨rfl, rfl, rfl⟩ := hpin
      exact run_eq _ s _ hwake
    · simp only [Prod.mk.injEq] at hlink
      obtain ⟨rfl, rfl, rfl⟩ := hlink
      exact run_eq _ s _ ((linkWakeDetectBody_dormant hmode l).trans hwake)
  · refine ⟨fun hr he => ?_, fun hr hheld he => ?_⟩
    · have hlast : (r, g) = (.pcie, fClkRefStatusPcieRefGood) := by simpa [hr] using hrow
      exact runChecked_eq _ s _ ((referenceJudgedGoodBody_pcie hjudging hd hlast).trans he.symm) hu
    · have hfirst : (r, g) ∈ [(RefClk.a, fClkRefStatusAGood), (.b, fClkRefStatusBGood)] := by simpa [hr] using hrow
      exact runChecked_eq _ s _ ((referenceJudgedGoodBody_leaves hjudging hd hfirst hheld).trans he.symm) hu

end Sys2Proof.Machine
end

section
/-! PROOFS. Temperature and supplies (O60): a hot reading trips, and what a lost supply and a power-on leave. -/

namespace Sys2Proof.Machine

open Sys2Proof

section
variable {d : Device}

/-- The sensors that a THERM_READ reads, each with its reading (R485). -/
def Device.readings (d : Device) (temps : List Temp) : List (Nat × Temp) :=
  (List.range 16).filterMap fun s => if d.mode ≠ mDormant ∨ s = 15 then (temps[s]?).map fun t => (s, t) else none

theorem mem_readings {temps : List Temp} {k : Nat} {t : Temp} (hk : k < 16) (hruns : d.mode ≠ mDormant ∨ k = 15)
    (ht : temps[k]? = some t) : (k, t) ∈ d.readings temps := by
  refine List.mem_filterMap.mpr ⟨k, List.mem_range.mpr hk, ?_⟩
  rw [if_pos hruns, ht]
  rfl

/-- A trip that stands, or that has just been raised, is shown (R486). -/
theorem flag_tripped_raised (d : Device) : (if !d.flag .pwr fPwrTripStatusTripped then
    (d.raise .pwr fPwrTripStatusTripped).raise .pwr cPwrThermTrip else d).flag .pwr fPwrTripStatusTripped = true := by
  cases h : d.flag .pwr fPwrTripStatusTripped with
  | true => exact h
  | false => exact (flag_put_key _ _ _ _ _ _ _ _ (by decide)).trans (flag_raise d _ _ 0 (by decide) (by decide))

theorem tripRelease_hot (d : Device) : d.tripRelease false = d := if_neg (by simp)

theorem thermReadBody_trips {temps : List Temp} {k : Nat} {t : Temp} (hmem : (k, t) ∈ d.readings temps) (hot : 460 ≤ t.toInt) :
    (thermReadBody temps d).flag .pwr fPwrTripStatusTripped = true := by
  have hany : ((d.readings temps).any fun e => decide (tempTrip ≤ e.2.toInt)) = true :=
    List.any_eq_true.mpr ⟨_, hmem, decide_eq_true hot⟩
  have hall : ((d.readings temps).all fun e => decide (e.2.toInt < tempRelease)) = false := by
    have hwarm : ¬ t.toInt < tempRelease := by
      rw [show tempRelease = (400 : Int) from rfl]
      omega
    exact List.all_eq_false.mpr ⟨_, hmem, fun h => hwarm (of_decide_eq_true h)⟩
  unfold Device.readings at hany hall
  unfold thermReadBody
  simp only [hany, hall, Bool.true_and, tripRelease_hot]
  exact flag_tripped_raised _

theorem tempMaxClear_write {rq : Requester} (h : d.takes rq .pwr .pwr) :
    regWriteBody rq (regAt .pwr fPwrTempMaxTemp) 0x80000000 d = d.tempMaxClear := by
  have hnone : d.fieldsWrite .pwr fPwrTempMaxTemp.off 0x80000000 (fun _ => false) = d := fieldsWrite_nil (by decide)
  rw [page_write h _ _ (by decide) (by decide), Device.blockWrite, Device.pwrWrite, hnone]
  rfl

theorem sillPowerOnBody_fresh {n : Device} (hn : n = { Device.fresh with out := d.out, free := d.free + 1, stuck := d.stuck,
                                                                          keyRam := if d.vbatLow then [] else d.keyRam })
    (hxin : Config.freeBool d.free = false) : sillPowerOnBody d = if d.vbatLow then n.raise .sill cSillKeyramLost else n := by
  subst hn
  unfold sillPowerOnBody
  rw [hxin]
  rfl

end

/-- Settles O60. -/
theorem temperatureAndSupplies : Obligations.TemperatureAndSupplies := by
  unfold Obligations.TemperatureAndSupplies
  exact ⟨fun s temps k t hk hruns ht => ⟨_, run_eq _ s _ rfl, fun hot => thermReadBody_trips (mem_readings hk hruns ht) hot⟩,
    fun s rq h => run_eq _ s _ (tempMaxClear_write h), fun s => ⟨run_eq _ s _ rfl, run_eq _ s _ rfl,
      fun n hn hxin => run_eq _ s _ (sillPowerOnBody_fresh hn hxin)⟩⟩

end Sys2Proof.Machine
end

section
/-! PROOFS. The queue of commands (O1). -/

namespace Sys2Proof.Machine

open Sys2Proof

theorem step_front {s : State} {i : Instr} {rest : List Instr} (h : s.pending = i :: rest) : step s = exec i { s with pending := rest } := by
  unfold step
  rw [h]

theorem step_idle {s : State} (h : s.pending = []) : step s = .next (s.after ((fabricTick s.dev).holdsEnd.meshRun)) := by
  unfold step
  rw [h]
  rfl

/-- Settles O1. -/
theorem stepTakesTheFrontCommand : Obligations.StepTakesTheFrontCommand := fun _ => ⟨fun _ _ => step_front, step_idle⟩

end Sys2Proof.Machine
end

section
/-! PROOFS. Windows and keys of an engine (O35): initialisation, the release of quarantined lines, and the rotation of keys. -/

namespace Sys2Proof.Machine

open Sys2Proof

section
variable {d : Device} {n : Fin 144}

/-! ### The command registers of an engine (R260, R267, R277) -/

/-- A register of an engine's page with no field that takes a write does what its command bits ask for. -/
theorem curPage_write {rq : Requester} (h : d.takes rq (curPage n) (curPage n)) (f : Fld) (w : Word) (hlo : 0x40 ≤ f.off)
    (hhi : f.off < 0x1000) : regWriteBody rq (regAt (curPage n) f) w d = d.curRegWrite n f.off w := by
  rw [page_write h f w hlo hhi]
  simp only [Device.blockWrite, curPage, curLinkOf_curOfLink]

theorem curFields_none {o : Nat} (h : ∀ f ∈ fieldsAt (.cur 0) o, f.ty = .wo ∨ f.ty = .ro) (w : Word) :
    d.fieldsWrite (curPage n) o w (fun _ => false) = d := fieldsWrite_nil h

theorem init_write {rq : Requester} (h : d.takes rq (curPage n) (curPage n)) (w : Fin 4) :
    regWriteBody rq (regAt (curPage n) fCurWinCmdInit) (BitVec.ofNat 32 (4 + w.val)) d = winInit n w.val d := by
  have hbits : bitsOf (BitVec.ofNat 32 (4 + w.val)) fCurWinCmdInit.lo 1 = 1 ∧
      bitsOf (BitVec.ofNat 32 (4 + w.val)) fCurWinCmdWindow.lo fCurWinCmdWindow.width = w.val := by revert w; decide
  rw [curPage_write h _ _ (by decide) (by decide), Device.curRegWrite, curFields_none (by decide), hbits.2]
  exact if_pos hbits.1

theorem quarRelease_write {rq : Requester} (h : d.takes rq (curPage n) (curPage n)) (i : Fin 32) (poison : Bool) :
    regWriteBody rq (regAt (curPage n) fCurQuarReleaseGo) (BitVec.ofNat 32 (64 + 32 * poison.toNat + i.val)) d =
      quarRelease n i.val poison d := by
  have hbits : (BitVec.ofNat 32 (64 + 32 * poison.toNat + i.val)).getLsbD 6 = true ∧
      bitsOf (BitVec.ofNat 32 (64 + 32 * poison.toNat + i.val)) 0 5 = i.val ∧
      (BitVec.ofNat 32 (64 + 32 * poison.toNat + i.val)).getLsbD 5 = poison := by revert poison i; decide
  obtain ⟨hgo, hindex, hpoison⟩ := hbits
  rw [curPage_write h _ _ (by decide) (by decide), Device.curRegWrite, curFields_none (by decide), hindex, hpoison]
  exact if_pos hgo

theorem roll_write {rq : Requester} (h : d.takes rq (curPage n) (curPage n)) :
    regWriteBody rq (regAt (curPage n) fCurKeyCtrlRoll) 1 d = keyRoll n d := by
  rw [curPage_write h _ _ (by decide) (by decide), Device.curRegWrite, curFields_none (by decide)]
  rfl

/-! ### Windows and quarantine (R260, R267) -/

theorem winInit_begins {w : Nat} {v : Window} (hwindow : d.window n w = some v) (hidle : (d.cur n).init = none) :
    winInit n w d = (d.setCur n { d.cur n with init := some w }).raise (curPage n) fCurCurStatusInitBusy :=
  if_neg (by simp [hwindow, hidle])

theorem initDoneBody_writes {w : Nat} {v : Window} {key : BitVec 256} {e f : Device} (hinit : (d.cur n).init = some w)
    (hwindow : d.window n w = some v) (hkey : key = d.slotKey n (d.curCurrent n))
    (he : e = d.setCur n { d.cur n with init := none, ctrs := sclear (fun k => k / 2 ^ 28 == w) (d.cur n).ctrs
                                        tags := sclear (fun k => k / 2 ^ 31 == w) (d.cur n).tags })
    (hf : f = (e.lower (curPage n) fCurCurStatusInitBusy).raise (curPage n) cCurInitDone) :
    initDoneBody n d = (f.emit (.windowInit n.val v.node
      ((List.range v.pages).flatMap fun page => initPage key w v page))).curPump n := by
  subst hf he hkey
  unfold initDoneBody
  simp only [hinit, hwindow]

theorem quarRelease_frees {i w line : Nat} (hquar : sget (fun _ => none) (d.cur n).quar i = some (w, line)) {e : Device}
    (he : e = d.setCur n { d.cur n with quar := sset (fun _ => none) (d.cur n).quar i none }) :
    quarRelease n i false d = e.curPump n := by
  subst he
  unfold quarRelease
  simp only [hquar]

theorem quarRelease_poisons {i w line : Nat} {v : Window} (hquar : sget (fun _ => none) (d.cur n).quar i = some (w, line))
    (hwindow : d.window n w = some v) {e : Device} (he : e = (d.curPoison n w v line).curIssue n 16) :
    quarRelease n i true d = (e.setCur n { e.cur n with quar := sset (fun _ => none) (e.cur n).quar i none }).curPump n := by
  subst he
  unfold quarRelease
  simp only [hquar, hwindow]

/-! ### Keys (R277, R278) -/

theorem keyRoll_refused (h : d.flag (curPage n) fCurCurStatusRollBusy = true ∨ (d.cur n).slotLoaded (!d.curCurrent n) = false ∨
    d.curMode n = 0) : keyRoll n d = d := by
  refine if_pos ?_
  obtain h | h | h := h <;> simp [h]

section
variable (hidle : d.flag (curPage n) fCurCurStatusRollBusy = false) (hloaded : (d.cur n).slotLoaded (!d.curCurrent n) = true)
  {e : Device} (he : e = d.raise (curPage n) fCurCurStatusRollBusy)
include hidle hloaded he

theorem keyRoll_link (hmode : d.curMode n = 2) (hstill : e.curMode n = 2) : keyRoll n d = e := by
  subst he
  refine (if_neg (by simp [hidle, hloaded, hmode])).trans (if_neg ?_)
  rw [hstill]
  decide

theorem keyRoll_sweeps (hmode : d.curMode n = 1) (hstill : e.curMode n = 1) {w : Nat}
    (hfirst : (List.range 4).find? (fun w => (e.window n w).isSome) = some w) : keyRoll n d =
      ((((e.put (curPage n) fCurSweepPtrWindow w).put (curPage n) fCurSweepPtrPage 0).setCur n
        { d.cur n with swept := false }).curAdvance n) := by
  subst he
  refine (if_neg (by simp [hidle, hloaded, hmode])).trans ((if_pos hstill).trans ?_)
  rw [hfirst]

end

/-- Both directions use the slot that is not current. -/
theorem phasesChanged_of (htx : d.flag (curPage n) fCurCurStatusTxPhase = !d.curCurrent n)
    (hrx : d.flag (curPage n) fCurCurStatusRxPhase = !d.curCurrent n) : d.phasesChanged n = true := by
  simp [Device.phasesChanged, htx, hrx]

theorem rollDoneBody_ends (hbusy : d.flag (curPage n) fCurCurStatusRollBusy = true)
    (hready : d.curMode n = 1 ∧ (d.cur n).swept = true ∧ (d.cur n).reenc = none ∨
      d.curMode n ≠ 1 ∧ d.flag (curPage n) fCurCurStatusTxPhase = (!d.curCurrent n) ∧
        d.flag (curPage n) fCurCurStatusRxPhase = !d.curCurrent n)
    {c : CurSt} (hc : c = { d.cur n with key0 := if d.curCurrent n then (d.cur n).key0 else none
                                         key1 := if d.curCurrent n then none else (d.cur n).key1
                                         swept := false }) :
    rollDoneBody n d = ((((d.setCur n c).put (curPage n) fCurCurStatusCurrent (!d.curCurrent n).toNat).lower (curPage n)
      fCurCurStatusRollBusy).raise (curPage n) cCurRollDone) := by
  subst hc
  have hdone : (if d.curMode n = 1 then (d.cur n).swept && (d.cur n).reenc.isNone else d.phasesChanged n) = true := by
    obtain ⟨hmode, hswept, hreenc⟩ | ⟨hmode, htx, hrx⟩ := hready
    · simp [hmode, hswept, hreenc]
    · rw [if_neg hmode, phasesChanged_of htx hrx]
  unfold rollDoneBody
  simp only [hbusy, hdone, Bool.and_self, if_true]

end

/-- Settles O35: the rows write their command register; the events are their bodies. -/
theorem windowsAndKeys : Obligations.WindowsAndKeys := by
  unfold Obligations.WindowsAndKeys
  intro s n
  refine ⟨fun rq h => ⟨fun w v hwindow hidle => ?_, fun i w line d hquar hd => ?_, fun i w line v d hquar hwindow hd => ?_,
    fun hidle hloaded d hd hmode hstill => ?_, fun hidle hloaded d w hd hmode hstill hfirst => ?_, fun hno => ?_⟩,
    fun w v key hinit hwindow hkey d e hd he => ?_, fun hbusy hready c hc => ?_⟩
  · exact run_eq _ s _ ((init_write h w).trans (winInit_begins hwindow hidle))
  · exact run_eq _ s _ ((quarRelease_write h i false).trans (quarRelease_frees hquar hd))
  · exact run_eq _ s _ ((quarRelease_write h i true).trans (quarRelease_poisons hquar hwindow hd))
  · exact run_eq _ s _ ((roll_write h).trans (keyRoll_link hidle hloaded hd hmode hstill))
  · exact run_eq _ s _ ((roll_write h).trans (keyRoll_sweeps hidle hloaded hd hmode hstill hfirst))
  · exact run_eq _ s _ ((roll_write h).trans (keyRoll_refused hno))
  · exact run_eq _ s _ (initDoneBody_writes hinit hwindow hkey hd he)
  · exact run_eq _ s _ (rollDoneBody_ends hbusy hready hc)

end Sys2Proof.Machine
end

section
/-! PROOFS. The engine's events in memory mode (O36): fetches, tag checks, page re-encryption and partial writes come to their end. -/

namespace Sys2Proof.Machine

open Sys2Proof

section
variable {d : Device} {n : Fin 144}

/-! ### Fetches and tag checks (R263) -/

/-- The oldest fetch leaves `e`; where no line waits to be poisoned, answers, requests and the cache go on. -/
theorem cacheFetchDoneBody_ends {job : CurJob} {data : Option (List Nat)} {rest : List (CurJob × Option (List Nat))}
    (hfetched : (d.cur n).fetched = (job, data) :: rest) {b e f : Device}
    (hb : b = d.setCur n { d.cur n with fetched := rest, fetching := (d.cur n).fetching.erase job })
    (he : e = match data with
      | some bs => b.curFetched n job bs
      | none => b.curUnfetched n job)
    (hnone : (e.cur n).poisonq = []) (hf : f = e.setCur n { e.cur n with poisonq := [] }) :
    cacheFetchDoneBody n d = ((f.curArrived n).curPump n).curEvict n := by
  subst hb hf
  unfold cacheFetchDoneBody
  simp only [hfetched]
  cases data <;> subst he <;> simp only [hnone, List.foldl_nil]

theorem tagCheckDoneBody_marks (hruns : (d.cur n).stopped = false) {k : TagCheck} {rest : List TagCheck} {e : Device}
    (hchecks : (d.cur n).checks = k :: rest) (he : e = d.setCur n { d.cur n with checks := rest })
    {bad : List (Nat × Nat × Bool)} {ok : Bool} (hbad : bad = k.results.filter fun x => !x.2.2) (hok : ok = bad.isEmpty) :
    tagCheckDoneBody n d = ((bad.foldl (fun d x => d.curReadFail n x.1 x.2.1) e).injectRsp k.edge 0
      (sealHeader { dst := k.dst, src := k.src, cls := 1, op := if ok then 0x38 else 0x39, len := 0, tag := k.tag
                    laddr := BitVec.ofNat 54 (if ok then stOk else stCrypto), ord := false, prio := 0, ch := false, v := true
                    lock := false, rsv := 0, hcrc := 0, payload := [], flits := 1 })).curPump n := by
  subst hok hbad he
  unfold tagCheckDoneBody
  simp only [hruns, hchecks]
  rfl

/-! ### Page re-encryption (R265) -/

theorem reencryptDoneBody_goesOn {r : Reenc} {page : Nat} (hreenc : (d.cur n).reenc = some r)
    (hnot : r.page ≠ page ∨ r.writing = false ∨ r.left ≠ [] ∨ r.writes ≠ []) : reencryptDoneBody n page d = d := by
  have hwaits : (r.page != page || !r.writing || !r.left.isEmpty || !r.writes.isEmpty || (d.cur n).stopped) = true := by
    obtain h | h | h | h := hnot <;> simp [h]
  unfold reencryptDoneBody
  simp only [hreenc, hwaits, if_true]
  split <;> rfl

theorem reencryptDoneBody_ends {r : Reenc} {v : Window} {slot : Bool} {b e f : Device} (hreenc : (d.cur n).reenc = some r)
    (hwindow : d.window n r.window = some v) (hwriting : r.writing = true) (hleft : r.left = []) (hwrites : r.writes = [])
    (hruns : (d.cur n).stopped = false) (hslot : slot = d.reencSlot n r.window r.page)
    (hb : b = (d.count (curPage n) 3).setCur n { d.cur n with reenc := none })
    (hnone : r.trigger = none → e = b) (hsome : ∀ q own, r.trigger = some (q, own) → e = b.reencTrigger n slot r.window v q own)
    (hswept : d.atSweep n r.window r.page = true → f = e.sweepNext n) (hplain : d.atSweep n r.window r.page = false → f = e) :
    reencryptDoneBody n r.page d = f.curPump n := by
  have hready : (r.page != r.page || !r.writing || !r.left.isEmpty || !r.writes.isEmpty || (d.cur n).stopped) = false := by
    simp [hwriting, hleft, hwrites, hruns]
  have hsweep : (if d.atSweep n r.window r.page then e.sweepNext n else e) = f := by
    cases hat : d.atSweep n r.window r.page with
    | true => exact (hswept hat).symm
    | false => exact (hplain hat).symm
  unfold reencryptDoneBody
  cases htr : r.trigger with
  | none =>
    simp only [hreenc, hwindow, hready, htr, Bool.false_eq_true, if_false, ← hb, ← hnone htr]
    exact congrArg (Device.curPump · n) hsweep
  | some t =>
    simp only [hreenc, hwindow, hready, htr, Bool.false_eq_true, if_false, ← hslot, ← hb, ← hsome t.1 t.2 htr]
    exact congrArg (Device.curPump · n) hsweep

/-! ### Partial writes (R266) -/

section
variable {r : Rmw} {v : Window} (hrmw : (d.cur n).rmw = some r) (hwindow : d.window n r.window = some v)
  (hruns : (d.cur n).stopped = false) (hleft : r.left = 0)
include hrmw hwindow hruns hleft

theorem partialWriteDoneBody_replies (hend : r.writing = true ∨ r.status ≠ 0) :
    partialWriteDoneBody n d = d.rmwReply n r r.status := by
  unfold partialWriteDoneBody
  simp only [hrmw, hwindow]
  rw [if_neg (by simp [hleft, hruns]), if_pos hend]

section
variable (hreading : r.writing = false) (hstatus : r.status = 0) {opened bad : List (Nat × List Nat × Bool)}
  (hopened : opened = r.got.map fun x => (x.1, d.curOpen n r.window v x.1 x.2)) (hbad : bad = opened.filter fun x => !x.2.2)
include hreading hstatus hopened hbad

/-- The lines that were read are judged by their tags. -/
theorem partialWriteDoneBody_judges : partialWriteDoneBody n d =
    if bad.isEmpty then d.rmwWriteBack n r v (r.merged opened)
    else (((bad.foldl (fun (d : Device) (x : Nat × List Nat × Bool) =>
      ((d.count (curPage n) 0).curLog n 2 r.window x.1).curPoison n r.window v x.1) d).raise (curPage n) cCurWriteFail).count
        (curPage n) 1).rmwReply n r stCrypto := by
  subst hbad hopened
  unfold partialWriteDoneBody
  simp only [hrmw, hwindow]
  rw [if_neg (by simp [hleft, hruns]), if_neg (by simp [hreading, hstatus])]

end
end

/-- The requester of a partial write is answered; of a posted one a failure is counted. -/
theorem rmwReply_posted {r : Rmw} {status : Nat} (hcls : r.req.pkt.cls = 2) {e : Device}
    (he : e = d.setCur n { d.cur n with rmw := none }) :
    d.rmwReply n r status = (if status = 0 then e else e.postedDrop).curPump n := by
  subst he
  simp only [Device.rmwReply, hcls, beq_self_eq_true, if_true]

theorem rmwReply_answered {r : Rmw} {status : Nat} (hcls : r.req.pkt.cls ≠ 2) {e : Device}
    (he : e = d.setCur n { d.cur n with rmw := none }) :
    d.rmwReply n r status = (e.answerAt r.req.edge r.req.pkt status).curPump n := by
  subst he
  simp only [Device.rmwReply, beq_eq_false_iff_ne.mpr hcls, Bool.false_eq_true, if_false]

end

/-- Settles O36: each event is its body, whose branches the lemmas above name. -/
theorem protectedAccessesFinish : Obligations.ProtectedAccessesFinish := by
  unfold Obligations.ProtectedAccessesFinish
  intro s n
  refine ⟨fun job bs rest c hfetched hc d e hd he hnone f hf => ?_, fun w page rest d e hfetched hd he hnone f hf => ?_,
    fun k rest d hruns hchecks hd bad ok hbad hok => run_eq _ s _ (tagCheckDoneBody_marks hruns hchecks hd hbad hok),
    fun r v slot d e f hreenc hwindow hwriting hleft hwrites hruns hslot hd hnone hsome hswept hplain => ?_,
    fun r page hreenc hnot => run_eq _ s _ (reencryptDoneBody_goesOn hreenc hnot),
    fun r v d hrmw hwindow hruns hleft hend hd => ?_,
    fun r v opened bad hrmw hwindow hruns hleft hreading hstatus hopened hbad => ?_⟩
  · subst hc
    refine run_eq _ s _ (cacheFetchDoneBody_ends hfetched hd ?_ hnone hf)
    obtain ⟨w, page, rfl, he⟩ | ⟨w, t, rfl, he⟩ := he <;> exact he
  · exact run_eq _ s _ (cacheFetchDoneBody_ends hfetched hd he hnone hf)
  · exact run_eq _ s _ (reencryptDoneBody_ends hreenc hwindow hwriting hleft hwrites hruns hslot hd hnone hsome hswept hplain)
  · refine run_eq _ s _ ((partialWriteDoneBody_replies hrmw hwindow hruns hleft hend).trans ?_)
    by_cases hcls : r.req.pkt.cls = 2
    · rw [if_pos hcls, rmwReply_posted hcls hd]
    · rw [if_neg hcls, rmwReply_answered hcls hd]
  · have hjudged := partialWriteDoneBody_judges hrmw hwindow hruns hleft hreading hstatus hopened hbad
    refine ⟨fun hall => ?_, fun hsome d e f hd he hf => ?_⟩
    · exact run_eq _ s _ (hjudged.trans (if_pos (List.isEmpty_iff.mpr hall)))
    · subst hd he
      have hfails := hjudged.trans (if_neg (mt List.isEmpty_iff.mp hsome))
      exact ⟨fun hcls => run_eq _ s _ (hfails.trans (rmwReply_answered hcls hf)),
        fun hcls => run_eq _ s _ (hfails.trans (rmwReply_posted hcls hf))⟩

end Sys2Proof.Machine
end

section
/-! PROOFS. Engines and their spares (O37). -/

namespace Sys2Proof.Machine

open Sys2Proof

section
variable {d : Device} {n : Fin 144}

section
variable (hruns : (d.cur n).stopped = false) {b e : Device} (hb : b = d.setCur n { d.cur n with stopped := true })
  (he : e = b.setEngine (d.rd (curPage n) fCurCurStatusEngine) 1)
include hruns hb he

theorem aesParityFailBody_spared {x : Nat} (hspare : e.spareOf (engineGroup n.val) = some x) : aesParityFailBody n d = e := by
  subst he hb
  unfold aesParityFailBody
  simp only [hruns, Bool.false_eq_true, if_false, hspare]

theorem aesParityFailBody_fences (hspare : e.spareOf (engineGroup n.val) = none) {f g : Device}
    (hf : f = ((e.raise (curPage n) cCurEngineLost).put (curPage n) fCurShutterState shutterClosed).linkExpire n)
    (hg : g = (f.setCur n (f.cur n).fenced).setLk n { (f.setCur n (f.cur n).fenced).lk n with cur := [] }) :
    aesParityFailBody n d = (g.postedDrops (f.cur n).postedLost).signal (.faultHold 5) := by
  subst hg hf he hb
  unfold aesParityFailBody
  simp only [hruns, Bool.false_eq_true, if_false, hspare]
  rfl

end

theorem takeoverDoneBody_restarts (hstopped : (d.cur n).stopped = true) {x : Nat} (hspare : d.spareOf (engineGroup n.val) = some x)
    {b e f : Device} (hb : b = (d.put (curPage n) fCurCurStatusEngine x).setCur n { d.cur n with stopped := false })
    (he : e = (b.raise (curPage n) cCurTakeover).count (curPage n) 7)
    (hreplay : e.curMode n = 2 ∧ (e.lk n).retry ≠ [] → f = e.setLk n { e.lk n with replayAt := some 0, oweReplay := true })
    (hplain : ¬ (e.curMode n = 2 ∧ (e.lk n).retry ≠ []) → f = e) :
    takeoverDoneBody n d = ((f.unstall n).curArrived n).curPump n := by
  have hf : (if e.curMode n = 2 ∧ (e.lk n).retry ≠ [] then e.setLk n { e.lk n with replayAt := some 0, oweReplay := true }
      else e) = f := by
    by_cases h : e.curMode n = 2 ∧ (e.lk n).retry ≠ []
    · rw [if_pos h, hreplay h]
    · rw [if_neg h, hplain h]
  subst he hb
  rw [← hf]
  unfold takeoverDoneBody
  simp only [hstopped, Bool.not_true, Bool.false_eq_true, if_false, hspare]

end

theorem engineSelfTestDoneBody_judges {d : Device} {e : Fin 156} (hfailed : sget (fun _ => 0) d.engines e.val = 1) (pass : Bool) :
    engineSelfTestDoneBody e pass d = d.setEngine e.val (if pass then 0 else 2) := if_pos hfailed

/-- Only a spare that fails its test changes anything. -/
theorem spareSelfTestBody_fails {d : Device} {g : Fin 12} {e : Nat} (hspare : d.spareOf g.val = some e) :
    spareSelfTestBody g false d = (d.raise (.cur (Fin.ofNat 156 (144 + g.val))) cCurSpareFault).setEngine e 2 := by
  unfold spareSelfTestBody
  simp only [hspare]

theorem spareSelfTestBody_none {d : Device} {g : Fin 12} (hspare : d.spareOf g.val = none) : spareSelfTestBody g false d = d := by
  unfold spareSelfTestBody
  simp only [hspare]

/-- Settles O37. -/
theorem enginesFailOver : Obligations.EnginesFailOver := by
  unfold Obligations.EnginesFailOver
  refine ⟨fun s n hruns d e hd he => ⟨fun x hspare => ?_, fun hspare f g hf hg => ?_⟩,
    fun s n x hstopped hspare d e f hd he hreplay hplain => ?_, fun s e pass hfailed => ?_,
    fun s g => ⟨run_eq _ s _ rfl, fun e hspare => ?_, fun hspare => ?_⟩⟩
  · exact run_eq _ s _ (aesParityFailBody_spared hruns hd he hspare)
  · exact run_eq _ s _ (aesParityFailBody_fences hruns hd he hspare hf hg)
  · exact run_eq _ s _ (takeoverDoneBody_restarts hstopped hspare hd he hreplay hplain)
  · exact run_eq _ s _ (engineSelfTestDoneBody_judges hfailed pass)
  · exact run_eq _ s _ (spareSelfTestBody_fails hspare)
  · exact run_eq _ s _ (spareSelfTestBody_none hspare)

end Sys2Proof.Machine
end

section
/-! PROOFS. Records of a configuration stream (O38): the prologue, the segments, and the records that take effect at once. -/

namespace Sys2Proof.Machine

open Sys2Proof

section
variable {d : Device}

/-! ### SYNC and HEADER (R290, R291, R299) -/

theorem syncBody_finds {o : Nat} {rest : List Byte} (hphase : d.load.phase = .sync)
    (hfound : syncSearch 1025 d.load.offset d.load.buf = (o, rest, some true)) {e : Device} {t : List Byte × Device}
    (he : e = (d.takeBytes (d.load.buf.length - rest.length)).2) (ht : t = (e.setLoad { e.load with offset := o }).takeBytes 8) :
    syncBody d = (t.2.setLoad { t.2.load with phase := .header, prologue := t.1 }).loadStep := by
  subst ht he
  unfold syncBody
  simp only [hphase, hfound, ne_eq, not_true_eq_false, if_false]

/-- What a HEADER that has been taken goes on to, by its class (R291, R296, R299). -/
def Device.headerTaken (d : Device) (h : StreamHdr) : Device :=
  if h.cls = 2 then
    if 2 ^ 26 < h.bodyBytes then d.loadAbort abOveruse
    else
      match d.sealedKey h.slot with
      | none => ((d.raise .keys cKeysSealEmpty).count .keys 3).loadAbort abKey
      | some k => (d.setLoad { d.load with key := some k, phase := .body }).loadStep
  else if h.broadcast then d.setLoad { d.load with phase := .broadcast }
  else if h.cls = 1 then d.setLoad { d.load with phase := .wraps }
  else (d.setLoad { d.load with phase := .body }).loadStep

section
variable (hphase : d.load.phase = .header) (hwhole : 36 ≤ d.load.buf.length) {t : List Byte × Device} (ht : t = d.takeBytes 36)
include hphase hwhole ht

/-- A whole HEADER is judged: its first word, its fields, the mode; then it is taken. -/
theorem headerBody_judges {h : StreamHdr} {b b1 e : Device} (hh : h = hdrOf t.1)
    (hb : b = (t.2.put .cfg fCfgLoadStatusKind h.kind).put .cfg fCfgLoadStatusClass h.cls)
    (hb1 : b1 = b.setLoad { b.load with hdr := some h, head := t.1, prologue := b.load.prologue ++ t.1 })
    (he : e = (if h.kind = 0 then b1.enterLoad else b1)) : headerBody d =
      if wordAt t.1 0 ≠ 0x01000008 then t.2.loadAbort abRecord
      else if hdrAccepted stepping t.1 = false then t.2.loadAbort abHeader
      else if b.kindAllowed h.kind = false then b.loadAbort abMode
      else e.headerTaken h := by
  subst he hb1 hb hh ht
  exact if_neg (by simp [hphase, hwhole])

theorem headerBody_unlike (hword : wordAt t.1 0 ≠ 0x01000008) : headerBody d = t.2.loadAbort abRecord :=
  (headerBody_judges hphase hwhole ht rfl rfl rfl rfl).trans (if_pos hword)

section
variable (hword : wordAt t.1 0 = 0x01000008)
include hword

theorem headerBody_refused (hbad : hdrAccepted stepping t.1 = false) : headerBody d = t.2.loadAbort abHeader :=
  (headerBody_judges hphase hwhole ht rfl rfl rfl rfl).trans ((if_neg (not_not.mpr hword)).trans (if_pos hbad))

variable (haccepted : hdrAccepted stepping t.1 = true) {h : StreamHdr} (hh : h = hdrOf t.1) {b : Device}
  (hb : b = (t.2.put .cfg fCfgLoadStatusKind h.kind).put .cfg fCfgLoadStatusClass h.cls)
include haccepted hh hb

theorem headerBody_unmoded (hmode : b.kindAllowed h.kind = false) : headerBody d = b.loadAbort abMode :=
  (headerBody_judges hphase hwhole ht hh hb rfl rfl).trans
    ((if_neg (not_not.mpr hword)).trans ((if_neg (by simp [haccepted])).trans (if_pos hmode)))

theorem headerBody_takes (hmode : b.kindAllowed h.kind = true) {b1 e : Device}
    (hb1 : b1 = b.setLoad { b.load with hdr := some h, head := t.1, prologue := b.load.prologue ++ t.1 })
    (he : e = (if h.kind = 0 then b1.enterLoad else b1)) : headerBody d = e.headerTaken h :=
  (headerBody_judges hphase hwhole ht hh hb hb1 he).trans
    ((if_neg (not_not.mpr hword)).trans ((if_neg (by simp [haccepted])).trans (if_neg (by simp [hmode]))))

end
end

section
variable {h : StreamHdr}

theorem headerTaken_sealed (hcls : h.cls = 2) {k : BitVec 256} (hkey : d.sealedKey h.slot = some k) (hsize : h.bodyBytes ≤ 2 ^ 26) :
    d.headerTaken h = (d.setLoad { d.load with key := some k, phase := .body }).loadStep := by
  unfold Device.headerTaken
  rw [if_pos hcls, if_neg (Nat.not_lt.mpr hsize), hkey]

theorem headerTaken_unsealed (hcls : h.cls = 2) (hkey : d.sealedKey h.slot = none) (hsize : h.bodyBytes ≤ 2 ^ 26) :
    d.headerTaken h = ((d.raise .keys cKeysSealEmpty).count .keys 3).loadAbort abKey := by
  unfold Device.headerTaken
  rw [if_pos hcls, if_neg (Nat.not_lt.mpr hsize), hkey]

theorem headerTaken_overused (hcls : h.cls = 2) (hsize : 2 ^ 26 < h.bodyBytes) : d.headerTaken h = d.loadAbort abOveruse :=
  (if_pos hcls).trans (if_pos hsize)

theorem headerTaken_broadcast (hcls : h.cls ≠ 2) (hcast : h.broadcast = true) :
    d.headerTaken h = d.setLoad { d.load with phase := .broadcast } :=
  (if_neg hcls).trans (if_pos hcast)

theorem headerTaken_wrapped (hcls : h.cls = 1) (hcast : h.broadcast = false) :
    d.headerTaken h = d.setLoad { d.load with phase := .wraps } :=
  (if_neg (by rw [hcls]; decide)).trans ((if_neg (by simp [hcast])).trans (if_pos hcls))

theorem headerTaken_plain (hsealed : h.cls ≠ 2) (hwrapped : h.cls ≠ 1) (hcast : h.broadcast = false) :
    d.headerTaken h = (d.setLoad { d.load with phase := .body }).loadStep :=
  (if_neg hsealed).trans ((if_neg (by simp [hcast])).trans (if_neg hwrapped))

end

/-! ### BROADCAST and KEY_WRAP (R294, R299) -/

theorem broadcastBody_forwards {head len w0 n : Nat} {t : List Byte × Device} {self : Bool} {ws : List Nat}
    (hphase : d.load.phase = .broadcast) (hbegun : 4 ≤ d.load.buf.length) (hhead : head = wordAt d.load.buf 0)
    (hlen : len = head % 2 ^ 24) (htype : head / 2 ^ 24 = 0x09) (hmin : 2 ≤ len) (hmax : len ≤ 16)
    (hwhole : 4 + 4 * len ≤ d.load.buf.length) (ht : t = d.takeBytes (4 + 4 * len)) (hw0 : w0 = wordAt t.1 1) (hn : n = w0 % 16)
    (hself : self = w0.testBit 8) (hws : ws = (List.range n).map fun i => wordAt t.1 (2 + i)) (hpeers : n ≠ 0) (hfits : len = 1 + n)
    (hwraps : d.load.hdr.map (·.wraps) = some (n + self.toNat)) (hlinks : ∀ w ∈ ws, w % 256 ≤ 143) (hsrc : d.load.src ≠ 4) :
    broadcastBody d = (t.2.setLoad { t.2.load with
      prologue := d.load.prologue ++ t.1, relay := !self, phase := .wraps
      peers := ws.map fun w => { link := w % 256, node := BitVec.ofNat 10 (natBits w 8 10)
                                 bytes := d.load.prologue ++ t.1, stopped := false : Peer } }).loadStep := by
  have hrelay : (d.load.src != 4 && !self) = !self := by simp [hsrc]
  have hnolink : ws.any (fun w => decide (143 < w % 256)) = false := by
    rw [List.any_eq_false]
    intro w hw hfar
    exact Nat.not_lt.mpr (hlinks w hw) (of_decide_eq_true hfar)
  subst hws hself hn hw0 ht hlen hhead
  refine (if_neg (by simp [hphase, hbegun])).trans ((if_neg ?_).trans ((if_neg (Nat.not_lt.mpr hwhole)).trans
    ((if_neg ?_).trans ?_)))
  · rintro (h | h | h)
    · exact h htype
    · exact Nat.not_lt.mpr hmin h
    · exact Nat.not_lt.mpr hmax h
  · rintro (h | h | h | h)
    · exact hpeers h
    · exact h hfits
    · exact h hwraps
    · exact Bool.false_ne_true (hnolink.symm.trans h)
  · simp only [hrelay, if_neg hsrc]

section
variable (hphase : d.load.phase = .wraps) (hwhole : 52 ≤ d.load.buf.length) {t : List Byte × Device} (ht : t = d.takeBytes 52)
  {wraps : List (List Byte)} (hwraps : wraps = d.load.wraps ++ [t.1.drop 4]) {e : Device}
  (he : e = t.2.setLoad { t.2.load with wraps := wraps, prologue := d.load.prologue ++ t.1 })
include hphase hwhole ht

theorem keyWrapBody_unlike (hword : wordAt t.1 0 ≠ 0x0300000C) : keyWrapBody d = t.2.loadAbort abRecord := by
  subst ht
  exact (if_neg (by simp [hphase, hwhole])).trans (if_pos hword)

variable (hword : wordAt t.1 0 = 0x0300000C)
include hwraps he hword

theorem keyWrapBody_keeps (hmore : some wraps.length ≠ d.load.hdr.map (·.wraps)) : keyWrapBody d = e := by
  subst he hwraps ht
  exact (if_neg (by simp [hphase, hwhole])).trans ((if_neg (not_not.mpr hword)).trans (if_pos hmore))

theorem keyWrapBody_unwraps (hlast : some wraps.length = d.load.hdr.map (·.wraps)) (hrelay : d.load.relay = false) {k : BitVec 256}
    (hkey : streamKey dieSerial Config.dieKey wraps = some k) :
    keyWrapBody d = (e.setLoad { e.load with key := some k, phase := .body }).loadStep := by
  subst he hwraps ht
  refine (if_neg (by simp [hphase, hwhole])).trans ((if_neg (not_not.mpr hword)).trans ((if_neg (not_not.mpr hlast)).trans
    ((if_neg (by simp [hrelay])).trans ?_)))
  rw [hkey]

end

/-! ### Segments (R292, R293, R295) -/

theorem setLoad_load (d : Device) : d.setLoad d.load = d := rfl

section
variable {h : StreamHdr} {n : Nat} {t : List Byte × Device} {l : LoadSt} {k : BitVec 256} (hphase : d.load.phase = .body)
  (hhdr : d.load.hdr = some h) (hcls : h.cls ≠ 0) (hleft : d.load.verified < h.bodyBytes) (hready : d.load.ready = false)
  (hnext : d.load.nextKey = none) (hused : keyOverused h d.load.keyUsed d.load.seg = false)
  (hn : n = segBytes h d.load.seg) (hwhole : n + 16 ≤ d.load.buf.length) (ht : t = d.takeBytes (n + 16))
  (hl : l = { t.2.load with seg := d.load.seg + 1, verified := d.load.verified + n }) (hlead : l.relay = false) (hkey : l.key = some k)
include hphase hhdr hcls hleft hready hnext hused hn hwhole ht hl hlead hkey

/-- The next segment is opened once every record before it has been taken. -/
theorem segmentVerifyBody_opens : segmentVerifyBody d =
    match openSegment k h (l.seg - 1) (if l.seg = 1 then l.prologue else l.head) (t.1.take n) (t.1.drop n) with
    | none => (t.2.count .cfg 2).loadAbort abAuth
    | some plain => (t.2.setLoad { l with body := l.body ++ plain, keyUsed := l.keyUsed + n }).loadStep := by
  have hidle : ¬ (h.cls = 0 ∨ h.bodyBytes ≤ d.load.verified ∨ d.load.ready = true ∧ d.load.relay = false) := by
    simp [hcls, hleft, hready]
  have hbelow : ¬ (d.load.relay = false ∧ keyOverused h d.load.keyUsed d.load.seg = true) := by simp [hused]
  subst hl
  have hlead : ¬ t.2.load.relay = true := Bool.eq_false_iff.mp hlead
  have hkey : t.2.load.key = some k := hkey
  unfold segmentVerifyBody
  cases hopen : openSegment k h (d.load.seg + 1 - 1) (if d.load.seg + 1 = 1 then t.2.load.prologue else t.2.load.head)
      (t.1.take n) (t.1.drop n) <;>
    simp only [hphase, hhdr, hnext, setLoad_load, if_neg hidle, ← hn, ← ht, if_neg hbelow, if_neg (Nat.not_lt.mpr hwhole),
      if_neg hlead, hkey, Option.bind_some, hopen]

theorem segmentVerifyBody_fails (hopen : openSegment k h (l.seg - 1) (if l.seg = 1 then l.prologue else l.head) (t.1.take n)
    (t.1.drop n) = none) : segmentVerifyBody d = (t.2.count .cfg 2).loadAbort abAuth := by
  rw [segmentVerifyBody_opens hphase hhdr hcls hleft hready hnext hused hn hwhole ht hl hlead hkey, hopen]

theorem segmentVerifyBody_adds {plain : List Byte} (hopen : openSegment k h (l.seg - 1)
    (if l.seg = 1 then l.prologue else l.head) (t.1.take n) (t.1.drop n) = some plain) :
    segmentVerifyBody d = (t.2.setLoad { l with body := l.body ++ plain, keyUsed := l.keyUsed + n }).loadStep := by
  rw [segmentVerifyBody_opens hphase hhdr hcls hleft hready hnext hused hn hwhole ht hl hlead hkey, hopen]

end

/-! ### Records of the body (R288, R295, R300, R302, R303, R304) -/

section
variable {body : List Byte} {e : Device}

theorem padBody_takes (h : d.takeRecord rtPad = some (body, e)) : padBody d = e.loadStep := by
  unfold padBody
  rw [h]

theorem skippableRecordBody_takes {ty len : Nat} (hnext : d.load.next = some (ty, len)) (hskip : 128 ≤ ty)
    (h : d.takeRecord ty = some (body, e)) : skippableRecordBody d = e.loadStep := by
  unfold skippableRecordBody
  simp only [hnext, if_pos hskip, h]

theorem frameAddrBody_sets (h : d.takeRecord rtFrameAddr = some (body, e)) :
    frameAddrBody d = (e.setLoad { e.load with addr := some (wordAt body 0) }).loadStep := by
  unfold frameAddrBody
  simp only [h]

theorem crcCheckBody_judges (h : d.takeRecord rtCrcCheck = some (body, e)) :
    crcCheckBody d = if wordAt body 0 = crcValue e.load.crc then e.loadStep else e.loadAbort abCrc := by
  unfold crcCheckBody
  simp only [h]

theorem startSeqBody_judges (h : d.takeRecord rtStartSeq = some (body, e)) :
    startSeqBody d = if stepsLegal (wordAt body 0) then (e.setLoad { e.load with order := some (wordAt body 0) }).loadStep
      else e.loadAbort abRecord := by
  unfold startSeqBody
  simp only [h]

theorem keyRollRecordBody_sets (h : d.takeRecord rtKeyRoll = some (body, e)) {hdr : StreamHdr} (hhdr : d.load.hdr = some hdr)
    {stop : Nat} (hstop : stop = (e.load.used + 2 ^ (hdr.segLog2 + 10) - 1) / 2 ^ (hdr.segLog2 + 10) * 2 ^ (hdr.segLog2 + 10)) :
    keyRollRecordBody d = (e.setLoad { e.load with
      nextKey := some (BitVec.ofNat 256 (natBE (body.map (·.toNat)))), rollEnd := stop }).loadStep := by
  subst hstop
  unfold keyRollRecordBody
  simp only [h, hhdr]

theorem substrateTableBody_judges (h : d.takeRecord rtSubstrate = some (body, e)) {first count : Nat}
    (hfirst : first = natBits (wordAt body 0) 0 8) (hcount : count = natBits (wordAt body 0) 8 8) :
    substrateTableBody d = if body.length ≠ 4 * (1 + 16 * count) ∨ 144 < first + count then e.loadAbort abRecord
      else (e.substrateTable first count (body.drop 4)).loadStep := by
  subst hfirst hcount
  unfold substrateTableBody
  simp only [h]

end
end

/-- Settles O38: every record is its body, whose outcomes the lemmas above name. -/
theorem streamRecordsAreTaken : Obligations.StreamRecordsAreTaken := by
  unfold Obligations.StreamRecordsAreTaken
  intro s
  refine ⟨?sync, ?header, ?broadcast, ?wraps, ?segment, ?pad, ?skip, ?addr, ?crc, ?seq, ?roll, ?substrate⟩
  case sync => exact fun o rest hphase hfound d t hd ht => run_eq _ s _ (syncBody_finds hphase hfound hd ht)
  case header =>
    intro t hphase hwhole ht
    refine ⟨fun hword => run_eq _ s _ (headerBody_unlike hphase hwhole ht hword),
      fun hword hbad => run_eq _ s _ (headerBody_refused hphase hwhole ht hword hbad),
      fun h d hword haccepted hh hd => ⟨fun hmode => run_eq _ s _ (headerBody_unmoded hphase hwhole ht hword haccepted hh hd hmode),
        fun d1 e hmode hd1 he => ?_⟩⟩
    have htaken := headerBody_takes hphase hwhole ht hword haccepted hh hd hmode hd1 he
    exact ⟨fun k hcls hkey hsize => run_eq _ s _ (htaken.trans (headerTaken_sealed hcls hkey hsize)),
      fun hcls hkey hsize => run_eq _ s _ (htaken.trans (headerTaken_unsealed hcls hkey hsize)),
      fun hcls hsize => run_eq _ s _ (htaken.trans (headerTaken_overused hcls hsize)),
      fun hcls hcast => run_eq _ s _ (htaken.trans (headerTaken_broadcast hcls hcast)),
      fun hcls hcast => run_eq _ s _ (htaken.trans (headerTaken_wrapped hcls hcast)),
      fun hsealed hwrapped hcast => run_eq _ s _ (htaken.trans (headerTaken_plain hsealed hwrapped hcast))⟩
  case broadcast =>
    exact fun head len t w0 n self ws hphase hbegun hhead hlen htype hmin hmax hwhole ht hw0 hn hself hws hpeers hfits hwraps hlinks hsrc =>
      run_eq _ s _ (broadcastBody_forwards hphase hbegun hhead hlen htype hmin hmax hwhole ht hw0 hn hself hws hpeers hfits hwraps
        hlinks hsrc)
  case wraps =>
    exact fun t wraps d hphase hwhole ht hwraps hd => ⟨fun hword => run_eq _ s _ (keyWrapBody_unlike hphase hwhole ht hword),
      fun hword hmore => run_eq _ s _ (keyWrapBody_keeps hphase hwhole ht hwraps hd hword hmore),
      fun k hword hlast hrelay hkey => run_eq _ s _ (keyWrapBody_unwraps hphase hwhole ht hwraps hd hword hlast hrelay hkey)⟩
  case segment =>
    intro h n t l k hphase hhdr hcls hleft hready _ hnext hused hn hwhole ht hl hlead hkey res hres
    subst hres
    exact ⟨fun hopen => run_eq _ s _
        (segmentVerifyBody_fails hphase hhdr hcls hleft hready hnext hused hn hwhole ht hl hlead hkey hopen),
      fun plain hopen => run_eq _ s _
        (segmentVerifyBody_adds hphase hhdr hcls hleft hready hnext hused hn hwhole ht hl hlead hkey hopen)⟩
  case pad => exact fun body d h => run_eq _ s _ (padBody_takes h)
  case skip => exact fun ty len body d hnext hskip h => run_eq _ s _ (skippableRecordBody_takes hnext hskip h)
  case addr => exact fun body d h => run_eq _ s _ (frameAddrBody_sets h)
  case crc =>
    exact fun body d h => ⟨fun hcrc => run_eq _ s _ ((crcCheckBody_judges h).trans (if_pos hcrc)),
      fun hcrc => run_eq _ s _ ((crcCheckBody_judges h).trans (if_neg hcrc))⟩
  case seq =>
    exact fun body d h => ⟨fun hlegal => run_eq _ s _ ((startSeqBody_judges h).trans (if_pos hlegal)),
      fun hbad => run_eq _ s _ ((startSeqBody_judges h).trans (if_neg (Bool.eq_false_iff.mp hbad)))⟩
  case roll => exact fun body d hdr h hhdr stop hstop => run_eq _ s _ (keyRollRecordBody_sets h hhdr hstop)
  case substrate =>
    exact fun body d first count h hfirst hcount => ⟨fun hwhole hfits => run_eq _ s _ ((substrateTableBody_judges h hfirst hcount).trans
        (if_neg (by simp [hwhole, hfits]))),
      fun hbad => run_eq _ s _ ((substrateTableBody_judges h hfirst hcount).trans (if_pos hbad))⟩

end Sys2Proof.Machine
end

section
/-! PROOFS. Frames, windows, readbacks and the end of a configuration stream (O39). -/

namespace Sys2Proof.Machine

open Sys2Proof

section
variable {d : Device} {h : StreamHdr} (hhdr : d.load.hdr = some h) {body : List Byte} {e : Device}

/-! ### WINDOW (R298, R330, R346) -/

section
variable (htake : d.takeRecord rtWindow = some (body, e))
include htake

/-- A window over a bay of a golden call aborts; any other is `windowBody`. -/
theorem windowRecordBody_judges : windowRecordBody d =
    if (((windowBody d).load.window.getD []).any fun p => d.goldenCalls.contains p) then (e.raise .cfg cCfgPrBusy).loadAbort abBusy
    else windowBody d := by
  unfold windowRecordBody
  rw [htake]

theorem windowRecordBody_ungolden (hgolden : d.goldenCalls = []) : windowRecordBody d = windowBody d := by
  rw [windowRecordBody_judges htake, hgolden]
  exact if_neg (by simp)

variable {bays : List Nat} (hbays : bays = windowBays body) (hsome : bays ≠ [])
  (hexist : ∀ b ∈ bays, b < (if h.absolute then 112 else 104))
include hhdr hbays hsome hexist

/-- The bays that a WINDOW names all exist: it goes by whether one of them is busy. -/
theorem windowBody_judges : windowBody d =
    if bays.any (fun b => e.windowBusy h.absolute b) then (e.raise .cfg cCfgPrBusy).loadAbort abBusy
    else
      ((bays.map fun b => if h.absolute then b else (e.physOf (Fin.ofNat 104 b)).val).foldl (fun (d : Device) (p : Nat) =>
        let pb := Fin.ofNat 112 p
        let d := if sget (fun _ => false) d.bayOff p then
          { d.newEpoch (.pbay pb) with bayOff := sset (fun _ => false) d.bayOff p false } else d
        let d := (d.raise (.pbay pb) fPbayBayCfgStateInPr).lower (.pbay pb) fPbayHingeStatusDrowsyGated
        if d.bayShutter pb = shutterOpen then d.put (.pbay pb) fPbayShutterState shutterClosing
        else if d.bayShutter pb = shutterClosed then d.windowShut pb
        else d) (e.setLoad { e.load with window := some (bays.map fun b =>
          if h.absolute then b else (e.physOf (Fin.ofNat 104 b)).val) })).loadStep := by
  have hnone : (bays.any fun b => decide (if h.absolute then 112 ≤ b else 104 ≤ b)) = false := by
    rw [List.any_eq_false]
    intro b hb hfar
    have hlt := hexist b hb
    cases habs : h.absolute <;> simp [habs] at hlt hfar <;> omega
  subst hbays
  have hgoes : ((windowBays body).isEmpty ||
      (windowBays body).any fun b => decide (if h.absolute then 112 ≤ b else 104 ≤ b)) = false := by
    rw [hnone, Bool.or_false, List.isEmpty_eq_false_iff]
    exact hsome
  unfold windowBody
  simp only [htake, hhdr]
  rw [if_neg (Bool.eq_false_iff.mp hgoes)]

theorem windowRecordBody_busy (hbusy : bays.any (fun b => e.windowBusy h.absolute b) = true) :
    windowRecordBody d = (e.raise .cfg cCfgPrBusy).loadAbort abBusy := by
  rw [windowRecordBody_judges htake, windowBody_judges hhdr htake hbays hsome hexist, if_pos hbusy, ite_self]

end

/-! ### FRAME_DATA, FRAME_REPEAT and READBACK (R300, R301, R305) -/

section
variable (hphase : d.load.phase = .body) (hrelay : d.load.relay = false)
include hhdr hphase hrelay

theorem frameDataBody_goesOn (hunder : d.load.framesLeft ≠ 0) :
    frameDataBody d = (Device.frameRun d.load.framesLeft h d).loadStep := by
  unfold frameDataBody
  simp only [hphase, hhdr]
  rw [if_neg (Bool.eq_false_iff.mp hrelay), if_pos hunder]

theorem frameDataBody_begins {len w count mode typ : Nat} (hidle : d.load.framesLeft = 0)
    (hnext : d.load.next = some (rtFrameData, len)) (hword : 8 ≤ d.load.body.length) (hw : w = wordAt d.load.body 1)
    (hcount : count = w % 2 ^ 16) (hmode : mode = natBits w 16 2)
    (htyp : typ = (d.load.addr.map fun a => (frameAddrOf a).typ).getD 0) (hany : count ≠ 0) (hrest : w / 2 ^ 18 = 0)
    (hlen : len = 1 + count * (if mode = 2 then 130 else 128)) (hmode3 : mode ≠ 3) (hess : mode ≠ 0 → typ ≠ 1 ∧ typ ≠ 5) :
    frameDataBody d = (Device.frameRun count h (d.setLoad { d.load with
      body := d.load.body.drop 8, used := d.load.used + 8, framesLeft := count, essMode := mode, started := true })).loadStep := by
  subst htyp hmode hcount hw
  unfold frameDataBody
  simp only [hphase, hhdr, hnext]
  refine (if_neg (Bool.eq_false_iff.mp hrelay)).trans ((if_neg (not_not.mpr hidle)).trans
    ((if_neg (by simp [hword])).trans (if_neg ?_)))
  rintro (hzero | hhigh | hlong | hthree | ⟨hmarked, hone | hfive⟩)
  · exact hany hzero
  · exact hhigh hrest
  · exact hlong hlen
  · exact hmode3 hthree
  · exact (hess hmarked).1 hone
  · exact (hess hmarked).2 hfive

end

section
include hhdr

theorem frameRepeatBody_goesOn (hunder : d.load.repeatLeft ≠ 0) :
    frameRepeatBody d = (Device.repeatRun d.load.repeatLeft h d).loadStep := by
  unfold frameRepeatBody
  simp only [hhdr, if_pos hunder]

theorem frameRepeatBody_judges (hidle : d.load.repeatLeft = 0) (htake : d.takeRecord rtFrameRepeat = some (body, e)) {count : Nat}
    (hcount : count = wordAt body 0 % 2 ^ 16) : frameRepeatBody d =
      if count = 0 ∨ e.load.last.isNone then e.loadAbort abRecord
      else (Device.repeatRun count h (e.setLoad { e.load with repeatLeft := count })).loadStep := by
  subst hcount
  unfold frameRepeatBody
  simp only [hhdr, htake, if_neg (not_not.mpr hidle)]

theorem readbackBody_goesOn (hunder : d.load.readLeft ≠ 0) :
    readbackBody d = (Device.readbackPump 1024 (Device.readRun (d.load.readLeft + 1) h d)).loadStep := by
  unfold readbackBody
  simp only [hhdr, if_pos hunder]

theorem readbackBody_begins (hidle : d.load.readLeft = 0) (htake : d.takeRecord rtReadback = some (body, e)) {w count : Nat}
    (hw : w = wordAt body 1) (hcount : count = w % 2 ^ 16) (hany : count ≠ 0) (hrest : w / 2 ^ 17 = 0) :
    readbackBody d = (Device.readbackPump 1024 (Device.readRun (count + 1) h (e.setLoad { e.load with
      readLeft := count, readAddr := some (wordAt body 0), readDest := natLE ((body.drop 8).take 8)
      trailer := w.testBit 16 }))).loadStep := by
  subst hcount hw
  unfold readbackBody
  simp only [hhdr, htake, if_neg (not_not.mpr hidle)]
  exact if_neg fun h => h.elim hany fun hhigh => hhigh hrest

/-! ### END (R304, R305, R321) -/

/-- A body that is complete, with nothing but PAD behind END, ends by its CRC and its frame count. -/
theorem endRecordBody_judges (htake : d.takeRecord rtEnd = some (body, e)) (hverified : h.bodyBytes ≤ e.load.verified)
    (hout : e.load.writesOut = 0) (hwrites : e.load.writes = []) (hpads : padsOnly e.load.body.length e.load.body = true) :
    endRecordBody d = if wordAt body 0 ≠ crcValue e.load.crc ∨ e.load.frames ≠ h.frames then e.loadAbort abCrc
      else if h.kind = 2 then e.readbackEnd
      else ((e.raise .cfg cCfgLoadDone).dropReads.putInForce (e.raise .cfg cCfgLoadDone).dropReads.load.written).startSteps := by
  unfold endRecordBody
  simp only [htake, hhdr]
  exact (if_neg (by simp [hverified, hout, hwrites])).trans (if_neg (by simp [hpads]))

end

/-! ### A frame in a window (R331, R332) -/

section
variable {data : List DWord} {ess : DWord} {bits : Nat} {a : FrameAddr} {pb : Fin 112} {w : List Nat}
  (haddr : d.load.addr = some bits) (ha : a = frameAddrOf bits) (hexists : a.exists_ h.absolute = true)
  (hshadow : ¬ (a.typ = 4 ∧ a.major = shadowMajor)) (htcm : a.typ ≠ 5) (hpb : pb = d.frameBay h a) (hwindow : d.load.window = some w)
include haddr ha hexists hshadow htcm hpb hwindow

theorem putFrame_outside (hout : w.contains pb.val = false) : d.putFrame h data ess = (.abort abOutside, d) := by
  subst hpb ha
  unfold Device.putFrame
  simp only [haddr, hwindow]
  exact (if_neg hshadow).trans ((if_neg (by simp [hexists])).trans ((if_neg htcm).trans (if_pos (by rw [hout]; rfl))))

theorem putFrame_waits (hin : w.contains pb.val = true) (hopen : d.bayShutter pb ≠ shutterClosed) :
    d.putFrame h data ess = (.wait, d) := by
  subst hpb ha
  unfold Device.putFrame
  simp only [haddr, hwindow]
  exact (if_neg hshadow).trans ((if_neg (by simp [hexists])).trans ((if_neg htcm).trans ((if_neg (by rw [hin]; decide)).trans
    (if_pos hopen))))

end
end

/-- Settles O39. -/
theorem framesAndWindowsAreTaken : Obligations.FramesAndWindowsAreTaken := by
  unfold Obligations.FramesAndWindowsAreTaken
  refine ⟨fun s h hhdr => ⟨?window, ?data, ?dataBegins, ?rep, ?repBegins, ?read, ?readBegins, ?ends⟩, ?frames⟩
  case window =>
    intro body d bays htake hbays hsome hexist
    refine ⟨fun hbusy => run_eq _ s _ (windowRecordBody_busy hhdr htake hbays hsome hexist hbusy),
      fun hgolden => run_eq _ s _ ((windowRecordBody_judges htake).trans (if_pos hgolden)), fun phys hfree hgolden hphys => ?_⟩
    subst hphys
    exact run_eq _ s _ ((windowRecordBody_ungolden htake hgolden).trans
      ((windowBody_judges hhdr htake hbays hsome hexist).trans (if_neg (Bool.eq_false_iff.mp hfree))))
  case data => exact fun hphase hrelay hunder => run_eq _ s _ (frameDataBody_goesOn hhdr hphase hrelay hunder)
  case dataBegins =>
    exact fun len w count mode typ hphase hrelay hidle hnext hword hw hcount hmode htyp hany hrest hlen hmode3 hess => run_eq _ s _
      (frameDataBody_begins hhdr hphase hrelay hidle hnext hword hw hcount hmode htyp hany hrest hlen hmode3 hess)
  case rep => exact fun hunder => run_eq _ s _ (frameRepeatBody_goesOn hhdr hunder)
  case repBegins =>
    intro body d count hidle htake hcount
    have hjudged := frameRepeatBody_judges hhdr hidle htake hcount
    refine ⟨fun hany hlast => run_eq _ s _ (hjudged.trans (if_neg ?_)), fun hbad => run_eq _ s _ (hjudged.trans (if_pos ?_))⟩
    · rintro (hzero | hnone)
      · exact hany hzero
      · rw [Option.isNone_iff_eq_none] at hnone
        simp [hnone] at hlast
    · exact hbad.imp_right Option.isNone_iff_eq_none.mpr
  case read => exact fun hunder => run_eq _ s _ (readbackBody_goesOn hhdr hunder)
  case readBegins =>
    exact fun body d w count hidle htake hw hcount hany hrest =>
      run_eq _ s _ (readbackBody_begins hhdr hidle htake hw hcount hany hrest)
  case ends =>
    intro body d e htake hu hverified hout hwrites hpads
    have hjudged := endRecordBody_judges hhdr htake hverified hout hwrites hpads
    refine ⟨fun hbad he => runChecked_eq _ s _ ((hjudged.trans (if_pos hbad)).trans he.symm) hu, fun hcrc hframes hkind he => ?_,
      fun d1 hcrc hframes hkind hd1 he => ?_⟩
    · exact runChecked_eq _ s _ ((hjudged.trans ((if_neg (by simp [hcrc, hframes])).trans (if_pos hkind))).trans he.symm) hu
    · subst hd1
      exact runChecked_eq _ s _ ((hjudged.trans ((if_neg (by simp [hcrc, hframes])).trans (if_neg hkind))).trans he.symm) hu
  case frames =>
    exact fun d h data ess bits a pb w haddr ha hexists hshadow htcm hpb hwindow =>
      ⟨putFrame_outside haddr ha hexists hshadow htcm hpb hwindow, putFrame_waits haddr ha hexists hshadow htcm hpb hwindow⟩

end Sys2Proof.Machine
end

section
/-! PROOFS. How a load begins and is fed (O40). -/

namespace Sys2Proof.Machine

open Sys2Proof

section
variable {d : Device}

/-! ### The registers of the CFG page that begin and feed a load (R310, R313, R322) -/

section
variable {rq : Requester} (h : d.takes rq .cfg .cfg)
include h

/-- A write of LOAD_CMD does what its two command bits ask for. -/
theorem loadCmd_write (w : Word) : regWriteBody rq (regAt .cfg fCfgLoadCmdGo) w d =
    (let d := if w.getLsbD 0 then d.loadGo else d
     if w.getLsbD 1 then d.startupGo else d) := by
  have hnone : d.fieldsWrite .cfg fCfgLoadCmdGo.off w (fun _ => false) = d := fieldsWrite_nil (by decide)
  have horder : fCfgLoadCmdGo.off ≠ fCfgStartupOrderOrder.off := by decide
  have hbase : fCfgLoadCmdGo.off ≠ fCfgPullBaseBaseLo.off := by decide
  have htail : fCfgLoadCmdGo.off ≠ fCfgPushTailTail.off := by decide
  rw [page_write h _ _ (by decide) (by decide), Device.blockWrite, Device.cfgWriteReg, if_neg fun hand => horder hand.1,
    if_neg fun hand => hbase hand.1, if_neg htail, hnone]
  exact if_pos rfl

theorem pushTail_write (w : Word) : regWriteBody rq (regAt .cfg fCfgPushTailTail) w d = d.pushTail (bitsOf w 0 25) := by
  have horder : fCfgPushTailTail.off ≠ fCfgStartupOrderOrder.off := by decide
  have hbase : fCfgPushTailTail.off ≠ fCfgPullBaseBaseLo.off := by decide
  rw [page_write h _ _ (by decide) (by decide), Device.blockWrite, Device.cfgWriteReg, if_neg fun hand => horder hand.1,
    if_neg fun hand => hbase hand.1]
  exact if_pos rfl

end

theorem loadGo_refused {src : Nat} (hsrc : src = d.rd .cfg fCfgLoadSrcSource)
    (h : src = 0 ∨ 4 < src ∨ d.load.loading = true ∨ d.load.starting = true ∨ d.loadAllowed = false) :
    d.loadGo = d.raise .cfg cCfgLoadBusy := by
  subst hsrc
  exact if_pos (h.imp_right (.imp_right (.imp_right (.imp_right .inl))))

/-! ### What feeds a load, and what ends it (R310, R311, R312, R317, R319) -/

section
variable (hloading : d.load.loading = true)
include hloading

theorem pushWriteBody_stores (hsrc : d.load.src = 1) (off : BitVec 24) (bytes : List Byte) : pushWriteBody off bytes d =
    { d with pushWindow := (List.zip (List.range bytes.length) bytes).foldl (fun m (e : Nat × Byte) =>
        sset (fun _ => 0) m ((off.toNat + e.1) % 2 ^ 24) e.2) d.pushWindow } :=
  if_pos ⟨hloading, hsrc⟩

theorem fwdDataBody_delivers (hsrc : d.load.src = 4) (w : Word) : fwdDataBody w d = d.deliver (bytesLE 4 w.toNat) :=
  if_pos (by simp [Device.fwdReady, hloading, hsrc])

theorem flashResponseBody_answers (hsrc : d.load.src = 3) (a : FlashAnswer) : flashResponseBody a d =
    match a with
    | .data bytes => d.deliver bytes
    | .silent => d.loadAbort abSource
    | .pastEnd => d.loadAbort abSource := by
  refine (if_pos ⟨hloading, hsrc⟩).trans ?_
  cases a <;> rfl

theorem loadLateBody_aborts (hbound : d.load.bound = true) (hdeadline : d.rd .cfg fCfgDeadlineStatusDeadline ≠ 0) :
    loadLateBody d = (d.raise .cfg cCfgLoadLate).loadAbort abLate :=
  if_pos (by simp [Device.deadlineArmed, hloading, hbound, hdeadline])

theorem loadLimitBody_aborts (hbound : d.load.bound = false) (hlimit : d.rd .cfg fCfgLoadLimitLimit ≠ 0) :
    loadLimitBody d = d.loadAbort abLimit :=
  if_pos (by simp [hloading, hbound, hlimit])

end

section
variable {off t : Nat} {r : HostReq} (hpull : d.oldestPull = some (off, t, r))
include hpull

theorem pullCompletionBody_delivers {bytes : List Byte} (hlen : bytes.length = r.len) :
    pullCompletionBody .ok bytes d = (d.setHostReq t none).deliver bytes := by
  unfold pullCompletionBody
  simp only [hpull, if_pos hlen]
  rfl

theorem pullCompletionBody_aborts {st : CplStatus} (hst : st ≠ .ok) (bytes : List Byte) :
    pullCompletionBody st bytes d = (d.setHostReq t none).loadAbort abSource := by
  unfold pullCompletionBody
  simp only [hpull]
  exact if_neg (by simpa using hst)

end
end

/-- Settles O40. -/
theorem loadsBeginAndAreFed : Obligations.LoadsBeginAndAreFed := by
  unfold Obligations.LoadsBeginAndAreFed
  refine ⟨fun s rq e h hu => ⟨fun he => runChecked_eq _ s _ ((loadCmd_write h 1).trans he.symm) hu,
      fun he => runChecked_eq _ s _ ((loadCmd_write h 2).trans he.symm) hu⟩, fun d src => loadGo_refused,
    fun s rq w h => run_eq _ s _ (pushTail_write h w), fun s hloading => ⟨?_, ?_, ?_, ?_, ?_⟩, fun s off t r hpull => ⟨?_, ?_⟩⟩
  · exact fun off bytes hsrc => run_eq _ s _ (pushWriteBody_stores hloading hsrc off bytes)
  · exact fun w hsrc => run_eq _ s _ (fwdDataBody_delivers hloading hsrc w)
  · exact fun hsrc => ⟨fun bytes => run_eq _ s _ (flashResponseBody_answers hloading hsrc _),
      run_eq _ s _ (flashResponseBody_answers hloading hsrc _), run_eq _ s _ (flashResponseBody_answers hloading hsrc _)⟩
  · exact fun hbound hdeadline => run_eq _ s _ (loadLateBody_aborts hloading hbound hdeadline)
  · exact fun hbound hlimit => run_eq _ s _ (loadLimitBody_aborts hloading hbound hlimit)
  · exact fun bytes hlen => run_eq _ s _ (pullCompletionBody_delivers hpull hlen)
  · exact fun st bytes hst => run_eq _ s _ (pullCompletionBody_aborts hpull hst bytes)

end Sys2Proof.Machine
end

section
/-! PROOFS. The steps of a start-up (O41). -/

namespace Sys2Proof.Machine

open Sys2Proof

section
variable {d : Device} (hstarting : d.load.starting = true)
include hstarting

/-! ### LOCK, the set-reset, writes and outputs (R323) -/

section
variable (hstep : d.step = stLock) {ok : Bool}
  (hok : ok = ([1, 2, 3, 4].all fun p => !d.pairNeeded d.load.region p || d.flag .clk fClkSrcStatusLocked p))
include hstep hok

theorem lockBody_goesOn (hlocked : ok = true) : lockBody d = d.nextStep := if_pos ⟨hstarting, hstep, hok.symm.trans hlocked⟩

theorem lockFailBody_aborts (hopen : ok = false) : lockFailBody d = d.loadAbort abLock :=
  if_pos ⟨hstarting, hstep, hok.symm.trans hopen⟩

end

section
variable (hstep : d.step = stGsr)
include hstep

theorem releaseGsrBody_full (hfull : d.fullStartup = true) :
    releaseGsrBody d = Device.nextStep { d with gsr := false, bayReset := [] } :=
  (if_pos ⟨hstarting, hstep⟩).trans (congrArg Device.nextStep (if_pos hfull))

theorem releaseGsrBody_region (hpartial : d.fullStartup = false) : releaseGsrBody d = Device.nextStep { d with
    bayReset := d.load.region.foldl (fun m (p : Nat) => sset (fun _ => false) m p false) d.bayReset } :=
  (if_pos ⟨hstarting, hstep⟩).trans (congrArg Device.nextStep (if_neg (Bool.eq_false_iff.mp hpartial)))

end

theorem enableWritesBody_enables (hstep : d.step = stWrites) : enableWritesBody d = Device.nextStep { d with
    writesOn := d.load.region.foldl (fun m (p : Nat) => sset (fun _ => false) m p true) d.writesOn } :=
  if_pos ⟨hstarting, hstep⟩

theorem releaseOutputsBody_opens (hstep : d.step = stOutputs) : releaseOutputsBody d =
    (d.load.region.foldl (fun (d : Device) (p : Nat) =>
      let pb := Fin.ofNat 112 p
      if (d.logicalOf pb).isSome ∧ d.bayShutter pb = shutterClosed then
        d.commitBeforeOpen.put (.pbay pb) fPbayShutterState shutterOpen
      else d) d).nextStep :=
  if_pos ⟨hstarting, hstep⟩

/-! ### The latch line (R326) -/

theorem latchBody_releases (hstep : d.step = stLatch) : latchBody d = d.lower .cfg fCfgLatchDriving := if_pos ⟨hstarting, hstep⟩

theorem latchNHighBody_goesOn (hreleased : d.flag .cfg fCfgLatchDriving = false)
    (hstep : (d.raise .cfg fCfgLatchLevel).step = stLatch) : latchNHighBody d = (d.raise .cfg fCfgLatchLevel).nextStep :=
  (if_neg (Bool.eq_false_iff.mp hreleased)).trans (if_pos ⟨hstarting, hstep⟩)

theorem latchTimeoutBody_aborts (hstep : d.step = stLatch) (hreleased : d.flag .cfg fCfgLatchDriving = false)
    (hlimit : d.rd .cfg fCfgLatchLimit ≠ 0) : latchTimeoutBody d = d.loadAbort abLatch :=
  if_pos ⟨hstarting, hstep, hreleased, hlimit⟩

end

/-- Settles O41: each step's event is its body at that step. -/
theorem startupRunsItsSteps : Obligations.StartupRunsItsSteps := by
  unfold Obligations.StartupRunsItsSteps
  intro s hstarting ok hok
  refine ⟨fun hstep => ⟨fun hlocked => run_eq _ s _ (lockBody_goesOn hstarting hstep hok hlocked),
      fun hopen => run_eq _ s _ (lockFailBody_aborts hstarting hstep hok hopen)⟩,
    fun hstep => ⟨fun hfull => run_eq _ s _ (releaseGsrBody_full hstarting hstep hfull),
      fun hpartial => run_eq _ s _ (releaseGsrBody_region hstarting hstep hpartial)⟩,
    fun hstep => run_eq _ s _ (enableWritesBody_enables hstarting hstep),
    fun e hstep hu he => runChecked_eq _ s _ ((releaseOutputsBody_opens hstarting hstep).trans he.symm) hu,
    fun hstep => ⟨run_eq _ s _ (latchBody_releases hstarting hstep),
      fun hreleased hnow => run_eq _ s _ (latchNHighBody_goesOn hstarting hreleased hnow),
      fun hreleased hlimit => run_eq _ s _ (latchTimeoutBody_aborts hstarting hstep hreleased hlimit)⟩⟩

end Sys2Proof.Machine
end

section
/-! PROOFS. The scrubber (O42): passes, votes, injected errors and upsets. -/

namespace Sys2Proof.Machine

open Sys2Proof

section
variable {d : Device}

/-! ### Passes (R339) -/

section
variable (hruns : d.scrubRuns = true)
include hruns

theorem passStartBody_begins (hgap : d.scrubAt = none) : passStartBody d = { d with scrubAt := some 0 } :=
  if_pos ⟨hruns, Option.isNone_iff_eq_none.mpr hgap⟩

variable {p : Nat} (hat : d.scrubAt = some p)
include hat

theorem scrubFrameBody_skips (hnone : Device.scrubFrom 113 d (frameAddrOf p) = none) : scrubFrameBody d = d.passEnd := by
  unfold scrubFrameBody
  simp only [hruns, hat, hnone, Bool.true_eq_false, if_false]

variable {a : FrameAddr} {e : Device} (ha : Device.scrubFrom 113 d (frameAddrOf p) = some a)
  (he : e = (d.put .scrub fScrubScrubStatusBay a.bay).scrubAddr a)
include ha he

theorem scrubFrameBody_ends (hlast : passNext a = none) : scrubFrameBody d = e.passEnd := by
  subst he
  unfold scrubFrameBody
  simp only [hruns, hat, ha, hlast, Bool.true_eq_false, if_false]

theorem scrubFrameBody_goesOn {n : FrameAddr} (hnext : passNext a = some n) : scrubFrameBody d = { e with scrubAt := some n.bits } := by
  subst he
  unfold scrubFrameBody
  simp only [hruns, hat, ha, hnext, Bool.true_eq_false, if_false]

end

/-! ### Votes, INJECT and upsets (R347, R349, R367) -/

theorem voteLostBody_restarts {b e : Device}
    (hb : b = (((((d.put .scrub fScrubVoteStatusDissent 7).raise .scrub cScrubVoteLost).put .scrub fScrubScrubCtrlPassGap
      0).put .scrub hdrEnable 1).put .scrub fScrubInjectAddrFrame 0).put .scrub fScrubInjectWord 0)
    (he : e = { (b.put .scrub fScrubInjectBit 0).rebuildMaps with golden := [], scrubAt := none }) :
    voteLostBody d = if e.scrubRuns then { e with scrubAt := some 0 } else e := by
  subst he hb
  rfl

/-- A write of INJECT with GO acts where its bit is one of a stored word's 73. -/
theorem inject_write {rq : Requester} (h : d.takes rq .scrub .scrub) {w : Word} (hgo : w.getLsbD 31 = true) (hbit : bitsOf w 8 7 ≤ 72) :
    regWriteBody rq (regAt .scrub fScrubInjectWord) w d =
      (d.fieldsWrite .scrub fScrubInjectWord.off w fun _ => false).injectGo := by
  have haddr : fScrubInjectWord.off ≠ fScrubInjectAddrFrame.off := by decide
  rw [page_write h _ _ (by decide) (by decide), Device.blockWrite, Device.scrubWrite, if_neg fun hand => haddr hand.1,
    if_pos ⟨rfl, hgo⟩, if_pos hbit]

theorem configUpsetBody_flips {pb : Fin 112} {addr : Word} {col : Fin 66} {bit : Fin 73} {a : FrameAddr}
    (ha : a = { frameAddrOf addr.toNat with bay := pb.val }) (hstored : storedAddr a = true) (hon : d.fabricOn = true)
    (hcol : a.typ = 0 ∨ col.val < 64) :
    configUpsetBody pb addr col bit d = d.flipCfg pb (cfgKey pb.val a.typ a.major a.minor col.val) bit.val := by
  subst ha
  refine if_pos ?_
  rw [hstored, hon]
  simpa using hcol

end

/-- Settles O42. -/
theorem scrubberCommands : Obligations.ScrubberCommands := by
  unfold Obligations.ScrubberCommands
  refine ⟨fun s hruns => ⟨fun hgap => run_eq _ s _ (passStartBody_begins hruns hgap), fun p hat =>
      ⟨fun hnone => run_eq _ s _ (scrubFrameBody_skips hruns hat hnone), fun a d ha hd =>
        ⟨fun hlast => run_eq _ s _ (scrubFrameBody_ends hruns hat ha hd hlast),
          fun n hnext => run_eq _ s _ (scrubFrameBody_goesOn hruns hat ha hd hnext)⟩⟩⟩,
    fun s => ⟨fun c => run_eq _ s _ rfl, fun d e hd he => run_eq _ s _ (voteLostBody_restarts hd he)⟩,
    fun s rq w e h hu hbit he => ?_,
    fun s pb addr col bit a ha hstored hon hcol => run_eq _ s _ (configUpsetBody_flips ha hstored hon hcol)⟩
  have hgo : (w ||| 0x80000000).getLsbD 31 = true := by
    rw [BitVec.getLsbD_or]
    exact Bool.or_true _
  exact runChecked_eq _ s _ ((inject_write h hgo hbit).trans he.symm) hu

end Sys2Proof.Machine
end

section
/-! PROOFS. Services of the warden (O43): a request is submitted, served and answered. -/

namespace Sys2Proof.Machine

open Sys2Proof

section
variable {d : Device} {n : Fin 4} {ws : List Word}

/-! ### Requests (R369) -/

theorem submit_write {rq : Requester} (h : d.takes rq (.warden n) (.warden n)) :
    regWriteBody rq (regAt (.warden n) fWardenSubmitGo) 1 d = d.submitGo n := by
  have hwo : ∀ f ∈ fieldsAt (.warden 0) fWardenSubmitGo.off, f.ty = .wo ∨ f.ty = .ro := by decide
  have hnone : d.fieldsWrite (.warden n) fWardenSubmitGo.off 1 (fun _ => false) = d := fieldsWrite_nil hwo
  rw [page_write h _ _ (by decide) (by decide), Device.blockWrite, Device.wardenWrite, hnone]
  exact if_pos ⟨rfl, rfl⟩

/-- A request that has not been judged has no reads or writes that ended. -/
theorem serviceDone_of_serviceReq {k : Nat} (h : d.serviceReq n k = some ws) : d.serviceDone n k = none := by
  unfold Device.serviceReq at h
  unfold Device.serviceDone
  cases hrun : (d.mailbox n.val).running with
  | none => simp only [hrun]
  | some vs =>
    simp only [hrun, Option.ite_none_right_eq_some] at h
    obtain ⟨⟨-, hnew⟩, -⟩ := h
    cases hjob : (d.mailbox n.val).job with
    | none => simp only [hrun, hjob]
    | some j => simp [hrun, hjob, hnew]

/-- A request whose reads or writes have ended has been judged. -/
theorem serviceReq_of_serviceDone {k : Nat} {j : WardenJob} (h : d.serviceDone n k = some (ws, j)) : d.serviceReq n k = none := by
  cases hreq : d.serviceReq n k with
  | none => rfl
  | some vs => exact absurd ((serviceDone_of_serviceReq hreq).symm.trans h) nofun

/-! ### MIGRATE (R358, R359) -/

section
variable (hreq : d.serviceReq n 1 = some ws) {bay : Fin 128}
include hreq

theorem migrateBody_unlike (hbay : reqWord ws 1 % 128 ≠ bay.val) : migrateBody n bay d = d := by
  unfold migrateBody
  simp only [hreq]
  exact if_pos hbay

theorem migrateBody_none (hbay : reqWord ws 1 % 128 = bay.val) (hbeyond : 104 ≤ bay.val) :
    migrateBody n bay d = d.respond n.val wsInvalid [] := by
  unfold migrateBody
  simp only [hreq]
  exact (if_neg (not_not.mpr hbay)).trans (dif_neg (Nat.not_lt.mpr hbeyond))

variable {b : Fin 104} (hb : bay.val = b.val) (hbay : reqWord ws 1 % 128 = b.val)
include hb hbay

/-- A request that names a bay is judged. -/
theorem migrateBody_judges : migrateBody n bay d =
    if d.migJudge b ≠ wsOk then
      (if d.migJudge b = wsNoSpare then d.raise .repair cRepairNoSpare else d).respond n.val (d.migJudge b) []
    else
      match d.freeBay (b.val / 13) with
      | none => d.respond n.val wsNoSpare []
      | some p => d.migrateAccept n ws b p := by
  obtain ⟨_, hlt⟩ := bay
  subst hb
  unfold migrateBody
  simp only [hreq]
  refine (if_neg (not_not.mpr hbay)).trans ((dif_pos b.isLt).trans ?_)
  cases d.freeBay (b.val / 13) <;> rfl

theorem migrateBody_declines (hbad : d.migJudge b ≠ wsOk) (hspare : d.migJudge b ≠ wsNoSpare) :
    migrateBody n bay d = d.respond n.val (d.migJudge b) [] := by
  rw [migrateBody_judges hreq hb hbay, if_pos hbad, if_neg hspare]

theorem migrateBody_spareless (hspare : d.migJudge b = wsNoSpare) :
    migrateBody n bay d = (d.raise .repair cRepairNoSpare).respond n.val wsNoSpare [] := by
  rw [migrateBody_judges hreq hb hbay, hspare]
  rfl

theorem migrateBody_accepts (hok : d.migJudge b = wsOk) {p : Fin 112} (hfree : d.freeBay (b.val / 13) = some p) :
    migrateBody n bay d = d.migrateAccept n ws b p := by
  rw [migrateBody_judges hreq hb hbay, if_neg (not_not.mpr hok), hfree]

end

/-- A migration that a request begins reads its stream first where words 2 and 3 name one. -/
theorem migrateAccept_eq {b : Fin 104} {p : Fin 112} {stream : Bool} {e : Device}
    (hstream : stream = !(reqWord ws 2 == 0 && reqWord ws 3 == 0))
    (he : e = (d.serviceWaits n).migStart b p { mbx := some n.val, stream := stream, golden := [], goldenStatus := wsOk, due := none
                                                holding := none, cloned := 0, since := 0 }) :
    d.migrateAccept n ws b p = if stream then e.wardenBegin n false (reqAddr ws) (reqWord ws 4) [] else e := by
  subst he hstream
  rfl

/-! ### RETIRE and SELF_TEST (R354, R363) -/

section
variable (hreq : d.serviceReq n 2 = some ws)
include hreq

theorem retireBody_declines {st : Nat} (hbay : d.bayRequest ws = .inl st) : retireBody n d = d.respond n.val st [] := by
  unfold retireBody
  simp only [hreq, hbay]

theorem retireBody_judges {pb : Fin 112} (hbay : d.bayRequest ws = .inr pb) : retireBody n d =
    if (reqWord ws 1).testBit 8 then (d.retireBay pb false).respond n.val wsOk []
    else (d.serviceWaits n).startTest pb (.retireCall n.val) := by
  unfold retireBody
  simp only [hreq, hbay]

end

section
variable (hreq : d.serviceReq n 3 = some ws)
include hreq

theorem selfTestBody_declines {st : Nat} (hbay : d.bayRequest ws = .inl st) : selfTestBody n d = d.respond n.val st [] := by
  unfold selfTestBody
  simp only [hreq, hbay]

theorem selfTestBody_begins {pb : Fin 112} (hbay : d.bayRequest ws = .inr pb) :
    selfTestBody n d = (d.serviceWaits n).startTest pb (.service n.val ((reqWord ws 1).testBit 8)) := by
  unfold selfTestBody
  simp only [hreq, hbay]

end

/-! ### LOAD_KEY into the key RAM (R276, R296) -/

section
variable (hreq : d.serviceReq n 4 = some ws) (hram : (reqWord ws 1).testBit 12 = true) (hplain : (reqWord ws 1).testBit 16 = false)
  (hmin : 4 ≤ reqWord ws 1 % 256) (hmax : reqWord ws 1 % 256 ≤ 11) (hfrom : reqWord ws 2 ≤ 11)
include hreq hram hplain hmin hmax hfrom

/-- A key in a slot of the key RAM comes from the slot that the request names. -/
theorem loadKeyBody_judges : loadKeyBody n d =
    match d.sealedKey (reqWord ws 2) with
    | none => d.keyOutcome n ws wsFailed 3 cKeysSealEmpty
    | some k => Device.keyOutcome { d with keyRam := sset (fun _ => none) d.keyRam (reqWord ws 1 % 256) (some k) }
        n ws wsOk 0 cKeysKeyLoaded := by
  have hlegal : ¬ (reqWord ws 1 % 256 < 4 ∨ 11 < reqWord ws 1 % 256) := by omega
  have hsource : ¬ 11 < reqWord ws 2 := Nat.not_lt.mpr hfrom
  unfold loadKeyBody
  cases hkey : d.sealedKey (reqWord ws 2) <;> simp [hreq, hram, hplain, hlegal, hsource, hkey]

end

/-! ### Services that read or write host memory (R346, R352, R370) -/

theorem loadSubstrateBody_judges (hreq : d.serviceReq n 5 = some ws) : loadSubstrateBody n false d =
    if natBits (reqWord ws 1) 8 8 = 0 ∨ 144 < reqWord ws 1 % 256 + natBits (reqWord ws 1) 8 8 then d.respond n.val wsInvalid []
    else d.wardenBegin n false (reqAddr ws) (64 * natBits (reqWord ws 1) 8 8) [] := by
  unfold loadSubstrateBody
  simp only [hreq]

theorem goldenBody_begins (hreq : d.serviceReq n 6 = some ws) :
    goldenBody n false d = d.wardenBegin n false (reqAddr ws) (reqWord ws 4) [] := by
  unfold goldenBody
  simp only [hreq]

theorem recordExportBody_begins (hreq : d.serviceReq n 8 = some ws) : recordExportBody n false d =
    d.wardenBegin n true (reqAddr ws) 4096 ((List.range 4096).map (Config.recordByte d.record)) := by
  unfold recordExportBody
  simp only [hreq]

section
variable {j : WardenJob}

theorem loadSubstrateBody_fails (hdone : d.serviceDone n 5 = some (ws, j)) (hresult : j.result = none) :
    loadSubstrateBody n true d = d.respond n.val wsFailed [] := by
  unfold loadSubstrateBody
  simp only [hdone, hresult]

theorem loadSubstrateBody_loads (hdone : d.serviceDone n 5 = some (ws, j)) {bytes : List Byte} {r : Device × Nat}
    (hresult : j.result = some bytes)
    (hr : r = d.substrateService (reqWord ws 1 % 256) (natBits (reqWord ws 1) 8 8) bytes) :
    loadSubstrateBody n true d = r.1.respond n.val wsOk [r.2] := by
  subst hr
  unfold loadSubstrateBody
  simp only [hdone, hresult]

theorem goldenBody_fails (hdone : d.serviceDone n 6 = some (ws, j)) (hresult : j.result = none) :
    goldenBody n true d = d.respond n.val wsFailed [] := by
  unfold goldenBody
  simp only [hdone, hresult]

theorem goldenBody_writes (hdone : d.serviceDone n 6 = some (ws, j)) {bytes : List Byte} {g : GoldenResult}
    (hresult : j.result = some bytes) (hg : d.goldenJudge bytes = g) : goldenBody n true d =
      (g.frames.foldl (fun (d : Device) (e : Nat × List DWord × DWord) => d.goldenWrite e.1 e.2.1 e.2.2) d).respond n.val
        g.status [g.reason] := by
  subst hg
  unfold goldenBody
  simp only [hdone, hresult]

theorem recordExportBody_ends (hdone : d.serviceDone n 8 = some (ws, j)) :
    recordExportBody n true d = d.respond n.val (if j.bad then wsFailed else wsOk) [] := by
  unfold recordExportBody
  simp only [hdone]

end

/-! What is not due changes nothing. -/

theorem loadSubstrateBody_undue (h : d.serviceDone n 5 = none) : loadSubstrateBody n true d = d := by
  unfold loadSubstrateBody
  simp only [h]

theorem loadSubstrateBody_judged (h : d.serviceReq n 5 = none) : loadSubstrateBody n false d = d := by
  unfold loadSubstrateBody
  simp only [h]

theorem goldenBody_undue (h : d.serviceDone n 6 = none) : goldenBody n true d = d := by
  unfold goldenBody
  simp only [h]

theorem goldenBody_judged (h : d.serviceReq n 6 = none) : goldenBody n false d = d := by
  unfold goldenBody
  simp only [h]

theorem recordExportBody_undue (h : d.serviceDone n 8 = none) : recordExportBody n true d = d := by
  unfold recordExportBody
  simp only [h]

theorem recordExportBody_judged (h : d.serviceReq n 8 = none) : recordExportBody n false d = d := by
  unfold recordExportBody
  simp only [h]

/-! ### RESTORE of an engine, and the record (R351, R352) -/

theorem restoreBody_engine (hreq : d.serviceReq n 7 = some ws) (hkind : reqWord ws 1 % 16 = 3) {index : Nat}
    (hindex : index = natBits (reqWord ws 1) 8 8) (hmax : index ≤ 155) (hfailed : sget (fun _ => 0) d.engines index = 2)
    (pass : Bool) : restoreBody n pass d =
      if pass then ((d.setEngine index 0).raise .repair cRepairRestored).respond n.val wsOk []
      else d.respond n.val wsFailed [] := by
  subst hindex
  have hback : natBits (reqWord ws 1) 8 8 ≤ 155 ∧ sget (fun _ => 0) d.engines (natBits (reqWord ws 1) 8 8) = 2 := ⟨hmax, hfailed⟩
  unfold restoreBody
  simp only [hreq, hkind, if_pos hback]

section
variable (hreq : d.serviceReq n 9 = some ws)
include hreq

theorem recordImportBody_denied (h : n.val ≠ 0 ∨ d.mode ≠ mDoorway) (bytes : Option (List Byte)) :
    recordImportBody n bytes d = d.respond n.val wsDenied [] := by
  unfold recordImportBody
  simp only [hreq]
  exact if_pos h

variable (hn : n.val = 0) (hmode : d.mode = mDoorway) {bs : List Byte}
include hn hmode

theorem recordImportBody_forged (hbad : Config.recordOf bs = none) :
    recordImportBody n (some bs) d = d.respond n.val wsAuth [] := by
  unfold recordImportBody
  simp only [hreq, hbad]
  exact if_neg (by simp [hn, hmode])

theorem recordImportBody_applies {r : RepairRecord} (hrecord : Config.recordOf bs = some r) : recordImportBody n (some bs) d =
    (Device.raise { d.applyRecord r with recordPending := false } .repair fRepairRecordLoaded).respond n.val wsOk [] := by
  unfold recordImportBody
  simp only [hreq, hrecord]
  exact if_neg (by simp [hn, hmode])

end
end

/-- Settles O43: the rows are the services' bodies at a request that is due. -/
theorem wardenServices : Obligations.WardenServices := by
  unfold Obligations.WardenServices
  refine ⟨fun s rq n h => run_eq _ s _ (submit_write h), fun s n ws => ⟨?unlike, ?migrate, ?retire, ?test, ?key, ?substrate, ?loaded,
    ?golden, ?judged, ?restore, ?writes, ?written, ?undue, ?record⟩⟩
  case unlike =>
    exact fun hreq bay => ⟨fun hbay => run_eq _ s _ (migrateBody_unlike hreq hbay),
      fun hbay hbeyond => run_eq _ s _ (migrateBody_none hreq hbay hbeyond)⟩
  case migrate =>
    intro hreq b bay hb hbay
    refine ⟨fun st hst hbad hspare => ?_, fun hspare => run_eq _ s _ (migrateBody_spareless hreq hb hbay hspare),
      fun p stream d hok hfree hstream hd => ?_⟩
    · subst hst
      exact run_eq _ s _ (migrateBody_declines hreq hb hbay hbad hspare)
    · have hbegun := (migrateBody_accepts hreq hb hbay hok hfree).trans (migrateAccept_eq hstream hd)
      exact ⟨fun hnone => run_eq _ s _ (hbegun.trans (if_neg (Bool.eq_false_iff.mp hnone))),
        fun hsome => run_eq _ s _ (hbegun.trans (if_pos hsome))⟩
  case retire =>
    exact fun hreq => ⟨fun st hbay => run_eq _ s _ (retireBody_declines hreq hbay), fun pb hbay =>
      ⟨fun hnow => run_eq _ s _ ((retireBody_judges hreq hbay).trans (if_pos hnow)),
        fun htest => run_eq _ s _ ((retireBody_judges hreq hbay).trans (if_neg (Bool.eq_false_iff.mp htest)))⟩⟩
  case test =>
    exact fun hreq => ⟨fun st hbay => run_eq _ s _ (selfTestBody_declines hreq hbay),
      fun pb hbay => run_eq _ s _ (selfTestBody_begins hreq hbay)⟩
  case key =>
    intro hreq hram hplain hmin hmax hfrom
    have hjudged := loadKeyBody_judges hreq hram hplain hmin hmax hfrom
    exact ⟨fun hnone => run_eq _ s _ (by simpa only [hnone] using hjudged),
      fun k hkey => run_eq _ s _ (by simpa only [hkey] using hjudged)⟩
  case substrate =>
    exact fun hreq => ⟨fun hbad => run_eq _ s _ ((loadSubstrateBody_judges hreq).trans (if_pos hbad)),
      fun hany hfits => run_eq _ s _ ((loadSubstrateBody_judges hreq).trans (if_neg (by omega)))⟩
  case loaded =>
    exact fun j hdone => ⟨fun hresult => run_eq _ s _ (loadSubstrateBody_fails hdone hresult),
      fun bytes r hresult hr => run_eq _ s _ (loadSubstrateBody_loads hdone hresult hr)⟩
  case golden => exact fun hreq => run_eq _ s _ (goldenBody_begins hreq)
  case judged =>
    exact fun j hdone => ⟨fun hresult => run_eq _ s _ (goldenBody_fails hdone hresult),
      fun bytes g hresult hg => run_eq _ s _ (goldenBody_writes hdone hresult hg)⟩
  case restore =>
    exact fun hreq hkind index hindex hmax hfailed =>
      ⟨run_eq _ s _ (restoreBody_engine hreq hkind hindex hmax hfailed true),
        run_eq _ s _ (restoreBody_engine hreq hkind hindex hmax hfailed false)⟩
  case writes => exact fun hreq => run_eq _ s _ (recordExportBody_begins hreq)
  case written => exact fun j hdone => run_eq _ s _ (recordExportBody_ends hdone)
  case undue =>
    intro k hk i h5 h6 h8
    obtain rfl | rfl | rfl := hk
    · rw [h5 rfl]
      exact ⟨fun hreq => run_eq _ s _ (loadSubstrateBody_undue (serviceDone_of_serviceReq hreq)),
        fun j hdone => run_eq _ s _ (loadSubstrateBody_judged (serviceReq_of_serviceDone hdone))⟩
    · rw [h6 rfl]
      exact ⟨fun hreq => run_eq _ s _ (goldenBody_undue (serviceDone_of_serviceReq hreq)),
        fun j hdone => run_eq _ s _ (goldenBody_judged (serviceReq_of_serviceDone hdone))⟩
    · rw [h8 rfl]
      exact ⟨fun hreq => run_eq _ s _ (recordExportBody_undue (serviceDone_of_serviceReq hreq)),
        fun j hdone => run_eq _ s _ (recordExportBody_judged (serviceReq_of_serviceDone hdone))⟩
  case record =>
    exact fun hreq => ⟨fun h bytes => run_eq _ s _ (recordImportBody_denied hreq h bytes), fun hn hmode bs =>
      ⟨fun hbad => run_eq _ s _ (recordImportBody_forged hreq hn hmode hbad),
        fun r hrecord => run_eq _ s _ (recordImportBody_applies hreq hn hmode hrecord)⟩⟩

end Sys2Proof.Machine
end

section
/-! PROOFS. Events of repair (O44): clones and mirror passes, self-tests, health, and the warden cores. -/

namespace Sys2Proof.Machine

open Sys2Proof

section
variable {d : Device}

/-! ### Migration: clone and mirror (R359, R360) -/

section
variable {row : Fin 8} {m : MigSt} {src dst : Fin 112} {image : Bool} (hmig : d.mig row.val = some m)
include hmig

theorem cloneDoneBody_waits (hstream : d.streamReading m = true) (left : List Nat) : cloneDoneBody row left image d = d := by
  unfold cloneDoneBody
  simp only [hmig]
  exact if_pos (.inr (.inr hstream))

theorem cloneDoneBody_copies (hsrc : src = d.migSource row.val) (hdst : dst = d.migTarget row.val) {left : List Nat}
    {g : GoldenResult} {c e : Device} (hphase : d.migPhase row.val = 1) (htest : d.testOf dst = none)
    (hstream : d.streamReading m = false)
    (hg : g = d.migrateStream row.val (d.rd .repair fRepairMigStateLogical row.val) m)
    (hc : c = d.setMig row.val (some { m with stream := false, golden := g.frames, goldenStatus := g.status }))
    (he : e = g.frames.foldl (fun (d : Device) (e : Nat × List DWord × DWord) =>
        d.writeFrame dst (frameAddrOf e.1).typ (frameAddrOf e.1).major (frameAddrOf e.1).minor e.2.1 e.2.2)
      (c.cloneRest src dst m.cloned ((c.dirtyRows src).filter fun i => left.contains i))) :
    cloneDoneBody row left image d = ((e.applySettings dst).put .repair fRepairMigStatePhase 2 row.val).passOver row.val image := by
  have hready : ¬ (d.migPhase row.val ≠ 1 ∨ (d.testOf dst).isSome ∨ d.streamReading m = true) := by simp [hphase, htest, hstream]
  subst he hc hg hdst hsrc
  unfold cloneDoneBody
  simp only [hmig, if_neg hready]

end

theorem mirrorPassEndBody_mirrors {row : Fin 8} {src dst : Fin 112} {left : List Nat} {image : Bool} {e : Device}
    (hsrc : src = d.migSource row.val) (hdst : dst = d.migTarget row.val) (hphase : d.migPhase row.val = 2)
    (he : e = ((d.dirtyRows src).filter fun i => !left.contains i).foldl (fun (d : Device) (i : Nat) => d.copyRow src dst i) d) :
    mirrorPassEndBody row left image d =
      (e.put .repair fRepairMigProgressPass (e.rd .repair fRepairMigProgressPass row.val + 1) row.val).passOver row.val image := by
  subst he hdst hsrc
  exact if_neg (not_not.mpr hphase)

/-! ### Self-tests (R354) -/

section
variable {pb : Fin 112}

theorem selfTestDueBody_starts (hmode : d.mode = mService ∨ d.mode = mDrowse) (hwarden : d.wardenDead = false)
    (hpool : d.steerCode pb.val = codePool) (hphase : d.migPhase (pb.val / 14) = 0) (hdue : d.testDue pb = true)
    (hpr : d.flag (.pbay pb) fPbayBayCfgStateInPr = false) (halone : (d.tests.all fun e => e.2.isNone) = true) :
    selfTestDueBody pb d = d.startTest pb .periodic :=
  if_pos ⟨hmode, hwarden, hpool, hphase, hdue, hpr, halone⟩

/-- A test with nothing found leaves the bay tested, good, and of age 0. -/
theorem testResult_clean {b e : Device} (hb : b = ((d.setTest pb none).clearBay pb).newEpoch (.pbay pb))
    (he : e = (((((b.put (.pbay pb) fPbayColSteerLExhausted 0).put (.pbay pb) fPbayColSteerMExhausted 0).raise (.pbay pb)
      fPbayHealthTested).put (.pbay pb) fPbayHealthTestFailed 0).put (.pbay pb) fPbayHealthTestAge 0)) :
    d.testResult pb true false [] [] =
      { e with testTick := sset (fun _ => 0) e.testTick pb.val (sget (fun _ => 0) e.healthTick pb.val) } := by
  subst he hb
  rfl

theorem selfTestDoneBody_arms {r : Nat} (htest : d.testOf pb = some (.prepare r)) {b e : Device}
    (hb : b = ((d.setTest pb none).clearBay pb).newEpoch (.pbay pb))
    (he : e = (((((b.put (.pbay pb) fPbayColSteerLExhausted 0).put (.pbay pb) fPbayColSteerMExhausted 0).raise (.pbay pb)
      fPbayHealthTested).put (.pbay pb) fPbayHealthTestFailed 0).put (.pbay pb) fPbayHealthTestAge 0)) :
    selfTestDoneBody pb true [] [] d =
      Device.migArm { e with testTick := sset (fun _ => 0) e.testTick pb.val (sget (fun _ => 0) e.healthTick pb.val) } r := by
  rw [← testResult_clean hb he]
  unfold selfTestDoneBody
  simp only [htest]
  rfl

/-! ### Health (R355, R357) -/

/-- The readings of a bay's sensors are stored and scored; the policy follows. -/
theorem healthUpdateBody_scores {drift : List Byte} (hon : d.fabricOn = true) (hbay : sget (fun _ => false) d.bayOff pb.val = false)
    {ds : List Nat} {b e : Device} (hds : ds = (List.range 16).map fun i => ((drift[i]?).getD 0).toNat)
    (hb : b = (List.range 4).foldl (fun (d : Device) (i : Nat) => d.put (.pbay pb) fPbayDrift
      (natLE (((List.range 4).map fun j => BitVec.ofNat 8 ((ds[4 * i + j]?).getD 0)))) i) d)
    (he : e = { b with healthTick := sset (fun _ => 0) b.healthTick pb.val (sget (fun _ => 0) b.healthTick pb.val + 1) })
    (huntested : e.flag (.pbay pb) fPbayHealthTested = false) {new : Nat} (hnew : new = e.score pb (ds.foldl max 0)) {f : Device}
    (hf : f = (e.put (.pbay pb) fPbayHealthWorst (worstOf ds)).put (.pbay pb) fPbayHealthScore new) :
    healthUpdateBody pb drift d =
      (if new < e.rd .repair fRepairPolicyMigrateAt ∧
          e.rd .repair fRepairPolicyMigrateAt ≤ e.rd (.pbay pb) fPbayHealthScore then
        f.raise .repair cRepairHealthLow else f).policyCheck pb := by
  have hruns : ¬ (d.fabricOn = false ∨ sget (fun _ => false) d.bayOff pb.val = true) := by simp [hon, hbay]
  subst hf hnew
  unfold healthUpdateBody
  simp only [if_neg hruns, ← hds, ← hb]
  rw [if_neg (Bool.eq_false_iff.mp (he ▸ huntested)), ← he]

end

/-- A row in which no policy asks for a migration has nothing to try again (R357). -/
theorem migrateRetryBody_rests {row : Fin 8}
    (hnone : ∀ k : Nat, k < 13 → sget (fun _ => false) d.policy (Fin.ofNat 104 (13 * row.val + k)).val = false) :
    migrateRetryBody row d = d := by
  unfold migrateRetryBody
  refine List.foldlRecOn (motive := (· = d)) _ _ rfl fun e he k hk => ?_
  subst he
  exact if_neg (Bool.eq_false_iff.mp (hnone k (List.mem_range.mp hk)))

/-! ### Warden cores (R356) -/

section
variable (hwarden : d.wardenDead = false)
include hwarden

theorem wardenResyncBody_records (c : Fin 3) : wardenResyncBody c d =
    ((d.put .repair fRepairWardenStatusDissent (2 ^ c.val)).raise .repair cRepairWardenResync).count .repair 2 :=
  if_neg (Bool.eq_false_iff.mp hwarden)

theorem wardenLostBody_fails {b e : Device} (hb : b = (d.put .repair fRepairWardenStatusDissent 7).raise .repair cRepairWardenLost)
    (he : e = { b with migs := b.migs.map fun (e : Nat × Option MigSt) => match e.2 with
      | some m => (e.1, some { m with mbx := none })
      | none => e }) :
    wardenLostBody d =
      ((List.range 4).foldl (fun (d : Device) (n : Nat) => d.respond n wsFailed []) e).signal (.faultHold 6) := by
  subst he hb
  exact if_neg (Bool.eq_false_iff.mp hwarden)

end
end

/-- Settles O44. -/
theorem repairEvents : Obligations.RepairEvents := by
  unfold Obligations.RepairEvents
  refine ⟨fun s row m image src dst hmig hsrc hdst => ⟨?clone, ?waits, ?mirror⟩, fun s pb => ⟨?due, ?done⟩,
    fun s pb drift hon hbay ds d e hds hd he huntested => ?health, fun s row hnone => run_eq _ s _ (migrateRetryBody_rests hnone),
    fun s hwarden => ⟨fun c => run_eq _ s _ (wardenResyncBody_records hwarden c),
      fun d e hd he => run_eq _ s _ (wardenLostBody_fails hwarden hd he)⟩⟩
  case clone =>
    exact fun left g c e hphase htest hstream hg hc he =>
      run_eq _ s _ (cloneDoneBody_copies hmig hsrc hdst hphase htest hstream hg hc he)
  case waits => exact fun left _ hstream => run_eq _ s _ (cloneDoneBody_waits hmig hstream left)
  case mirror => exact fun left d hphase hd => run_eq _ s _ (mirrorPassEndBody_mirrors hsrc hdst hphase hd)
  case due =>
    exact fun hmode hwarden hpool hphase hdue hpr halone =>
      run_eq _ s _ (selfTestDueBody_starts hmode hwarden hpool hphase hdue hpr halone)
  case done => exact fun r d e htest hd he => run_eq _ s _ (selfTestDoneBody_arms htest hd he)
  case health =>
    have hscored := healthUpdateBody_scores hon hbay hds hd he huntested rfl rfl
    exact ⟨fun hlow hwas => run_eq _ s _ (hscored.trans (congrArg (Device.policyCheck · pb) (if_pos ⟨hlow, hwas⟩))),
      fun hfine => run_eq _ s _ (hscored.trans (congrArg (Device.policyCheck · pb)
        (if_neg fun hlow => Nat.not_lt.mpr hfine hlow.1)))⟩

end Sys2Proof.Machine
end

section
/-! PROOFS. The host's windows, doorbells and the completions of requests to host memory (O45). -/

namespace Sys2Proof.Machine

open Sys2Proof

/-! ### Windows (R384, R395) and doorbells (R387), at a function that is ready -/

section
variable {d : Device} {fn : PcieFn} {owner : Nat} (howner : ownerCode fn = some owner) (hready : d.fnReady fn = true)
include howner hready

theorem windowReadBody_shut (hshut : d.hdmaShut = true) (off : BitVec 64) (len ht : Nat) :
    windowReadBody fn off len ht d = d.emit (.completion ht .abort []) := by
  simp only [windowReadBody, howner, hready, hshut, Bool.true_eq_false, if_false, if_true]

section
variable (hopen : d.hdmaShut = false) {off : BitVec 64}
include hopen

theorem windowReadBody_unmapped (hwin : d.hostWindow owner off.toNat = none) (len ht : Nat) :
    windowReadBody fn off len ht d = d.emit (.completion ht .unsupported []) := by
  simp only [windowReadBody, howner, hready, hopen, hwin, Bool.true_eq_false, Bool.false_eq_true, if_false]

theorem windowReadBody_begins {i : Nat} (hwin : d.hostWindow owner off.toNat = some i) (len ht : Nat) :
    windowReadBody fn off len ht d = d.windowBegin (some ht) owner i (d.windowAttr i)
      ((cutSpans 4097 (d.windowTarget i off.toNat) (min len 4096)).map fun x => pieceOf x.1 x.2 []) := by
  simp only [windowReadBody, howner, hready, hopen, hwin, Bool.true_eq_false, Bool.false_eq_true, if_false]

theorem windowWriteBody_unmapped (hwin : d.hostWindow owner off.toNat = none) (bytes : List Byte) (be : List Bool) :
    windowWriteBody fn off bytes be d = (d.raise .pcie cPcieWinMiss).count .pcie 0 := by
  simp only [windowWriteBody, howner, hready, hopen, hwin, Bool.true_eq_false, Bool.false_eq_true, or_self, if_false]

section
variable {i : Nat} (hwin : d.hostWindow owner off.toNat = some i) {bytes : List Byte} {be : List Bool} {cuts : List (Nat × List Byte)}
  (hcuts : cuts = (enabledRuns 0 ((bytes.zip be).take 4096)).flatMap fun r => cutWrites 4097 (d.windowTarget i off.toNat + r.1) r.2)
include hwin hcuts

theorem windowWriteBody_nonPosted (hnp : d.eff .pcie fPcieWinCtrlNp i = 1) : windowWriteBody fn off bytes be d =
    d.windowBegin none owner i (d.windowAttr i) (cuts.map fun x => pieceOf x.1 x.2.length x.2) := by
  subst hcuts
  simp only [windowWriteBody, howner, hready, hopen, hwin, hnp, Bool.true_eq_false, Bool.false_eq_true, or_self, if_false, if_true]

theorem windowWriteBody_posted (hnp : d.eff .pcie fPcieWinCtrlNp i ≠ 1) : windowWriteBody fn off bytes be d =
    cuts.foldl (fun (d' : Device) (x : Nat × List Byte) =>
      d'.hostPosted iniWindow (d'.hostPacket 2 0x10 x.1 x.2.length (d.windowAttr i) x.2)) d := by
  subst hcuts
  simp only [windowWriteBody, howner, hready, hopen, hwin, if_neg hnp, Bool.true_eq_false, Bool.false_eq_true, or_self, if_false]

end
end

section
variable {n : Fin 64}

theorem doorbellBody_foreign (hother : d.eff .pcie fPcieDbCtrlOwner n.val ≠ owner) (off : BitVec 12) (size : Nat) (w : Word) :
    doorbellBody fn n off size w d = d.ownerViolation := by
  simp only [doorbellBody, howner, hready, if_pos hother, Bool.true_eq_false, if_false]

theorem doorbellBody_rings (hown : d.eff .pcie fPcieDbCtrlOwner n.val = owner) (hopen : d.hdmaShut = false)
    (hvalid : d.eff .pcie fPcieDbCtrlValid n.val ≠ 0) (w : Word) : doorbellBody fn n 0 4 w d = d.hostPosted iniWindow
      (d.hostPacket 2 0x11 (d.eff .pcie fPcieDbLoTarget n.val * 8 + d.eff .pcie fPcieDbHiTarget n.val * 2 ^ 32) 8 0
        (doorbellBytes w owner n.val)) := by
  have hform : ¬ ((0 : BitVec 12) ≠ 0 ∨ (4 : Nat) ≠ 4 ∨ d.hdmaShut = true) := by simp [hopen]
  have hready' : ¬ d.fnReady fn = false := by simp [hready]
  unfold doorbellBody
  simp only [howner, if_neg hready', if_neg (not_not_intro hown), if_neg hform, if_neg hvalid]

end
end

/-! ### Completions and timeouts of the device's own requests (R311, R389) -/

section
variable {d : Device} {ht : Nat} {r : HostReq}

section
variable {st : CplStatus} {bytes : List Byte} (hfit : st = .ok → bytes.length = r.len)
include hfit

/-- A successful completion fits its request where it brings as many bytes as were asked for. -/
theorem completion_not_refused : ¬ (st = .ok ∧ bytes.length ≠ r.len) := fun ⟨hok, hlen⟩ => hlen (hfit hok)

variable (hreq : sget (fun _ => (none : Option HostReq)) d.hostReqs ht = some r)
include hreq

theorem hostCompletionBody_fabric {e : Edge} {p : Packet} (huse : r.use = .fabric e p) :
    hostCompletionBody ht st bytes d = ((d.setHostReq ht none).fabricAnswer p (statusOf st) bytes).hostPump := by
  simp only [hostCompletionBody, hreq, if_neg (completion_not_refused hfit), huse]

theorem hostCompletionBody_descriptor {c idx : Nat} (huse : r.use = .descriptor c idx) :
    hostCompletionBody ht st bytes d = ((d.setHostReq ht none).descFetched c idx st bytes).hostPump := by
  simp only [hostCompletionBody, hreq, if_neg (completion_not_refused hfit), huse]

theorem hostCompletionBody_dmaData {c idx off : Nat} (huse : r.use = .dmaData c idx off) :
    hostCompletionBody ht st bytes d = ((d.setHostReq ht none).dataFetched c idx off st bytes).hostPump := by
  simp only [hostCompletionBody, hreq, if_neg (completion_not_refused hfit), huse]

end

section
variable (hreq : sget (fun _ => (none : Option HostReq)) d.hostReqs ht = some r)
include hreq

theorem pcieCompletionTimeoutBody_fabric {e : Edge} {p : Packet} (huse : r.use = .fabric e p) :
    pcieCompletionTimeoutBody ht d = ((d.setHostReq ht none).fabricAnswer p stSlave []).hostPump := by
  simp only [pcieCompletionTimeoutBody, hreq, huse]

theorem pcieCompletionTimeoutBody_descriptor {c idx : Nat} (huse : r.use = .descriptor c idx) :
    pcieCompletionTimeoutBody ht d = ((d.setHostReq ht none).descFetched c idx .abort []).hostPump := by
  simp only [pcieCompletionTimeoutBody, hreq, huse]

theorem pcieCompletionTimeoutBody_dmaData {c idx off : Nat} (huse : r.use = .dmaData c idx off) :
    pcieCompletionTimeoutBody ht d = ((d.setHostReq ht none).dataFetched c idx off .abort []).hostPump := by
  simp only [pcieCompletionTimeoutBody, hreq, huse]

end
end

/-- Settles O45: windows and doorbells by their map and owner, completions and timeouts by the use of their request. -/
theorem hostWindowsAndDoorbells : Obligations.HostWindowsAndDoorbells := by
  refine ⟨fun s fn owner howner => ⟨fun off len ht hready hopen => ⟨fun hwin => ?_, fun i hwin => ?_⟩,
    fun off len ht hready hshut => ?_, fun off bytes be hready hopen => ⟨fun hwin => ?_, fun i cuts hwin hcuts => ⟨fun hnp => ?_, fun hnp => ?_⟩⟩,
    fun n w hready => ⟨fun hother off size => ?_, fun hown hopen hvalid target htarget => ?_⟩⟩,
    fun s ht r st bytes d hreq hd => ?_⟩
  · exact run_eq _ s _ (windowReadBody_unmapped howner hready hopen hwin len ht)
  · exact run_eq _ s _ (windowReadBody_begins howner hready hopen hwin len ht)
  · exact run_eq _ s _ (windowReadBody_shut howner hready hshut off len ht)
  · exact run_eq _ s _ (windowWriteBody_unmapped howner hready hopen hwin bytes be)
  · exact run_eq _ s _ (windowWriteBody_nonPosted howner hready hopen hwin hcuts hnp)
  · exact run_eq _ s _ (windowWriteBody_posted howner hready hopen hwin hcuts hnp)
  · exact run_eq _ s _ (doorbellBody_foreign howner hready hother off size w)
  · subst htarget
    exact run_eq _ s _ (doorbellBody_rings howner hready hown hopen hvalid w)
  · subst hd
    refine ⟨fun e p huse => ⟨fun hfit => ?_, ?_⟩, fun c idx huse => ⟨fun hfit => ?_, ?_⟩, fun c idx off huse => ⟨fun hfit => ?_, ?_⟩⟩
    · exact run_eq _ s _ (hostCompletionBody_fabric hfit hreq huse)
    · exact run_eq _ s _ (pcieCompletionTimeoutBody_fabric hreq huse)
    · exact run_eq _ s _ (hostCompletionBody_descriptor hfit hreq huse)
    · exact run_eq _ s _ (pcieCompletionTimeoutBody_descriptor hreq huse)
    · exact run_eq _ s _ (hostCompletionBody_dmaData hfit hreq huse)
    · exact run_eq _ s _ (pcieCompletionTimeoutBody_dmaData hreq huse)

end Sys2Proof.Machine
end

section
/-! PROOFS. Resets short of PERST_N, the host link, configuration accesses and DMA channels (O46). -/

namespace Sys2Proof.Machine

open Sys2Proof

/-! ### The link and the resets short of PERST_N (R378, R397) -/

section
variable {d : Device}

theorem hotResetBody_hot (hmode : d.mode ≠ mDormant) : hotResetBody false d = d.hotReset :=
  (if_neg hmode).trans (if_neg Bool.false_ne_true)

theorem hotResetBody_linkDown (hmode : d.mode ≠ mDormant) : hotResetBody true d = d.linkDown :=
  (if_neg hmode).trans (if_pos rfl)

theorem pcieLinkUpBody_shows {rate : BitVec 3} {width : BitVec 5} {flit : Bool} {e : Device} (hmode : d.mode ≠ mDormant)
    (hrate : 1 ≤ rate.toNat) (hrate' : rate.toNat ≤ 6) (hwidth : width.toNat ∈ [1, 2, 4, 8, 16]) (hflit : rate.toNat = 6 → flit = true)
    (he : e = ((d.put .pcie fPcieLinkStatusRate rate.toNat).put .pcie fPcieLinkStatusWidth width.toNat).put .pcie
      fPcieLinkStatusFlit flit.toNat) :
    pcieLinkUpBody rate width flit d =
      (if width.toNat < 16 ∨ rate.toNat < 6 then e.raise .pcie cPcieLinkDegraded else e).linkAwake := by
  have htrains : ¬ (rate.toNat = 0 ∨ 6 < rate.toNat ∨ ¬ [1, 2, 4, 8, 16].contains width.toNat ∨
      (rate.toNat = 6 ∧ flit = false) ∨ d.mode = mDormant) := by
    rintro (h | h | h | ⟨h, hoff⟩ | h)
    · omega
    · omega
    · exact h (List.contains_iff_mem.mpr hwidth)
    · exact Bool.false_ne_true (hoff.symm.trans (hflit h))
    · exact hmode h
  subst he
  unfold pcieLinkUpBody
  exact if_neg htrains

theorem flrPf0Body_ready (hready : d.fnReady .pf0 = true) :
    flrPf0Body d = ((d.clearFn 0).hostLoadEnds).raise .pcie cPcieFlrDone :=
  if_neg (by simp [hready])

theorem flrPf1Body_ready (hready : d.fnReady .pf1 = true) : flrPf1Body d =
    (((((d.clearFn 1).clearVfs).endChannels fun _ => true).dropWindows fun _ => true).raise .pcie cPcieFlrDone).emit (.frs .pf1) :=
  if_neg (by simp [hready])

theorem flrVfBody_ready {v : Fin 32} (hready : d.fnReady (.vf v) = true) : flrVfBody v d =
    ((((d.clearFn (2 + v.val)).endChannels fun o => o == v.val + 1).dropWindows fun o => o == v.val + 1).raise .pcie
      cPcieFlrDone).emit (.frs (.vf v)) :=
  if_neg (by simp [hready])

/-! ### Configuration accesses (R377) -/

theorem pcieConfigRequestBody_pf0Read (hready : d.fnReady .pf0 = true) (r : CfgReg) :
    pcieConfigRequestBody .pf0 (.read r) d = d.emit (.configReply .pf0 (some (d.pciRead .pf0 r))) := by
  simp only [pcieConfigRequestBody, hready, Bool.true_eq_false, if_false]

theorem pcieConfigRequestBody_pf0Write (hready : d.fnReady .pf0 = true) (r : CfgReg) (w : Word) :
    pcieConfigRequestBody .pf0 (.write r w) d = ((d.pciWrite .pf0 r w).emit (.configReply .pf0 (some 0))).hostPump := by
  simp only [pcieConfigRequestBody, hready, Bool.true_eq_false, if_false]

/-- PF1 answers for itself and for every VF. -/
theorem pcieConfigRequestBody_notReady (hdown : d.fnReady .pf1 = false) (fn : PcieFn) (q : CfgRequest) (hfn : fn ≠ .pf0) :
    pcieConfigRequestBody fn q d = d.emit (.configReply fn none) := by
  cases fn with
  | pf0 => exact absurd rfl hfn
  | pf1 => exact if_pos hdown
  | vf v => exact if_pos hdown

end

/-! ### Writes of a channel's registers (R392, R394) -/

section
variable {d : Device}

/-- Channel `c` holds the eight registers at 0x100 + 0x20 × c. -/
theorem hdmaWrite_channel (d : Device) (c : Fin 64) {r : Nat} (hr : r < 0x20) (w : Word) :
    d.hdmaWrite (0x100 + 0x20 * c.val + r) w = d.channelWrite c.val r w false := by
  have hc := c.isLt
  have hshutter : 0x100 + 0x20 * c.val + r ≠ fHdmaShutterState.off := by
    have : fHdmaShutterState.off < 0x100 := by decide
    omega
  have hrange : 0x100 ≤ 0x100 + 0x20 * c.val + r ∧ 0x100 + 0x20 * c.val + r < 0x900 := by omega
  have hchan : (0x100 + 0x20 * c.val + r - 0x100) / 0x20 = c.val := by omega
  have hreg : (0x100 + 0x20 * c.val + r - 0x100) % 0x20 = r := by omega
  unfold Device.hdmaWrite
  rw [if_neg hshutter, if_pos hrange, hchan, hreg]

/-- A write of register `r` of channel `c` by a requester that the HDMA page takes writes from. -/
theorem channel_takes {rq : Requester} (h : d.takes rq .hdma .hdma) (c : Fin 64) {r : Nat} (hr : r < 0x20) (w : Word) :
    regWriteBody rq (pageBase .hdma + (0x100 + 0x20 * c.val + r)) w d = d.channelWrite c.val r w false := by
  have hc := c.isLt
  rw [takes_write h (0x100 + 0x20 * c.val + r) w (by omega) (by omega)]
  exact hdmaWrite_channel d c hr w

theorem channelWrite_tail (d : Device) (c : Nat) (w : Word) : d.channelWrite c 0x0C w false =
    (d.fieldsWrite .hdma (0x10C + 0x20 * c) w fun _ => false).chanPump c := by
  have hoff : 0x100 + 0x20 * c + 0x0C = 0x10C + 0x20 * c := by omega
  unfold Device.channelWrite
  rw [hoff]
  exact (if_neg (by decide)).trans (if_pos rfl)

theorem channelWrite_ctrl (d : Device) (c : Nat) (w : Word) : d.channelWrite c 0x1C w false = d.chanCtrl c w := by
  unfold Device.channelWrite
  rw [if_neg (by decide), if_neg (by decide), if_neg (by decide), if_pos rfl]

theorem chanCtrl_start (d : Device) (c : Nat) : d.chanCtrl c 1 = d.chanStart c := rfl

theorem chanCtrl_stop (d : Device) (c : Nat) : d.chanCtrl c 2 = d.chanStop c := rfl

theorem chanCtrl_abort (d : Device) (c : Nat) : d.chanCtrl c 4 = d.chanAbort c := rfl

/-- A write of TAIL of channel `c`. -/
theorem dmaTail_takes {rq : Requester} (h : d.takes rq .hdma .hdma) (c : Fin 64) (w : Word) :
    regWriteBody rq (pageBase .hdma + 0x10C + 0x20 * c.val) w d =
      (d.fieldsWrite .hdma (0x10C + 0x20 * c.val) w fun _ => false).chanPump c.val := by
  rw [show pageBase .hdma + 0x10C + 0x20 * c.val = pageBase .hdma + (0x100 + 0x20 * c.val + 0x0C) by omega,
    channel_takes h c (by decide), channelWrite_tail]

/-- A write of CH_CTRL of channel `c`. -/
theorem chCtrl_takes {rq : Requester} (h : d.takes rq .hdma .hdma) (c : Fin 64) (w : Word) :
    regWriteBody rq (pageBase .hdma + 0x11C + 0x20 * c.val) w d = d.chanCtrl c.val w := by
  rw [show pageBase .hdma + 0x11C + 0x20 * c.val = pageBase .hdma + (0x100 + 0x20 * c.val + 0x1C) by omega,
    channel_takes h c (by decide), channelWrite_ctrl]

end

/-! ### The oldest descriptor is over (R392, R393) -/

theorem ringSize_emit (d : Device) (o : Out) (c : Nat) : (d.emit o).ringSize c = d.ringSize c := rfl

section
variable {d d1 d2 : Device} {c : Fin 64} {x : Descriptor} {rest : List Descriptor} {fn : PcieFn} {bs : List Byte}
  (hdescs : (d.chan c.val).descs = x :: rest) (hfn : d.chanFn c.val = some fn) (hrun : d.chState c.val = chRunning)
  (hover : x.over = true) (hbytes : x.bytes = some bs)
  (h1 : d1 = (d.emit (.hostWrite fn (d.ringAddr c.val x.idx + 24) (bytesLE 8 (2 ^ 31 + x.code * 2 ^ 24 + dUser bs)))).put .hdma
    fHdmaHead ((x.idx + 1) % d.ringSize c.val) c.val)
  (h2 : d2 = if dIrq bs then d1.chanVector c.val else d1)
include hdescs hfn hrun hover hbytes h1 h2

theorem descriptorDoneBody_ok (hcode : x.code = 0) : descriptorDoneBody c d =
    ((d2.count .hdma 0).setChan c.val { d2.chan c.val with descs := rest }).chanPump c.val := by
  have hdue : ¬ (d.chState c.val ≠ chRunning ∨ x.over = false) := by simp [hrun, hover]
  subst h2 h1
  unfold descriptorDoneBody
  simp only [hdescs, hfn, if_neg hdue, hbytes, ringSize_emit, if_pos hcode]

theorem descriptorDoneBody_error (hcode : x.code ≠ 0) : descriptorDoneBody c d =
    ((((d2.count .hdma 1).raise .hdma cHdmaChError).pushError x.code c.val x.idx).chanDrop c.val).setChState c.val chError := by
  have hdue : ¬ (d.chState c.val ≠ chRunning ∨ x.over = false) := by simp [hrun, hover]
  subst h2 h1
  unfold descriptorDoneBody
  simp only [hdescs, hfn, if_neg hdue, hbytes, ringSize_emit, if_neg hcode]

end

/-- Settles O46: resets and configuration accesses by the function that is ready, channel writes by the register, and the end of a
descriptor by its code. -/
theorem hostResetsAndChannels : Obligations.HostResetsAndChannels := by
  refine ⟨fun s hmode => ⟨?_, ?_, fun rate width flit d hrate hrate' hwidth hflit hd => ?_⟩,
    fun s hready => ⟨?_, fun r => ?_, fun r w => ?_⟩, fun s hdown fn q hfn => ?_, fun s d hready hd => ?_, fun s v d hready hd => ?_,
    fun s rq c h => ⟨fun w => ?_, ?_, ?_, ?_⟩,
    fun s c x rest fn bs hdescs hfn hrun hover hbytes d1 d2 h1 h2 => ⟨fun hcode => ?_, fun hcode => ?_⟩⟩
  · exact run_eq _ s _ (hotResetBody_hot hmode)
  · exact run_eq _ s _ (hotResetBody_linkDown hmode)
  · exact run_eq _ s _ (pcieLinkUpBody_shows hmode hrate hrate' hwidth hflit hd)
  · exact run_eq _ s _ (flrPf0Body_ready hready)
  · exact run_eq _ s _ (pcieConfigRequestBody_pf0Read hready r)
  · exact run_eq _ s _ (pcieConfigRequestBody_pf0Write hready r w)
  · exact run_eq _ s _ (pcieConfigRequestBody_notReady hdown fn q hfn)
  · subst hd
    exact run_eq _ s _ (flrPf1Body_ready hready)
  · subst hd
    exact run_eq _ s _ (flrVfBody_ready hready)
  · exact run_eq _ s _ (dmaTail_takes h c w)
  · exact run_eq _ s _ ((chCtrl_takes h c 1).trans (chanCtrl_start _ _))
  · exact run_eq _ s _ ((chCtrl_takes h c 2).trans (chanCtrl_stop _ _))
  · exact run_eq _ s _ ((chCtrl_takes h c 4).trans (chanCtrl_abort _ _))
  · exact run_eq _ s _ (descriptorDoneBody_ok hdescs hfn hrun hover hbytes h1 h2 hcode)
  · exact run_eq _ s _ (descriptorDoneBody_error hdescs hfn hrun hover hbytes h1 h2 hcode)

end Sys2Proof.Machine
end
